-- ==== Sys2Proof/Word.lean ====
section
/-!
DEFINITION. The words, unit indices and operand records of the IAP1 panel's commands.
Unit ranges are those of the index table of 00_scope.md (R9, R482).
-/
namespace Sys2Proof

/-- One byte of any store. -/
abbrev Byte := BitVec 8

/-- One register word (R11). -/
abbrev W64 := BitVec 64

/-- The 512 bytes of a vector register (R59). -/
abbrev VReg := BitVec 4096

/-- Site index `sy * 12 + sx` (R9). -/
abbrev Site := Fin 144

/-- Edge die index (R16). -/
abbrev Edge := Fin 16

/-- Global core ID, site index times 64 plus core index (R9). -/
abbrev Gid := Fin 9216

/-- HBM stack index (R9). -/
abbrev Stack := Fin 32

/-- Optical port index, engine times 8 plus port (R9). -/
abbrev Port := Fin 128

/-- Lockstep domain: a site, or 144 plus an edge die (R260, R302). -/
abbrev Dom := Fin 160

/-- Partition number (R510). -/
abbrev Part := Fin 4

/-- The site of a core. -/
def siteOf (g : Gid) : Site := ⟨g.val / 64, by omega⟩

/-- The core's index in its site. -/
def coreIn (g : Gid) : Fin 64 := ⟨g.val % 64, by omega⟩

/-- The lockstep domain of a site. -/
def domOfSite (k : Site) : Dom := ⟨k.val, by omega⟩

/-- The lockstep domain of an edge die. -/
def domOfEdge (e : Edge) : Dom := ⟨144 + e.val, by omega⟩

/-- The edge die of an optical port (R16). -/
def edgeOf (p : Port) : Edge := ⟨p.val / 8, by omega⟩

/-- The edge die of an HBM stack (R16). -/
def edgeOfStack (k : Stack) : Edge := ⟨k.val / 2, by omega⟩

/-- Who makes an access (R513, R541): a host function (0 is the physical function, `p + 1` the TDI
of partition `p`) on a host port, an SPDM session on a port (0 and 1 the management ports, 2 and 3 DOE
of the host ports, 4 the fabric; R508, R535), a steward, a site's SCP, or an edge-die engine. -/
inductive Requester where
  | host (port : Fin 2) (fn : Fin 5)
  | mgmt (port : Fin 5) (session : Fin 8)
  | steward
  | scp (site : Site)
  | edge (die : Edge)
deriving DecidableEq, Repr

/-- The header of a bundle slot: the negation bit and the predicate selector (R67). -/
structure Hdr where
  pneg : Bool
  pred : Fin 8
deriving DecidableEq, Repr

/-- The fields of a TU slot below its header (R70). -/
structure TuF where
  hdr : Hdr
  desc : Fin 64
  aoff : BitVec 12
  boff : BitVec 12
  coff : BitVec 11
  flags : BitVec 5
deriving DecidableEq, Repr

/-- The fields of a VU slot below its header (R71). -/
structure VuF where
  hdr : Hdr
  fmt : Fin 4
  vd : Fin 32
  va : Fin 32
  vb : Fin 32
  vc : Fin 32
  sb : Bool
  as : Fin 32
  mod : BitVec 8
  imm : BitVec 16
deriving DecidableEq, Repr

/-- The fields of an XU slot below its header (R75). -/
structure XuF where
  hdr : Hdr
  ra : Fin 32
  rb : Fin 32
  mode : Fin 8
  rc : Fin 32
  words : Fin 128
  postinc : Bool
  imm : BitVec 28
deriving DecidableEq, Repr

/-- The fields of an MX slot below its header (R78). -/
structure MxF where
  hdr : Hdr
  rd : Fin 32
  ra : Fin 32
  rb : Fin 32
  imm : BitVec 15
deriving DecidableEq, Repr

/-- What a thaw wakes: one core, or a site's compute die (R294). -/
inductive ThawTarget where
  | core (g : Gid)
  | site (k : Site)
deriving DecidableEq, Repr

/-- An error the decoder finds in a bank row (R186, R197): bank, row, codeword, syndrome, whether it is uncorrectable. -/
structure BankErr where
  bank : Nat
  row : Nat
  cw : Nat
  syn : BitVec 8
  ue : Bool
deriving DecidableEq, Repr

/-- What a read of HBM finds in a line (R305): the line, counted from the first line read, what the error is (0 none, 1 corrected by the
controller, 2 uncorrectable, 3 corrected and reported by the stack), and the corrected symbol. -/
structure LineErr where
  line : Nat
  err : Fin 4
  sym : Fin 64
deriving DecidableEq, Repr

/-- The control crossings of R293. -/
inductive Crossing where
  | attention
  | thermalAlarm
  | timeMark
deriving DecidableEq, Repr

/-- The header and payload of an on-panel dynamic packet (R225). `crcOk` is whether its CRC and
parity hold where it is checked. -/
structure DynPkt where
  kind : BitVec 4
  dstUnit : BitVec 4
  dstSite : Nat
  srcUnit : BitVec 4
  srcSite : Nat
  part : Fin 4
  tag : BitVec 16
  addr : BitVec 48
  stream : BitVec 20
  via : BitVec 8
  leg : Bool
  crcOk : Bool
  payload : List Byte
deriving DecidableEq, Repr

/-- One flit of a dynamic packet: its index and whether it is the last (R225). -/
structure Flit where
  pkt : DynPkt
  idx : Nat
deriving DecidableEq, Repr

/-- The payload of a STREAM_ISSUE packet, its issuing site and partition (R323). -/
structure IssuePkt where
  index : BitVec 20
  ofsS : BitVec 64
  ofsD : BitVec 64
  deadline : Option Nat
  row : Fin 256
  site : Site
  part : Part
deriving DecidableEq, Repr

/-- A panel-to-panel packet: the header fields of R369 and the payload. `crcOk` is whether its CRC
holds where it is checked. -/
structure PanelPkt where
  dst : BitVec 10
  src : BitVec 10
  via : BitVec 10
  leg : Bool
  tepoch : Bool
  dkind : BitVec 2
  part : Fin 4
  dedge : Edge
  dl : Bool
  hops : Nat
  epoch : BitVec 32
  tag : BitVec 16
  crcOk : Bool
  payload : List Byte
deriving DecidableEq, Repr

/-- A control frame's identity record (R378). -/
structure Identity where
  serial : BitVec 128
  panel : BitVec 10
  port : Fin 128
  variant : BitVec 2
  role : Bool
  fprGen : BitVec 32
deriving DecidableEq, Repr

/-- The timing record of a control frame (R378), in units of 0.25 ns: STAMP, ECHO and TURN. -/
structure Timing where
  stamp : Nat
  echo : Nat
  turn : Nat
deriving DecidableEq, Repr

/-- What a payload is encrypted under on a link (R365): the key epoch, the frame's KIND and its count. A ciphertext is held as its plaintext with
this IV. -/
structure LinkIv where
  epoch : Nat
  kind : Nat
  count : Nat
deriving DecidableEq, Repr

/-- What a tag covers of one slot (R366): the header, and of a scheduled frame its ciphertext. -/
structure Cover where
  header : BitVec 128
  data : Option (LinkIv × List (BitVec 2048))
deriving DecidableEq, Repr

/-- A tag record (R366): record number, slots covered, and the tag, held as the key epoch and the data that it is computed from. -/
structure TagRec where
  number : Nat
  covered : Nat
  epoch : Nat
  cover : List Cover
deriving DecidableEq, Repr

/-- The body of an optical frame (R352, R353). -/
inductive FrameBody where
  | idle
  | scheduled (epoch : BitVec 32) (iv : LinkIv) (chunks : List (BitVec 2048))
  | dynamic (vc : Fin 4) (tag : TagRec) (iv : LinkIv) (stream : List Byte)
  | control (id : Identity) (time : Timing)
deriving DecidableEq, Repr

/-- An optical frame: the header fields of R352 that its body does not give, and the body. `due` is NSLOT + 1,024 NCAL, and `nak` names its slot
likewise. -/
structure Frame where
  resend : Bool
  seq : BitVec 16
  due : Nat
  credit : BitVec 16
  dcvc : Fin 4
  dcredit : BitVec 6
  nak : Option (Nat × Bool)
  hcrc : BitVec 8
  body : FrameBody
deriving DecidableEq, Repr

/-- The values a rail's minimum-voltage record takes at a sample (R429). -/
structure RailSample where
  volts : Nat
  amps : Nat
deriving DecidableEq, Repr

/-- A section of a configuration image: its section-table entry (R453), reserved bytes as one number, and its body. -/
structure CfgSection where
  typ : Nat
  offset : Nat
  length : Nat
  reserved : Nat
  digest : BitVec 384
  body : List Byte
deriving DecidableEq, Repr, Inhabited

/-- A configuration image (R452, R453): the header's fields, the section table with the bodies, and whether both signatures verify. -/
structure CfgImage where
  magic : Nat
  format : Nat
  count : Nat
  secVersion : BitVec 32
  buildSeq : BitVec 32
  variants : BitVec 8
  flags : BitVec 8
  reserved : Nat
  length : Nat
  sections : List CfgSection
  signaturesOk : Bool
deriving DecidableEq, Repr, Inhabited

/-- FLAGS.ADVANCE of a configuration image (R452). -/
def CfgImage.advance (im : CfgImage) : Bool := im.flags.getLsbD 0

/-- A unit that bring-up tests, in the terms of R462. -/
inductive BringUnit where
  | panel
  | site (k : Site)
  | core (g : Gid)
  | link (k : Site) (bit : Fin 10)
  | edge (e : Edge)
  | stack (k : Stack)
  | engine (e : Edge)
  | port (p : Port)
deriving DecidableEq, Repr

/-- The outcome of a bring-up step for a unit (R462): passed, failed a test, or a strap with the value it reads (R22). For a site,
`shared` is a bond in the shared group (the site goes dark) and `fail` makes a hole. -/
inductive BringResult where
  | pass
  | fail
  | strap (v : Fin 4)
  | shared
deriving DecidableEq, Repr

/-- A unit of R482 as a fence or a record names it. -/
structure UnitRef where
  kind : Fin 16
  index : Nat
deriving DecidableEq, Repr

/-- One boundary-table row (R281). -/
structure BndRow where
  length : Nat
  phaseId : Nat
  last : Bool
deriving DecidableEq, Repr

/-- One power-table record (R438). -/
structure PwrRow where
  row : Nat
  variant : Fin 4
  oppt : Fin 4
  present : Bool
  siteW : List (Nat × Nat)
  edgeW : List (Nat × Nat)
deriving DecidableEq, Repr

/-- One link-map entry of a schedule image (R380). -/
structure LinkMapEntry where
  port : Port
  serial : BitVec 128
  panel : BitVec 10
  partnerPort : Fin 128
  trunk : Fin 7
  maxF : Nat
  allow : Nat
deriving DecidableEq, Repr

/-- An entry of a schedule image's section table (R468), reserved bytes as one number. -/
structure SchedSection where
  typ : Nat
  unit : Nat
  reserved : Nat
  offset : Nat
  length : Nat
deriving DecidableEq, Repr, Inhabited

/-- A schedule image as the loader reads it (R468). The header fields are those of the table; the sections are given as what they carry, since
the manual leaves the formats of their bodies open (log entry 6). Rows are keyed by unit (site, edge die, port or global core ID) and by row,
address or register. SCs are relative to the start SC (R471). -/
structure SchedImage where
  magic : Nat
  format : Nat
  flags : Nat
  reserved : Nat
  length : Nat
  count : Nat
  table : List SchedSection
  bodiesOk : Bool
  signaturesOk : Bool
  partition : Nat
  pmode : Nat
  fprGen : Nat
  fprDigest : Nat
  digest : BitVec 384
  canonDigest : BitVec 384
  loadman : BitVec 384
  corridor : BitVec 384
  seed : Nat
  entries : List (Nat × Nat × Nat)
  seeds : List (Nat × Nat)
  aregs : List (Nat × Nat × Nat)
  preds : List (Nat × Nat)
  descs : List (Nat × Nat × Nat)
  coreBytes : List (Nat × Nat × Byte)
  basin : List (Nat × Nat × Byte)
  regions : List (Nat × Nat × Nat)
  readRegions : List (Nat × Nat)
  reads187 : Bool
  hop : List (Nat × Nat × Nat)
  configs : List (Nat × Nat × Nat)
  bpd : List (Nat × Nat × Nat)
  phases : List (Nat × Nat × Nat)
  cascade : List (Nat × Nat × Nat)
  issue : List (Nat × Nat × Nat)
  boundary : List BndRow
  loop : Nat
  streams : List (Nat × Nat)
  bandMap : Option Nat
  edgeHop : List (Nat × Nat × Nat)
  edgeCfg : List (Nat × Nat × Nat)
  edgePhase : List (Nat × Nat × Nat)
  slotMaps : List (Nat × Nat × Nat)
  epochs : List (Nat × Nat)
  linkMap : List LinkMapEntry
  power : List PwrRow
  usedLinks : List Nat
  usedStacks : List Nat
  siteWakes : List Nat
deriving DecidableEq, Repr, Inhabited

/-- FLAGS.CANONICAL of a schedule image (R468). -/
def SchedImage.canonical (im : SchedImage) : Bool := im.flags % 2 == 1

/-- One placement of a load manifest (R396), with the length and digest of its shard from the set manifest (R392). -/
structure Placement where
  set : Nat
  dest : Nat
  frozen : Bool
  shared : Bool
  clean : Bool
  home : Nat
  index : Nat
  addr : Nat
  key : Nat
  known : Bool
  bytes : Nat
  digest : BitVec 384
deriving DecidableEq, Repr

/-- One set-table entry of a load manifest (R395). -/
structure SetEntry where
  setId : Nat
  digest : Nat
  moff : Nat
  up : Nat
  down : Nat
deriving DecidableEq, Repr

/-- An erasure group record (R412): K, position, unit size, members, group table; each slice's edge die, bank A, bank B and staging area. -/
structure GroupRec where
  id : Nat
  k : Nat
  pos : Nat
  unit : Nat
  members : List Nat
  table : Nat
  slices : List (Nat × Nat × Nat × Nat)
  clean : Bool
deriving DecidableEq, Repr

/-- A load manifest (R394). -/
structure Manifest where
  partition : Nat
  pmode : Nat
  fprGen : Nat
  panel : Nat
  fprDigest : Nat
  digest : BitVec 384
  sets : List SetEntry
  placements : List Placement
  ringPos : Nat
  ringLen : Nat
  ringPrev : Nat
  ringNext : Nat
  group : Option GroupRec
deriving DecidableEq, Repr

/-- What verification of the manifests' signatures finds (R393): whether both of the load manifest verify, and for each set entry whether both of
its set manifest do. -/
structure Verdict where
  sig : Bool
  sets : List Bool
deriving DecidableEq, Repr

/-- Units of one stripe of one slice of an erasure group, by member position (R413 to R416). -/
structure Stripe where
  slice : Nat
  stripe : Nat
  units : List (Nat × List Byte)
deriving DecidableEq, Repr

/-- A SPDM message as the responder handles it (R508, R512); `pmuGrant` is the owner session's setting of PMU_GRANT. -/
inductive SpdmMsg where
  | getCertificate (slot : Fin 2)
  | challenge
  | getMeasurement (index : Nat)
  | keyExchange (mutualAuth : Bool) (leafDigest : BitVec 384) (ownerRooted : Bool)
  | endSession
  | pmuGrant (on : Bool)
deriving DecidableEq, Repr

/-- A PTP message as the servo sees it (R543): a measured offset with the UTC offset of its master. -/
structure PtpMsg where
  seconds : BitVec 48
  nanos : Nat
  offsetNs : Int
  stableMs : Nat
  utc : Option (BitVec 16)
deriving DecidableEq, Repr

/-- A key-store change that an owner-root token carries (R505). -/
inductive KeyChange where
  | add (id : BitVec 128) (role : Fin 5)
  | remove (id : BitVec 128)
deriving DecidableEq, Repr

/-- A lifecycle or key-store token as the verifier sees it (R502, R503, R505): whether it names the panel's serial, the states it names, which
hybrid signatures verify, the owner root that a PROVISIONED token installs, the key-store changes it carries. -/
structure Token where
  serialOk : Bool
  state : Fin 4
  target : Fin 4
  manufacturingSig : Bool
  ownerSig : Bool
  ownerRoot : BitVec 128
  changes : List KeyChange
deriving DecidableEq, Repr, Inhabited

/-- What a register access does (R11): it reads, or writes a value. -/
inductive Access where
  | read
  | write (v : W64)
deriving DecidableEq, Repr

/-- What the panel finds in the world when a register write starts a command that looks at it: the verdicts on manifests (R393), the units that other
members of an erasure group supply (R413), whether retained HBM is intact (R451). -/
structure Found where
  verdict : Verdict
  units : List Stripe
  intact : Bool
deriving DecidableEq, Repr

/-- An Ethernet frame at a gateway port (R385, R519). -/
structure EthFrame where
  bytes : List Byte
  fcsOk : Bool
  tagOk : Bool
deriving DecidableEq, Repr

end Sys2Proof
end

