-- ==== Sys2Proof/Syntax.lean ====
section
/-!
DEFINITION. The commands of the panel: one constructor per row of spec/opcode_table.json. A command names the unit it acts on; a value
that the environment measures or sends (a temperature, a packet, a written word) is an operand.
-/
namespace Sys2Proof

/-- The commands. -/
inductive Instr where
  /-- `BUNDLE_FETCH` (R63). At each non-held SC a running core fetches the bundle at PC, advances PC under the repeat blocks of R86 and issues the bundle. -/
  | bundleFetch (g : Gid)
  /-- `CTL_LOOP` (R84). The LOOP control operation opens a repeat block of LEN bundles with an immediate or register count. -/
  | ctlLoop (g : Gid) (arg : BitVec 29)
  /-- `CTL_PHASE` (R88). The PHASE control operation marks a phase boundary, which must issue at SC B with the boundary's PHASE_ID. -/
  | ctlPhase (g : Gid) (arg : BitVec 29)
  /-- `CTL_SLEEP` (R91). The SLEEP control operation stops the core clock until RESUME_DELTA SCs later. -/
  | ctlSleep (g : Gid) (arg : BitVec 29)
  /-- `CTL_IDLE` (R95). The IDLE control operation gates the TU and/or VU for DURATION cycles. -/
  | ctlIdle (g : Gid) (arg : BitVec 29)
  /-- `CTL_HALT` (R96). The HALT control operation stops issue, closes every block, and the core enters HALTED. -/
  | ctlHalt (g : Gid)
  /-- `TU_MMA` (R147). Dense multiply-accumulate of A and B into the accumulator tile under a descriptor. -/
  | tuMma (g : Gid) (f : TuF)
  /-- `TU_MMAS` (R166). Sparse forward or input-gradient multiply-accumulate with a transposable 2:4 operand. -/
  | tuMmas (g : Gid) (f : TuF)
  /-- `TU_MMAWG` (R167). Masked weight-gradient accumulation at the kept positions of a 2:4 mask, in compressed layout. -/
  | tuMmawg (g : Gid) (f : TuF)
  /-- `TU_ACCZ` (R158). Zeroes an accumulator tile, dense or compressed. -/
  | tuAccz (g : Gid) (f : TuF)
  /-- `TU_DLOAD` (R154). Loads eight descriptor registers from 64 bytes of local store. -/
  | tuDload (g : Gid) (f : TuF)
  /-- `TU_METADATA_READ` (R161). At its scheduled SC a sparse operation reads and checks a 2:4 metadata byte, faulting on a reserved pattern index. -/
  | tuMetadataRead (g : Gid)
  /-- `TU_LAND` (R152). A compute operation lands at t + OCC + 8 and the whole tile takes its new value. -/
  | tuLand (g : Gid)
  /-- `VU_ADD` (R131). Vector addition. -/
  | vuAdd (g : Gid) (f : VuF)
  /-- `VU_SUB` (R131). Vector subtraction. -/
  | vuSub (g : Gid) (f : VuF)
  /-- `VU_MUL` (R131). Vector multiplication. -/
  | vuMul (g : Gid) (f : VuF)
  /-- `VU_FMA` (R131). Vector fused multiply-add with one rounding. -/
  | vuFma (g : Gid) (f : VuF)
  /-- `VU_MAX` (R132). Lane-wise maximum. -/
  | vuMax (g : Gid) (f : VuF)
  /-- `VU_MIN` (R132). Lane-wise minimum. -/
  | vuMin (g : Gid) (f : VuF)
  /-- `VU_ABS` (R132). Lane-wise absolute value. -/
  | vuAbs (g : Gid) (f : VuF)
  /-- `VU_CMP` (R132). Lane-wise comparison producing all-ones or zero. -/
  | vuCmp (g : Gid) (f : VuF)
  /-- `VU_SEL` (R72). Lane-wise select by VC. -/
  | vuSel (g : Gid) (f : VuF)
  /-- `VU_MOV` (R72). Vector move copying bits. -/
  | vuMov (g : Gid) (f : VuF)
  /-- `VU_CVT` (R120). Format conversion, narrowing or widening, including MX and KB16 block quantisation. -/
  | vuCvt (g : Gid) (f : VuF)
  /-- `VU_EXP2` (R133). Correctly rounded power of two. -/
  | vuExp2 (g : Gid) (f : VuF)
  /-- `VU_RCP` (R133). Correctly rounded reciprocal. -/
  | vuRcp (g : Gid) (f : VuF)
  /-- `VU_RSQRT` (R133). Correctly rounded reciprocal square root. -/
  | vuRsqrt (g : Gid) (f : VuF)
  /-- `VU_LD` (R74). Loads 512 bytes of core-local memory into a vector register. -/
  | vuLd (g : Gid) (f : VuF)
  /-- `VU_ST` (R74). Stores a vector register into 512 bytes of core-local memory at its landing SC. -/
  | vuSt (g : Gid) (f : VuF)
  /-- `OPERATION_LAND` (R64). A VU, XU or MX operation with latency L lands its result at SC t + L. -/
  | operationLand (g : Gid)
  /-- `XU_BRD` (R76). Basin-to-core-local read with unit, strided or transposed-tile gather. -/
  | xuBrd (g : Gid) (f : XuF)
  /-- `XU_BWR` (R76). Core-local-to-basin write, unit or strided. -/
  | xuBwr (g : Gid) (f : XuF)
  /-- `XU_RSEND` (R207). Writes core-local words into a router channel at t + 1. -/
  | xuRsend (g : Gid) (f : XuF)
  /-- `XU_RRECV` (R208). Reads a router channel into core-local memory, landing at t + 3. -/
  | xuRrecv (g : Gid) (f : XuF)
  /-- `XU_CSEND` (R253). Writes words into a channel and loads its tag latch from a Cascade descriptor row. -/
  | xuCsend (g : Gid) (f : XuF)
  /-- `XU_STRM` (R320). Issues a stream-table entry through a row of the site issue table. -/
  | xuStrm (g : Gid) (f : XuF)
  /-- `MX_ADDI` (R79). Adds a sign-extended immediate to an address register. -/
  | mxAddi (g : Gid) (f : MxF)
  /-- `MX_ADD` (R79). Adds two address registers. -/
  | mxAdd (g : Gid) (f : MxF)
  /-- `MX_SUB` (R79). Subtracts two address registers. -/
  | mxSub (g : Gid) (f : MxF)
  /-- `MX_AND` (R79). Bitwise AND of two address registers. -/
  | mxAnd (g : Gid) (f : MxF)
  /-- `MX_OR` (R79). Bitwise OR of two address registers. -/
  | mxOr (g : Gid) (f : MxF)
  /-- `MX_XOR` (R79). Bitwise XOR of two address registers. -/
  | mxXor (g : Gid) (f : MxF)
  /-- `MX_SHLI` (R79). Shifts an address register left by an immediate. -/
  | mxShli (g : Gid) (f : MxF)
  /-- `MX_SHRI` (R79). Shifts an address register right logically by an immediate. -/
  | mxShri (g : Gid) (f : MxF)
  /-- `MX_LIH` (R79). Shifts left by 15 and ORs in an immediate. -/
  | mxLih (g : Gid) (f : MxF)
  /-- `MX_SETP` (R79). Sets a predicate from a signed comparison. -/
  | mxSetp (g : Gid) (f : MxF)
  /-- `MX_SCRD` (R79). Reads the SC of the bundle into an address register. -/
  | mxScrd (g : Gid) (f : MxF)
  /-- `MX_VARRD` (R79). Reads the schedule variant in force. -/
  | mxVarrd (g : Gid) (f : MxF)
  /-- `IMCLR` (R171). Clears the associative memory count. -/
  | imclr (g : Gid) (f : MxF)
  /-- `IMINS` (R171). Inserts or updates 16 keys in the associative memory, optionally spilling to the hash table. -/
  | imins (g : Gid) (f : MxF)
  /-- `IMLKP` (R171). Looks up 16 keys, returning payloads or a miss value. -/
  | imlkp (g : Gid) (f : MxF)
  /-- `IMIDX` (R171). Returns the entry index of 16 keys or 0xFFFF_FFFF. -/
  | imidx (g : Gid) (f : MxF)
  /-- `HCLR` (R174). Empties all 16,384 hash-table entries. -/
  | hclr (g : Gid) (f : MxF)
  /-- `HINS` (R174). Inserts or updates 16 keys in the four-way hash table. -/
  | hins (g : Gid) (f : MxF)
  /-- `HLKP` (R174). Looks up 16 keys in the hash table. -/
  | hlkp (g : Gid) (f : MxF)
  /-- `IMSTAT` (R171). Reads index-match status into an address register and optionally clears the overflow flags. -/
  | imstat (g : Gid) (f : MxF)
  /-- `CORE_ARM` (R103). Writing CORE_CTRL.ARM in IDLE arms the core for CORE_START_SC, or refuses a start SC not in the future. -/
  | coreArm (req : Requester) (g : Gid) (v : W64)
  /-- `CORE_CLEAR` (R103). Writing CORE_CTRL.CLEAR returns a HALTED or FAULTED core to IDLE. -/
  | coreClear (req : Requester) (g : Gid) (v : W64)
  /-- `CORE_START` (R103). At SC = CORE_START_SC an armed core clears its loop stack, loads PC from ENTRY and enters RUN. -/
  | coreStart (g : Gid)
  /-- `SLEEP_THAW_START` (R91). At SC S + RESUME_DELTA - 64 the site starts the thaw of a sleeping core. -/
  | sleepThawStart (g : Gid)
  /-- `SLEEP_RESUME` (R91). At its resume SC a sleeping core issues the next bundle, or makes its site raise a WAKE hold if not ready. -/
  | sleepResume (g : Gid)
  /-- `SITE_WAKE_START` (R93). A site in S2 or S3 starts its site-level wake at the earliest resume SC minus the wake time. -/
  | siteWakeStart (k : Site)
  /-- `IDLE_UNIT_RESTART` (R95). A gated unit is restarted 16 cycles before SC S + DURATION. -/
  | idleUnitRestart (g : Gid) (vu : Bool)
  /-- `THAW_ACK` (R294). A stopped clock domain whose clock is stable returns WAKE_ACK and the waking side drops WAKE. -/
  | thawAck (t : ThawTarget)
  /-- `BASIN_BANK_ACCESS` (R181). A scheduled core or router operation makes its bank accesses at the SC its timing fixes. -/
  | basinBankAccess (k : Site) (errs : List BankErr)
  /-- `BASIN_ROW_REWRITE` (R191). A queued row with a correctable error is read, corrected and rewritten at the next idle bank cycle. -/
  | basinRowRewrite (k : Site) (bank : Fin 512)
  /-- `BASIN_DYNAMIC_ACCESS` (R192). A dynamic-class or SCP basin access is served through the maintenance port at an idle bank cycle. -/
  | basinDynamicAccess (req : Requester) (k : Site) (w : Bool) (word : BitVec 26) (data : List Byte) (errs : List BankErr)
  /-- `BASIN_DYNAMIC_TIMEOUT` (R192). A maintenance-port request finding no idle cycle within 65,536 cycles is answered with a data access error. -/
  | basinDynamicTimeout (k : Site)
  /-- `SCRUB_INTERVAL` (R193). At the end of each scrub interval the scrubber moves to the next row, setting STARVED for banks it could not visit. -/
  | scrubInterval (k : Site)
  /-- `SCRUB_BANK_VISIT` (R193). The scrubber reads and corrects row rho of a bank at its first idle cycle in the interval. -/
  | scrubBankVisit (k : Site) (bank : Fin 512) (errs : List BankErr)
  /-- `ZERO_FILL_GO` (R194). BSN_ZF_CTRL.GO starts a zero-fill of one region or the whole basin. -/
  | zeroFillGo (req : Requester) (k : Site) (v : W64)
  /-- `ZERO_FILL_DONE` (R194). A zero-fill completes and ZF_BUSY falls. -/
  | zeroFillDone (k : Site)
  /-- `BSN_REGION_WRITE` (R198). A write to BSN_REGIONn sets class and attributes, and a class change starts a zero-fill of the region. -/
  | bsnRegionWrite (req : Requester) (k : Site) (n : Fin 192) (v : W64)
  /-- `DIGEST_GO` (R195). BSN_DIG_CTRL.GO starts a SHA-384 digest over a range of basin lines. -/
  | digestGo (req : Requester) (k : Site) (v : W64)
  /-- `DIGEST_DONE` (R195). The digest engine finishes, or stops on an uncorrectable error with DIG_ERR set. -/
  | digestDone (k : Site) (errs : List BankErr)
  /-- `ROUTER_SC` (R215). At each SC a router switches every output's source under the configuration in force, with BR, BW, CR and CW port accesses. -/
  | routerSc (k : Site) (errs : List BankErr)
  /-- `HOP_ENTRY_ADVANCE` (R213). When an entry's DURATION expires the next entry, or the LOOP entry after LAST, comes into force. -/
  | hopEntryAdvance (k : Site)
  /-- `CHANNEL_WRITE_LAND` (R208). An RSEND or CSEND writes its words into the channel at t + 1. -/
  | channelWriteLand (k : Site)
  /-- `LINK_SLICE_ARRIVE` (R271). Scheduled data from another domain enters the receiving weir ring entry for its presentation SC. -/
  | linkSliceArrive (d : Dom) (w : Fin 10) (parity : Bool)
  /-- `RIL_LOAD_GO` (R219). RIL_LOAD_CTRL.GO starts loading router table rows from the basin, checking each row. -/
  | rilLoadGo (req : Requester) (k : Site) (v : W64)
  /-- `RIL_LOAD_ROW` (R219). A router table load writes one checked row after reading its source line, or stops with ERR_CODE. -/
  | rilLoadRow (k : Site) (ue : Bool)
  /-- `DYN_FLIT_RECEIVE` (R228). A dynamic flit arrives at a router input queue of its virtual channel. -/
  | dynFlitReceive (k : Site) (inp : Fin 8) (vc : Fin 2) (parity : Bool)
  /-- `DYN_PACKET_FORWARD` (R228). A queue head with full downstream credit starts moving through an open slice of its output, chosen round-robin. -/
  | dynPacketForward (k : Site) (inp : Fin 8) (vc : Fin 2)
  /-- `DYN_CREDIT_RETURN` (R228). A credit returns upstream 3 cycles after a flit leaves the queue. -/
  | dynCreditReturn (k : Site)
  /-- `DYN_PACKET_DELIVER` (R229). The destination router checks CRC, unit, reachability and partition, and delivers or drops the packet. -/
  | dynPacketDeliver (k : Site) (inp : Fin 8) (vc : Fin 2)
  /-- `STREAM_DATA_LAND` (R230). A STREAM_DATA packet lands in the basin through an open BW port at bank cycles the schedule leaves idle. -/
  | streamDataLand (k : Site)
  /-- `HOLE_PORT_FENCE` (R234). Within 1 µs of a site becoming a hole its neighbours fence the mesh and span ports that face or cross it. -/
  | holePortFence (k : Site)
  /-- `CASCADE_TAG_ARRIVE` (R244). A slice arriving at an idle pipe input is taken as a tag slice and checked. -/
  | cascadeTagArrive (k : Site) (i : Fin 32)
  /-- `CASCADE_PAYLOAD_ARRIVE` (R244). An expected payload slice of a frame arrives at a pipe input, or GAP is raised. -/
  | cascadePayloadArrive (k : Site) (i : Fin 32)
  /-- `CASCADE_OUTPUT` (R246). A pipe presents the combined tag and payload slices at KO from T = max(ta, tb) + 2. -/
  | cascadeOutput (k : Site) (j : Fin 16)
  /-- `SKEW` (R256). A partner tag not arrived 64 SCs after the first raises a Cascade fault at SC + 65. -/
  | skew (k : Site) (j : Fin 16)
  /-- `CSC_LOAD_GO` (R258). CSC_LOAD_CTRL.GO loads Cascade descriptor rows from the basin with row checks. -/
  | cscLoadGo (req : Requester) (k : Site) (v : W64)
  /-- `ALIGN` (R263). The steward's align command sets every domain's SC to 0 at a common edge, primes the weirs and sets ALIGNED. -/
  | align (bad : List (Dom × Fin 10))
  /-- `DROOP_STRETCH` (R265). On a detected droop the oscillator stretches the cycle in progress to at most 1.25 nominal cycles. -/
  | droopStretch (d : Dom) (n : Fin 104)
  /-- `RESERVOIR_RECHARGED` (R424). The site reservoir completes its 2 µs recharge and can boost again. -/
  | reservoirRecharged (k : Site)
  /-- `WEIR_WAIT` (R268). A domain whose next weir entry is missing stretches its cycle until the entry arrives. -/
  | weirWait (d : Dom)
  /-- `HOLD_RAISE` (R275). A domain raising a hold issues nothing at its SC and sends its cause up the hold tree. -/
  | holdRaise (d : Dom) (cause : Fin 16) (w : Fin 10)
  /-- `HOLD_ARRIVE` (R275). The hold reaches a domain, which stops at its next cycle boundary with its own stop SC. -/
  | holdArrive (d : Dom)
  /-- `HOLD_CAUSE_CLEAR` (R277). A hold cause clears; when the last one clears the steward starts the release. -/
  | holdCauseClear (d : Fin 161) (cause : Fin 16)
  /-- `HOLD_RELEASE` (R278). The steward reads H, chooses release edge E and broadcasts E and H. -/
  | holdRelease
  /-- `DOMAIN_RESUME` (R278). A domain resumes H - s cycles before E so that every domain reaches SC H at E. -/
  | domainResume (d : Dom)
  /-- `BOUNDARY_STOP` (R282). After issuing SC B a domain with a valid boundary table stops on its own with cause BOUNDARY. -/
  | boundaryStop (d : Dom)
  /-- `BOUNDARY_STEP` (R283). After the last stop the step command relocks PLLs and moves rails to the new operating point. -/
  | boundaryStep
  /-- `PLL_RELOCK_DONE` (R283). PLLs lock at the new multiplier and oscillators retrim. -/
  | pllRelockDone
  /-- `BOUNDARY_RELEASE` (R283). The boundary release broadcasts E, H = B + 1 and the chosen variant. -/
  | boundaryRelease
  /-- `CLK_BND_LOAD_GO` (R281). CLK_BND_LOAD_CTRL.GO loads boundary table rows from the basin. -/
  | clkBndLoadGo (req : Requester) (d : Dom) (v : W64)
  /-- `SOFT_HOLD_WRITE` (R276). Writing CLK_HOLD_CTRL.SOFT raises or clears the SOFTWARE hold cause. -/
  | softHoldWrite (req : Requester) (v : W64)
  /-- `REF_MEASURE` (R288). Every 100 ms the active steward updates e_other and e_osc and acts on the thresholds. -/
  | refMeasure (eOther eOsc : BitVec 32)
  /-- `HOLDOVER_LEAVE` (R288). Holdover ends after the generator agrees with both comparators for 10 s. -/
  | holdoverLeave
  /-- `REF_GENERATOR_LOSS` (R289). The selected generator stops being present and locked; the steward switches or enters holdover at once. -/
  | refGeneratorLoss
  /-- `EXT_REF_VALIDITY_CHANGE` (R578). An external reference becomes valid or invalid and its generator's frequency slews at most 0.1 ppm/s. -/
  | extRefValidityChange (st : Fin 2) (valid : Bool)
  /-- `STEWARD_TAKEOVER` (R290). The standby steward takes over the hold-tree root and reference under a STEWARD hold. -/
  | stewardTakeover
  /-- `LOCKSTEP_MISMATCH` (R496). A steward comparison mismatch disables the standby without a hold. -/
  | lockstepMismatch
  /-- `ACTIVE_STEWARD_FAILURE` (R496). The active steward fails; takeover follows, or power-down if no standby. -/
  | activeStewardFailure
  /-- `CONTROL_CROSSING_EVENT` (R291). A single event crosses clock domains by toggle and acknowledgement, merging while busy. -/
  | controlCrossingEvent (c : Crossing) (d : Dom)
  /-- `TIME_MARK` (R544). Every 1 ms of TIME the steward records the mark and every domain latches its SC. -/
  | timeMark
  /-- `STREAM_ISSUE_PROCESS` (R322). At t + 1 the site checks an STRM against its issue-table row, arms it and sends STREAM_ISSUE packets. -/
  | streamIssueProcess (k : Site)
  /-- `STREAM_ISSUE` (R317). An edge transfer engine receives a STREAM_ISSUE packet, looks up its cache and accepts or refuses the stream. -/
  | streamIssue (e : Edge)
  /-- `TABLE_WALK_DONE` (R326). A 64-byte table walk completes, caching the entry and releasing waiting issues. -/
  | tableWalkDone (e : Edge) (index : BitVec 20) (err : Fin 4) (sym : Fin 64)
  /-- `STREAM_MOVE` (R329). An engine moves an accepted stream's data as STREAM_DATA and STREAM_FETCH packets in order of deadline. -/
  | streamMove (e : Edge) (errs : List LineErr)
  /-- `STREAM_FETCH_SERVE` (R329). A site answers a STREAM_FETCH by reading its basin through the maintenance port. -/
  | streamFetchServe (k : Site) (timeout : Bool) (errs : List BankErr)
  /-- `STREAM_PACKET_RESEND` (R331). An engine resends a dropped packet up to three times; a fourth drop fails the stream. -/
  | streamPacketResend (e : Edge)
  /-- `REMOTE_PAIRING` (R330). A REMOTE stream pairs with the partner's opposite stream, waiting in the rendezvous buffer. -/
  | remotePairing (e : Edge)
  /-- `SITE_SIT_NOTIFY` (R332). An engine's notice write counts toward a NOTICE row's completion or marks it failed. -/
  | siteSitNotify (e : Edge)
  /-- `DEADLINE_CHECK` (R332). At the edge of SC D the site retires a complete row or raises a DEADLINE hold. -/
  | deadlineCheck (k : Site)
  /-- `STREAM_COMPLETE` (R332). A stream completes by landed bytes or notices, clearing any DEADLINE cause. -/
  | streamComplete (k : Site) (row : Fin 256)
  /-- `STREAM_FAIL` (R337). An engine stops a failed stream, records STM_SERR, notifies with FAIL and raises FAULT or ERROR. -/
  | streamFail (e : Edge)
  /-- `STM_ISSUE` (R324). A write to STM_ISSUE issues a stream to one engine without row or deadline. -/
  | stmIssue (req : Requester) (e : Edge) (v : W64)
  /-- `STM_CACHE_INV_ALL` (R342). STM_CACHE_CTRL.INV_ALL invalidates every entry of the engine's stream cache. -/
  | stmCacheInvAll (req : Requester) (e : Edge) (v : W64)
  /-- `STM_CACHE_PREFETCH` (R327). STM_CACHE_CTRL.PREFETCH walks a range of up to 1,024 entries into the cache. -/
  | stmCachePrefetch (req : Requester) (e : Edge) (v : W64)
  /-- `STM_TBL_WRITE` (R319). STM_TBL_WCTRL.GO writes the writer's staged stream-table entry and invalidates cached copies. -/
  | stmTblWrite (req : Requester) (v : W64)
  /-- `SITE_SIT_LOAD_GO` (R340). SITE_SIT_LOAD_CTRL.GO loads issue-table rows from the basin. -/
  | siteSitLoadGo (req : Requester) (k : Site) (v : W64)
  /-- `HBM_PATROL_SCRUB` (R307). The controller scrubs the next line of its stack, correcting or marking it. -/
  | hbmPatrolScrub (h : Stack) (err : Fin 4) (sym : Fin 64)
  /-- `APERTURE_ACCESS` (R530). A host access through a BAR4 aperture reaches a GPA, with HBM crypto and read-merge-write. -/
  | apertureAccess (pt : Fin 2) (fn : Fin 5) (n : Fin 4) (o : BitVec 30) (w : Bool) (data : List Byte) (err : Fin 4) (sym : Fin 64) (f : Found)
  /-- `BAR0_ACCESS` (R529). A host access through BAR0 reaches a panel-level block under the function's requester class. -/
  | bar0Access (pt : Fin 2) (fn : Fin 5) (ofs : BitVec 24) (half : Fin 4) (x : Access) (f : Found)
  /-- `SLOT_SEND` (R358). At each slot a port direction sends one frame: resend, scheduled, dynamic, control or idle by slot role. -/
  | slotSend (p : Port)
  /-- `SLOT_RECEIVE` (R347). A receiver decodes a slot, marking it bad or placing its frame. -/
  | slotReceive (p : Port) (cwc : Fin 8) (cwu : BitVec 7) (at_ : BitVec 64) (f : Frame)
  /-- `NAK_RETRY` (R362). A receiver with no resend 64 slots after its NAK sends the NAK again. -/
  | nakRetry (p : Port)
  /-- `TX_QUEUE_APPEND` (R356). An edge program slice is appended to the open frame of a transmit queue, which may close it or raise OPTICAL. -/
  | txQueueAppend (p : Port)
  /-- `FRAME_ELIGIBLE` (R358). A closed frame with a credit becomes eligible at the next slot boundary. -/
  | frameEligible (p : Port)
  /-- `FRAME_CONSUMABLE` (R359). A received frame becomes consumable once whole and its due slot's arrival plus A has passed. -/
  | frameConsumable (p : Port) (at_ : BitVec 64)
  /-- `RX_WEIR_PRESENT` (R359). At an SC selecting source 0x30 + p the receive weir presents the next chunk, or raises OPTICAL. -/
  | rxWeirPresent (p : Port)
  /-- `EPOCH_WRITE` (R360). Writing SUO_PORTp_EPOCH starts a new transmit or receive epoch, emptying queues and resetting SEQ and credits. -/
  | epochWrite (req : Requester) (p : Port) (dirs : Fin 3) (v : W64)
  /-- `LINK_KEY_RATCHET` (R518). At every 2^22-th calendar both ends ratchet each direction's key. -/
  | linkKeyRatchet (p : Port)
  /-- `PANEL_PACKET_ROUTE` (R371). A dynamic packet entering a panel is routed, legged, delivered or dropped. -/
  | panelPacketRoute (e : Edge)
  /-- `PANEL_PACKET_AGE_DROP` (R371). A packet that has waited longer than SUO_RT_AGE in the panel is dropped. -/
  | panelPacketAgeDrop (e : Edge)
  /-- `PANEL_PACKET_DELIVER` (R374). The destination edge die checks CRC and epoch and hands the packet to its engine or steward. -/
  | panelPacketDeliver (e : Edge)
  /-- `STRM_TMO` (R375). A STREAM packet with no ACK within SUO_STRM_TMO is counted lost and resent. -/
  | strmTmo (e : Edge)
  /-- `RT_CUR_FLIP` (R377). Writing SUO_RT_CTRL.CUR changes the route copy that sources stamp. -/
  | rtCurFlip (req : Requester) (v : W64)
  /-- `PORT_TRAIN_START` (R378). A DOWN port with laser power in range and ENABLE = 1 enters TRAIN. -/
  | portTrainStart (p : Port)
  /-- `PORT_TRAIN_LOCK` (R378). Lane training and FEC lock complete and the port enters IDENT. -/
  | portTrainLock (p : Port)
  /-- `PORT_TRAIN_TIMEOUT` (R378). After 200 ms without lock the port returns to DOWN, retrying after 1 s. -/
  | portTrainTimeout (p : Port)
  /-- `PORT_IDENTIFIED` (R378). Three consistent identity records move the port to MEASURE. -/
  | portIdentified (p : Port)
  /-- `PORT_MEASURED` (R379). Keys installed and latency measured move the port to READY. -/
  | portMeasured (p : Port) (keysOk : Bool)
  /-- `PORT_FAULT_TIMEOUT` (R378). A port in FAULT returns to DOWN after 1 s. -/
  | portFaultTimeout (p : Port)
  /-- `LASER_LOSS` (R345). Laser power out of range clears LASER_OK and the port goes DOWN. -/
  | laserLoss (p : Port)
  /-- `SUO_PROG_ROW_WRITE` (R355). A direct write of an edge program row is checked and written or refused. -/
  | suoProgRowWrite (req : Requester) (e : Edge) (off : Fin 0x4_0000) (v : W64)
  /-- `GATEWAY_TX_FRAME` (R519). The engine takes a transmit descriptor, encrypts and sends the Ethernet frame. -/
  | gatewayTxFrame (e : Edge) (errs : List LineErr)
  /-- `GATEWAY_RX_FRAME` (R385). A received Ethernet frame is checked and written to a free receive descriptor, or dropped. -/
  | gatewayRxFrame (e : Edge) (frame : EthFrame)
  /-- `PFC_RECEIVE` (R385). A received priority flow control frame pauses or resumes the named priority. -/
  | pfcReceive (e : Edge) (prio : Fin 8) (xoff : Bool)
  /-- `LD_CHECK` (R399). STM_LD_CMD CHECK parses, verifies and admits or refuses a load. -/
  | ldCheck (req : Requester) (v : Verdict)
  /-- `LD_START` (R400). STM_LD_CMD START begins moving blocks down the chains. -/
  | ldStart (req : Requester)
  /-- `LD_VERIFY` (R393). STM_LD_CMD VERIFY rechecks signatures and digests of committed placements. -/
  | ldVerify (req : Requester) (v : Verdict)
  /-- `LD_ABORT` (R404). STM_LD_CMD ABORT ends the load with code ABORTED. -/
  | ldAbort (req : Requester)
  /-- `LD_FEED_FILLED` (R401). The feeder marks a landing slot filled in STM_LD_FEED. -/
  | ldFeedFilled (req : Requester) (v : W64)
  /-- `LD_BLOCK_LANDED` (R401). A block lands in a landing slot and its HBM and pass-on streams are issued. -/
  | ldBlockLanded (set : Fin 64)
  /-- `LD_SLOT_FREED` (R401). A landing slot frees when both streams of its block are complete. -/
  | ldSlotFreed (e : Edge) (n : Fin 4)
  /-- `LD_PLACEMENT_DIGEST` (R402). After its last block the placement is digested and committed or retried. -/
  | ldPlacementDigest (i : Fin 16384)
  /-- `LD_SHARD_REQUEST` (R403). A shard re-request MGMT packet travels up the chain and the holder resends the shard. -/
  | ldShardRequest (p : Part) (set : Fin 64) (index : Fin 65536)
  /-- `REDIGEST_INTERVAL` (R407). Each INTERVAL_S the home die re-digests FROZEN placements, failing those that mismatch. -/
  | redigestInterval (units : List Stripe)
  /-- `EG_COMMIT` (R414). STM_EG_CMD COMMIT starts a parity point on the non-committed bank. -/
  | egCommit (req : Requester)
  /-- `EG_READY` (R414). A member with READY from all members records the bank committed under generation + 1. -/
  | egReady (pos : Fin 16) (digs : List (BitVec 384))
  /-- `EG_LOSS` (R415). STM_EG_CMD LOSS reports a lost member and opens or extends the rebuild window. -/
  | egLoss (req : Requester) (pos : Fin 16)
  /-- `EG_REBUILD` (R415). STM_EG_CMD REBUILD rebuilds a lost position from K surviving units. -/
  | egRebuild (req : Requester) (pos : Fin 16) (force : Bool) (units : List Stripe)
  /-- `EG_VERIFY` (R416). STM_EG_CMD VERIFY recomputes parity and compares digests. -/
  | egVerify (req : Requester) (units : List Stripe)
  /-- `EC_MULXOR` (R418). The erasure-code engine's MULXOR operation starts. -/
  | ecMulxor (e : Edge) (acc : Bool) (coef : BitVec 8)
  /-- `EC_DIGEST` (R418). The erasure-code engine's DIGEST operation starts. -/
  | ecDigest (e : Edge)
  /-- `EC_DONE` (R418). An erasure-code engine operation completes or stops with ERR. -/
  | ecDone (e : Edge) (ue : Bool)
  /-- `INPUT_RANGE` (R419). Input outside 42-56 V for 1 ms throttles and powers down; outside 38-58 V drops rails within 50 µs. -/
  | inputRange (mv : Int)
  /-- `POWER_ON_STEP` (R425). A power-on step starts when the gate of the previous step is met. -/
  | powerOnStep
  /-- `SITE_POWER_WAVE` (R426). Site wave w powers up 200 µs after wave w - 1. -/
  | sitePowerWave
  /-- `POWER_DOWN` (R427). An orderly power-down holds the panel and turns units off in reverse order within 5 ms. -/
  | powerDown
  /-- `IBC_PHASE_LOSS` (R421). An IBC phase or converter fails, changing cap_eff and possibly closing tie switches. -/
  | ibcPhaseLoss (q : Fin 4) (phase : Option (Fin 8))
  /-- `RAIL_TRIP` (R428). A rail trip or eFuse opening turns rails off and fences the compute die, site or edge die. -/
  | railTrip (d : Dom) (rail : Fin 4)
  /-- `MINV_SAMPLE` (R429). Every 10 ns a rail is sampled and a new minimum latched with current, SC and TIME. -/
  | minvSample (r : Option (Site × Fin 3)) (x : RailSample)
  /-- `MINV_REARM` (R429). Writing REARM restarts a minimum-voltage record. -/
  | minvRearm (req : Requester) (r : Option (Site × Fin 3)) (v : W64)
  /-- `RDYN_UPDATE` (R430). A 60 s dynamic-resistance estimate updates and may set CRACK. -/
  | rdynUpdate (k : Site) (r : Fin 3) (est : BitVec 16)
  /-- `SENSOR_SAMPLE` (R431). Every 10 µs the die sensors are sampled. -/
  | sensorSample (dies : List (Fin 354 × BitVec 8)) (inlet outlet : BitVec 8)
  /-- `THROTTLE_CLEAR` (R433). THROTTLE clears after the base die stays below THR_B - 2 °C for 1 ms. -/
  | throttleClear (k : Site)
  /-- `THERMAL_CRITICAL` (R434). A critical temperature or a trip persisting 100 ms starts the power-down. -/
  | thermalCritical (i : Fin 354)
  /-- `THERMAL_MODEL_UPDATE` (R432). Every 1 ms the thermal model updates forecasts and headroom. -/
  | thermalModelUpdate (siteP : List (Site × BitVec 48)) (edgeP : List (Edge × BitVec 16))
  /-- `INLET_HIGH` (R435). Inlet above 40 °C for 1 s raises a warning. -/
  | inletHigh
  /-- `FLOW_LOW` (R435). Derived flow below 30 L/min for 10 s raises a warning. -/
  | flowLow
  /-- `RAINFLOW_SAMPLE` (R436). Every 1 ms each die's temperature is rainflow-counted into range bins. -/
  | rainflowSample
  /-- `CYCLE_COUNT_SAVE` (R436). Every hour the cycle counts are written to the configuration NVM. -/
  | cycleCountSave
  /-- `RTH_UPDATE` (R437). Every 1 s each die's thermal resistance is computed and may raise COOL_WARN. -/
  | rthUpdate (dies : List (Fin 354 × Nat × Nat)) (inlet : Nat)
  /-- `FLOOR_WORK_UPDATE` (R441). Every 10 µs the controller adds floor work to keep the draw at f(tau). -/
  | floorWorkUpdate (able : Bool)
  /-- `DUTY_UPDATE` (R443). Every 10 µs the controller compares draw with cap and throttle targets and adjusts duty holds. -/
  | dutyUpdate (d : BitVec 16)
  /-- `DUTY_HOLD` (R443). A 2 µs THROTTLE hold is raised at the spacing for the held fraction h. -/
  | dutyHold
  /-- `EMERGENCY_THROTTLE` (R444). A POWER, INPUT, THERMAL, SUPPLY or INPUT_RANGE trigger raises a THROTTLE hold within 10 µs. -/
  | emergencyThrottle (pin : BitVec 16) (breach : Bool)
  /-- `EMERGENCY_CLEAR` (R444). 100 µs after the trigger goes the controller clears the cause and resumes under duty holds. -/
  | emergencyClear (pin : BitVec 16)
  /-- `SITE_WAKE_GRANT` (R446). The wake governor grants a site wake in a free slot of at most 18 per 64 cycles. -/
  | siteWakeGrant
  /-- `PWR_CAP_WRITE` (R449). A write to PWR_CAP sets cap and trip, refusing values above limits. -/
  | pwrCapWrite (req : Requester) (v : W64)
  /-- `THROTTLE_L` (R570). Two consecutive low samples of THROTTLE_L form the INPUT trigger; a high sample clears it. -/
  | throttleL (low : Bool)
  /-- `OFF_L` (R570). OFF_L low for 10 ms powers the panel down; high for 10 ms powers it up and cold-starts. -/
  | offL (low : Bool)
  /-- `SLOT_SELECTION` (R455). The steward ROM verifies both slots and boots one or enters ROM recovery. -/
  | slotSelection
  /-- `BOOT_WATCHDOG` (R456). If BOOT_LOCK is not set within WATCHDOG_S the ROM marks the slot failed and restarts. -/
  | bootWatchdog
  /-- `ROM_RECOVERY_IMAGE` (R457). In ROM recovery a configuration image received over DOE or management is verified and written. -/
  | romRecoveryImage (i : Fin 2) (im : CfgImage)
  /-- `COLD_START` (R461). The panel runs the cold-start bring-up steps after power-on or a cold full-panel reset. -/
  | coldStart
  /-- `WARM_START` (R461). The panel runs the warm-start bring-up steps using retained state. -/
  | warmStart
  /-- `BRINGUP_STEP_DONE` (R461). A unit completes a bring-up step, setting its ready bits and advancing. -/
  | bringupStepDone (step : Fin 15) (u : BringUnit) (r : BringResult)
  /-- `FIRMWARE_BROADCAST` (R463). The steward multicasts SCP firmware to region 187 of every site and checks digests. -/
  | firmwareBroadcast (stale : List Site)
  /-- `FIRMWARE_DIGEST_RESULT` (R463). A site's region-187 digest completes; a failure is resent by unicast up to three times. -/
  | firmwareDigestResult (k : Site) (good : Bool)
  /-- `BOOT_LOCK` (R467). Writing BOOT_LOCK.LOCK makes RWL fields read only and may advance MIN_SV. -/
  | bootLock (req : Requester) (v : W64)
  /-- `FPR_PUBLICATION_START` (R48). The steward consumes a generation number, records it in both NVM counters and builds a new FPR. -/
  | fprPublicationStart
  /-- `FPR_PUBLICATION_VISIBLE` (R51). The new FPR is written to NVM and made visible in one step by updating BOOT_FPR_GEN. -/
  | fprPublicationVisible
  /-- `BOOT_LOAD` (R469). BOOT_LOAD_CMD LOAD checks and loads a schedule image for a partition. -/
  | bootLoad (req : Requester) (p : Part) (im : SchedImage)
  /-- `BOOT_START` (R471). BOOT_LOAD_CMD START rechecks, chooses S0, steps the operating point and arms the cores. -/
  | bootStart (req : Requester) (mask : Fin 16)
  /-- `BOOT_UNLOAD` (R472). BOOT_LOAD_CMD UNLOAD halts and clears a partition's cores and empties its tables. -/
  | bootUnload (req : Requester) (p : Part)
  /-- `RESET_CORE` (R474). BOOT_RESET scope 1 resets one core. -/
  | resetCore (req : Requester) (g : Gid) (force : Bool)
  /-- `RESET_SITE_COMPUTE` (R474). BOOT_RESET scope 2 resets one compute die. -/
  | resetSiteCompute (req : Requester) (k : Site) (force : Bool)
  /-- `RESET_PANEL_COMPUTE` (R474). BOOT_RESET scope 3 resets every compute die, SCP, issue and boundary table. -/
  | resetPanelCompute (req : Requester) (force : Bool)
  /-- `RESET_NETWORK` (R475). BOOT_RESET scope 4 resets router tables, Cascade, edge programs and ports after announcement. -/
  | resetNetwork (req : Requester) (force : Bool)
  /-- `RESET_FULL_PANEL` (R473). BOOT_RESET scope 5 resets all but the always-on domain, zeroises every partition and restarts. -/
  | resetFullPanel (req : Requester) (cold intact : Bool)
  /-- `RESET_POWER_ON` (R473). BOOT_RESET scope 6 or power application performs a power-on reset and cold start. -/
  | resetPowerOn (req : Option Requester)
  /-- `NET_ANNOUNCE` (R475). Setting or clearing BOOT_NET_ANNOUNCE.ARM announces or withdraws a network reset. -/
  | netAnnounce (req : Requester) (v : W64)
  /-- `FAULT_RECORD` (R481). The steward writes a fault record within 1 ms and sends it to the management port and host. -/
  | faultRecord
  /-- `FAULT_LOG_NVM_COPY` (R484). Records are copied to the NVM fault-log ring within 10 s. -/
  | faultLogNvmCopy
  /-- `FLT_LOG_ACK` (R483). Writing FLT_LOG_ACK acknowledges records up to SEQ. -/
  | fltLogAck (req : Requester) (v : W64)
  /-- `FAULT_HOLD_RELEASE` (R487). A FAULT or ERROR hold is released by retiring, fencing, recording and releasing. -/
  | faultHoldRelease
  /-- `FENCE` (R488). A unit is fenced in hardware and a publication records it. -/
  | fence (u : UnitRef)
  /-- `FLT_FENCE` (R490). FLT_FENCE_CMD FENCE fences an enabled unit on request. -/
  | fltFence (req : Requester) (v : W64)
  /-- `FLT_RELEASE` (R490). FLT_FENCE_CMD RELEASE requests release of a fenced unit at the next cold start. -/
  | fltRelease (req : Requester) (v : W64)
  /-- `LEASE_RENEW` (R493). A lease renewal sets the expiry to the smaller of UNTIL and TIME + PERIOD_MS, never earlier. -/
  | leaseRenew (req : Requester) (v : W64)
  /-- `LEASE_ENABLE` (R493). Writing FLT_LEASE.EN enables or disables the lease, setting the initial expiry. -/
  | leaseEnable (req : Requester) (v : W64)
  /-- `LEASE_EXPIRY` (R494). The lease expires and the panel fences itself within 1 ms. -/
  | leaseExpiry
  /-- `LC_TRANSITION` (R502). SEC_LC_CMD TARGET with a verified token blows state fuses and starts a cold full-panel reset. -/
  | lcTransition (req : Requester) (target : Fin 4) (t : Token)
  /-- `OPEN_DEBUG` (R503). SEC_LC_CMD.OPEN_DEBUG with a dual-signed token zeroises, destroys keys and opens debug. -/
  | openDebug (req : Requester) (t : Token)
  /-- `KEY_STORE_UPDATE` (R505). An owner-root token adds or removes key store entries. -/
  | keyStoreUpdate (req : Requester) (t : Token)
  /-- `KEY_GENERATE` (R506). GENERATE fills a partition key slot from the CTR_DRBG. -/
  | keyGenerate (pt : Fin 5) (i : Fin 8) (slot : Fin 32)
  /-- `KEY_IMPORT` (R506). IMPORT fills a partition key slot with wrapped keys from the owner session. -/
  | keyImport (pt : Fin 5) (i : Fin 8) (slot : Fin 32) (keys : Option (BitVec 768))
  /-- `SPDM_REQUEST` (R508). The SPDM responder handles an attestation, challenge, measurement or session message. -/
  | spdmRequest (pt : Fin 5) (i : Fin 8) (m : SpdmMsg)
  /-- `PART_BIND_DIGEST` (R512). The write of SEC_PART_BINDp_5 completes the digest and binds the partition. -/
  | partBindDigest (req : Requester) (p : Part) (v : W64)
  /-- `BIND` (R512). The BIND command inside a matching mutual session makes the partition OWNED. -/
  | bindPart (pt : Fin 5) (i : Fin 8) (p : Part)
  /-- `TDI_LOCK_INTERFACE` (R520). LOCK_INTERFACE for TDI p is accepted only in p's owner session. -/
  | tdiLockInterface (pt : Fin 5) (i : Fin 8) (hp : Fin 2) (p : Part)
  /-- `TDI_START_INTERFACE` (R520). START_INTERFACE puts TDI p in RUN. -/
  | tdiStartInterface (pt : Fin 5) (i : Fin 8) (hp : Fin 2) (p : Part)
  /-- `SEC_ZEROIZE` (R522). SEC_ZEROIZE.GO bit p starts a zeroise that retires, destroys keys and clears every store. -/
  | secZeroize (req : Requester) (v : W64)
  /-- `ZEROIZE_DONE` (R522). The HBM fill completes, DONE is set and the partition becomes UNBOUND. -/
  | zeroizeDone (p : Part)
  /-- `SEC_PART_CFG_WRITE` (R511). Writing SEC_PART_CFG or SEC_CORRIDOR changes partition mode or corridors when permitted. -/
  | secPartCfgWrite (req : Requester) (corridor : Bool) (v : W64)
  /-- `MGT_READ` (R536). Management READ returns values of up to 64 GPAs. -/
  | mgtRead (pt : Fin 5) (i : Fin 8) (tag : BitVec 16) (gpas : List W64)
  /-- `MGT_WRITE` (R536). Management WRITE applies up to 64 GPA writes in order until a refusal. -/
  | mgtWrite (pt : Fin 5) (i : Fin 8) (tag : BitVec 16) (pairs : List (W64 × W64)) (f : Found)
  /-- `MGT_FPR` (R536). Management FPR returns the current FPR. -/
  | mgtFpr (pt : Fin 5) (i : Fin 8) (tag : BitVec 16)
  /-- `MGT_LOG` (R536). Management LOG returns retained fault records in a range. -/
  | mgtLog (pt : Fin 5) (i : Fin 8) (tag : BitVec 16) (first : BitVec 32) (count : BitVec 32)
  /-- `MGT_SUBSCRIBE` (R536). Management SUBSCRIBE sets the session's event mask. -/
  | mgtSubscribe (pt : Fin 5) (i : Fin 8) (tag : BitVec 16) (mask : W64)
  /-- `MGT_LEASE` (R536). Management LEASE renews the lease and returns the expiry. -/
  | mgtLease (pt : Fin 5) (i : Fin 8) (tag : BitVec 16) (untilMs : W64)
  /-- `UPDATE_BEGIN` (R538). UPDATE_BEGIN opens an update of the non-booted slot and erases its first 64 KiB. -/
  | updateBegin (pt : Fin 5) (i : Fin 8) (tag : BitVec 16) (len : W64)
  /-- `UPDATE_DATA` (R536). UPDATE_DATA writes a chunk of the new image. -/
  | updateData (pt : Fin 5) (i : Fin 8) (tag : BitVec 16) (ofs : W64) (data : List Byte)
  /-- `UPDATE_END` (R538). UPDATE_END verifies the updated slot and reports success or VERIFY. -/
  | updateEnd (pt : Fin 5) (i : Fin 8) (tag : BitVec 16) (sig : Bool)
  /-- `MGT_EVENT_SEND` (R537). The panel sends an EVENT to a subscribed session. -/
  | mgtEventSend (pt : Fin 5) (i : Fin 8)
  /-- `MGT_EVENT_DROP` (R537). An event not accepted within 100 ms is dropped and counted. -/
  | mgtEventDrop (pt : Fin 5) (i : Fin 8)
  /-- `I3C_PRIVATE_READ` (R539). An I3C private read returns the 32-byte health summary. -/
  | i3cPrivateRead (addr : BitVec 7)
  /-- `I3C_ADDRESS_ASSIGN` (R572). SETDASA or ENTDAA assigns the I3C dynamic address. -/
  | i3cAddressAssign (static : Option (BitVec 7)) (dyn : BitVec 7)
  /-- `HOST_DELIVERY` (R532). A fault record, FPR or snapshot is written to a function's host ring and its vector signalled. -/
  | hostDelivery (pt : Fin 2) (fn : Fin 5)
  /-- `FUNCTION_LEVEL_RESET` (R531). A function-level reset returns every function-page field to its reset value. -/
  | functionLevelReset (pt : Fin 2) (fn : Fin 5)
  /-- `TIME_TICK` (R540). Each 25 MHz tick advances TIME by 40 ns scaled by the rate, carrying into seconds. -/
  | timeTick
  /-- `TIME_SET` (R542). TIME_CMD SET loads the staged seconds and nanoseconds while VALID is 0. -/
  | timeSet (req : Requester)
  /-- `TIME_SLEW` (R542). TIME_CMD SLEW applies a signed adjustment within SLEW_PPM. -/
  | timeSlew (req : Requester)
  /-- `TIME_CANCEL` (R542). TIME_CMD CANCEL stops a slew. -/
  | timeCancel (req : Requester)
  /-- `TIME_NS_READ` (R541). A read of TIME_NS latches TIME_SEC into the reader's shadow. -/
  | timeNsRead (req : Requester)
  /-- `TIME_MARK_SEQ_READ` (R541). A read of TIME_MARK_SEQ latches the three mark registers for the reader. -/
  | timeMarkSeqRead (req : Requester)
  /-- `CLK_MARK_READ` (R544). A read of CLK_MARK latches CLK_MARK_SC into the reader's shadow. -/
  | clkMarkRead (req : Requester) (d : Dom)
  /-- `PTP_MESSAGE` (R543). A PTP message updates the servo, setting or slewing TIME and LOCKED. -/
  | ptpMessage (pt : Fin 2) (m : PtpMsg)
  /-- `PTP_HOLDOVER` (R543). 3 s without a valid Sync sets HOLDOVER. -/
  | ptpHoldover
  /-- `FREEZE_LATCH` (R548). At each SC F a domain latches its counters into snapshot registers, or skips if a freeze is in force. -/
  | freezeLatch (d : Dom)
  /-- `FREEZE_RELEASE` (R560). When every recipient has the record the freeze releases and pending overflow events are delivered. -/
  | freezeRelease
  /-- `COLLECTOR_GATHER` (R558). The collector reads snapshot registers and samples over the dynamic class into its buffer. -/
  | collectorGather
  /-- `SAMPLE_WRITE` (R556). A precise sample record is written when the sampled operation lands. -/
  | sampleWrite (g : Gid)
  /-- `PROGRAMME_REGISTER_WRITE` (R551). A write to CORE_EVT_SEL or CORE_SAMP_CFG is staged until F + 1 of the next latch. -/
  | programmeRegisterWrite (req : Requester) (g : Gid) (samp : Bool) (v : W64)
  /-- `COUNTER_OVERFLOW` (R237). A counter wraps and sets its sticky OVF. -/
  | counterOverflow (a : BitVec 48)
  /-- `REGISTER_WRITE` (R11). A write to a register that has no row of its own updates its fields under the access codes. -/
  | registerWrite (req : Requester) (a : BitVec 49) (half : Fin 4) (v : W64) (f : Found)
  /-- `SITE_LINK_LANE_FAILURE` (R202). A site-link data lane fails in service; an unused extra lane of its group replaces it, or, when R202 no longer holds, the link direction becomes unusable and is fenced and published. -/
  | siteLinkLaneFailure (k : Site) (l : Fin 10) (slice : Fin 16) (group : Fin 8)
  /-- `OPTICAL_LANE_LOSS` (R344). An optical port loses one of its eight lanes, for example through a fibre fault or a vanished partner, and goes DOWN, which puts a MAPPED port in FAULT under R381. -/
  | opticalLaneLoss (p : Port)
  /-- `STREAM_ISSUE_RESEND` (R323). The issuing site receives the report of a STREAM_ISSUE packet dropped under R229 and resends the packet. -/
  | streamIssueResend (k : Site)
  /-- `CSC_LOAD_ROW` (R258). A Cascade descriptor table load writes one checked row once its source line has been read, or stops with ERR_CODE. -/
  | cscLoadRow (k : Site) (ue : Bool)
  /-- `CLK_BND_LOAD_ROW` (R281). A boundary table load writes one checked row once its source line has been read, or stops with ERR_CODE. -/
  | clkBndLoadRow (d : Dom) (ue : Bool)
  /-- `SITE_SIT_LOAD_ROW` (R340). An issue table load writes one checked row once its source line has been read, or stops with ERR_CODE. -/
  | siteSitLoadRow (k : Site) (ue : Bool)
  /-- `INPUT_SENSE_OPEN` (R568). The VSENSE pair opens or reconnects, and the panel switches its input-voltage reading between the carrier bus bar and its own blades. -/
  | inputSenseOpen (isOpen : Bool) (vin : BitVec 16)
deriving DecidableEq, Repr

end Sys2Proof
end

