-- ==== Sys2Proof/Decode.lean ====
section
/-!
DEFINITION. The commands have no encoding: no row of spec/opcode_table.json gives bits.
-/
namespace Sys2Proof

/-- No row of the table gives bits, so no word spells a command. -/
def decodeTableWord (_ _ : Nat) : Option Instr := none

end Sys2Proof
end

