-- ==== Sys2Proof/Machine/Numeric.lean ====
section
/-!
DEFINITION. Number formats and the arithmetic contract: encodings (R108 to R118), one-rounding conversions (R122 to R128), exact sums and
products (R114, R131 to R140), correctly rounded functions (R133), and the stochastic-rounding generator (R142 to R144).
-/
namespace Sys2Proof.Machine

/-- A value of any format: NaN, an infinity, or `(-1)^neg * m * 2^e`, so that zeros keep their sign. -/
inductive Num where
  | nan
  | inf (neg : Bool)
  | fin (neg : Bool) (m : Nat) (e : Int)
deriving DecidableEq, Repr

/-- The element formats of R108. -/
inductive Elem where
  | fp32 | fp16 | bf16 | e4m3 | e5m2 | e3m2 | e2m3 | e2m1 | int8 | int4 | int32
deriving DecidableEq, Repr

/-- The scaling schemes of R115 and R117. -/
inductive Scheme where
  | unscaled | mx | kb16
deriving DecidableEq, Repr

/-- The rounding modes of R119. -/
inductive Rnd where
  | rne | rtz | stoch
deriving DecidableEq, Repr

/-- Format codes (R108); the other codes are reserved. -/
def elemOfCode (n : Nat) : Option Elem :=
  match n with
  | 0 => some .fp32
  | 1 => some .fp16
  | 2 => some .bf16
  | 3 => some .e4m3
  | 4 => some .e5m2
  | 5 => some .e3m2
  | 6 => some .e2m3
  | 7 => some .e2m1
  | 8 => some .int8
  | 9 => some .int4
  | 10 => some .int32
  | _ => none

/-- Width in bits (R108). -/
def Elem.width : Elem → Nat
  | .fp32 | .int32 => 32
  | .fp16 | .bf16 => 16
  | .e4m3 | .e5m2 | .int8 => 8
  | .e3m2 | .e2m3 => 6
  | .e2m1 | .int4 => 4

/-- Whether the format is an integer format. -/
def Elem.isInt : Elem → Bool
  | .int8 | .int4 | .int32 => true
  | _ => false

/-- Mantissa bits (R109). -/
def Elem.mant : Elem → Nat
  | .fp32 => 23 | .fp16 => 10 | .bf16 => 7 | .e4m3 => 3 | .e5m2 => 2 | .e3m2 => 2 | .e2m3 => 3 | .e2m1 => 1
  | _ => 0

/-- Exponent bits (R109). -/
def Elem.expo : Elem → Nat
  | .fp32 | .bf16 => 8 | .fp16 | .e5m2 => 5 | .e4m3 => 4 | .e3m2 => 3 | .e2m3 | .e2m1 => 2
  | _ => 0

/-- Exponent bias (R109). -/
def Elem.bias : Elem → Int
  | .fp32 | .bf16 => 127 | .fp16 | .e5m2 => 15 | .e4m3 => 7 | .e3m2 => 3 | .e2m3 | .e2m1 => 1
  | _ => 0

/-- Whether the format has infinities in the IEEE place: exponent all ones, mantissa 0 (R109). -/
def Elem.hasInf : Elem → Bool
  | .fp32 | .fp16 | .bf16 | .e5m2 => true
  | _ => false

/-- Canonical NaN (R113); the targets without NaN convert it to 0 (R124). -/
def Elem.nanBits : Elem → Nat
  | .fp32 => 0x7FC0_0000 | .fp16 => 0x7E00 | .bf16 => 0x7FC0 | .e4m3 => 0x7F | .e5m2 => 0x7E
  | _ => 0

/-- Largest finite magnitude of a floating format as an encoding without its sign (R109). -/
def Elem.maxBits : Elem → Nat
  | .fp32 => 0x7F7F_FFFF | .fp16 => 0x7BFF | .bf16 => 0x7F7F | .e4m3 => 0x7E | .e5m2 => 0x7B
  | .e3m2 => 0x1F | .e2m3 => 0x1F | .e2m1 => 0x7
  | .int8 => 127 | .int4 => 7 | .int32 => 0x7FFF_FFFF

/-- The value of an encoding (R110, R109). -/
def decodeElem (t : Elem) (w : Nat) : Num :=
  let b := w % 2 ^ t.width
  if t.isInt then
    let half := 2 ^ (t.width - 1)
    if b < half then .fin false b 0 else .fin true (2 * half - b) 0
  else
    let neg := 2 ^ (t.width - 1) ≤ b
    let m := b % 2 ^ t.mant
    let e := b / 2 ^ t.mant % 2 ^ t.expo
    let top := 2 ^ t.expo - 1
    if t.hasInf && e == top then
      if m = 0 then .inf neg else .nan
    else if t == .e4m3 && e == top && m == 7 then .nan
    else if e = 0 then .fin neg m (1 - t.bias - t.mant)
    else .fin neg (2 ^ t.mant + m) (e - t.bias - t.mant)

/-- An E8M0 scale byte of an MX block (R115). -/
def decodeE8M0 (x : Nat) : Num :=
  if x % 256 = 255 then .nan else .fin false 1 ((x % 256 : Nat) - 127)

/-- A UE4M4 scale byte of a KB16 block (R117). -/
def decodeUE4M4 (x : Nat) : Num :=
  let b := x % 256
  if b = 255 then .nan
  else if b / 16 = 0 then .fin false (b % 16) (-10)
  else .fin false (16 + b % 16) ((b / 16 : Nat) - 11)

/-- A block's scale byte under a scheme. -/
def decodeScale (sc : Scheme) (x : Nat) : Num :=
  match sc with
  | .unscaled => .fin false 1 0
  | .mx => decodeE8M0 x
  | .kb16 => decodeUE4M4 x

/-- The value of an element under a scheme: MXINT8 elements are n * 2^-6 (R116). -/
def elemValue (sc : Scheme) (t : Elem) (w : Nat) : Num :=
  match decodeElem t w with
  | .fin n m e => .fin n m (if sc = .mx ∧ t = .int8 then e - 6 else e)
  | x => x

/-- The exact product (R114, R131). -/
def Num.mul : Num → Num → Num
  | .nan, _ => .nan
  | _, .nan => .nan
  | .inf a, .inf b => .inf (a != b)
  | .inf a, .fin b m _ => if m = 0 then .nan else .inf (a != b)
  | .fin b m _, .inf a => if m = 0 then .nan else .inf (a != b)
  | .fin a m e, .fin b k f => .fin (a != b) (m * k) (e + f)

/-- The signed integer a finite value is at exponent `q`, for `q` not above its own exponent. -/
def signedAt (neg : Bool) (m : Nat) (e q : Int) : Int :=
  let v : Int := (m : Int) * 2 ^ (e - q).toNat
  if neg then -v else v

/-- The exact sum of two finite values; an exact zero is +0 unless both are -0 (R114). -/
def addFin (a : Bool) (m : Nat) (e : Int) (b : Bool) (k : Nat) (f : Int) : Num :=
  if m = 0 ∧ k = 0 then .fin (a && b) 0 0
  else if m = 0 then .fin b k f
  else if k = 0 then .fin a m e
  else
    let q := min e f
    let s := signedAt a m e q + signedAt b k f q
    if s = 0 then .fin false 0 0 else .fin (decide (s < 0)) s.natAbs q

/-- The exact sum of two values (R114, R131, R136). -/
def Num.add : Num → Num → Num
  | .nan, _ => .nan
  | _, .nan => .nan
  | .inf a, .inf b => if a = b then .inf a else .nan
  | .inf a, .fin _ _ _ => .inf a
  | .fin _ _ _, .inf a => .inf a
  | .fin a m e, .fin b k f => addFin a m e b k f

/-- Negation. -/
def Num.neg : Num → Num
  | .nan => .nan
  | .inf a => .inf (!a)
  | .fin a m e => .fin (!a) m e

/-- Whether a value is NaN. -/
def Num.isNan : Num → Bool
  | .nan => true
  | _ => false

/-- Whether a value is finite. -/
def Num.isFin : Num → Bool
  | .fin _ _ _ => true
  | _ => false

/-- The exact sum of a list of terms (R114, R135, R136). NaN and opposite infinities give NaN whatever the order. -/
def sumNum : List Num → Num
  | [] => .fin false 0 0
  | x :: t => t.foldl Num.add x

/-- Order of two values that are not NaN: -1, 0 or 1; the zeros are equal. -/
def cmpNum : Num → Num → Int
  | .inf a, .inf b => if a = b then 0 else if a then -1 else 1
  | .inf a, _ => if a then -1 else 1
  | _, .inf b => if b then 1 else -1
  | .fin a m e, .fin b k f =>
    let q := min e f
    let d := signedAt a m e q - signedAt b k f q
    if d < 0 then -1 else if d = 0 then 0 else 1
  | _, _ => 0

/-- Floor of log2 of `n / d`, for positive `n` and `d`. -/
def log2Ratio (n d : Nat) : Int :=
  let k : Int := (Nat.log2 n : Int) - (Nat.log2 d : Int)
  -- n / d lies in [2^(k-1), 2^(k+1))
  let reaches : Bool := if 0 ≤ k then decide (d * 2 ^ k.toNat ≤ n) else decide (d ≤ n * 2 ^ (-k).toNat)
  if reaches then k else k - 1

/-- `n / d * 2^e` rounded to a multiple of `2^q` (R122, R142): the multiple's count. `r` is the generator word. -/
def roundAt (mode : Rnd) (r : Nat) (n d : Nat) (e q : Int) : Nat :=
  let sh := e - q
  let num := if 0 ≤ sh then n * 2 ^ sh.toNat else n
  let den := if 0 ≤ sh then d else d * 2 ^ (-sh).toNat
  let fl := num / den
  let rem := num % den
  let up : Bool :=
    match mode with
    | .rtz => false
    | .rne => decide (den < 2 * rem) || (decide (2 * rem = den) && fl % 2 == 1)
    | .stoch => decide (2 ^ 32 ≤ r + rem * 2 ^ 32 / den) && decide (rem ≠ 0)
  if up then fl + 1 else fl

/-- The quantum a floating target rounds `n / d * 2^e` at, the exponent range unbounded above (R122). -/
def quantum (t : Elem) (n d : Nat) (e : Int) : Int :=
  if t.isInt then 0
  else max (log2Ratio n d + e - t.mant) (1 - t.bias - t.mant)

/-- Whether `m * 2^q` exceeds the magnitude of encoding `w` of `t`. -/
def exceeds (t : Elem) (m : Nat) (q : Int) (w : Nat) : Bool :=
  match decodeElem t w with
  | .fin _ k f => let z := min q f; decide (k * 2 ^ (f - z).toNat < m * 2 ^ (q - z).toNat)
  | _ => false

/-- The encoding of `m * 2^q` in a floating target, for a value the target represents and does not overflow. -/
def packFloat (t : Elem) (neg : Bool) (m : Nat) (q : Int) : Nat :=
  let sign := if neg then 2 ^ (t.width - 1) else 0
  if m < 2 ^ t.mant then sign + m
  else
    let carry := decide (2 ^ (t.mant + 1) ≤ m)
    let m' := if carry then m / 2 else m
    let q' := if carry then q + 1 else q
    sign + (q' + t.mant + t.bias).toNat * 2 ^ t.mant + (m' - 2 ^ t.mant)

/-- The two's-complement encoding of a sign and magnitude. -/
def packInt (t : Elem) (neg : Bool) (m : Nat) : Nat :=
  if neg && m != 0 then 2 ^ t.width - m else m

/-- What an overflow gives (R124). `rtzFinite`: under RTZ a finite source gives the largest magnitude. -/
def overflowBits (t : Elem) (neg sat : Bool) : Nat :=
  let sign := if neg then 2 ^ (t.width - 1) else 0
  if t.isInt then (if neg then 2 ^ (t.width - 1) else t.maxBits)
  else if sat then sign + t.maxBits
  else if t.hasInf then sign + (2 ^ t.expo - 1) * 2 ^ t.mant
  else if t == .e4m3 then t.nanBits
  else sign + t.maxBits

/-- Narrow the exact value `(-1)^neg * n / d * 2^e` into `t`, rounding once (R122, R124, R142). -/
def narrowRatio (t : Elem) (mode : Rnd) (sat : Bool) (r : Nat) (neg : Bool) (n d : Nat) (e : Int) : Nat :=
  let sign := if neg && !t.isInt then 2 ^ (t.width - 1) else 0
  if n = 0 then sign
  else
    let q := quantum t n d e
    let m := roundAt mode r n d e q
    if t.isInt then
      let lim := if neg then 2 ^ (t.width - 1) else t.maxBits
      if lim < m then overflowBits t neg sat else packInt t neg m
    else if exceeds t m q t.maxBits then overflowBits t neg (sat || mode == .rtz)
    else packFloat t neg m q

/-- Narrow any value into `t` (R122, R124). -/
def narrow (t : Elem) (mode : Rnd) (sat : Bool) (r : Nat) : Num → Nat
  | .nan => t.nanBits
  | .inf neg => overflowBits t neg sat
  | .fin neg m e => narrowRatio t mode sat r neg m 1 e

/-- Round to a lane format with RNE, overflowing to infinity (R131). -/
def roundLane (t : Elem) (x : Num) : Nat := narrow t .rne false 0 x

/-- Round to FP32 with RNE: RNE32 of R137. -/
def rne32 (x : Num) : Nat := roundLane .fp32 x

/-- The value of an FP32 word. -/
def fp32 (w : Nat) : Num := decodeElem .fp32 w

/-- FP32 addition with the rounding of R131. -/
def addFp32 (a b : Nat) : Nat := rne32 (Num.add (fp32 a) (fp32 b))

/-- Integer square root by Newton's steps; `fuel` bounds the steps. -/
def isqrtGo (n : Nat) : Nat → Nat → Nat
  | 0, x => x
  | fuel + 1, x => let y := (x + n / x) / 2; if x ≤ y then x else isqrtGo n fuel y

/-- Integer square root, rounded down. -/
def isqrt (n : Nat) : Nat := if n = 0 then 0 else isqrtGo n (Nat.log2 n + 8) (2 ^ (Nat.log2 n / 2 + 1))

/-- Correctly rounded reciprocal (R133). -/
def rcpLane (t : Elem) (x : Num) : Nat :=
  match x with
  | .nan => t.nanBits
  | .inf neg => narrowRatio t .rne false 0 neg 0 1 0
  | .fin neg m e => if m = 0 then overflowBits t neg false else narrowRatio t .rne false 0 neg 1 m (-e)

/-- Correctly rounded reciprocal square root (R133). A sticky bit below a 64-bit root decides every rounding. -/
def rsqrtLane (t : Elem) (x : Num) : Nat :=
  match x with
  | .nan => t.nanBits
  | .inf neg => if neg then t.nanBits else 0
  | .fin neg m e =>
    if m = 0 then overflowBits t neg false
    else if neg then t.nanBits
    else
      let m' := if e % 2 = 0 then m else 2 * m
      let h := (if e % 2 = 0 then e else e - 1) / 2
      -- 1 / sqrt (m' * 4^h) = 2^-h / sqrt m'
      let k := 64 + Nat.log2 m'
      let q := 4 ^ k / m'
      let root := isqrt q
      let exact := decide (root * root * m' = 4 ^ k)
      narrowRatio t .rne false 0 false (if exact then 2 * root else 2 * root + 1) 1 (-h - k - 1)

/-- Working precision of the power of two, in fraction bits. -/
def exp2Bits : Nat := 256

/-- `2^f` for the fraction `f = frac / 2^len` (below 1), scaled by `2^exp2Bits`, rounded down: the product of the successive
square roots of 2 that the bits of `f` select, most significant bit first. -/
def exp2Frac : Nat → Nat → Nat → Nat → Nat
  | 0, _, _, acc => acc
  | len + 1, frac, root, acc =>
    let root' := isqrt (root * 2 ^ exp2Bits)
    let acc' := if frac / 2 ^ len % 2 = 1 then acc * root' / 2 ^ exp2Bits else acc
    exp2Frac len frac root' acc'

/-- Correctly rounded power of two (R133). `2^f` is irrational for a fraction `f` other than 0, so no tie occurs; 256 fraction
bits are taken to decide every rounding. DEDUCED (log entry 2). -/
def exp2Lane (t : Elem) (x : Num) : Nat :=
  match x with
  | .nan => t.nanBits
  | .inf neg => if neg then 0 else overflowBits t false false
  | .fin neg m e =>
    if m = 0 then roundLane t (.fin false 1 0)
    else if 0 ≤ e + (Nat.log2 m : Int) - 12 then
      -- magnitude at or above 4,096: beyond every lane format
      if neg then 0 else overflowBits t false false
    else if e + (Nat.log2 m : Int) + 64 < 0 then
      -- magnitude below 2^-64: within half a unit of 1
      roundLane t (.fin false 1 0)
    else
      let len := (-(min e 0)).toNat
      let v : Int := signedAt neg m e (min e 0)
      let i := v / (2 ^ len : Nat)
      let f := (v % (2 ^ len : Nat)).toNat
      if f = 0 then roundLane t (.fin false 1 i)
      else
        let g := exp2Frac len f (2 * 2 ^ exp2Bits) (2 ^ exp2Bits)
        narrowRatio t .rne false 0 false (2 * g + 1) 1 (i - exp2Bits - 1)

/-- One round of Philox-4x32 on a counter under a key (R144). -/
def philoxRound (c : Nat × Nat × Nat × Nat) (k0 k1 : Nat) : Nat × Nat × Nat × Nat :=
  let p0 := 0xD2511F53 * c.1
  let p1 := 0xCD9E8D57 * c.2.2.1
  (Nat.xor (Nat.xor (p1 / 2 ^ 32) c.2.1) k0, p1 % 2 ^ 32, Nat.xor (Nat.xor (p0 / 2 ^ 32) c.2.2.2) k1, p0 % 2 ^ 32)

/-- `n` rounds of Philox with the key schedule of R144. -/
def philoxGo : Nat → Nat × Nat × Nat × Nat → Nat → Nat → Nat × Nat × Nat × Nat
  | 0, c, _, _ => c
  | n + 1, c, k0, k1 => philoxGo n (philoxRound c k0 k1) ((k0 + 0x9E3779B9) % 2 ^ 32) ((k1 + 0xBB67AE85) % 2 ^ 32)

/-- The generator of R144: Philox-4x32-10. -/
def philox (c : Nat × Nat × Nat × Nat) (k0 k1 : Nat) : Nat × Nat × Nat × Nat := philoxGo 10 c k0 k1

/-- The generator word of element `i` of tensor `tau` under a seed (R143). -/
def genWord (seed tau i : Nat) : Nat :=
  let o := philox (i / 4 % 2 ^ 32, i / 4 / 2 ^ 32, tau, 0) (seed % 2 ^ 32) (seed / 2 ^ 32 % 2 ^ 32)
  match i % 4 with
  | 0 => o.1
  | 1 => o.2.1
  | 2 => o.2.2.1
  | _ => o.2.2.2

/-- Whether R118 permits an element format under a scheme. DESIGN CHOICE (log entry 129): INT32, for which its table has no row, it does not permit. -/
def schemeOk (sc : Scheme) (t : Elem) : Bool :=
  match sc, t with
  | .unscaled, _ => true
  | .mx, .e4m3 => true
  | .mx, .e5m2 => true
  | .mx, .e3m2 => true
  | .mx, .e2m3 => true
  | .mx, .e2m1 => true
  | .mx, .int8 => true
  | .kb16, .e4m3 => true
  | .kb16, .e3m2 => true
  | .kb16, .e2m3 => true
  | .kb16, .e2m1 => true
  | .kb16, .int8 => true
  | .kb16, .int4 => true
  | _, _ => false

/-- The scheme codes of R119 and R153. -/
def schemeOfCode (n : Nat) : Option Scheme :=
  match n with
  | 0 => some .unscaled
  | 1 => some .mx
  | 2 => some .kb16
  | _ => none

/-- The rounding codes of R119. -/
def rndOfCode (n : Nat) : Option Rnd :=
  match n with
  | 0 => some .rne
  | 1 => some .rtz
  | 2 => some .stoch
  | _ => none

/-- Exponent of the largest normal of an MX element format (R126). -/
def mxEmax : Elem → Int
  | .e4m3 => 8 | .e5m2 => 15 | .e3m2 => 4 | .e2m3 => 2 | .e2m1 => 2
  | _ => 0

/-- The magnitude of a finite value, 0 for the others, as a count and an exponent. -/
def magOf : Num → Nat × Int
  | .fin _ m e => (m, e)
  | _ => (0, 0)

/-- Largest magnitude of a block (R126, R127). -/
def blockMax (vs : List Num) : Nat × Int :=
  vs.foldl (fun b v =>
    let a := magOf v
    if cmpNum (.fin false b.1 b.2) (.fin false a.1 a.2) < 0 then a else b) (0, 0)

/-- Quantise one MX block (R126): its scale byte and elements. `rs` are the generator words of its lanes. -/
def quantMx (t : Elem) (mode : Rnd) (vs : List Num) (rs : List Nat) : Nat × List Nat :=
  if vs.any (fun v => !v.isFin) then (0xFF, vs.map (fun _ => 0))
  else
    let m := blockMax vs
    if m.1 = 0 then (0, vs.map (fun _ => 0))
    else
      let e := max ((Nat.log2 m.1 : Int) + m.2 - mxEmax t) (-127)
      ((e + 127).toNat,
       (vs.zip rs).map (fun p =>
         match p.1 with
         | .fin neg n x => narrowRatio t mode true p.2 neg n 1 (x - e + (if t = .int8 then 6 else 0))
         | _ => 0))

/-- Largest element value of a KB16 element format, as `n * 2^e` (R127). -/
def kbEmax : Elem → Nat × Int
  | .e4m3 => (448, 0) | .e3m2 => (28, 0) | .e2m3 => (15, -1) | .e2m1 => (6, 0) | .int8 => (127, 0) | .int4 => (7, 0)
  | _ => (1, 0)

/-- The smallest UE4M4 scale byte whose value times `T * Emax` is at least `m`, or that of 480 (R127). -/
def kbScale (t : Elem) (tz : Int) (m : Nat × Int) : Nat :=
  let em := kbEmax t
  match (List.range 255).find? (fun c =>
      match decodeUE4M4 c with
      | .fin _ k f => decide (0 ≤ cmpNum (.fin false (k * em.1) (f + tz + em.2)) (.fin false m.1 m.2))
      | _ => false) with
  | some c => c
  | none => 0xFE

/-- Narrow for a KB16 element: rounded once, clipped symmetrically at the largest element (R127). -/
def kbNarrow (t : Elem) (mode : Rnd) (r : Nat) (neg : Bool) (n d : Nat) (e : Int) : Nat :=
  let em := kbEmax t
  if t.isInt then
    let m := if n = 0 then 0 else roundAt mode r n d e 0
    packInt t neg (min m em.1)
  else narrowRatio t mode true r neg n d e

/-- Quantise one KB16 block under tensor exponent byte `z` (R127): its scale byte and elements. -/
def quantKb (t : Elem) (mode : Rnd) (z : Nat) (vs : List Num) (rs : List Nat) : Nat × List Nat :=
  if z = 255 then (0xFF, vs.map (fun _ => 0))
  else if vs.any (fun v => !v.isFin) then (0xFF, vs.map (fun _ => 0))
  else
    let m := blockMax vs
    if m.1 = 0 then (0, vs.map (fun _ => 0))
    else
      let tz : Int := (z : Int) - 127
      let c := kbScale t tz m
      let sv := magOf (decodeUE4M4 c)
      (c, (vs.zip rs).map (fun p =>
        match p.1 with
        | .fin neg n x => kbNarrow t mode p.2 neg n sv.1 (x - sv.2 - tz)
        | _ => 0))

/-- Dequantise one element (R128): element times scale times tensor exponent, rounded once to FP32. DESIGN CHOICE (log entry 129): an infinite
E5M2 element under SAT = 1 saturates as an overflow does. -/
def dequant (sc : Scheme) (t : Elem) (mode : Rnd) (sat : Bool) (r : Nat) (scale z : Nat) (w : Nat) : Nat :=
  let tens : Num := if sc = .kb16 then decodeE8M0 z else .fin false 1 0
  narrow .fp32 mode sat r (Num.mul (Num.mul (elemValue sc t w) (decodeScale sc scale)) tens)

/-- MAX or MIN of R132: NaN if either is NaN, -0 below +0. -/
def pickLane (t : Elem) (wantMax : Bool) (a b : Nat) : Nat :=
  let x := decodeElem t a
  let y := decodeElem t b
  if x.isNan || y.isNan then t.nanBits
  else
    let c := cmpNum x y
    let aNeg := decide (2 ^ (t.width - 1) ≤ a)
    let aLess := decide (c < 0) || (decide (c = 0) && aNeg)
    if wantMax then (if aLess then b else a) else (if aLess then a else b)

/-- The conditions of CMP and SETP (R72): 0 EQ, 1 NE, 2 LT, 3 LE, 4 GT, 5 GE, from an order of -1, 0 or 1. -/
def condHolds (cond : Nat) (ord : Int) : Bool :=
  match cond with
  | 0 => decide (ord = 0)
  | 1 => decide (ord ≠ 0)
  | 2 => decide (ord < 0)
  | 3 => decide (ord ≤ 0)
  | 4 => decide (0 < ord)
  | _ => decide (0 ≤ ord)

/-- A CMP lane (R72, R132). -/
def cmpLane (t : Elem) (cond : Nat) (a b : Nat) : Bool :=
  let x := decodeElem t a
  let y := decodeElem t b
  if x.isNan || y.isNan then cond == 1 else condHolds cond (cmpNum x y)

/-- An FP32 pair (R140). -/
structure Pair where
  h : Nat
  l : Nat
deriving DecidableEq, Repr

/-- Pair addition of an exact value (R140). -/
def pairAdd (p : Pair) (y : Num) : Pair :=
  let s := Num.add (Num.add (fp32 p.h) (fp32 p.l)) y
  let h := rne32 s
  match s with
  | .nan => ⟨0x7FC0_0000, 0⟩
  | _ =>
    match fp32 h with
    | .fin _ _ _ => ⟨h, rne32 (Num.add s (Num.neg (fp32 h)))⟩
    | .inf _ => ⟨h, 0⟩
    | .nan => ⟨0x7FC0_0000, 0⟩

/-- The tree of R139 over the 16 exact products of a 16-bit chunk. -/
def tree16 (ps : List Num) : Nat :=
  let rec2 := fun (xs : List Num) => (List.range (xs.length / 2)).map (fun i =>
    rne32 (Num.add (xs.getD (2 * i) (.fin false 0 0)) (xs.getD (2 * i + 1) (.fin false 0 0))))
  let l1 := rec2 ps
  let l2 := rec2 (l1.map fp32)
  let l3 := rec2 (l2.map fp32)
  (rec2 (l3.map fp32)).getD 0 0

end Sys2Proof.Machine
end

