-- ==== Sys2Proof/Config.lean ====
section
/-!
DEFINITION. What the manual leaves open: values it does not fix (free values), and functions of keys, certificates and formats that it
does not give. None has a body, so no proof can rest on what it is.
-/
namespace Sys2Proof.Config

/-- The free value of draw `n`, `w` bits wide: what a result is where the manual gives none (log entry 3). -/
opaque freeBits (w n : Nat) : BitVec w

/-- The next state of an edge die's 32-bit xorshift generator, whose shifts R372 does not give; it affects timing only. Log entry 4. -/
opaque xorshift (x : BitVec 32) : BitVec 32

/-- The keys that fill `n` of the slots drew from the DRBG (R506): an AES-256-XTS key pair in the low 512 bits, the export key above it. Log entry 4. -/
opaque drbgKeys (n : Nat) : BitVec 768

/-- AES-256-XTS of one 64-byte line under a key pair, with the line number as tweak (R308): encryption and decryption. A published standard. Log entry 4. -/
opaque xtsSeal (key : BitVec 512) (tweak : Nat) (line : BitVec 512) : BitVec 512
opaque xtsOpen (key : BitVec 512) (tweak : Nat) (line : BitVec 512) : BitVec 512

/-- Ciphertext and 16-byte tag of AES-256-GCM under the key of that name (R519). The algorithm is a published standard. Log entry 4. -/
opaque gcmSeal (key iv : Nat) (aad text : List Byte) : List Byte

/-- Measurement 1 (R509): the digest of the steward ROM, which the manual does not give. Log entry 17. -/
opaque stewardRom : BitVec 384

/-- The DeviceID certificate chain (R504, R508): fixed for the life of the panel, or that of the public value once the fuse is blown. Log entry 17. -/
opaque deviceChain (udsBlown : Bool) : List Byte

/-- The alias certificate chain: it follows the firmware section's digest, the security version and the lifecycle state (R504). Log entry 17. -/
opaque aliasChain (udsBlown : Bool) (firmware : BitVec 384) (secVersion lifecycle : Nat) : List Byte

/-- A signature by the alias key (R508). Log entry 17. -/
opaque aliasSign (udsBlown : Bool) (firmware : BitVec 384) (secVersion lifecycle : Nat) (msg : List Byte) : List Byte

/-- What the verifier finds in the token that bytes of SEC_TOKEN spell; the manual leaves the layout open (R502). Log entry 17. -/
opaque tokenOf (bytes : List Byte) : Token

/-- What the image loader finds in the bytes at BOOT_LOAD_SRC (R468); the manual leaves the section bodies' formats open. Log entry 6. -/
opaque schedImageOf (bytes : List Byte) : SchedImage

/-- The MAC address of a management port, derived from the serial by a rule that the manual does not give (R533). Log entry 18. -/
opaque macAddress (serial0 serial1 : BitVec 64) (port : Nat) : BitVec 48

/-- The register access that the payload of a CSR_REQ packet spells: the word of a write, none for a read. R226 does not give the layout. Log entry 134. -/
opaque csrRequest (payload : List Byte) : Option (BitVec 64)

/-- The payload of the CSR_RSP that says whether an access was accepted and what it read (R226). Log entry 134. -/
opaque csrReply (ok : Bool) (data : Nat) : List Byte

end Sys2Proof.Config
end

