-- ==== Sys2Proof/Machine/Digest.lean ====
section
/-!
DEFINITION. The two digests that the manual names by their standards: SHA-384 (R42, R195, R402, R418, R454, R509) and CRC-32 with the IEEE 802.3
polynomial (R225, R314, R371). Their definitions come from the standards. PRESUMED (log entry 20).
-/
namespace Sys2Proof.Machine

/-- The 64-bit constants of SHA-384's rounds: the first 64 bits of the fractional parts of the cube roots of the first 80 primes. -/
def shaRounds : List Nat :=
  [0x428A_2F98_D728_AE22, 0x7137_4491_23EF_65CD, 0xB5C0_FBCF_EC4D_3B2F, 0xE9B5_DBA5_8189_DBBC,
   0x3956_C25B_F348_B538, 0x59F1_11F1_B605_D019, 0x923F_82A4_AF19_4F9B, 0xAB1C_5ED5_DA6D_8118,
   0xD807_AA98_A303_0242, 0x1283_5B01_4570_6FBE, 0x2431_85BE_4EE4_B28C, 0x550C_7DC3_D5FF_B4E2,
   0x72BE_5D74_F27B_896F, 0x80DE_B1FE_3B16_96B1, 0x9BDC_06A7_25C7_1235, 0xC19B_F174_CF69_2694] ++
  [0xE49B_69C1_9EF1_4AD2, 0xEFBE_4786_384F_25E3, 0x0FC1_9DC6_8B8C_D5B5, 0x240C_A1CC_77AC_9C65,
   0x2DE9_2C6F_592B_0275, 0x4A74_84AA_6EA6_E483, 0x5CB0_A9DC_BD41_FBD4, 0x76F9_88DA_8311_53B5,
   0x983E_5152_EE66_DFAB, 0xA831_C66D_2DB4_3210, 0xB003_27C8_98FB_213F, 0xBF59_7FC7_BEEF_0EE4,
   0xC6E0_0BF3_3DA8_8FC2, 0xD5A7_9147_930A_A725, 0x06CA_6351_E003_826F, 0x1429_2967_0A0E_6E70] ++
  [0x27B7_0A85_46D2_2FFC, 0x2E1B_2138_5C26_C926, 0x4D2C_6DFC_5AC4_2AED, 0x5338_0D13_9D95_B3DF,
   0x650A_7354_8BAF_63DE, 0x766A_0ABB_3C77_B2A8, 0x81C2_C92E_47ED_AEE6, 0x9272_2C85_1482_353B,
   0xA2BF_E8A1_4CF1_0364, 0xA81A_664B_BC42_3001, 0xC24B_8B70_D0F8_9791, 0xC76C_51A3_0654_BE30,
   0xD192_E819_D6EF_5218, 0xD699_0624_5565_A910, 0xF40E_3585_5771_202A, 0x106A_A070_32BB_D1B8] ++
  [0x19A4_C116_B8D2_D0C8, 0x1E37_6C08_5141_AB53, 0x2748_774C_DF8E_EB99, 0x34B0_BCB5_E19B_48A8,
   0x391C_0CB3_C5C9_5A63, 0x4ED8_AA4A_E341_8ACB, 0x5B9C_CA4F_7763_E373, 0x682E_6FF3_D6B2_B8A3,
   0x748F_82EE_5DEF_B2FC, 0x78A5_636F_4317_2F60, 0x84C8_7814_A1F0_AB72, 0x8CC7_0208_1A64_39EC,
   0x90BE_FFFA_2363_1E28, 0xA450_6CEB_DE82_BDE9, 0xBEF9_A3F7_B2C6_7915, 0xC671_78F2_E372_532B] ++
  [0xCA27_3ECE_EA26_619C, 0xD186_B8C7_21C0_C207, 0xEADA_7DD6_CDE0_EB1E, 0xF57D_4F7F_EE6E_D178,
   0x06F0_67AA_7217_6FBA, 0x0A63_7DC5_A2C8_98A6, 0x113F_9804_BEF9_0DAE, 0x1B71_0B35_131C_471B,
   0x28DB_77F5_2304_7D84, 0x32CA_AB7B_40C7_2493, 0x3C9E_BE0A_15C9_BEBC, 0x431D_67C4_9C10_0D4C,
   0x4CC5_D4BE_CB3E_42B6, 0x597F_299C_FC65_7E2A, 0x5FCB_6FAB_3AD6_FAEC, 0x6C44_198C_4A47_5817]

/-- The eight words of a SHA-384 state. -/
structure ShaWords where
  a : Nat
  b : Nat
  c : Nat
  d : Nat
  e : Nat
  f : Nat
  g : Nat
  h : Nat
deriving DecidableEq, Repr

/-- The initial state: the fractional parts of the square roots of the ninth to sixteenth primes. -/
def shaInit : ShaWords :=
  ⟨0xCBBB_9D5D_C105_9ED8, 0x629A_292A_367C_D507, 0x9159_015A_3070_DD17, 0x152F_ECD8_F70E_5939,
   0x6733_2667_FFC0_0B31, 0x8EB4_4A87_6858_1511, 0xDB0C_2E0D_64F9_8FA7, 0x47B5_481D_BEFA_4FA4⟩

/-- A 64-bit word rotated right by `n`. -/
def rotr (n x : Nat) : Nat := x / 2 ^ n + x % 2 ^ n * 2 ^ (64 - n)

/-- One round on the window of the next 16 message words and the state. -/
def shaRound (ws : List Nat) (s : ShaWords) (k : Nat) : List Nat × ShaWords :=
  let w := ws.getD 0 0
  let u := ws.getD 1 0
  let v := ws.getD 14 0
  let next := (w + Nat.xor (Nat.xor (rotr 1 u) (rotr 8 u)) (u / 2 ^ 7) + ws.getD 9 0 + Nat.xor (Nat.xor (rotr 19 v) (rotr 61 v)) (v / 2 ^ 6)) % 2 ^ 64
  let ch := Nat.xor (Nat.land s.e s.f) (Nat.land (2 ^ 64 - 1 - s.e) s.g)
  let maj := Nat.xor (Nat.xor (Nat.land s.a s.b) (Nat.land s.a s.c)) (Nat.land s.b s.c)
  let t1 := s.h + Nat.xor (Nat.xor (rotr 14 s.e) (rotr 18 s.e)) (rotr 41 s.e) + ch + k + w
  let t2 := Nat.xor (Nat.xor (rotr 28 s.a) (rotr 34 s.a)) (rotr 39 s.a) + maj
  (ws.drop 1 ++ [next], ⟨(t1 + t2) % 2 ^ 64, s.a, s.b, s.c, (s.d + t1) % 2 ^ 64, s.e, s.f, s.g⟩)

/-- A block of 128 bytes as sixteen words, the first byte the most significant. -/
def shaBlock (bs : List Byte) : List Nat := (List.range 16).map (fun i => ((bs.drop (8 * i)).take 8).foldl (fun acc b => acc * 256 + b.toNat) 0)

/-- The state after a block. -/
def shaStep (s : ShaWords) (bs : List Byte) : ShaWords :=
  let r := (shaRounds.foldl (fun p k => shaRound p.1 p.2 k) (shaBlock bs, s)).2
  let add := fun (x y : Nat) => (x + y) % 2 ^ 64
  ⟨add s.a r.a, add s.b r.b, add s.c r.c, add s.d r.d, add s.e r.e, add s.f r.f, add s.g r.g, add s.h r.h⟩

/-- The message padded to whole blocks: a one bit, zeros, and its length in bits as 128 bits. -/
def shaPad (bs : List Byte) : List Byte :=
  bs ++ [0x80#8] ++ List.replicate ((239 - bs.length % 128) % 128) 0#8 ++ (List.range 16).map (fun i => BitVec.ofNat 8 (8 * bs.length / 2 ^ (8 * (15 - i))))

/-- SHA-384 of a byte string; output byte 0 is the least significant of the 384 bits (R198, R418). -/
@[irreducible] def sha384 (bs : List Byte) : BitVec 384 :=
  let m := shaPad bs
  let s := (List.range (m.length / 128)).foldl (fun s i => shaStep s ((m.drop (128 * i)).take 128)) shaInit
  let swap := fun (w : Nat) => (List.range 8).foldl (fun acc i => acc + w / 2 ^ (8 * (7 - i)) % 256 * 2 ^ (8 * i)) 0
  BitVec.ofNat 384 (swap s.a + swap s.b * 2 ^ 64 + swap s.c * 2 ^ 128 + swap s.d * 2 ^ 192 + swap s.e * 2 ^ 256 + swap s.f * 2 ^ 320)

/-- CRC-32 of a byte string: reflected, from all ones, the result inverted. -/
@[irreducible] def crc32 (bs : List Byte) : BitVec 32 :=
  let bit := fun (c : Nat) => if c % 2 = 1 then Nat.xor (c / 2) 0xEDB8_8320 else c / 2
  let byte := fun (c : Nat) (b : Byte) => (List.range 8).foldl (fun c _ => bit c) (Nat.xor c b.toNat)
  BitVec.ofNat 32 (Nat.xor (bs.foldl byte 0xFFFF_FFFF) 0xFFFF_FFFF)

end Sys2Proof.Machine
end

