-- ==== Sys2Proof/Machine/Sparse.lean ====
section
/-!
DEFINITION. Sparse stores in one canonical form: keys strictly rising, no entry equal to what an unlisted key reads as.
Every store of the state is one of these, so equal contents are equal data.
-/
namespace Sys2Proof.Machine

/-- A store keyed by number. -/
abbrev Sparse (α : Type) := List (Nat × α)

/-- What key `k` reads as; `d` gives what an unlisted key reads as. -/
def sget {α : Type} (d : Nat → α) : Sparse α → Nat → α
  | [], k => d k
  | e :: t, k => bif e.1 == k then e.2 else sget d t k

/-- Put an entry into its place, replacing one of the same key. -/
def sins {α : Type} (k : Nat) (v : α) : Sparse α → Sparse α
  | [] => [(k, v)]
  | e :: t =>
    bif Nat.blt k e.1 then (k, v) :: e :: t
    else bif e.1 == k then (k, v) :: t
    else e :: sins k v t

/-- Write key `k`. Writing what an unlisted key reads as removes the entry. -/
def sput {α : Type} [DecidableEq α] (d : Nat → α) (k : Nat) (v : α) (m : Sparse α) : Sparse α :=
  if v = d k then m.filter (fun e => !(e.1 == k)) else sins k v m

/-- Change key `k` by a function. -/
def smod {α : Type} [DecidableEq α] (d : Nat → α) (k : Nat) (f : α → α) (m : Sparse α) : Sparse α :=
  sput d k (f (sget d m k)) m

/-- Write a list of entries, first to last. -/
def sputs {α : Type} [DecidableEq α] (d : Nat → α) (es : List (Nat × α)) (m : Sparse α) : Sparse α :=
  es.foldl (fun m e => sput d e.1 e.2 m) m

/-- Drop the keys that `p` holds of, so that they read as unlisted. -/
def sdrop {α : Type} (p : Nat → Bool) (m : Sparse α) : Sparse α :=
  m.filter (fun e => !(p e.1))

/-- Change every entry by a function. -/
def smap {α : Type} [DecidableEq α] (d : Nat → α) (f : α → α) (m : Sparse α) : Sparse α :=
  m.foldl (fun acc e => sput d e.1 (f e.2) acc) m

/-- Replace every key from `lo` below `hi` by the entries of `es`, whose keys lie in that range in rising order. -/
def sreplace {α : Type} (lo hi : Nat) (es : Sparse α) (m : Sparse α) : Sparse α :=
  m.filter (fun e => Nat.blt e.1 lo) ++ es ++ m.filter (fun e => Nat.ble hi e.1)

/-- The canonical form: keys strictly rising and above `lo`, no entry at its default. -/
def swfFrom {α : Type} [DecidableEq α] (d : Nat → α) : Option Nat → Sparse α → Bool
  | _, [] => true
  | lo, e :: t =>
    (match lo with | none => true | some l => Nat.blt l e.1) && !(decide (e.2 = d e.1)) && swfFrom d (some e.1) t

/-- The canonical form of a store. -/
def swf {α : Type} [DecidableEq α] (d : Nat → α) (m : Sparse α) : Bool := swfFrom d none m

end Sys2Proof.Machine
end

