-- ==== Sys2Proof/Machine/Regs.lean ====
section
/-!
DEFINITION. The register file of the panel: the address windows of 01_panel_and_floor_plan.md (R23, R24), every named register's address
and fields, its access codes (R10) and its reset value, from the register tables of the chapters.
-/
namespace Sys2Proof.Machine

/-- Access codes of R10. -/
inductive Acc where
  | ro | rw | rw1c | wo | rws | rwl
deriving DecidableEq, Repr

/-- A register field: lowest bit, width, access code. -/
structure Fld where
  lo : Nat
  len : Nat
  acc : Acc
deriving DecidableEq, Repr

/-- A register row: offset in its block, index strides and counts, reset value, whether it is a counter (R545), its fields. -/
structure RegRow where
  off : Nat
  dims : List (Nat × Nat)
  reset : Nat
  counter : Bool
  fields : List Fld
deriving DecidableEq, Repr

/-- The register blocks. -/
inductive Blk where
  | core
  | site
  | bsn
  | ril
  | csc
  | clk
  | pwrs
  | hbm
  | stm
  | suo
  | ec
  | secE
  | pPwr
  | pThm
  | pBoot
  | pFlt
  | pSec
  | pMgt
  | pTime
  | pPmu
  | pStm
  | pSuo
  | fn
deriving DecidableEq, Repr

/-- The value of a field. -/
def fget (f : Fld) (w : W64) : Nat := w.toNat / 2 ^ f.lo % 2 ^ f.len

/-- The word with a field replaced by the low bits of `v`. -/
def fset (f : Fld) (v : Nat) (w : W64) : W64 :=
  BitVec.ofNat 64 (w.toNat - fget f w * 2 ^ f.lo + v % 2 ^ f.len * 2 ^ f.lo)

/-- First address of a basin (R23). -/
def basinBase (k : Nat) : Nat := 0x0400_0000_0000 + k * 0x1000_0000
/-- First address of a site's registers (R23). -/
def siteCsr (k : Nat) : Nat := 0x0600_0000_0000 + k * 0x10_0000
/-- First address of an edge die's registers (R23). -/
def edgeCsr (e : Nat) : Nat := 0x0610_0000_0000 + e * 0x100_0000
/-- First address of the panel-level registers (R23). -/
def panelCsr : Nat := 0x0622_0000_0000
/-- Function pages have no GPA (R529); their registers are keyed above the 48-bit address space. -/
def fnKey (f : Nat) : Nat := 0x1_0000_0000_0000 + f * 0x1000
def baseSite (k : Nat) : Nat := siteCsr k
def baseBsn (k : Nat) : Nat := siteCsr k + 0x1_0000
def baseRil (k : Nat) : Nat := siteCsr k + 0x2_0000
def baseCsc (k : Nat) : Nat := siteCsr k + 0x3_0000
def basePwrs (k : Nat) : Nat := siteCsr k + 0x5_0000
def baseCore (g : Nat) : Nat := siteCsr (g / 64) + 0x8_0000 + g % 64 * 0x2000
/-- The clock block of a lockstep domain: a site's, or an edge die's (R302). -/
def baseClk (d : Nat) : Nat := bif Nat.blt d 144 then siteCsr d + 0x4_0000 else edgeCsr (d - 144) + 0x4000
def baseHbm (h : Nat) : Nat := edgeCsr (h / 2) + 0x10_0000 + h % 2 * 0x10_0000
def baseStm (e : Nat) : Nat := edgeCsr e + 0x40_0000
def baseSuo (e : Nat) : Nat := edgeCsr e + 0x60_0000
def baseEc (e : Nat) : Nat := edgeCsr e + 0x80_0000
def baseSecE (e : Nat) : Nat := edgeCsr e + 0xA0_0000
def basePPwr : Nat := panelCsr
def basePThm : Nat := panelCsr + 0x10_0000
def basePBoot : Nat := panelCsr + 0x20_0000
def basePFlt : Nat := panelCsr + 0x30_0000
def basePSec : Nat := panelCsr + 0x40_0000
def basePMgt : Nat := panelCsr + 0x50_0000
def basePTime : Nat := panelCsr + 0x60_0000
def basePPmu : Nat := panelCsr + 0x70_0000
def basePStm : Nat := panelCsr + 0x80_0000
def basePSuo : Nat := panelCsr + 0x90_0000
def baseFn (f : Nat) : Nat := fnKey f

/-! Register addresses. -/

/-- `BOOT_FPR_GEN` (R52). -/
def BOOT_FPR_GEN : Nat := basePBoot + 0x100
/-- `BOOT_FPR_HWM` (R53). -/
def BOOT_FPR_HWM : Nat := basePBoot + 0x108
/-- `CORE_CTRL` (R104). -/
def CORE_CTRL (g : Nat) : Nat := baseCore g + 0x0
/-- `CORE_START_SC` (R104). -/
def CORE_START_SC (g : Nat) : Nat := baseCore g + 0x8
/-- `CORE_STATUS` (R104). -/
def CORE_STATUS (g : Nat) : Nat := baseCore g + 0x10
/-- `CORE_SFAULT` (R104). -/
def CORE_SFAULT (g : Nat) : Nat := baseCore g + 0x18
/-- `CORE_SFAULT_SC` (R104). -/
def CORE_SFAULT_SC (g : Nat) : Nat := baseCore g + 0x20
/-- `CORE_SFAULT_BUNDLEn` (R104), i < 4. -/
def CORE_SFAULT_BUNDLEn (g i : Nat) : Nat := baseCore g + 0x40 + 8 * i
/-- `CORE_AREGn` (R104), i < 32. -/
def CORE_AREGn (g i : Nat) : Nat := baseCore g + 0x100 + 8 * i
/-- `CORE_PRED` (R104). -/
def CORE_PRED (g : Nat) : Nat := baseCore g + 0x200
/-- `CORE_LOOPn` (R104), i < 4. -/
def CORE_LOOPn (g i : Nat) : Nat := baseCore g + 0x210 + 8 * i
/-- `CORE_SR_SEED` (R146). -/
def CORE_SR_SEED (g : Nat) : Nat := baseCore g + 0x300
/-- `CORE_IM_CFG` (R176). -/
def CORE_IM_CFG (g : Nat) : Nat := baseCore g + 0x310
/-- `CORE_IM_STATUS` (R176). -/
def CORE_IM_STATUS (g : Nat) : Nat := baseCore g + 0x318
/-- `CORE_TUDESCn` (R176), i < 64. -/
def CORE_TUDESCn (g i : Nat) : Nat := baseCore g + 0x400 + 8 * i
/-- `BSN_CFG` (R197). -/
def BSN_CFG (k : Nat) : Nat := baseBsn k + 0x0
/-- `BSN_STATUS` (R197). -/
def BSN_STATUS (k : Nat) : Nat := baseBsn k + 0x8
/-- `BSN_SFAULT` (R197). -/
def BSN_SFAULT (k : Nat) : Nat := baseBsn k + 0x10
/-- `BSN_SFAULT_SC` (R197). -/
def BSN_SFAULT_SC (k : Nat) : Nat := baseBsn k + 0x18
/-- `BSN_ECC_LOG` (R197). -/
def BSN_ECC_LOG (k : Nat) : Nat := baseBsn k + 0x20
/-- `BSN_ECC_SC` (R197). -/
def BSN_ECC_SC (k : Nat) : Nat := baseBsn k + 0x28
/-- `BSN_SCRUB_STATUS` (R197). -/
def BSN_SCRUB_STATUS (k : Nat) : Nat := baseBsn k + 0x30
/-- `BSN_ZF_CTRL` (R197). -/
def BSN_ZF_CTRL (k : Nat) : Nat := baseBsn k + 0x40
/-- `BSN_DIG_CTRL` (R197). -/
def BSN_DIG_CTRL (k : Nat) : Nat := baseBsn k + 0x50
/-- `BSN_DIG_BASE` (R197). -/
def BSN_DIG_BASE (k : Nat) : Nat := baseBsn k + 0x58
/-- `BSN_DIG_LINES` (R197). -/
def BSN_DIG_LINES (k : Nat) : Nat := baseBsn k + 0x60
/-- `BSN_DIG_RESULTn` (R197), i < 6. -/
def BSN_DIG_RESULTn (k i : Nat) : Nat := baseBsn k + 0x80 + 8 * i
/-- `BSN_REGIONn` (R197), i < 192. -/
def BSN_REGIONn (k i : Nat) : Nat := baseBsn k + 0x1000 + 8 * i
/-- `RIL_STATUS` (R236). -/
def RIL_STATUS (k : Nat) : Nat := baseRil k + 0x0
/-- `RIL_SFAULT` (R236). -/
def RIL_SFAULT (k : Nat) : Nat := baseRil k + 0x10
/-- `RIL_SFAULT_SC` (R236). -/
def RIL_SFAULT_SC (k : Nat) : Nat := baseRil k + 0x18
/-- `RIL_LINK` (R236). -/
def RIL_LINK (k : Nat) : Nat := baseRil k + 0x20
/-- `RIL_LINK_ERR` (R236). -/
def RIL_LINK_ERR (k : Nat) : Nat := baseRil k + 0x28
/-- `RIL_DYN_ERR` (R236). -/
def RIL_DYN_ERR (k : Nat) : Nat := baseRil k + 0x30
/-- `RIL_LOAD_CTRL` (R236). -/
def RIL_LOAD_CTRL (k : Nat) : Nat := baseRil k + 0x40
/-- `RIL_LOAD_SRC` (R236). -/
def RIL_LOAD_SRC (k : Nat) : Nat := baseRil k + 0x48
/-- `RIL_READ_ADDR` (R236). -/
def RIL_READ_ADDR (k : Nat) : Nat := baseRil k + 0x50
/-- `RIL_READ_DATA` (R236). -/
def RIL_READ_DATA (k : Nat) : Nat := baseRil k + 0x58
/-- `RIL_PART` (R236). -/
def RIL_PART (k : Nat) : Nat := baseRil k + 0x60
/-- `RIL_CORRIDORn` (R236), i < 4. -/
def RIL_CORRIDORn (k i : Nat) : Nat := baseRil k + 0x80 + 8 * i
/-- `RIL_VIAn` (R236), i < 144. -/
def RIL_VIAn (k i : Nat) : Nat := baseRil k + 0x1000 + 8 * i
/-- `RIL_DPORTp_PKTS` (R236), i < 8. -/
def RIL_DPORTp_PKTS (k i : Nat) : Nat := baseRil k + 0x4000 + 64 * i
/-- `RIL_DPORTp_FLITS` (R236), i < 8. -/
def RIL_DPORTp_FLITS (k i : Nat) : Nat := baseRil k + 0x4008 + 64 * i
/-- `RIL_DPORTp_STALL` (R236), i < 8. -/
def RIL_DPORTp_STALL (k i : Nat) : Nat := baseRil k + 0x4010 + 64 * i
/-- `RIL_DPORTp_DEPTH_SUM` (R236), i < 8. -/
def RIL_DPORTp_DEPTH_SUM (k i : Nat) : Nat := baseRil k + 0x4018 + 64 * i
/-- `RIL_DPORTp_DEPTH` (R236), i < 8. -/
def RIL_DPORTp_DEPTH (k i : Nat) : Nat := baseRil k + 0x4020 + 64 * i
/-- `RIL_SPORTo_SLICES` (R236), i < 10. -/
def RIL_SPORTo_SLICES (k i : Nat) : Nat := baseRil k + 0x5000 + 8 * i
/-- `CSC_STATUS` (R259). -/
def CSC_STATUS (k : Nat) : Nat := baseCsc k + 0x0
/-- `CSC_SFAULT` (R259). -/
def CSC_SFAULT (k : Nat) : Nat := baseCsc k + 0x10
/-- `CSC_SFAULT_SC` (R259). -/
def CSC_SFAULT_SC (k : Nat) : Nat := baseCsc k + 0x18
/-- `CSC_SFAULT_TAG` (R259). -/
def CSC_SFAULT_TAG (k : Nat) : Nat := baseCsc k + 0x20
/-- `CSC_LOAD_CTRL` (R259). -/
def CSC_LOAD_CTRL (k : Nat) : Nat := baseCsc k + 0x40
/-- `CSC_LOAD_SRC` (R259). -/
def CSC_LOAD_SRC (k : Nat) : Nat := baseCsc k + 0x48
/-- `CSC_READ_ADDR` (R259). -/
def CSC_READ_ADDR (k : Nat) : Nat := baseCsc k + 0x50
/-- `CSC_READ_DATA` (R259). -/
def CSC_READ_DATA (k : Nat) : Nat := baseCsc k + 0x58
/-- `CSC_FRAMES` (R259). -/
def CSC_FRAMES (k : Nat) : Nat := baseCsc k + 0x100
/-- `CSC_LANE_OPS` (R259). -/
def CSC_LANE_OPS (k : Nat) : Nat := baseCsc k + 0x108
/-- `CSC_WAIT` (R259). -/
def CSC_WAIT (k : Nat) : Nat := baseCsc k + 0x110
/-- `CSC_NAN` (R259). -/
def CSC_NAN (k : Nat) : Nat := baseCsc k + 0x118
/-- `CSC_WRAP` (R259). -/
def CSC_WRAP (k : Nat) : Nat := baseCsc k + 0x120
/-- `CLK_STATUS` (R300). -/
def CLK_STATUS (d : Nat) : Nat := baseClk d + 0x0
/-- `CLK_HOLD` (R300). -/
def CLK_HOLD (d : Nat) : Nat := baseClk d + 0x8
/-- `CLK_HOLD_SC` (R300). -/
def CLK_HOLD_SC (d : Nat) : Nat := baseClk d + 0x10
/-- `CLK_STOP_SC` (R300). -/
def CLK_STOP_SC (d : Nat) : Nat := baseClk d + 0x18
/-- `CLK_BND_LOAD_CTRL` (R300). -/
def CLK_BND_LOAD_CTRL (d : Nat) : Nat := baseClk d + 0x40
/-- `CLK_BND_LOAD_SRC` (R300). -/
def CLK_BND_LOAD_SRC (d : Nat) : Nat := baseClk d + 0x48
/-- `CLK_BND_CFG` (R300). -/
def CLK_BND_CFG (d : Nat) : Nat := baseClk d + 0x50
/-- `CLK_BND_BASE` (R300). -/
def CLK_BND_BASE (d : Nat) : Nat := baseClk d + 0x58
/-- `CLK_BND_NEXT` (R300). -/
def CLK_BND_NEXT (d : Nat) : Nat := baseClk d + 0x60
/-- `CLK_BND_NEXT_SC` (R300). -/
def CLK_BND_NEXT_SC (d : Nat) : Nat := baseClk d + 0x68
/-- `CLK_HELD` (R300). -/
def CLK_HELD (d : Nat) : Nat := baseClk d + 0x100
/-- `CLK_STRETCHED` (R300). -/
def CLK_STRETCHED (d : Nat) : Nat := baseClk d + 0x108
/-- `CLK_CATCHUP` (R300). -/
def CLK_CATCHUP (d : Nat) : Nat := baseClk d + 0x110
/-- `CLK_WAIT` (R300). -/
def CLK_WAIT (d : Nat) : Nat := baseClk d + 0x118
/-- `CLK_WEIR_HOLDS` (R300). -/
def CLK_WEIR_HOLDS (d : Nat) : Nat := baseClk d + 0x120
/-- `WEIRn_STATUS` (R300), i < 10. -/
def WEIRn_STATUS (d i : Nat) : Nat := baseClk d + 0x800 + 8 * i
/-- `CLK_PANEL` (R302). -/
def CLK_PANEL : Nat := basePTime + 0x1000
/-- `CLK_HOLD_CTRL` (R302). -/
def CLK_HOLD_CTRL : Nat := basePTime + 0x1008
/-- `CLK_HOLD_STATUS` (R302). -/
def CLK_HOLD_STATUS : Nat := basePTime + 0x1010
/-- `CLK_HOLD_LAST` (R302). -/
def CLK_HOLD_LAST : Nat := basePTime + 0x1018
/-- `CLK_HOLD_LAST_SC` (R302). -/
def CLK_HOLD_LAST_SC : Nat := basePTime + 0x1020
/-- `CLK_HOLD_LAST_REL` (R302). -/
def CLK_HOLD_LAST_REL : Nat := basePTime + 0x1028
/-- `CLK_REF_STATUS` (R302). -/
def CLK_REF_STATUS : Nat := basePTime + 0x1040
/-- `CLK_REF_OFFSET` (R302). -/
def CLK_REF_OFFSET : Nat := basePTime + 0x1048
/-- `CLK_ATTN_MERGEDn` (R302), i < 3. -/
def CLK_ATTN_MERGEDn (i : Nat) : Nat := basePTime + 0x1080 + 8 * i
/-- `CLK_HOLDS` (R302). -/
def CLK_HOLDS : Nat := basePTime + 0x1100
/-- `CLK_HOLD_NS` (R302). -/
def CLK_HOLD_NS : Nat := basePTime + 0x1108
/-- `SITE_SIT_LOAD_CTRL` (R340). -/
def SITE_SIT_LOAD_CTRL (k : Nat) : Nat := baseSite k + 0x4000
/-- `SITE_SIT_LOAD_SRC` (R340). -/
def SITE_SIT_LOAD_SRC (k : Nat) : Nat := baseSite k + 0x4008
/-- `SITE_SIT_READ_ADDR` (R340). -/
def SITE_SIT_READ_ADDR (k : Nat) : Nat := baseSite k + 0x4010
/-- `SITE_SIT_READ_DATA` (R340). -/
def SITE_SIT_READ_DATA (k : Nat) : Nat := baseSite k + 0x4018
/-- `SITE_SIT_NOTIFY` (R340). -/
def SITE_SIT_NOTIFY (k : Nat) : Nat := baseSite k + 0x4020
/-- `SITE_STRM_SFAULT` (R340). -/
def SITE_STRM_SFAULT (k : Nat) : Nat := baseSite k + 0x4028
/-- `SITE_STRM_SFAULT_SC` (R340). -/
def SITE_STRM_SFAULT_SC (k : Nat) : Nat := baseSite k + 0x4030
/-- `SITE_STRM_DL` (R340). -/
def SITE_STRM_DL (k : Nat) : Nat := baseSite k + 0x4038
/-- `SITE_STRM_ISSUED` (R340). -/
def SITE_STRM_ISSUED (k : Nat) : Nat := baseSite k + 0x4100
/-- `SITE_STRM_DL_HOLDS` (R340). -/
def SITE_STRM_DL_HOLDS (k : Nat) : Nat := baseSite k + 0x4108
/-- `SITE_STRM_LANDED` (R340). -/
def SITE_STRM_LANDED (k : Nat) : Nat := baseSite k + 0x4110
/-- `HBM_STATUS` (R341). -/
def HBM_STATUS (h : Nat) : Nat := baseHbm h + 0x0
/-- `HBM_CFG` (R341). -/
def HBM_CFG (h : Nat) : Nat := baseHbm h + 0x8
/-- `HBM_ECC_LOG` (R341). -/
def HBM_ECC_LOG (h : Nat) : Nat := baseHbm h + 0x10
/-- `HBM_ECC_ADDR` (R341). -/
def HBM_ECC_ADDR (h : Nat) : Nat := baseHbm h + 0x18
/-- `HBM_ECC_SC` (R341). -/
def HBM_ECC_SC (h : Nat) : Nat := baseHbm h + 0x20
/-- `HBM_TEMP` (R341). -/
def HBM_TEMP (h : Nat) : Nat := baseHbm h + 0x28
/-- `HBM_CHc_RD` (R341), i < 32. -/
def HBM_CHc_RD (h i : Nat) : Nat := baseHbm h + 0x1000 + 64 * i
/-- `HBM_CHc_WR` (R341), i < 32. -/
def HBM_CHc_WR (h i : Nat) : Nat := baseHbm h + 0x1008 + 64 * i
/-- `HBM_CHc_CE` (R341), i < 32. -/
def HBM_CHc_CE (h i : Nat) : Nat := baseHbm h + 0x1010 + 64 * i
/-- `HBM_CHc_UE` (R341), i < 32. -/
def HBM_CHc_UE (h i : Nat) : Nat := baseHbm h + 0x1018 + 64 * i
/-- `HBM_CHc_ODECC` (R341), i < 32. -/
def HBM_CHc_ODECC (h i : Nat) : Nat := baseHbm h + 0x1020 + 64 * i
/-- `STM_ENG_STATUS` (R342). -/
def STM_ENG_STATUS (e : Nat) : Nat := baseStm e + 0x0
/-- `STM_CACHE_CTRL` (R342). -/
def STM_CACHE_CTRL (e : Nat) : Nat := baseStm e + 0x8
/-- `STM_ISSUE` (R342). -/
def STM_ISSUE (e : Nat) : Nat := baseStm e + 0x10
/-- `STM_ISSUE_STATUS` (R342). -/
def STM_ISSUE_STATUS (e : Nat) : Nat := baseStm e + 0x18
/-- `STM_SERR` (R342). -/
def STM_SERR (e : Nat) : Nat := baseStm e + 0x20
/-- `STM_SERR_SC` (R342). -/
def STM_SERR_SC (e : Nat) : Nat := baseStm e + 0x28
/-- `STM_ACCEPTED` (R342). -/
def STM_ACCEPTED (e : Nat) : Nat := baseStm e + 0x100
/-- `STM_COMPLETED` (R342). -/
def STM_COMPLETED (e : Nat) : Nat := baseStm e + 0x108
/-- `STM_HITS` (R342). -/
def STM_HITS (e : Nat) : Nat := baseStm e + 0x110
/-- `STM_WALKS` (R342). -/
def STM_WALKS (e : Nat) : Nat := baseStm e + 0x118
/-- `STM_WALK_WAIT` (R342). -/
def STM_WALK_WAIT (e : Nat) : Nat := baseStm e + 0x120
/-- `STM_BYTES` (R342). -/
def STM_BYTES (e : Nat) : Nat := baseStm e + 0x128
/-- `STM_ZERO` (R342). -/
def STM_ZERO (e : Nat) : Nat := baseStm e + 0x130
/-- `STM_RESENDS` (R342). -/
def STM_RESENDS (e : Nat) : Nat := baseStm e + 0x138
/-- `STM_LATE` (R342). -/
def STM_LATE (e : Nat) : Nat := baseStm e + 0x140
/-- `STM_TBL_BASE` (R343). -/
def STM_TBL_BASE : Nat := basePStm + 0x0
/-- `STM_TBL_WIDX` (R343). -/
def STM_TBL_WIDX : Nat := basePStm + 0x8
/-- `STM_TBL_WCTRL` (R343). -/
def STM_TBL_WCTRL : Nat := basePStm + 0x10
/-- `STM_TBL_WDATAn` (R343), i < 8. -/
def STM_TBL_WDATAn (i : Nat) : Nat := basePStm + 0x40 + 8 * i
/-- `SUO_ENG_STATUS` (R386). -/
def SUO_ENG_STATUS (e : Nat) : Nat := baseSuo e + 0x0
/-- `SUO_PROG_ERR` (R386). -/
def SUO_PROG_ERR (e : Nat) : Nat := baseSuo e + 0x10
/-- `SUO_PORTp_CFG` (R386), i < 8. -/
def SUO_PORTp_CFG (e i : Nat) : Nat := baseSuo e + 0x1000 + 512 * i
/-- `SUO_PORTp_STATUS` (R386), i < 8. -/
def SUO_PORTp_STATUS (e i : Nat) : Nat := baseSuo e + 0x1008 + 512 * i
/-- `SUO_PORTp_PARTNER` (R386), i < 8. -/
def SUO_PORTp_PARTNER (e i : Nat) : Nat := baseSuo e + 0x1010 + 512 * i
/-- `SUO_PORTp_PSN0` (R386), i < 8. -/
def SUO_PORTp_PSN0 (e i : Nat) : Nat := baseSuo e + 0x1018 + 512 * i
/-- `SUO_PORTp_PSN1` (R386), i < 8. -/
def SUO_PORTp_PSN1 (e i : Nat) : Nat := baseSuo e + 0x1020 + 512 * i
/-- `SUO_PORTp_LAT` (R386), i < 8. -/
def SUO_PORTp_LAT (e i : Nat) : Nat := baseSuo e + 0x1028 + 512 * i
/-- `SUO_PORTp_EPOCH` (R386), i < 8. -/
def SUO_PORTp_EPOCH (e i : Nat) : Nat := baseSuo e + 0x1030 + 512 * i
/-- `SUO_PORTp_SMAPn` (R386), i < 8, j < 16. -/
def SUO_PORTp_SMAPn (e i j : Nat) : Nat := baseSuo e + 0x1040 + 512 * i + 8 * j
/-- `SUO_PORTp_TXF` (R386), i < 8. -/
def SUO_PORTp_TXF (e i : Nat) : Nat := baseSuo e + 0x1100 + 512 * i
/-- `SUO_PORTp_RXF` (R386), i < 8. -/
def SUO_PORTp_RXF (e i : Nat) : Nat := baseSuo e + 0x1108 + 512 * i
/-- `SUO_PORTp_CWC` (R386), i < 8. -/
def SUO_PORTp_CWC (e i : Nat) : Nat := baseSuo e + 0x1110 + 512 * i
/-- `SUO_PORTp_CWU` (R386), i < 8. -/
def SUO_PORTp_CWU (e i : Nat) : Nat := baseSuo e + 0x1118 + 512 * i
/-- `SUO_PORTp_NAKS` (R386), i < 8. -/
def SUO_PORTp_NAKS (e i : Nat) : Nat := baseSuo e + 0x1120 + 512 * i
/-- `SUO_PORTp_RESENDS` (R386), i < 8. -/
def SUO_PORTp_RESENDS (e i : Nat) : Nat := baseSuo e + 0x1128 + 512 * i
/-- `SUO_PORTp_EPDROP` (R386), i < 8. -/
def SUO_PORTp_EPDROP (e i : Nat) : Nat := baseSuo e + 0x1130 + 512 * i
/-- `SUO_PORTp_OPTHOLD` (R386), i < 8. -/
def SUO_PORTp_OPTHOLD (e i : Nat) : Nat := baseSuo e + 0x1138 + 512 * i
/-- `SUO_PORTp_TAGFAIL` (R386), i < 8. -/
def SUO_PORTp_TAGFAIL (e i : Nat) : Nat := baseSuo e + 0x1140 + 512 * i
/-- `SUO_DYN_DROP` (R386), i < 8. -/
def SUO_DYN_DROP (e i : Nat) : Nat := baseSuo e + 0x1148 + 512 * i
/-- `SUO_GW_CFG` (R386). -/
def SUO_GW_CFG (e : Nat) : Nat := baseSuo e + 0x3000
/-- `SUO_GW_RXBASE` (R386). -/
def SUO_GW_RXBASE (e : Nat) : Nat := baseSuo e + 0x3008
/-- `SUO_GW_RXCTL` (R386). -/
def SUO_GW_RXCTL (e : Nat) : Nat := baseSuo e + 0x3010
/-- `SUO_GW_TXBASE` (R386). -/
def SUO_GW_TXBASE (e : Nat) : Nat := baseSuo e + 0x3018
/-- `SUO_GW_TXCTL` (R386). -/
def SUO_GW_TXCTL (e : Nat) : Nat := baseSuo e + 0x3020
/-- `SUO_GW_DROPS` (R386). -/
def SUO_GW_DROPS (e : Nat) : Nat := baseSuo e + 0x3028
/-- `SUO_PANEL` (R387). -/
def SUO_PANEL : Nat := basePSuo + 0x0
/-- `SUO_RT_CTRL` (R387). -/
def SUO_RT_CTRL : Nat := basePSuo + 0x8
/-- `SUO_RT_AGE` (R387). -/
def SUO_RT_AGE : Nat := basePSuo + 0x10
/-- `SUO_STRM_TMO` (R387). -/
def SUO_STRM_TMO : Nat := basePSuo + 0x18
/-- `SUO_RTc_n` (R387), i < 2, j < 128. -/
def SUO_RTc_n (i j : Nat) : Nat := basePSuo + 0x1000 + 1024 * i + 8 * j
/-- `SUO_VDOMc_n` (R387), i < 2, j < 16. -/
def SUO_VDOMc_n (i j : Nat) : Nat := basePSuo + 0x2000 + 128 * i + 8 * j
/-- `SUO_TRUNK_n` (R387), i < 8. -/
def SUO_TRUNK_n (i : Nat) : Nat := basePSuo + 0x3000 + 8 * i
/-- `STM_LD_CMD` (R417). -/
def STM_LD_CMD : Nat := basePStm + 0x1000
/-- `STM_LD_STATUS` (R417). -/
def STM_LD_STATUS : Nat := basePStm + 0x1008
/-- `STM_LD_PROGRESS` (R417). -/
def STM_LD_PROGRESS : Nat := basePStm + 0x1010
/-- `STM_LD_PSEL` (R417). -/
def STM_LD_PSEL : Nat := basePStm + 0x1018
/-- `STM_LD_PSTATE` (R417). -/
def STM_LD_PSTATE : Nat := basePStm + 0x1020
/-- `STM_LD_FEED` (R417). -/
def STM_LD_FEED : Nat := basePStm + 0x1028
/-- `STM_RD_CFG` (R417). -/
def STM_RD_CFG : Nat := basePStm + 0x1040
/-- `STM_RD_STATUS` (R417). -/
def STM_RD_STATUS : Nat := basePStm + 0x1048
/-- `STM_EG_CMD` (R417). -/
def STM_EG_CMD : Nat := basePStm + 0x2000
/-- `STM_EG_STATUS` (R417). -/
def STM_EG_STATUS : Nat := basePStm + 0x2008
/-- `STM_EC_CTRL` (R418). -/
def STM_EC_CTRL (e : Nat) : Nat := baseEc e + 0x0
/-- `STM_EC_SRC` (R418). -/
def STM_EC_SRC (e : Nat) : Nat := baseEc e + 0x8
/-- `STM_EC_DST` (R418). -/
def STM_EC_DST (e : Nat) : Nat := baseEc e + 0x10
/-- `STM_EC_LEN` (R418). -/
def STM_EC_LEN (e : Nat) : Nat := baseEc e + 0x18
/-- `STM_EC_DIGESTn` (R418), i < 6. -/
def STM_EC_DIGESTn (e i : Nat) : Nat := baseEc e + 0x40 + 8 * i
/-- `PWR_SITE_STATUS` (R448). -/
def PWR_SITE_STATUS (k : Nat) : Nat := basePwrs k + 0x0
/-- `PWR_SITE_POWER` (R448). -/
def PWR_SITE_POWER (k : Nat) : Nat := basePwrs k + 0x8
/-- `PWR_MINVr` (R448), i < 3. -/
def PWR_MINVr (k i : Nat) : Nat := basePwrs k + 0x20 + 32 * i
/-- `PWR_MINVr_SC` (R448), i < 3. -/
def PWR_MINVr_SC (k i : Nat) : Nat := basePwrs k + 0x28 + 32 * i
/-- `PWR_MINVr_TIME` (R448), i < 3. -/
def PWR_MINVr_TIME (k i : Nat) : Nat := basePwrs k + 0x30 + 32 * i
/-- `PWR_RDYNr` (R448), i < 3. -/
def PWR_RDYNr (k i : Nat) : Nat := basePwrs k + 0x38 + 32 * i
/-- `THM_SITE` (R448). -/
def THM_SITE (k : Nat) : Nat := basePwrs k + 0x100
/-- `THM_SITE_HEAD` (R448). -/
def THM_SITE_HEAD (k : Nat) : Nat := basePwrs k + 0x108
/-- `PWR_SITE_BOOSTS` (R448). -/
def PWR_SITE_BOOSTS (k : Nat) : Nat := basePwrs k + 0x200
/-- `PWR_SITE_MJ` (R448). -/
def PWR_SITE_MJ (k : Nat) : Nat := basePwrs k + 0x208
/-- `THM_SITE_THR_MS` (R448). -/
def THM_SITE_THR_MS (k : Nat) : Nat := basePwrs k + 0x210
/-- `PWR_CAP` (R449). -/
def PWR_CAP : Nat := basePPwr + 0x0
/-- `PWR_RAMP_UP` (R449). -/
def PWR_RAMP_UP : Nat := basePPwr + 0x8
/-- `PWR_RAMP_DOWN` (R449). -/
def PWR_RAMP_DOWN : Nat := basePPwr + 0x10
/-- `PWR_FLOOR` (R449). -/
def PWR_FLOOR : Nat := basePPwr + 0x18
/-- `PWR_STATUS` (R449). -/
def PWR_STATUS : Nat := basePPwr + 0x20
/-- `PWR_EVENTS` (R449). -/
def PWR_EVENTS : Nat := basePPwr + 0x28
/-- `PWR_INPUT` (R449). -/
def PWR_INPUT : Nat := basePPwr + 0x30
/-- `PWR_IBCq` (R449), i < 4. -/
def PWR_IBCq (i : Nat) : Nat := basePPwr + 0x50 + 8 * i
/-- `PWR_VSEL` (R449). -/
def PWR_VSEL : Nat := basePPwr + 0x80
/-- `PWR_ENERGY` (R449). -/
def PWR_ENERGY : Nat := basePPwr + 0x100
/-- `PWR_FLOOR_ENERGY` (R449). -/
def PWR_FLOOR_ENERGY : Nat := basePPwr + 0x108
/-- `PWR_DUTY_NS` (R449). -/
def PWR_DUTY_NS : Nat := basePPwr + 0x110
/-- `PWR_EMERGS` (R449). -/
def PWR_EMERGS : Nat := basePPwr + 0x118
/-- `PWR_FALLBACKS` (R449). -/
def PWR_FALLBACKS : Nat := basePPwr + 0x120
/-- `PWR_WAKE_DEFER` (R449). -/
def PWR_WAKE_DEFER : Nat := basePPwr + 0x128
/-- `THM_CFG` (R450). -/
def THM_CFG : Nat := basePThm + 0x0
/-- `THM_STATUS` (R450). -/
def THM_STATUS : Nat := basePThm + 0x8
/-- `THM_EVENTS` (R450). -/
def THM_EVENTS : Nat := basePThm + 0x10
/-- `THM_DIE_SEL` (R450). -/
def THM_DIE_SEL : Nat := basePThm + 0x20
/-- `THM_DIE_RTH` (R450). -/
def THM_DIE_RTH : Nat := basePThm + 0x28
/-- `THM_DIE_CYCn` (R450), i < 8. -/
def THM_DIE_CYCn (i : Nat) : Nat := basePThm + 0x40 + 8 * i
/-- `BOOT_STATUS` (R477). -/
def BOOT_STATUS : Nat := basePBoot + 0x0
/-- `BOOT_IMG` (R477). -/
def BOOT_IMG : Nat := basePBoot + 0x8
/-- `BOOT_LOCK` (R477). -/
def BOOT_LOCK : Nat := basePBoot + 0x10
/-- `BOOT_CFG` (R477). -/
def BOOT_CFG : Nat := basePBoot + 0x18
/-- `BOOT_RESET` (R477). -/
def BOOT_RESET : Nat := basePBoot + 0x20
/-- `BOOT_NET_ANNOUNCE` (R477). -/
def BOOT_NET_ANNOUNCE : Nat := basePBoot + 0x28
/-- `BOOT_READY` (R477). -/
def BOOT_READY : Nat := basePBoot + 0x30
/-- `BOOT_READY_NETn` (R477), i < 3. -/
def BOOT_READY_NETn (i : Nat) : Nat := basePBoot + 0x200 + 8 * i
/-- `BOOT_READY_SITEn` (R477), i < 3. -/
def BOOT_READY_SITEn (i : Nat) : Nat := basePBoot + 0x218 + 8 * i
/-- `BOOT_READY_HBMn` (R477), i < 16. -/
def BOOT_READY_HBMn (i : Nat) : Nat := basePBoot + 0x240 + 8 * i
/-- `BOOT_READY_PORTn` (R477), i < 2. -/
def BOOT_READY_PORTn (i : Nat) : Nat := basePBoot + 0x2C0 + 8 * i
/-- `BOOT_READY_SVC` (R477). -/
def BOOT_READY_SVC : Nat := basePBoot + 0x2D0
/-- `BOOT_LOAD_CMD` (R477). -/
def BOOT_LOAD_CMD : Nat := basePBoot + 0x300
/-- `BOOT_LOAD_SRC` (R477). -/
def BOOT_LOAD_SRC : Nat := basePBoot + 0x308
/-- `BOOT_LOAD_STATUSp` (R477), i < 4. -/
def BOOT_LOAD_STATUSp (i : Nat) : Nat := basePBoot + 0x320 + 8 * i
/-- `FUSE_INFO` (R478). -/
def FUSE_INFO : Nat := basePBoot + 0x3000
/-- `FUSE_SERIALn` (R478), i < 2. -/
def FUSE_SERIALn (i : Nat) : Nat := basePBoot + 0x3008 + 8 * i
/-- `FUSE_STACK_MASK` (R478). -/
def FUSE_STACK_MASK : Nat := basePBoot + 0x3018
/-- `FUSE_PORT_MASKn` (R478), i < 2. -/
def FUSE_PORT_MASKn (i : Nat) : Nat := basePBoot + 0x3020 + 8 * i
/-- `FUSE_GATEWAY` (R478). -/
def FUSE_GATEWAY : Nat := basePBoot + 0x3030
/-- `FUSE_SITE_STATEn` (R478), i < 5. -/
def FUSE_SITE_STATEn (i : Nat) : Nat := basePBoot + 0x3040 + 8 * i
/-- `FUSE_CORE_MASKn` (R478), i < 144. -/
def FUSE_CORE_MASKn (i : Nat) : Nat := basePBoot + 0x3400 + 8 * i
/-- `FUSE_VSETn` (R478), i < 144. -/
def FUSE_VSETn (i : Nat) : Nat := basePBoot + 0x3C00 + 8 * i
/-- `FLT_STATUS` (R500). -/
def FLT_STATUS : Nat := basePFlt + 0x0
/-- `FLT_LOG_ACK` (R500). -/
def FLT_LOG_ACK : Nat := basePFlt + 0x8
/-- `FLT_LOG_SEL` (R500). -/
def FLT_LOG_SEL : Nat := basePFlt + 0x10
/-- `FLT_LOG_DATAn` (R500), i < 8. -/
def FLT_LOG_DATAn (i : Nat) : Nat := basePFlt + 0x40 + 8 * i
/-- `FLT_ACCESS` (R500). -/
def FLT_ACCESS : Nat := basePFlt + 0x80
/-- `FLT_ACCESS_ADDR` (R500). -/
def FLT_ACCESS_ADDR : Nat := basePFlt + 0x88
/-- `FLT_LEASE` (R500). -/
def FLT_LEASE : Nat := basePFlt + 0x100
/-- `FLT_LEASE_RENEW` (R500). -/
def FLT_LEASE_RENEW : Nat := basePFlt + 0x108
/-- `FLT_LEASE_EXPIRY` (R500). -/
def FLT_LEASE_EXPIRY : Nat := basePFlt + 0x110
/-- `FLT_FENCE_CMD` (R500). -/
def FLT_FENCE_CMD : Nat := basePFlt + 0x180
/-- `FLT_STEWARD` (R500). -/
def FLT_STEWARD : Nat := basePFlt + 0x200
/-- `FLT_RECORDS` (R500). -/
def FLT_RECORDS : Nat := basePFlt + 0x300
/-- `FLT_RETIREMENTS` (R500). -/
def FLT_RETIREMENTS : Nat := basePFlt + 0x308
/-- `FLT_PUBLICATIONS` (R500). -/
def FLT_PUBLICATIONS : Nat := basePFlt + 0x310
/-- `FLT_TAKEOVERS` (R500). -/
def FLT_TAKEOVERS : Nat := basePFlt + 0x318
/-- `FLT_SELF_FENCES` (R500). -/
def FLT_SELF_FENCES : Nat := basePFlt + 0x320
/-- `FLT_ACCESS_ERRS` (R500). -/
def FLT_ACCESS_ERRS : Nat := basePFlt + 0x328
/-- `SEC_LIFECYCLE` (R525). -/
def SEC_LIFECYCLE : Nat := basePSec + 0x0
/-- `SEC_LC_CMD` (R525). -/
def SEC_LC_CMD : Nat := basePSec + 0x8
/-- `SEC_PART_CFG` (R525). -/
def SEC_PART_CFG : Nat := basePSec + 0x10
/-- `SEC_CORRIDOR` (R525). -/
def SEC_CORRIDOR : Nat := basePSec + 0x18
/-- `SEC_PARTp` (R525), i < 4. -/
def SEC_PARTp (i : Nat) : Nat := basePSec + 0x40 + 8 * i
/-- `SEC_ZEROIZE` (R525). -/
def SEC_ZEROIZE : Nat := basePSec + 0x80
/-- `SEC_SLOTS` (R525). -/
def SEC_SLOTS : Nat := basePSec + 0x88
/-- `SEC_KS_SEL` (R525). -/
def SEC_KS_SEL : Nat := basePSec + 0xC0
/-- `SEC_KS_INFO` (R525). -/
def SEC_KS_INFO : Nat := basePSec + 0xC8
/-- `SEC_KS_IDn` (R525), i < 2. -/
def SEC_KS_IDn (i : Nat) : Nat := basePSec + 0xD0 + 8 * i
/-- `SEC_PART_BINDp_n` (R525), i < 4, j < 6. -/
def SEC_PART_BINDp_n (i j : Nat) : Nat := basePSec + 0x100 + 64 * i + 8 * j
/-- `SEC_ZEROISES` (R525). -/
def SEC_ZEROISES : Nat := basePSec + 0x300
/-- `SEC_REFUSALS` (R525). -/
def SEC_REFUSALS : Nat := basePSec + 0x308
/-- `SEC_TOKEN` (R525), i < 1024. -/
def SEC_TOKEN (i : Nat) : Nat := basePSec + 0x10000 + 8 * i
/-- `SEC_EDGE_STATUS` (R526). -/
def SEC_EDGE_STATUS (e : Nat) : Nat := baseSecE e + 0x0
/-- `MGT_FN_ID` (R531). -/
def MGT_FN_ID (f : Nat) : Nat := baseFn f + 0x0
/-- `MGT_FN_APn` (R531), i < 4. -/
def MGT_FN_APn (f i : Nat) : Nat := baseFn f + 0x10 + 8 * i
/-- `MGT_FN_FR_BASE` (R531). -/
def MGT_FN_FR_BASE (f : Nat) : Nat := baseFn f + 0x40
/-- `MGT_FN_FR_CTL` (R531). -/
def MGT_FN_FR_CTL (f : Nat) : Nat := baseFn f + 0x48
/-- `MGT_FN_FPR_ADDR` (R531). -/
def MGT_FN_FPR_ADDR (f : Nat) : Nat := baseFn f + 0x50
/-- `MGT_FN_PS_BASE` (R531). -/
def MGT_FN_PS_BASE (f : Nat) : Nat := baseFn f + 0x60
/-- `MGT_FN_PS_CTL` (R531). -/
def MGT_FN_PS_CTL (f : Nat) : Nat := baseFn f + 0x68
/-- `MGT_FN_PS_HEAD` (R531). -/
def MGT_FN_PS_HEAD (f : Nat) : Nat := baseFn f + 0x70
/-- `MGT_FN_PS_TAIL` (R531). -/
def MGT_FN_PS_TAIL (f : Nat) : Nat := baseFn f + 0x78
/-- `MGT_FN_IRQ` (R531). -/
def MGT_FN_IRQ (f : Nat) : Nat := baseFn f + 0x80
/-- `MGT_FN_IRQ_MASK` (R531). -/
def MGT_FN_IRQ_MASK (f : Nat) : Nat := baseFn f + 0x88
/-- `TIME_NS` (R545). -/
def TIME_NS : Nat := basePTime + 0x0
/-- `TIME_SEC` (R545). -/
def TIME_SEC : Nat := basePTime + 0x8
/-- `TIME_SEC_SHADOW` (R545). -/
def TIME_SEC_SHADOW : Nat := basePTime + 0x10
/-- `TIME_STATUS` (R545). -/
def TIME_STATUS : Nat := basePTime + 0x18
/-- `TIME_OFFSET` (R545). -/
def TIME_OFFSET : Nat := basePTime + 0x20
/-- `TIME_SET_SEC` (R545). -/
def TIME_SET_SEC : Nat := basePTime + 0x28
/-- `TIME_SET_NS` (R545). -/
def TIME_SET_NS : Nat := basePTime + 0x30
/-- `TIME_ADJ` (R545). -/
def TIME_ADJ : Nat := basePTime + 0x38
/-- `TIME_CMD` (R545). -/
def TIME_CMD : Nat := basePTime + 0x40
/-- `TIME_CFG` (R545). -/
def TIME_CFG : Nat := basePTime + 0x48
/-- `TIME_UTC` (R545). -/
def TIME_UTC : Nat := basePTime + 0x50
/-- `TIME_MARK_SEQ` (R545). -/
def TIME_MARK_SEQ : Nat := basePTime + 0x60
/-- `TIME_MARK_SC` (R545). -/
def TIME_MARK_SC : Nat := basePTime + 0x68
/-- `TIME_MARK_SEC` (R545). -/
def TIME_MARK_SEC : Nat := basePTime + 0x70
/-- `TIME_MARK_NS` (R545). -/
def TIME_MARK_NS : Nat := basePTime + 0x78
/-- `BSN_CE` (R552). -/
def BSN_CE (k : Nat) : Nat := baseBsn k + 0x100
/-- `BSN_UE` (R552). -/
def BSN_UE (k : Nat) : Nat := baseBsn k + 0x108
/-- `BSN_SCRUB_ROWS` (R552). -/
def BSN_SCRUB_ROWS (k : Nat) : Nat := baseBsn k + 0x110
/-- `BSN_SCHED_ACC` (R552). -/
def BSN_SCHED_ACC (k : Nat) : Nat := baseBsn k + 0x118
/-- `BSN_MAINT_ACC` (R552). -/
def BSN_MAINT_ACC (k : Nat) : Nat := baseBsn k + 0x120
/-- `BSN_ZF_ROWS` (R552). -/
def BSN_ZF_ROWS (k : Nat) : Nat := baseBsn k + 0x128
/-- `CORE_CYC_s_k` (R554), i < 16. -/
def CORE_CYC_s_k (g i : Nat) : Nat := baseCore g + 0x800 + 8 * i
/-- `CORE_BUNDLES` (R554). -/
def CORE_BUNDLES (g : Nat) : Nat := baseCore g + 0x880
/-- `CORE_EVTn` (R554), i < 4. -/
def CORE_EVTn (g i : Nat) : Nat := baseCore g + 0x888 + 8 * i
/-- `CORE_SAMP_WRITTEN` (R554). -/
def CORE_SAMP_WRITTEN (g : Nat) : Nat := baseCore g + 0x8A8
/-- `CORE_SAMP_LOST` (R554). -/
def CORE_SAMP_LOST (g : Nat) : Nat := baseCore g + 0x8B0
/-- `CORE_EVT_SEL` (R554). -/
def CORE_EVT_SEL (g : Nat) : Nat := baseCore g + 0x900
/-- `CORE_SAMP_CFG` (R554). -/
def CORE_SAMP_CFG (g : Nat) : Nat := baseCore g + 0x908
/-- `PMU_CFG` (R561). -/
def PMU_CFG : Nat := basePPmu + 0x0
/-- `PMU_BUF` (R561). -/
def PMU_BUF : Nat := basePPmu + 0x8
/-- `PMU_STATUS` (R561). -/
def PMU_STATUS : Nat := basePPmu + 0x10
/-- `PMU_FREEZE_SC` (R561). -/
def PMU_FREEZE_SC : Nat := basePPmu + 0x18
/-- `PMU_EVENTS` (R561). -/
def PMU_EVENTS : Nat := basePPmu + 0x20
/-- `PMU_FREEZES` (R561). -/
def PMU_FREEZES : Nat := basePPmu + 0x100
/-- `PMU_SKIPPED` (R561). -/
def PMU_SKIPPED : Nat := basePPmu + 0x108
/-- `PMU_BYTES` (R561). -/
def PMU_BYTES : Nat := basePPmu + 0x110
/-- `MGT_PORTn_CFG` (R562), i < 2. -/
def MGT_PORTn_CFG (i : Nat) : Nat := basePMgt + 0x0 + 16 * i
/-- `MGT_PORTn_STATUS` (R562), i < 2. -/
def MGT_PORTn_STATUS (i : Nat) : Nat := basePMgt + 0x8 + 16 * i
/-- `MGT_DROPPED` (R562). -/
def MGT_DROPPED : Nat := basePMgt + 0x100
/-- `CORE_SAMPn` (R557), i < 512. -/
def CORE_SAMPn (g i : Nat) : Nat := baseCore g + 0x1000 + 8 * i
/-- `CLK_MARK_SC` (R544). -/
def CLK_MARK_SC (d : Nat) : Nat := baseClk d + 0x20
/-- `CLK_MARK` (R544). -/
def CLK_MARK (d : Nat) : Nat := baseClk d + 0x28
/-- `PWR_MINV_IN` (R449). -/
def PWR_MINV_IN : Nat := basePPwr + 0x38
/-- `PWR_MINV_IN_SC` (R449). -/
def PWR_MINV_IN_SC : Nat := basePPwr + 0x40
/-- `PWR_MINV_IN_TIME` (R449). -/
def PWR_MINV_IN_TIME : Nat := basePPwr + 0x48
/-- `BOOT_FPR_BUFb_n` (R51), i < 2, j < 512. -/
def BOOT_FPR_BUFb_n (i j : Nat) : Nat := basePBoot + 0x1000 + 4096 * i + 8 * j
/-- `STM_LD_BUFn` (R417), i < 65536. -/
def STM_LD_BUFn (i : Nat) : Nat := basePStm + 0x80000 + 8 * i

/-! Register fields. -/

/-- Field GEN of `BOOT_FPR_GEN`. -/
def Fd.BOOT_FPR_GEN_GEN : Fld := ⟨0, 32, .ro⟩
/-- Field BUF of `BOOT_FPR_GEN`. -/
def Fd.BOOT_FPR_GEN_BUF : Fld := ⟨32, 1, .ro⟩
/-- Field PUB_BUSY of `BOOT_FPR_GEN`. -/
def Fd.BOOT_FPR_GEN_PUB_BUSY : Fld := ⟨33, 1, .ro⟩
/-- Field HWM of `BOOT_FPR_HWM`. -/
def Fd.BOOT_FPR_HWM_HWM : Fld := ⟨0, 32, .ro⟩
/-- Field COPY_A_OK of `BOOT_FPR_HWM`. -/
def Fd.BOOT_FPR_HWM_COPY_A_OK : Fld := ⟨32, 1, .ro⟩
/-- Field COPY_B_OK of `BOOT_FPR_HWM`. -/
def Fd.BOOT_FPR_HWM_COPY_B_OK : Fld := ⟨33, 1, .ro⟩
/-- Field ENTRY of `CORE_CTRL`. -/
def Fd.CORE_CTRL_ENTRY : Fld := ⟨0, 12, .rw⟩
/-- Field ARM of `CORE_CTRL`. -/
def Fd.CORE_CTRL_ARM : Fld := ⟨16, 1, .rw⟩
/-- Field CLEAR of `CORE_CTRL`. -/
def Fd.CORE_CTRL_CLEAR : Fld := ⟨17, 1, .wo⟩
/-- Field SC of `CORE_START_SC`. -/
def Fd.CORE_START_SC_SC : Fld := ⟨0, 64, .rw⟩
/-- Field STATE of `CORE_STATUS`. -/
def Fd.CORE_STATUS_STATE : Fld := ⟨0, 3, .ro⟩
/-- Field HELD of `CORE_STATUS`. -/
def Fd.CORE_STATUS_HELD : Fld := ⟨3, 1, .ro⟩
/-- Field DEPTH of `CORE_STATUS`. -/
def Fd.CORE_STATUS_DEPTH : Fld := ⟨4, 3, .ro⟩
/-- Field PC of `CORE_STATUS`. -/
def Fd.CORE_STATUS_PC : Fld := ⟨8, 12, .ro⟩
/-- Field SLEEP of `CORE_STATUS`. -/
def Fd.CORE_STATUS_SLEEP : Fld := ⟨20, 2, .ro⟩
/-- Field VARIANT of `CORE_STATUS`. -/
def Fd.CORE_STATUS_VARIANT : Fld := ⟨22, 2, .ro⟩
/-- Field PHASE_ID of `CORE_STATUS`. -/
def Fd.CORE_STATUS_PHASE_ID : Fld := ⟨32, 16, .ro⟩
/-- Field CAUSE of `CORE_SFAULT`. -/
def Fd.CORE_SFAULT_CAUSE : Fld := ⟨0, 8, .ro⟩
/-- Field SLOT of `CORE_SFAULT`. -/
def Fd.CORE_SFAULT_SLOT : Fld := ⟨8, 3, .ro⟩
/-- Field PC of `CORE_SFAULT`. -/
def Fd.CORE_SFAULT_PC : Fld := ⟨12, 12, .ro⟩
/-- Field VALID of `CORE_SFAULT`. -/
def Fd.CORE_SFAULT_VALID : Fld := ⟨63, 1, .rw1c⟩
/-- Field SC of `CORE_SFAULT_SC`. -/
def Fd.CORE_SFAULT_SC_SC : Fld := ⟨0, 64, .ro⟩
/-- Field BITS of `CORE_SFAULT_BUNDLEn`. -/
def Fd.CORE_SFAULT_BUNDLEn_BITS : Fld := ⟨0, 64, .ro⟩
/-- Field VALUE of `CORE_AREGn`. -/
def Fd.CORE_AREGn_VALUE : Fld := ⟨0, 64, .rw⟩
/-- Field P0 of `CORE_PRED`. -/
def Fd.CORE_PRED_P0 : Fld := ⟨0, 1, .ro⟩
/-- Field P of `CORE_PRED`. -/
def Fd.CORE_PRED_P : Fld := ⟨1, 7, .rw⟩
/-- Field START of `CORE_LOOPn`. -/
def Fd.CORE_LOOPn_START : Fld := ⟨0, 12, .ro⟩
/-- Field END of `CORE_LOOPn`. -/
def Fd.CORE_LOOPn_END : Fld := ⟨12, 12, .ro⟩
/-- Field REMAIN of `CORE_LOOPn`. -/
def Fd.CORE_LOOPn_REMAIN : Fld := ⟨24, 32, .ro⟩
/-- Field VALID of `CORE_LOOPn`. -/
def Fd.CORE_LOOPn_VALID : Fld := ⟨63, 1, .ro⟩
/-- Field SEED of `CORE_SR_SEED`. -/
def Fd.CORE_SR_SEED_SEED : Fld := ⟨0, 64, .rw⟩
/-- Field HHALF of `CORE_IM_CFG`. -/
def Fd.CORE_IM_CFG_HHALF : Fld := ⟨0, 1, .rw⟩
/-- Field COUNT of `CORE_IM_STATUS`. -/
def Fd.CORE_IM_STATUS_COUNT : Fld := ⟨0, 11, .ro⟩
/-- Field IMOVF of `CORE_IM_STATUS`. -/
def Fd.CORE_IM_STATUS_IMOVF : Fld := ⟨16, 1, .rw1c⟩
/-- Field HOVF of `CORE_IM_STATUS`. -/
def Fd.CORE_IM_STATUS_HOVF : Fld := ⟨17, 1, .rw1c⟩
/-- Field HCOUNT of `CORE_IM_STATUS`. -/
def Fd.CORE_IM_STATUS_HCOUNT : Fld := ⟨32, 15, .ro⟩
/-- Field DESC of `CORE_TUDESCn`. -/
def Fd.CORE_TUDESCn_DESC : Fld := ⟨0, 64, .rw⟩
/-- Field SCRUB_LOG2 of `BSN_CFG`. -/
def Fd.BSN_CFG_SCRUB_LOG2 : Fld := ⟨0, 4, .rw⟩
/-- Field SCRUB_EN of `BSN_CFG`. -/
def Fd.BSN_CFG_SCRUB_EN : Fld := ⟨4, 1, .rw⟩
/-- Field ZF_BUSY of `BSN_STATUS`. -/
def Fd.BSN_STATUS_ZF_BUSY : Fld := ⟨0, 1, .ro⟩
/-- Field DIG_BUSY of `BSN_STATUS`. -/
def Fd.BSN_STATUS_DIG_BUSY : Fld := ⟨1, 1, .ro⟩
/-- Field DIG_ERR of `BSN_STATUS`. -/
def Fd.BSN_STATUS_DIG_ERR : Fld := ⟨2, 1, .rw1c⟩
/-- Field SFAULT of `BSN_STATUS`. -/
def Fd.BSN_STATUS_SFAULT : Fld := ⟨3, 1, .ro⟩
/-- Field UE of `BSN_STATUS`. -/
def Fd.BSN_STATUS_UE : Fld := ⟨4, 1, .ro⟩
/-- Field BANK of `BSN_SFAULT`. -/
def Fd.BSN_SFAULT_BANK : Fld := ⟨0, 9, .ro⟩
/-- Field ROW of `BSN_SFAULT`. -/
def Fd.BSN_SFAULT_ROW : Fld := ⟨9, 13, .ro⟩
/-- Field PAIR of `BSN_SFAULT`. -/
def Fd.BSN_SFAULT_PAIR : Fld := ⟨22, 1, .ro⟩
/-- Field PORT_A of `BSN_SFAULT`. -/
def Fd.BSN_SFAULT_PORT_A : Fld := ⟨24, 7, .ro⟩
/-- Field A_WR of `BSN_SFAULT`. -/
def Fd.BSN_SFAULT_A_WR : Fld := ⟨31, 1, .ro⟩
/-- Field PORT_B of `BSN_SFAULT`. -/
def Fd.BSN_SFAULT_PORT_B : Fld := ⟨32, 7, .ro⟩
/-- Field B_WR of `BSN_SFAULT`. -/
def Fd.BSN_SFAULT_B_WR : Fld := ⟨39, 1, .ro⟩
/-- Field MORE of `BSN_SFAULT`. -/
def Fd.BSN_SFAULT_MORE : Fld := ⟨40, 1, .ro⟩
/-- Field CAUSE of `BSN_SFAULT`. -/
def Fd.BSN_SFAULT_CAUSE : Fld := ⟨48, 8, .ro⟩
/-- Field VALID of `BSN_SFAULT`. -/
def Fd.BSN_SFAULT_VALID : Fld := ⟨63, 1, .rw1c⟩
/-- Field SC of `BSN_SFAULT_SC`. -/
def Fd.BSN_SFAULT_SC_SC : Fld := ⟨0, 64, .ro⟩
/-- Field TYPE of `BSN_ECC_LOG`. -/
def Fd.BSN_ECC_LOG_TYPE : Fld := ⟨0, 2, .ro⟩
/-- Field CLASS of `BSN_ECC_LOG`. -/
def Fd.BSN_ECC_LOG_CLASS : Fld := ⟨2, 1, .ro⟩
/-- Field SOURCE of `BSN_ECC_LOG`. -/
def Fd.BSN_ECC_LOG_SOURCE : Fld := ⟨3, 2, .ro⟩
/-- Field CW of `BSN_ECC_LOG`. -/
def Fd.BSN_ECC_LOG_CW : Fld := ⟨5, 3, .ro⟩
/-- Field SYNDROME of `BSN_ECC_LOG`. -/
def Fd.BSN_ECC_LOG_SYNDROME : Fld := ⟨8, 8, .ro⟩
/-- Field BANK of `BSN_ECC_LOG`. -/
def Fd.BSN_ECC_LOG_BANK : Fld := ⟨16, 9, .ro⟩
/-- Field ROW of `BSN_ECC_LOG`. -/
def Fd.BSN_ECC_LOG_ROW : Fld := ⟨25, 13, .ro⟩
/-- Field VALID of `BSN_ECC_LOG`. -/
def Fd.BSN_ECC_LOG_VALID : Fld := ⟨63, 1, .rw1c⟩
/-- Field SC of `BSN_ECC_SC`. -/
def Fd.BSN_ECC_SC_SC : Fld := ⟨0, 64, .ro⟩
/-- Field ROW of `BSN_SCRUB_STATUS`. -/
def Fd.BSN_SCRUB_STATUS_ROW : Fld := ⟨0, 13, .ro⟩
/-- Field STARVED of `BSN_SCRUB_STATUS`. -/
def Fd.BSN_SCRUB_STATUS_STARVED : Fld := ⟨13, 1, .rw1c⟩
/-- Field PASSES of `BSN_SCRUB_STATUS`. -/
def Fd.BSN_SCRUB_STATUS_PASSES : Fld := ⟨32, 32, .ro⟩
/-- Field GO of `BSN_ZF_CTRL`. -/
def Fd.BSN_ZF_CTRL_GO : Fld := ⟨0, 1, .wo⟩
/-- Field ALL of `BSN_ZF_CTRL`. -/
def Fd.BSN_ZF_CTRL_ALL : Fld := ⟨1, 1, .wo⟩
/-- Field REGION of `BSN_ZF_CTRL`. -/
def Fd.BSN_ZF_CTRL_REGION : Fld := ⟨2, 8, .wo⟩
/-- Field GO of `BSN_DIG_CTRL`. -/
def Fd.BSN_DIG_CTRL_GO : Fld := ⟨0, 1, .wo⟩
/-- Field LINE of `BSN_DIG_BASE`. -/
def Fd.BSN_DIG_BASE_LINE : Fld := ⟨0, 22, .rw⟩
/-- Field COUNT of `BSN_DIG_LINES`. -/
def Fd.BSN_DIG_LINES_COUNT : Fld := ⟨0, 23, .rw⟩
/-- Field BYTES of `BSN_DIG_RESULTn`. -/
def Fd.BSN_DIG_RESULTn_BYTES : Fld := ⟨0, 64, .ro⟩
/-- Field CLASS of `BSN_REGIONn`. -/
def Fd.BSN_REGIONn_CLASS : Fld := ⟨0, 1, .rw⟩
/-- Field SCHED_WR of `BSN_REGIONn`. -/
def Fd.BSN_REGIONn_SCHED_WR : Fld := ⟨1, 1, .rw⟩
/-- Field DYN_WR of `BSN_REGIONn`. -/
def Fd.BSN_REGIONn_DYN_WR : Fld := ⟨2, 1, .rw⟩
/-- Field UE of `BSN_REGIONn`. -/
def Fd.BSN_REGIONn_UE : Fld := ⟨3, 1, .rw1c⟩
/-- Field PHASE_ID of `RIL_STATUS`. -/
def Fd.RIL_STATUS_PHASE_ID : Fld := ⟨0, 16, .ro⟩
/-- Field VARIANT of `RIL_STATUS`. -/
def Fd.RIL_STATUS_VARIANT : Fld := ⟨16, 2, .ro⟩
/-- Field EMPTY of `RIL_STATUS`. -/
def Fd.RIL_STATUS_EMPTY : Fld := ⟨18, 1, .ro⟩
/-- Field ENTRY of `RIL_STATUS`. -/
def Fd.RIL_STATUS_ENTRY : Fld := ⟨19, 13, .ro⟩
/-- Field REP of `RIL_STATUS`. -/
def Fd.RIL_STATUS_REP : Fld := ⟨32, 32, .ro⟩
/-- Field CAUSE of `RIL_SFAULT`. -/
def Fd.RIL_SFAULT_CAUSE : Fld := ⟨0, 8, .ro⟩
/-- Field OUTPUT of `RIL_SFAULT`. -/
def Fd.RIL_SFAULT_OUTPUT : Fld := ⟨8, 8, .ro⟩
/-- Field SOURCE of `RIL_SFAULT`. -/
def Fd.RIL_SFAULT_SOURCE : Fld := ⟨16, 8, .ro⟩
/-- Field ENTRY of `RIL_SFAULT`. -/
def Fd.RIL_SFAULT_ENTRY : Fld := ⟨24, 13, .ro⟩
/-- Field CONFIG of `RIL_SFAULT`. -/
def Fd.RIL_SFAULT_CONFIG : Fld := ⟨37, 9, .ro⟩
/-- Field MORE of `RIL_SFAULT`. -/
def Fd.RIL_SFAULT_MORE : Fld := ⟨46, 1, .ro⟩
/-- Field VALID of `RIL_SFAULT`. -/
def Fd.RIL_SFAULT_VALID : Fld := ⟨63, 1, .rw1c⟩
/-- Field SC of `RIL_SFAULT_SC`. -/
def Fd.RIL_SFAULT_SC_SC : Fld := ⟨0, 64, .ro⟩
/-- Field USABLE of `RIL_LINK`. -/
def Fd.RIL_LINK_USABLE : Fld := ⟨0, 8, .ro⟩
/-- Field FENCED of `RIL_LINK`. -/
def Fd.RIL_LINK_FENCED : Fld := ⟨8, 8, .ro⟩
/-- Field NO_PARITY of `RIL_LINK`. -/
def Fd.RIL_LINK_NO_PARITY : Fld := ⟨16, 8, .ro⟩
/-- Field SCHED of `RIL_LINK_ERR`. -/
def Fd.RIL_LINK_ERR_SCHED : Fld := ⟨0, 8, .rw1c⟩
/-- Field DYN of `RIL_LINK_ERR`. -/
def Fd.RIL_LINK_ERR_DYN : Fld := ⟨8, 8, .rw1c⟩
/-- Field EDGE of `RIL_LINK_ERR`. -/
def Fd.RIL_LINK_ERR_EDGE : Fld := ⟨16, 2, .rw1c⟩
/-- Field CRC of `RIL_DYN_ERR`. -/
def Fd.RIL_DYN_ERR_CRC : Fld := ⟨0, 1, .rw1c⟩
/-- Field UNREACHABLE of `RIL_DYN_ERR`. -/
def Fd.RIL_DYN_ERR_UNREACHABLE : Fld := ⟨1, 1, .rw1c⟩
/-- Field NO_UNIT of `RIL_DYN_ERR`. -/
def Fd.RIL_DYN_ERR_NO_UNIT : Fld := ⟨2, 1, .rw1c⟩
/-- Field REFUSED of `RIL_DYN_ERR`. -/
def Fd.RIL_DYN_ERR_REFUSED : Fld := ⟨3, 1, .rw1c⟩
/-- Field GO of `RIL_LOAD_CTRL`. -/
def Fd.RIL_LOAD_CTRL_GO : Fld := ⟨0, 1, .wo⟩
/-- Field BUSY of `RIL_LOAD_CTRL`. -/
def Fd.RIL_LOAD_CTRL_BUSY : Fld := ⟨1, 1, .ro⟩
/-- Field ERR of `RIL_LOAD_CTRL`. -/
def Fd.RIL_LOAD_CTRL_ERR : Fld := ⟨2, 1, .rw1c⟩
/-- Field TABLE of `RIL_LOAD_CTRL`. -/
def Fd.RIL_LOAD_CTRL_TABLE : Fld := ⟨3, 2, .rw⟩
/-- Field FIRST of `RIL_LOAD_CTRL`. -/
def Fd.RIL_LOAD_CTRL_FIRST : Fld := ⟨8, 13, .rw⟩
/-- Field COUNT of `RIL_LOAD_CTRL`. -/
def Fd.RIL_LOAD_CTRL_COUNT : Fld := ⟨21, 14, .rw⟩
/-- Field ERR_CODE of `RIL_LOAD_CTRL`. -/
def Fd.RIL_LOAD_CTRL_ERR_CODE : Fld := ⟨40, 4, .ro⟩
/-- Field LINE of `RIL_LOAD_SRC`. -/
def Fd.RIL_LOAD_SRC_LINE : Fld := ⟨0, 22, .rw⟩
/-- Field TABLE of `RIL_READ_ADDR`. -/
def Fd.RIL_READ_ADDR_TABLE : Fld := ⟨0, 2, .rw⟩
/-- Field ROW of `RIL_READ_ADDR`. -/
def Fd.RIL_READ_ADDR_ROW : Fld := ⟨8, 13, .rw⟩
/-- Field WORD of `RIL_READ_ADDR`. -/
def Fd.RIL_READ_ADDR_WORD : Fld := ⟨21, 5, .rw⟩
/-- Field DATA of `RIL_READ_DATA`. -/
def Fd.RIL_READ_DATA_DATA : Fld := ⟨0, 64, .ro⟩
/-- Field PARTITION of `RIL_PART`. -/
def Fd.RIL_PART_PARTITION : Fld := ⟨0, 2, .ro⟩
/-- Field MESH of `RIL_CORRIDORn`. -/
def Fd.RIL_CORRIDORn_MESH : Fld := ⟨0, 16, .ro⟩
/-- Field SPAN of `RIL_CORRIDORn`. -/
def Fd.RIL_CORRIDORn_SPAN : Fld := ⟨16, 8, .ro⟩
/-- Field VIA of `RIL_VIAn`. -/
def Fd.RIL_VIAn_VIA : Fld := ⟨0, 8, .ro⟩
/-- Field REACH of `RIL_VIAn`. -/
def Fd.RIL_VIAn_REACH : Fld := ⟨8, 1, .ro⟩
/-- Field COUNT of `RIL_DPORTp_PKTS`. -/
def Fd.RIL_DPORTp_PKTS_COUNT : Fld := ⟨0, 48, .ro⟩
/-- Field COUNT of `RIL_DPORTp_FLITS`. -/
def Fd.RIL_DPORTp_FLITS_COUNT : Fld := ⟨0, 48, .ro⟩
/-- Field COUNT of `RIL_DPORTp_STALL`. -/
def Fd.RIL_DPORTp_STALL_COUNT : Fld := ⟨0, 48, .ro⟩
/-- Field COUNT of `RIL_DPORTp_DEPTH_SUM`. -/
def Fd.RIL_DPORTp_DEPTH_SUM_COUNT : Fld := ⟨0, 48, .ro⟩
/-- Field VC0_NOW of `RIL_DPORTp_DEPTH`. -/
def Fd.RIL_DPORTp_DEPTH_VC0_NOW : Fld := ⟨0, 6, .ro⟩
/-- Field VC1_NOW of `RIL_DPORTp_DEPTH`. -/
def Fd.RIL_DPORTp_DEPTH_VC1_NOW : Fld := ⟨8, 6, .ro⟩
/-- Field VC0_MAX of `RIL_DPORTp_DEPTH`. -/
def Fd.RIL_DPORTp_DEPTH_VC0_MAX : Fld := ⟨16, 6, .ro⟩
/-- Field VC1_MAX of `RIL_DPORTp_DEPTH`. -/
def Fd.RIL_DPORTp_DEPTH_VC1_MAX : Fld := ⟨24, 6, .ro⟩
/-- Field COUNT of `RIL_SPORTo_SLICES`. -/
def Fd.RIL_SPORTo_SLICES_COUNT : Fld := ⟨0, 48, .ro⟩
/-- Field BUSY of `CSC_STATUS`. -/
def Fd.CSC_STATUS_BUSY : Fld := ⟨0, 16, .ro⟩
/-- Field WAITING of `CSC_STATUS`. -/
def Fd.CSC_STATUS_WAITING : Fld := ⟨16, 16, .ro⟩
/-- Field CAUSE of `CSC_SFAULT`. -/
def Fd.CSC_SFAULT_CAUSE : Fld := ⟨0, 8, .ro⟩
/-- Field PIPE of `CSC_SFAULT`. -/
def Fd.CSC_SFAULT_PIPE : Fld := ⟨8, 4, .ro⟩
/-- Field INPUT of `CSC_SFAULT`. -/
def Fd.CSC_SFAULT_INPUT : Fld := ⟨12, 1, .ro⟩
/-- Field MORE of `CSC_SFAULT`. -/
def Fd.CSC_SFAULT_MORE : Fld := ⟨13, 1, .ro⟩
/-- Field TREE of `CSC_SFAULT`. -/
def Fd.CSC_SFAULT_TREE : Fld := ⟨16, 10, .ro⟩
/-- Field CHANNEL of `CSC_SFAULT`. -/
def Fd.CSC_SFAULT_CHANNEL : Fld := ⟨32, 10, .ro⟩
/-- Field VALID of `CSC_SFAULT`. -/
def Fd.CSC_SFAULT_VALID : Fld := ⟨63, 1, .rw1c⟩
/-- Field SC of `CSC_SFAULT_SC`. -/
def Fd.CSC_SFAULT_SC_SC : Fld := ⟨0, 64, .ro⟩
/-- Field TAG of `CSC_SFAULT_TAG`. -/
def Fd.CSC_SFAULT_TAG_TAG : Fld := ⟨0, 64, .ro⟩
/-- Field GO of `CSC_LOAD_CTRL`. -/
def Fd.CSC_LOAD_CTRL_GO : Fld := ⟨0, 1, .wo⟩
/-- Field BUSY of `CSC_LOAD_CTRL`. -/
def Fd.CSC_LOAD_CTRL_BUSY : Fld := ⟨1, 1, .ro⟩
/-- Field ERR of `CSC_LOAD_CTRL`. -/
def Fd.CSC_LOAD_CTRL_ERR : Fld := ⟨2, 1, .rw1c⟩
/-- Field FIRST of `CSC_LOAD_CTRL`. -/
def Fd.CSC_LOAD_CTRL_FIRST : Fld := ⟨8, 10, .rw⟩
/-- Field COUNT of `CSC_LOAD_CTRL`. -/
def Fd.CSC_LOAD_CTRL_COUNT : Fld := ⟨18, 11, .rw⟩
/-- Field ERR_CODE of `CSC_LOAD_CTRL`. -/
def Fd.CSC_LOAD_CTRL_ERR_CODE : Fld := ⟨40, 4, .ro⟩
/-- Field LINE of `CSC_LOAD_SRC`. -/
def Fd.CSC_LOAD_SRC_LINE : Fld := ⟨0, 22, .rw⟩
/-- Field ROW of `CSC_READ_ADDR`. -/
def Fd.CSC_READ_ADDR_ROW : Fld := ⟨0, 10, .rw⟩
/-- Field WORD of `CSC_READ_ADDR`. -/
def Fd.CSC_READ_ADDR_WORD : Fld := ⟨10, 1, .rw⟩
/-- Field DATA of `CSC_READ_DATA`. -/
def Fd.CSC_READ_DATA_DATA : Fld := ⟨0, 64, .ro⟩
/-- Field COUNT of `CSC_FRAMES`. -/
def Fd.CSC_FRAMES_COUNT : Fld := ⟨0, 48, .ro⟩
/-- Field COUNT of `CSC_LANE_OPS`. -/
def Fd.CSC_LANE_OPS_COUNT : Fld := ⟨0, 48, .ro⟩
/-- Field COUNT of `CSC_WAIT`. -/
def Fd.CSC_WAIT_COUNT : Fld := ⟨0, 48, .ro⟩
/-- Field COUNT of `CSC_NAN`. -/
def Fd.CSC_NAN_COUNT : Fld := ⟨0, 48, .ro⟩
/-- Field COUNT of `CSC_WRAP`. -/
def Fd.CSC_WRAP_COUNT : Fld := ⟨0, 48, .ro⟩
/-- Field OPPT of `CLK_STATUS`. -/
def Fd.CLK_STATUS_OPPT : Fld := ⟨0, 2, .ro⟩
/-- Field LOCKED of `CLK_STATUS`. -/
def Fd.CLK_STATUS_LOCKED : Fld := ⟨2, 1, .ro⟩
/-- Field ALIGNED of `CLK_STATUS`. -/
def Fd.CLK_STATUS_ALIGNED : Fld := ⟨3, 1, .ro⟩
/-- Field HELD of `CLK_STATUS`. -/
def Fd.CLK_STATUS_HELD : Fld := ⟨4, 1, .ro⟩
/-- Field RAISING of `CLK_STATUS`. -/
def Fd.CLK_STATUS_RAISING : Fld := ⟨5, 1, .ro⟩
/-- Field CATCHUP of `CLK_STATUS`. -/
def Fd.CLK_STATUS_CATCHUP : Fld := ⟨6, 1, .ro⟩
/-- Field MARK_MERGED of `CLK_STATUS`. -/
def Fd.CLK_STATUS_MARK_MERGED : Fld := ⟨7, 1, .rw1c⟩
/-- Field DEBT of `CLK_STATUS`. -/
def Fd.CLK_STATUS_DEBT : Fld := ⟨8, 9, .ro⟩
/-- Field SLEEP of `CLK_STATUS`. -/
def Fd.CLK_STATUS_SLEEP : Fld := ⟨20, 2, .ro⟩
/-- Field CAUSE of `CLK_HOLD`. -/
def Fd.CLK_HOLD_CAUSE : Fld := ⟨0, 8, .ro⟩
/-- Field WEIR of `CLK_HOLD`. -/
def Fd.CLK_HOLD_WEIR : Fld := ⟨8, 4, .ro⟩
/-- Field VALID of `CLK_HOLD`. -/
def Fd.CLK_HOLD_VALID : Fld := ⟨63, 1, .rw1c⟩
/-- Field SC of `CLK_HOLD_SC`. -/
def Fd.CLK_HOLD_SC_SC : Fld := ⟨0, 64, .ro⟩
/-- Field SC of `CLK_STOP_SC`. -/
def Fd.CLK_STOP_SC_SC : Fld := ⟨0, 64, .ro⟩
/-- Field GO of `CLK_BND_LOAD_CTRL`. -/
def Fd.CLK_BND_LOAD_CTRL_GO : Fld := ⟨0, 1, .wo⟩
/-- Field BUSY of `CLK_BND_LOAD_CTRL`. -/
def Fd.CLK_BND_LOAD_CTRL_BUSY : Fld := ⟨1, 1, .ro⟩
/-- Field ERR of `CLK_BND_LOAD_CTRL`. -/
def Fd.CLK_BND_LOAD_CTRL_ERR : Fld := ⟨2, 1, .rw1c⟩
/-- Field FIRST of `CLK_BND_LOAD_CTRL`. -/
def Fd.CLK_BND_LOAD_CTRL_FIRST : Fld := ⟨8, 10, .rw⟩
/-- Field COUNT of `CLK_BND_LOAD_CTRL`. -/
def Fd.CLK_BND_LOAD_CTRL_COUNT : Fld := ⟨18, 11, .rw⟩
/-- Field ERR_CODE of `CLK_BND_LOAD_CTRL`. -/
def Fd.CLK_BND_LOAD_CTRL_ERR_CODE : Fld := ⟨40, 4, .ro⟩
/-- Field LINE of `CLK_BND_LOAD_SRC`. -/
def Fd.CLK_BND_LOAD_SRC_LINE : Fld := ⟨0, 22, .rw⟩
/-- Field LOOP of `CLK_BND_CFG`. -/
def Fd.CLK_BND_CFG_LOOP : Fld := ⟨0, 10, .rw⟩
/-- Field VALID of `CLK_BND_CFG`. -/
def Fd.CLK_BND_CFG_VALID : Fld := ⟨10, 1, .rw⟩
/-- Field SC of `CLK_BND_BASE`. -/
def Fd.CLK_BND_BASE_SC : Fld := ⟨0, 64, .rw⟩
/-- Field ROW of `CLK_BND_NEXT`. -/
def Fd.CLK_BND_NEXT_ROW : Fld := ⟨0, 10, .ro⟩
/-- Field PHASE_ID of `CLK_BND_NEXT`. -/
def Fd.CLK_BND_NEXT_PHASE_ID : Fld := ⟨16, 16, .ro⟩
/-- Field SC of `CLK_BND_NEXT_SC`. -/
def Fd.CLK_BND_NEXT_SC_SC : Fld := ⟨0, 64, .ro⟩
/-- Field COUNT of `CLK_HELD`. -/
def Fd.CLK_HELD_COUNT : Fld := ⟨0, 48, .ro⟩
/-- Field COUNT of `CLK_STRETCHED`. -/
def Fd.CLK_STRETCHED_COUNT : Fld := ⟨0, 48, .ro⟩
/-- Field COUNT of `CLK_CATCHUP`. -/
def Fd.CLK_CATCHUP_COUNT : Fld := ⟨0, 48, .ro⟩
/-- Field COUNT of `CLK_WAIT`. -/
def Fd.CLK_WAIT_COUNT : Fld := ⟨0, 48, .ro⟩
/-- Field COUNT of `CLK_WEIR_HOLDS`. -/
def Fd.CLK_WEIR_HOLDS_COUNT : Fld := ⟨0, 48, .ro⟩
/-- Field FILL of `WEIRn_STATUS`. -/
def Fd.WEIRn_STATUS_FILL : Fld := ⟨0, 6, .ro⟩
/-- Field MIN of `WEIRn_STATUS`. -/
def Fd.WEIRn_STATUS_MIN : Fld := ⟨8, 6, .ro⟩
/-- Field MAX of `WEIRn_STATUS`. -/
def Fd.WEIRn_STATUS_MAX : Fld := ⟨16, 6, .ro⟩
/-- Field ENABLED of `WEIRn_STATUS`. -/
def Fd.WEIRn_STATUS_ENABLED : Fld := ⟨24, 1, .ro⟩
/-- Field LIMIT of `WEIRn_STATUS`. -/
def Fd.WEIRn_STATUS_LIMIT : Fld := ⟨25, 1, .rw1c⟩
/-- Field OPPT of `CLK_PANEL`. -/
def Fd.CLK_PANEL_OPPT : Fld := ⟨0, 2, .ro⟩
/-- Field FUSED_MAX of `CLK_PANEL`. -/
def Fd.CLK_PANEL_FUSED_MAX : Fld := ⟨2, 2, .ro⟩
/-- Field VARIANT of `CLK_PANEL`. -/
def Fd.CLK_PANEL_VARIANT : Fld := ⟨4, 2, .ro⟩
/-- Field PHASE_ID of `CLK_PANEL`. -/
def Fd.CLK_PANEL_PHASE_ID : Fld := ⟨16, 16, .ro⟩
/-- Field SOFT of `CLK_HOLD_CTRL`. -/
def Fd.CLK_HOLD_CTRL_SOFT : Fld := ⟨0, 1, .rw⟩
/-- Field IN_FORCE of `CLK_HOLD_STATUS`. -/
def Fd.CLK_HOLD_STATUS_IN_FORCE : Fld := ⟨0, 1, .ro⟩
/-- Field ACTIVE of `CLK_HOLD_STATUS`. -/
def Fd.CLK_HOLD_STATUS_ACTIVE : Fld := ⟨1, 10, .ro⟩
/-- Field RELEASING of `CLK_HOLD_STATUS`. -/
def Fd.CLK_HOLD_STATUS_RELEASING : Fld := ⟨11, 1, .ro⟩
/-- Field CAUSE of `CLK_HOLD_LAST`. -/
def Fd.CLK_HOLD_LAST_CAUSE : Fld := ⟨0, 8, .ro⟩
/-- Field DOMAIN of `CLK_HOLD_LAST`. -/
def Fd.CLK_HOLD_LAST_DOMAIN : Fld := ⟨8, 8, .ro⟩
/-- Field VALID of `CLK_HOLD_LAST`. -/
def Fd.CLK_HOLD_LAST_VALID : Fld := ⟨63, 1, .rw1c⟩
/-- Field SC of `CLK_HOLD_LAST_SC`. -/
def Fd.CLK_HOLD_LAST_SC_SC : Fld := ⟨0, 64, .ro⟩
/-- Field SC of `CLK_HOLD_LAST_REL`. -/
def Fd.CLK_HOLD_LAST_REL_SC : Fld := ⟨0, 64, .ro⟩
/-- Field SEL of `CLK_REF_STATUS`. -/
def Fd.CLK_REF_STATUS_SEL : Fld := ⟨0, 2, .ro⟩
/-- Field DEGRADED of `CLK_REF_STATUS`. -/
def Fd.CLK_REF_STATUS_DEGRADED : Fld := ⟨2, 1, .rw1c⟩
/-- Field DISAGREE of `CLK_REF_STATUS`. -/
def Fd.CLK_REF_STATUS_DISAGREE : Fld := ⟨3, 1, .rw1c⟩
/-- Field SWITCHED of `CLK_REF_STATUS`. -/
def Fd.CLK_REF_STATUS_SWITCHED : Fld := ⟨4, 1, .rw1c⟩
/-- Field HOLDOVER of `CLK_REF_STATUS`. -/
def Fd.CLK_REF_STATUS_HOLDOVER : Fld := ⟨5, 1, .ro⟩
/-- Field OTHER_VALID of `CLK_REF_STATUS`. -/
def Fd.CLK_REF_STATUS_OTHER_VALID : Fld := ⟨6, 1, .ro⟩
/-- Field E_OTHER of `CLK_REF_OFFSET`. -/
def Fd.CLK_REF_OFFSET_E_OTHER : Fld := ⟨0, 32, .ro⟩
/-- Field E_OSC of `CLK_REF_OFFSET`. -/
def Fd.CLK_REF_OFFSET_E_OSC : Fld := ⟨32, 32, .ro⟩
/-- Field MERGED of `CLK_ATTN_MERGEDn`. -/
def Fd.CLK_ATTN_MERGEDn_MERGED : Fld := ⟨0, 64, .rw1c⟩
/-- Field COUNT of `CLK_HOLDS`. -/
def Fd.CLK_HOLDS_COUNT : Fld := ⟨0, 48, .ro⟩
/-- Field COUNT of `CLK_HOLD_NS`. -/
def Fd.CLK_HOLD_NS_COUNT : Fld := ⟨0, 48, .ro⟩
/-- Field GO of `SITE_SIT_LOAD_CTRL`. -/
def Fd.SITE_SIT_LOAD_CTRL_GO : Fld := ⟨0, 1, .wo⟩
/-- Field BUSY of `SITE_SIT_LOAD_CTRL`. -/
def Fd.SITE_SIT_LOAD_CTRL_BUSY : Fld := ⟨1, 1, .ro⟩
/-- Field ERR of `SITE_SIT_LOAD_CTRL`. -/
def Fd.SITE_SIT_LOAD_CTRL_ERR : Fld := ⟨2, 1, .rw1c⟩
/-- Field FIRST of `SITE_SIT_LOAD_CTRL`. -/
def Fd.SITE_SIT_LOAD_CTRL_FIRST : Fld := ⟨8, 8, .rw⟩
/-- Field COUNT of `SITE_SIT_LOAD_CTRL`. -/
def Fd.SITE_SIT_LOAD_CTRL_COUNT : Fld := ⟨16, 9, .rw⟩
/-- Field ERR_CODE of `SITE_SIT_LOAD_CTRL`. -/
def Fd.SITE_SIT_LOAD_CTRL_ERR_CODE : Fld := ⟨40, 4, .ro⟩
/-- Field LINE of `SITE_SIT_LOAD_SRC`. -/
def Fd.SITE_SIT_LOAD_SRC_LINE : Fld := ⟨0, 22, .rw⟩
/-- Field ROW of `SITE_SIT_READ_ADDR`. -/
def Fd.SITE_SIT_READ_ADDR_ROW : Fld := ⟨0, 8, .rw⟩
/-- Field WORD of `SITE_SIT_READ_ADDR`. -/
def Fd.SITE_SIT_READ_ADDR_WORD : Fld := ⟨8, 2, .rw⟩
/-- Field DATA of `SITE_SIT_READ_DATA`. -/
def Fd.SITE_SIT_READ_DATA_DATA : Fld := ⟨0, 64, .ro⟩
/-- Field STREAM of `SITE_SIT_NOTIFY`. -/
def Fd.SITE_SIT_NOTIFY_STREAM : Fld := ⟨0, 20, .wo⟩
/-- Field FAIL of `SITE_SIT_NOTIFY`. -/
def Fd.SITE_SIT_NOTIFY_FAIL : Fld := ⟨20, 1, .wo⟩
/-- Field CAUSE of `SITE_STRM_SFAULT`. -/
def Fd.SITE_STRM_SFAULT_CAUSE : Fld := ⟨0, 8, .ro⟩
/-- Field ROW of `SITE_STRM_SFAULT`. -/
def Fd.SITE_STRM_SFAULT_ROW : Fld := ⟨8, 8, .ro⟩
/-- Field CORE of `SITE_STRM_SFAULT`. -/
def Fd.SITE_STRM_SFAULT_CORE : Fld := ⟨16, 6, .ro⟩
/-- Field VALID of `SITE_STRM_SFAULT`. -/
def Fd.SITE_STRM_SFAULT_VALID : Fld := ⟨63, 1, .rw1c⟩
/-- Field SC of `SITE_STRM_SFAULT_SC`. -/
def Fd.SITE_STRM_SFAULT_SC_SC : Fld := ⟨0, 64, .ro⟩
/-- Field ROW of `SITE_STRM_DL`. -/
def Fd.SITE_STRM_DL_ROW : Fld := ⟨0, 8, .ro⟩
/-- Field VALID of `SITE_STRM_DL`. -/
def Fd.SITE_STRM_DL_VALID : Fld := ⟨63, 1, .rw1c⟩
/-- Field COUNT of `SITE_STRM_ISSUED`. -/
def Fd.SITE_STRM_ISSUED_COUNT : Fld := ⟨0, 48, .ro⟩
/-- Field COUNT of `SITE_STRM_DL_HOLDS`. -/
def Fd.SITE_STRM_DL_HOLDS_COUNT : Fld := ⟨0, 48, .ro⟩
/-- Field COUNT of `SITE_STRM_LANDED`. -/
def Fd.SITE_STRM_LANDED_COUNT : Fld := ⟨0, 48, .ro⟩
/-- Field TRAINED of `HBM_STATUS`. -/
def Fd.HBM_STATUS_TRAINED : Fld := ⟨0, 1, .ro⟩
/-- Field READY of `HBM_STATUS`. -/
def Fd.HBM_STATUS_READY : Fld := ⟨1, 1, .ro⟩
/-- Field FENCED of `HBM_STATUS`. -/
def Fd.HBM_STATUS_FENCED : Fld := ⟨2, 1, .ro⟩
/-- Field CH_OK of `HBM_STATUS`. -/
def Fd.HBM_STATUS_CH_OK : Fld := ⟨32, 32, .ro⟩
/-- Field SCRUB_EN of `HBM_CFG`. -/
def Fd.HBM_CFG_SCRUB_EN : Fld := ⟨0, 1, .rw⟩
/-- Field SCRUB_HOURS of `HBM_CFG`. -/
def Fd.HBM_CFG_SCRUB_HOURS : Fld := ⟨1, 5, .rw⟩
/-- Field TYPE of `HBM_ECC_LOG`. -/
def Fd.HBM_ECC_LOG_TYPE : Fld := ⟨0, 2, .ro⟩
/-- Field SOURCE of `HBM_ECC_LOG`. -/
def Fd.HBM_ECC_LOG_SOURCE : Fld := ⟨2, 2, .ro⟩
/-- Field CHANNEL of `HBM_ECC_LOG`. -/
def Fd.HBM_ECC_LOG_CHANNEL : Fld := ⟨4, 5, .ro⟩
/-- Field SYMBOL of `HBM_ECC_LOG`. -/
def Fd.HBM_ECC_LOG_SYMBOL : Fld := ⟨9, 6, .ro⟩
/-- Field VALID of `HBM_ECC_LOG`. -/
def Fd.HBM_ECC_LOG_VALID : Fld := ⟨63, 1, .rw1c⟩
/-- Field ADDR of `HBM_ECC_ADDR`. -/
def Fd.HBM_ECC_ADDR_ADDR : Fld := ⟨0, 48, .ro⟩
/-- Field SC of `HBM_ECC_SC`. -/
def Fd.HBM_ECC_SC_SC : Fld := ⟨0, 64, .ro⟩
/-- Field DEGC of `HBM_TEMP`. -/
def Fd.HBM_TEMP_DEGC : Fld := ⟨0, 8, .ro⟩
/-- Field HOT_REFRESH of `HBM_TEMP`. -/
def Fd.HBM_TEMP_HOT_REFRESH : Fld := ⟨8, 1, .ro⟩
/-- Field COUNT of `HBM_CHc_RD`. -/
def Fd.HBM_CHc_RD_COUNT : Fld := ⟨0, 48, .ro⟩
/-- Field COUNT of `HBM_CHc_WR`. -/
def Fd.HBM_CHc_WR_COUNT : Fld := ⟨0, 48, .ro⟩
/-- Field COUNT of `HBM_CHc_CE`. -/
def Fd.HBM_CHc_CE_COUNT : Fld := ⟨0, 48, .ro⟩
/-- Field COUNT of `HBM_CHc_UE`. -/
def Fd.HBM_CHc_UE_COUNT : Fld := ⟨0, 48, .ro⟩
/-- Field COUNT of `HBM_CHc_ODECC`. -/
def Fd.HBM_CHc_ODECC_COUNT : Fld := ⟨0, 48, .ro⟩
/-- Field ACTIVE of `STM_ENG_STATUS`. -/
def Fd.STM_ENG_STATUS_ACTIVE : Fld := ⟨0, 7, .ro⟩
/-- Field WALKS of `STM_ENG_STATUS`. -/
def Fd.STM_ENG_STATUS_WALKS : Fld := ⟨8, 4, .ro⟩
/-- Field WALK_QUEUE of `STM_ENG_STATUS`. -/
def Fd.STM_ENG_STATUS_WALK_QUEUE : Fld := ⟨16, 7, .ro⟩
/-- Field INV_ALL of `STM_CACHE_CTRL`. -/
def Fd.STM_CACHE_CTRL_INV_ALL : Fld := ⟨0, 1, .wo⟩
/-- Field PREFETCH of `STM_CACHE_CTRL`. -/
def Fd.STM_CACHE_CTRL_PREFETCH : Fld := ⟨1, 1, .wo⟩
/-- Field BUSY of `STM_CACHE_CTRL`. -/
def Fd.STM_CACHE_CTRL_BUSY : Fld := ⟨2, 1, .ro⟩
/-- Field FIRST of `STM_CACHE_CTRL`. -/
def Fd.STM_CACHE_CTRL_FIRST : Fld := ⟨20, 20, .rw⟩
/-- Field COUNT of `STM_CACHE_CTRL`. -/
def Fd.STM_CACHE_CTRL_COUNT : Fld := ⟨40, 11, .rw⟩
/-- Field INDEX of `STM_ISSUE`. -/
def Fd.STM_ISSUE_INDEX : Fld := ⟨0, 20, .wo⟩
/-- Field BUSY of `STM_ISSUE_STATUS`. -/
def Fd.STM_ISSUE_STATUS_BUSY : Fld := ⟨0, 1, .ro⟩
/-- Field ERR of `STM_ISSUE_STATUS`. -/
def Fd.STM_ISSUE_STATUS_ERR : Fld := ⟨1, 1, .rw1c⟩
/-- Field DONE of `STM_ISSUE_STATUS`. -/
def Fd.STM_ISSUE_STATUS_DONE : Fld := ⟨32, 32, .ro⟩
/-- Field CAUSE of `STM_SERR`. -/
def Fd.STM_SERR_CAUSE : Fld := ⟨0, 4, .ro⟩
/-- Field CHECK of `STM_SERR`. -/
def Fd.STM_SERR_CHECK : Fld := ⟨4, 4, .ro⟩
/-- Field INDEX of `STM_SERR`. -/
def Fd.STM_SERR_INDEX : Fld := ⟨8, 20, .ro⟩
/-- Field SITE of `STM_SERR`. -/
def Fd.STM_SERR_SITE : Fld := ⟨28, 8, .ro⟩
/-- Field VALID of `STM_SERR`. -/
def Fd.STM_SERR_VALID : Fld := ⟨63, 1, .rw1c⟩
/-- Field SC of `STM_SERR_SC`. -/
def Fd.STM_SERR_SC_SC : Fld := ⟨0, 64, .ro⟩
/-- Field COUNT of `STM_ACCEPTED`. -/
def Fd.STM_ACCEPTED_COUNT : Fld := ⟨0, 48, .ro⟩
/-- Field COUNT of `STM_COMPLETED`. -/
def Fd.STM_COMPLETED_COUNT : Fld := ⟨0, 48, .ro⟩
/-- Field COUNT of `STM_HITS`. -/
def Fd.STM_HITS_COUNT : Fld := ⟨0, 48, .ro⟩
/-- Field COUNT of `STM_WALKS`. -/
def Fd.STM_WALKS_COUNT : Fld := ⟨0, 48, .ro⟩
/-- Field COUNT of `STM_WALK_WAIT`. -/
def Fd.STM_WALK_WAIT_COUNT : Fld := ⟨0, 48, .ro⟩
/-- Field COUNT of `STM_BYTES`. -/
def Fd.STM_BYTES_COUNT : Fld := ⟨0, 48, .ro⟩
/-- Field COUNT of `STM_ZERO`. -/
def Fd.STM_ZERO_COUNT : Fld := ⟨0, 48, .ro⟩
/-- Field COUNT of `STM_RESENDS`. -/
def Fd.STM_RESENDS_COUNT : Fld := ⟨0, 48, .ro⟩
/-- Field COUNT of `STM_LATE`. -/
def Fd.STM_LATE_COUNT : Fld := ⟨0, 48, .ro⟩
/-- Field BASE of `STM_TBL_BASE`. -/
def Fd.STM_TBL_BASE_BASE : Fld := ⟨26, 22, .rw⟩
/-- Field INDEX of `STM_TBL_WIDX`. -/
def Fd.STM_TBL_WIDX_INDEX : Fld := ⟨0, 20, .rw⟩
/-- Field GO of `STM_TBL_WCTRL`. -/
def Fd.STM_TBL_WCTRL_GO : Fld := ⟨0, 1, .wo⟩
/-- Field BUSY of `STM_TBL_WCTRL`. -/
def Fd.STM_TBL_WCTRL_BUSY : Fld := ⟨1, 1, .ro⟩
/-- Field ERR of `STM_TBL_WCTRL`. -/
def Fd.STM_TBL_WCTRL_ERR : Fld := ⟨2, 1, .rw1c⟩
/-- Field WORD of `STM_TBL_WDATAn`. -/
def Fd.STM_TBL_WDATAn_WORD : Fld := ⟨0, 64, .rw⟩
/-- Field LASER_OK of `SUO_ENG_STATUS`. -/
def Fd.SUO_ENG_STATUS_LASER_OK : Fld := ⟨0, 8, .ro⟩
/-- Field TX_ON of `SUO_ENG_STATUS`. -/
def Fd.SUO_ENG_STATUS_TX_ON : Fld := ⟨8, 8, .ro⟩
/-- Field DEGC of `SUO_ENG_STATUS`. -/
def Fd.SUO_ENG_STATUS_DEGC : Fld := ⟨16, 8, .ro⟩
/-- Field ERR_CODE of `SUO_PROG_ERR`. -/
def Fd.SUO_PROG_ERR_ERR_CODE : Fld := ⟨0, 4, .ro⟩
/-- Field ERR of `SUO_PROG_ERR`. -/
def Fd.SUO_PROG_ERR_ERR : Fld := ⟨4, 1, .rw1c⟩
/-- Field LOCK of `SUO_PROG_ERR`. -/
def Fd.SUO_PROG_ERR_LOCK : Fld := ⟨5, 1, .ro⟩
/-- Field ENABLE of `SUO_PORTp_CFG`. -/
def Fd.SUO_PORTp_CFG_ENABLE : Fld := ⟨0, 1, .rw⟩
/-- Field MODE of `SUO_PORTp_CFG`. -/
def Fd.SUO_PORTp_CFG_MODE : Fld := ⟨1, 1, .rw⟩
/-- Field DATELINE of `SUO_PORTp_CFG`. -/
def Fd.SUO_PORTp_CFG_DATELINE : Fld := ⟨2, 1, .rw⟩
/-- Field STATE of `SUO_PORTp_STATUS`. -/
def Fd.SUO_PORTp_STATUS_STATE : Fld := ⟨0, 3, .ro⟩
/-- Field ROLE of `SUO_PORTp_STATUS`. -/
def Fd.SUO_PORTp_STATUS_ROLE : Fld := ⟨3, 1, .ro⟩
/-- Field KEYED of `SUO_PORTp_STATUS`. -/
def Fd.SUO_PORTp_STATUS_KEYED : Fld := ⟨4, 1, .ro⟩
/-- Field DEGRADED of `SUO_PORTp_STATUS`. -/
def Fd.SUO_PORTp_STATUS_DEGRADED : Fld := ⟨5, 1, .rw1c⟩
/-- Field CREDIT of `SUO_PORTp_STATUS`. -/
def Fd.SUO_PORTp_STATUS_CREDIT : Fld := ⟨16, 9, .ro⟩
/-- Field TXQ of `SUO_PORTp_STATUS`. -/
def Fd.SUO_PORTp_STATUS_TXQ : Fld := ⟨32, 7, .ro⟩
/-- Field RXW of `SUO_PORTp_STATUS`. -/
def Fd.SUO_PORTp_STATUS_RXW : Fld := ⟨40, 9, .ro⟩
/-- Field PANEL of `SUO_PORTp_PARTNER`. -/
def Fd.SUO_PORTp_PARTNER_PANEL : Fld := ⟨0, 10, .ro⟩
/-- Field PORT of `SUO_PORTp_PARTNER`. -/
def Fd.SUO_PORTp_PARTNER_PORT : Fld := ⟨16, 7, .ro⟩
/-- Field FPR_GEN of `SUO_PORTp_PARTNER`. -/
def Fd.SUO_PORTp_PARTNER_FPR_GEN : Fld := ⟨24, 32, .ro⟩
/-- Field SERIAL of `SUO_PORTp_PSN0`. -/
def Fd.SUO_PORTp_PSN0_SERIAL : Fld := ⟨0, 64, .ro⟩
/-- Field SERIAL of `SUO_PORTp_PSN1`. -/
def Fd.SUO_PORTp_PSN1_SERIAL : Fld := ⟨0, 64, .ro⟩
/-- Field ONEWAY of `SUO_PORTp_LAT`. -/
def Fd.SUO_PORTp_LAT_ONEWAY : Fld := ⟨0, 16, .ro⟩
/-- Field FIBRE of `SUO_PORTp_LAT`. -/
def Fd.SUO_PORTp_LAT_FIBRE : Fld := ⟨16, 16, .ro⟩
/-- Field ALLOW of `SUO_PORTp_LAT`. -/
def Fd.SUO_PORTp_LAT_ALLOW : Fld := ⟨32, 12, .ro⟩
/-- Field VALID of `SUO_PORTp_LAT`. -/
def Fd.SUO_PORTp_LAT_VALID : Fld := ⟨63, 1, .ro⟩
/-- Field TX of `SUO_PORTp_EPOCH`. -/
def Fd.SUO_PORTp_EPOCH_TX : Fld := ⟨0, 32, .rw⟩
/-- Field RX of `SUO_PORTp_EPOCH`. -/
def Fd.SUO_PORTp_EPOCH_RX : Fld := ⟨32, 32, .rw⟩
/-- Field OPEN of `SUO_PORTp_SMAPn`. -/
def Fd.SUO_PORTp_SMAPn_OPEN : Fld := ⟨0, 64, .rw⟩
/-- Field COUNT of `SUO_PORTp_TXF`. -/
def Fd.SUO_PORTp_TXF_COUNT : Fld := ⟨0, 48, .ro⟩
/-- Field COUNT of `SUO_PORTp_RXF`. -/
def Fd.SUO_PORTp_RXF_COUNT : Fld := ⟨0, 48, .ro⟩
/-- Field COUNT of `SUO_PORTp_CWC`. -/
def Fd.SUO_PORTp_CWC_COUNT : Fld := ⟨0, 48, .ro⟩
/-- Field COUNT of `SUO_PORTp_CWU`. -/
def Fd.SUO_PORTp_CWU_COUNT : Fld := ⟨0, 48, .ro⟩
/-- Field COUNT of `SUO_PORTp_NAKS`. -/
def Fd.SUO_PORTp_NAKS_COUNT : Fld := ⟨0, 48, .ro⟩
/-- Field COUNT of `SUO_PORTp_RESENDS`. -/
def Fd.SUO_PORTp_RESENDS_COUNT : Fld := ⟨0, 48, .ro⟩
/-- Field COUNT of `SUO_PORTp_EPDROP`. -/
def Fd.SUO_PORTp_EPDROP_COUNT : Fld := ⟨0, 48, .ro⟩
/-- Field COUNT of `SUO_PORTp_OPTHOLD`. -/
def Fd.SUO_PORTp_OPTHOLD_COUNT : Fld := ⟨0, 48, .ro⟩
/-- Field COUNT of `SUO_PORTp_TAGFAIL`. -/
def Fd.SUO_PORTp_TAGFAIL_COUNT : Fld := ⟨0, 48, .ro⟩
/-- Field COUNT of `SUO_DYN_DROP`. -/
def Fd.SUO_DYN_DROP_COUNT : Fld := ⟨0, 48, .ro⟩
/-- Field ENABLE of `SUO_GW_CFG`. -/
def Fd.SUO_GW_CFG_ENABLE : Fld := ⟨0, 1, .rw⟩
/-- Field PFC_PRIO of `SUO_GW_CFG`. -/
def Fd.SUO_GW_CFG_PFC_PRIO : Fld := ⟨1, 3, .rw⟩
/-- Field BASE of `SUO_GW_RXBASE`. -/
def Fd.SUO_GW_RXBASE_BASE : Fld := ⟨12, 36, .rw⟩
/-- Field LOG2 of `SUO_GW_RXCTL`. -/
def Fd.SUO_GW_RXCTL_LOG2 : Fld := ⟨0, 5, .rw⟩
/-- Field HEAD of `SUO_GW_RXCTL`. -/
def Fd.SUO_GW_RXCTL_HEAD : Fld := ⟨16, 16, .ro⟩
/-- Field TAIL of `SUO_GW_RXCTL`. -/
def Fd.SUO_GW_RXCTL_TAIL : Fld := ⟨48, 16, .rw⟩
/-- Field BASE of `SUO_GW_TXBASE`. -/
def Fd.SUO_GW_TXBASE_BASE : Fld := ⟨12, 36, .rw⟩
/-- Field LOG2 of `SUO_GW_TXCTL`. -/
def Fd.SUO_GW_TXCTL_LOG2 : Fld := ⟨0, 5, .rw⟩
/-- Field HEAD of `SUO_GW_TXCTL`. -/
def Fd.SUO_GW_TXCTL_HEAD : Fld := ⟨16, 16, .ro⟩
/-- Field TAIL of `SUO_GW_TXCTL`. -/
def Fd.SUO_GW_TXCTL_TAIL : Fld := ⟨48, 16, .rw⟩
/-- Field COUNT of `SUO_GW_DROPS`. -/
def Fd.SUO_GW_DROPS_COUNT : Fld := ⟨0, 48, .ro⟩
/-- Field ID of `SUO_PANEL`. -/
def Fd.SUO_PANEL_ID : Fld := ⟨0, 10, .rw⟩
/-- Field CUR of `SUO_RT_CTRL`. -/
def Fd.SUO_RT_CTRL_CUR : Fld := ⟨0, 1, .rw⟩
/-- Field ERR of `SUO_RT_CTRL`. -/
def Fd.SUO_RT_CTRL_ERR : Fld := ⟨1, 1, .rw1c⟩
/-- Field US of `SUO_RT_AGE`. -/
def Fd.SUO_RT_AGE_US : Fld := ⟨0, 16, .rw⟩
/-- Field MS of `SUO_STRM_TMO`. -/
def Fd.SUO_STRM_TMO_MS : Fld := ⟨0, 16, .rw⟩
/-- Field ENTRIES of `SUO_RTc_n`. -/
def Fd.SUO_RTc_n_ENTRIES : Fld := ⟨0, 64, .rw⟩
/-- Field MEMBERS of `SUO_VDOMc_n`. -/
def Fd.SUO_VDOMc_n_MEMBERS : Fld := ⟨0, 64, .rw⟩
/-- Field PORTS of `SUO_TRUNK_n`. -/
def Fd.SUO_TRUNK_n_PORTS : Fld := ⟨0, 64, .rw⟩
/-- Field OP of `STM_LD_CMD`. -/
def Fd.STM_LD_CMD_OP : Fld := ⟨0, 3, .wo⟩
/-- Field STATE of `STM_LD_STATUS`. -/
def Fd.STM_LD_STATUS_STATE : Fld := ⟨0, 3, .ro⟩
/-- Field CODE of `STM_LD_STATUS`. -/
def Fd.STM_LD_STATUS_CODE : Fld := ⟨8, 8, .ro⟩
/-- Field INDEX of `STM_LD_STATUS`. -/
def Fd.STM_LD_STATUS_INDEX : Fld := ⟨16, 16, .ro⟩
/-- Field DONE of `STM_LD_PROGRESS`. -/
def Fd.STM_LD_PROGRESS_DONE : Fld := ⟨0, 32, .ro⟩
/-- Field TOTAL of `STM_LD_PROGRESS`. -/
def Fd.STM_LD_PROGRESS_TOTAL : Fld := ⟨32, 32, .ro⟩
/-- Field INDEX of `STM_LD_PSEL`. -/
def Fd.STM_LD_PSEL_INDEX : Fld := ⟨0, 14, .rw⟩
/-- Field STATE of `STM_LD_PSTATE`. -/
def Fd.STM_LD_PSTATE_STATE : Fld := ⟨0, 3, .ro⟩
/-- Field TRIES of `STM_LD_PSTATE`. -/
def Fd.STM_LD_PSTATE_TRIES : Fld := ⟨4, 2, .ro⟩
/-- Field BLOCKS of `STM_LD_PSTATE`. -/
def Fd.STM_LD_PSTATE_BLOCKS : Fld := ⟨32, 32, .ro⟩
/-- Field FILLED of `STM_LD_FEED`. -/
def Fd.STM_LD_FEED_FILLED : Fld := ⟨0, 4, .wo⟩
/-- Field FREE of `STM_LD_FEED`. -/
def Fd.STM_LD_FEED_FREE : Fld := ⟨4, 4, .ro⟩
/-- Field HOME of `STM_LD_FEED`. -/
def Fd.STM_LD_FEED_HOME : Fld := ⟨8, 4, .ro⟩
/-- Field BLOCK of `STM_LD_FEED`. -/
def Fd.STM_LD_FEED_BLOCK : Fld := ⟨16, 32, .ro⟩
/-- Field SET of `STM_LD_FEED`. -/
def Fd.STM_LD_FEED_SET : Fld := ⟨48, 16, .ro⟩
/-- Field INTERVAL_S of `STM_RD_CFG`. -/
def Fd.STM_RD_CFG_INTERVAL_S : Fld := ⟨0, 16, .rw⟩
/-- Field EN of `STM_RD_CFG`. -/
def Fd.STM_RD_CFG_EN : Fld := ⟨16, 1, .rw⟩
/-- Field PASSES of `STM_RD_STATUS`. -/
def Fd.STM_RD_STATUS_PASSES : Fld := ⟨0, 32, .ro⟩
/-- Field FAILS of `STM_RD_STATUS`. -/
def Fd.STM_RD_STATUS_FAILS : Fld := ⟨32, 16, .ro⟩
/-- Field LAST of `STM_RD_STATUS`. -/
def Fd.STM_RD_STATUS_LAST : Fld := ⟨48, 14, .ro⟩
/-- Field OP of `STM_EG_CMD`. -/
def Fd.STM_EG_CMD_OP : Fld := ⟨0, 3, .wo⟩
/-- Field FORCE of `STM_EG_CMD`. -/
def Fd.STM_EG_CMD_FORCE : Fld := ⟨3, 1, .wo⟩
/-- Field POS of `STM_EG_CMD`. -/
def Fd.STM_EG_CMD_POS : Fld := ⟨8, 4, .wo⟩
/-- Field STATE of `STM_EG_STATUS`. -/
def Fd.STM_EG_STATUS_STATE : Fld := ⟨0, 3, .ro⟩
/-- Field BANK of `STM_EG_STATUS`. -/
def Fd.STM_EG_STATUS_BANK : Fld := ⟨3, 1, .ro⟩
/-- Field LOSSES of `STM_EG_STATUS`. -/
def Fd.STM_EG_STATUS_LOSSES : Fld := ⟨4, 2, .ro⟩
/-- Field GEN of `STM_EG_STATUS`. -/
def Fd.STM_EG_STATUS_GEN : Fld := ⟨32, 32, .ro⟩
/-- Field OP of `STM_EC_CTRL`. -/
def Fd.STM_EC_CTRL_OP : Fld := ⟨0, 2, .wo⟩
/-- Field ACC of `STM_EC_CTRL`. -/
def Fd.STM_EC_CTRL_ACC : Fld := ⟨2, 1, .rw⟩
/-- Field COEF of `STM_EC_CTRL`. -/
def Fd.STM_EC_CTRL_COEF : Fld := ⟨8, 8, .rw⟩
/-- Field BUSY of `STM_EC_CTRL`. -/
def Fd.STM_EC_CTRL_BUSY : Fld := ⟨16, 1, .ro⟩
/-- Field ERR of `STM_EC_CTRL`. -/
def Fd.STM_EC_CTRL_ERR : Fld := ⟨17, 1, .rw1c⟩
/-- Field ADDR of `STM_EC_SRC`. -/
def Fd.STM_EC_SRC_ADDR : Fld := ⟨0, 48, .rw⟩
/-- Field ADDR of `STM_EC_DST`. -/
def Fd.STM_EC_DST_ADDR : Fld := ⟨0, 48, .rw⟩
/-- Field BYTES of `STM_EC_LEN`. -/
def Fd.STM_EC_LEN_BYTES : Fld := ⟨0, 37, .rw⟩
/-- Field BYTES of `STM_EC_DIGESTn`. -/
def Fd.STM_EC_DIGESTn_BYTES : Fld := ⟨0, 64, .ro⟩
/-- Field C_ON of `PWR_SITE_STATUS`. -/
def Fd.PWR_SITE_STATUS_C_ON : Fld := ⟨0, 1, .ro⟩
/-- Field N_ON of `PWR_SITE_STATUS`. -/
def Fd.PWR_SITE_STATUS_N_ON : Fld := ⟨1, 1, .ro⟩
/-- Field S_ON of `PWR_SITE_STATUS`. -/
def Fd.PWR_SITE_STATUS_S_ON : Fld := ⟨2, 1, .ro⟩
/-- Field EFUSE_OPEN of `PWR_SITE_STATUS`. -/
def Fd.PWR_SITE_STATUS_EFUSE_OPEN : Fld := ⟨3, 1, .ro⟩
/-- Field TRIP of `PWR_SITE_STATUS`. -/
def Fd.PWR_SITE_STATUS_TRIP : Fld := ⟨4, 3, .ro⟩
/-- Field C_SET of `PWR_SITE_STATUS`. -/
def Fd.PWR_SITE_STATUS_C_SET : Fld := ⟨8, 10, .ro⟩
/-- Field C_PWR of `PWR_SITE_POWER`. -/
def Fd.PWR_SITE_POWER_C_PWR : Fld := ⟨0, 16, .ro⟩
/-- Field N_PWR of `PWR_SITE_POWER`. -/
def Fd.PWR_SITE_POWER_N_PWR : Fld := ⟨16, 16, .ro⟩
/-- Field S_PWR of `PWR_SITE_POWER`. -/
def Fd.PWR_SITE_POWER_S_PWR : Fld := ⟨32, 16, .ro⟩
/-- Field MINV of `PWR_MINVr`. -/
def Fd.PWR_MINVr_MINV : Fld := ⟨0, 16, .ro⟩
/-- Field AMPS of `PWR_MINVr`. -/
def Fd.PWR_MINVr_AMPS : Fld := ⟨16, 16, .ro⟩
/-- Field REARM of `PWR_MINVr`. -/
def Fd.PWR_MINVr_REARM : Fld := ⟨63, 1, .wo⟩
/-- Field SC of `PWR_MINVr_SC`. -/
def Fd.PWR_MINVr_SC_SC : Fld := ⟨0, 64, .ro⟩
/-- Field NS of `PWR_MINVr_TIME`. -/
def Fd.PWR_MINVr_TIME_NS : Fld := ⟨0, 30, .ro⟩
/-- Field SEC of `PWR_MINVr_TIME`. -/
def Fd.PWR_MINVr_TIME_SEC : Fld := ⟨32, 32, .ro⟩
/-- Field EST of `PWR_RDYNr`. -/
def Fd.PWR_RDYNr_EST : Fld := ⟨0, 16, .ro⟩
/-- Field BASE of `PWR_RDYNr`. -/
def Fd.PWR_RDYNr_BASE : Fld := ⟨16, 16, .ro⟩
/-- Field BASE_VALID of `PWR_RDYNr`. -/
def Fd.PWR_RDYNr_BASE_VALID : Fld := ⟨32, 1, .ro⟩
/-- Field CRACK of `PWR_RDYNr`. -/
def Fd.PWR_RDYNr_CRACK : Fld := ⟨33, 1, .rw1c⟩
/-- Field C_DEGC of `THM_SITE`. -/
def Fd.THM_SITE_C_DEGC : Fld := ⟨0, 8, .ro⟩
/-- Field B_DEGC of `THM_SITE`. -/
def Fd.THM_SITE_B_DEGC : Fld := ⟨8, 8, .ro⟩
/-- Field C_FCST of `THM_SITE`. -/
def Fd.THM_SITE_C_FCST : Fld := ⟨16, 8, .ro⟩
/-- Field B_FCST of `THM_SITE`. -/
def Fd.THM_SITE_B_FCST : Fld := ⟨24, 8, .ro⟩
/-- Field THROTTLE of `THM_SITE`. -/
def Fd.THM_SITE_THROTTLE : Fld := ⟨32, 1, .ro⟩
/-- Field TRIP of `THM_SITE`. -/
def Fd.THM_SITE_TRIP : Fld := ⟨33, 1, .ro⟩
/-- Field HEAD of `THM_SITE_HEAD`. -/
def Fd.THM_SITE_HEAD_HEAD : Fld := ⟨0, 16, .ro⟩
/-- Field COUNT of `PWR_SITE_BOOSTS`. -/
def Fd.PWR_SITE_BOOSTS_COUNT : Fld := ⟨0, 48, .ro⟩
/-- Field COUNT of `PWR_SITE_MJ`. -/
def Fd.PWR_SITE_MJ_COUNT : Fld := ⟨0, 48, .ro⟩
/-- Field COUNT of `THM_SITE_THR_MS`. -/
def Fd.THM_SITE_THR_MS_COUNT : Fld := ⟨0, 48, .ro⟩
/-- Field CAP of `PWR_CAP`. -/
def Fd.PWR_CAP_CAP : Fld := ⟨0, 16, .rw⟩
/-- Field TRIP of `PWR_CAP`. -/
def Fd.PWR_CAP_TRIP : Fld := ⟨16, 16, .rw⟩
/-- Field RATE of `PWR_RAMP_UP`. -/
def Fd.PWR_RAMP_UP_RATE : Fld := ⟨0, 16, .rw⟩
/-- Field RATE of `PWR_RAMP_DOWN`. -/
def Fd.PWR_RAMP_DOWN_RATE : Fld := ⟨0, 16, .rw⟩
/-- Field FLOOR of `PWR_FLOOR`. -/
def Fd.PWR_FLOOR_FLOOR : Fld := ⟨0, 16, .rw⟩
/-- Field DRAW of `PWR_STATUS`. -/
def Fd.PWR_STATUS_DRAW : Fld := ⟨0, 16, .ro⟩
/-- Field CAP_EFF of `PWR_STATUS`. -/
def Fd.PWR_STATUS_CAP_EFF : Fld := ⟨16, 16, .ro⟩
/-- Field CAPPED of `PWR_STATUS`. -/
def Fd.PWR_STATUS_CAPPED : Fld := ⟨32, 1, .ro⟩
/-- Field RAMPING of `PWR_STATUS`. -/
def Fd.PWR_STATUS_RAMPING : Fld := ⟨33, 1, .ro⟩
/-- Field FLOOR_ON of `PWR_STATUS`. -/
def Fd.PWR_STATUS_FLOOR_ON : Fld := ⟨34, 1, .ro⟩
/-- Field DUTY of `PWR_STATUS`. -/
def Fd.PWR_STATUS_DUTY : Fld := ⟨35, 1, .ro⟩
/-- Field EMERG of `PWR_STATUS`. -/
def Fd.PWR_STATUS_EMERG : Fld := ⟨36, 1, .ro⟩
/-- Field THERMAL of `PWR_STATUS`. -/
def Fd.PWR_STATUS_THERMAL : Fld := ⟨37, 1, .ro⟩
/-- Field DUTY_PCT of `PWR_STATUS`. -/
def Fd.PWR_STATUS_DUTY_PCT : Fld := ⟨40, 8, .ro⟩
/-- Field FLOOR_W of `PWR_STATUS`. -/
def Fd.PWR_STATUS_FLOOR_W : Fld := ⟨48, 16, .ro⟩
/-- Field EMERG of `PWR_EVENTS`. -/
def Fd.PWR_EVENTS_EMERG : Fld := ⟨0, 5, .rw1c⟩
/-- Field RAMP_BREACH of `PWR_EVENTS`. -/
def Fd.PWR_EVENTS_RAMP_BREACH : Fld := ⟨5, 1, .rw1c⟩
/-- Field FLOOR_SHORT of `PWR_EVENTS`. -/
def Fd.PWR_EVENTS_FLOOR_SHORT : Fld := ⟨6, 1, .rw1c⟩
/-- Field FALLBACK of `PWR_EVENTS`. -/
def Fd.PWR_EVENTS_FALLBACK : Fld := ⟨7, 1, .rw1c⟩
/-- Field PHASE_LOST of `PWR_EVENTS`. -/
def Fd.PWR_EVENTS_PHASE_LOST : Fld := ⟨8, 1, .rw1c⟩
/-- Field CONVERTER_LOST of `PWR_EVENTS`. -/
def Fd.PWR_EVENTS_CONVERTER_LOST : Fld := ⟨9, 1, .rw1c⟩
/-- Field RAIL_TRIP of `PWR_EVENTS`. -/
def Fd.PWR_EVENTS_RAIL_TRIP : Fld := ⟨10, 1, .rw1c⟩
/-- Field EFUSE of `PWR_EVENTS`. -/
def Fd.PWR_EVENTS_EFUSE : Fld := ⟨11, 1, .rw1c⟩
/-- Field CRACK of `PWR_EVENTS`. -/
def Fd.PWR_EVENTS_CRACK : Fld := ⟨12, 1, .rw1c⟩
/-- Field VIN of `PWR_INPUT`. -/
def Fd.PWR_INPUT_VIN : Fld := ⟨0, 16, .ro⟩
/-- Field IIN of `PWR_INPUT`. -/
def Fd.PWR_INPUT_IIN : Fld := ⟨16, 16, .ro⟩
/-- Field PIN of `PWR_INPUT`. -/
def Fd.PWR_INPUT_PIN : Fld := ⟨32, 16, .ro⟩
/-- Field PHASES of `PWR_IBCq`. -/
def Fd.PWR_IBCq_PHASES : Fld := ⟨0, 8, .ro⟩
/-- Field TIED of `PWR_IBCq`. -/
def Fd.PWR_IBCq_TIED : Fld := ⟨8, 1, .ro⟩
/-- Field FAILED of `PWR_IBCq`. -/
def Fd.PWR_IBCq_FAILED : Fld := ⟨9, 1, .ro⟩
/-- Field VBUS of `PWR_IBCq`. -/
def Fd.PWR_IBCq_VBUS : Fld := ⟨16, 16, .ro⟩
/-- Field POUT of `PWR_IBCq`. -/
def Fd.PWR_IBCq_POUT : Fld := ⟨32, 16, .ro⟩
/-- Field DEGC of `PWR_IBCq`. -/
def Fd.PWR_IBCq_DEGC : Fld := ⟨48, 8, .ro⟩
/-- Field VARIANT of `PWR_VSEL`. -/
def Fd.PWR_VSEL_VARIANT : Fld := ⟨0, 2, .ro⟩
/-- Field OPPT of `PWR_VSEL`. -/
def Fd.PWR_VSEL_OPPT : Fld := ⟨2, 2, .ro⟩
/-- Field FALLBACK of `PWR_VSEL`. -/
def Fd.PWR_VSEL_FALLBACK : Fld := ⟨4, 1, .ro⟩
/-- Field REJ_CAP of `PWR_VSEL`. -/
def Fd.PWR_VSEL_REJ_CAP : Fld := ⟨8, 4, .ro⟩
/-- Field REJ_RAMP of `PWR_VSEL`. -/
def Fd.PWR_VSEL_REJ_RAMP : Fld := ⟨12, 4, .ro⟩
/-- Field REJ_HEAT of `PWR_VSEL`. -/
def Fd.PWR_VSEL_REJ_HEAT : Fld := ⟨16, 4, .ro⟩
/-- Field PHASE_ID of `PWR_VSEL`. -/
def Fd.PWR_VSEL_PHASE_ID : Fld := ⟨32, 16, .ro⟩
/-- Field COUNT of `PWR_ENERGY`. -/
def Fd.PWR_ENERGY_COUNT : Fld := ⟨0, 48, .ro⟩
/-- Field COUNT of `PWR_FLOOR_ENERGY`. -/
def Fd.PWR_FLOOR_ENERGY_COUNT : Fld := ⟨0, 48, .ro⟩
/-- Field COUNT of `PWR_DUTY_NS`. -/
def Fd.PWR_DUTY_NS_COUNT : Fld := ⟨0, 48, .ro⟩
/-- Field COUNT of `PWR_EMERGS`. -/
def Fd.PWR_EMERGS_COUNT : Fld := ⟨0, 48, .ro⟩
/-- Field COUNT of `PWR_FALLBACKS`. -/
def Fd.PWR_FALLBACKS_COUNT : Fld := ⟨0, 48, .ro⟩
/-- Field COUNT of `PWR_WAKE_DEFER`. -/
def Fd.PWR_WAKE_DEFER_COUNT : Fld := ⟨0, 48, .ro⟩
/-- Field THR_B of `THM_CFG`. -/
def Fd.THM_CFG_THR_B : Fld := ⟨0, 8, .rw⟩
/-- Field INLET of `THM_STATUS`. -/
def Fd.THM_STATUS_INLET : Fld := ⟨0, 8, .ro⟩
/-- Field OUTLET of `THM_STATUS`. -/
def Fd.THM_STATUS_OUTLET : Fld := ⟨8, 8, .ro⟩
/-- Field FLOW of `THM_STATUS`. -/
def Fd.THM_STATUS_FLOW : Fld := ⟨16, 16, .ro⟩
/-- Field HOT_SITE of `THM_STATUS`. -/
def Fd.THM_STATUS_HOT_SITE : Fld := ⟨32, 8, .ro⟩
/-- Field HOT_FCST of `THM_STATUS`. -/
def Fd.THM_STATUS_HOT_FCST : Fld := ⟨40, 8, .ro⟩
/-- Field THROTTLE of `THM_STATUS`. -/
def Fd.THM_STATUS_THROTTLE : Fld := ⟨48, 1, .ro⟩
/-- Field TRIP of `THM_STATUS`. -/
def Fd.THM_STATUS_TRIP : Fld := ⟨49, 1, .ro⟩
/-- Field COOL_WARN of `THM_STATUS`. -/
def Fd.THM_STATUS_COOL_WARN : Fld := ⟨50, 1, .ro⟩
/-- Field EVENTS of `THM_EVENTS`. -/
def Fd.THM_EVENTS_EVENTS : Fld := ⟨0, 6, .rw1c⟩
/-- Field DIE of `THM_DIE_SEL`. -/
def Fd.THM_DIE_SEL_DIE : Fld := ⟨0, 9, .rw⟩
/-- Field RTH of `THM_DIE_RTH`. -/
def Fd.THM_DIE_RTH_RTH : Fld := ⟨0, 16, .ro⟩
/-- Field BASE of `THM_DIE_RTH`. -/
def Fd.THM_DIE_RTH_BASE : Fld := ⟨16, 16, .ro⟩
/-- Field BASE_VALID of `THM_DIE_RTH`. -/
def Fd.THM_DIE_RTH_BASE_VALID : Fld := ⟨32, 1, .ro⟩
/-- Field WARN of `THM_DIE_RTH`. -/
def Fd.THM_DIE_RTH_WARN : Fld := ⟨33, 1, .ro⟩
/-- Field BIN_LO of `THM_DIE_CYCn`. -/
def Fd.THM_DIE_CYCn_BIN_LO : Fld := ⟨0, 32, .ro⟩
/-- Field BIN_HI of `THM_DIE_CYCn`. -/
def Fd.THM_DIE_CYCn_BIN_HI : Fld := ⟨32, 32, .ro⟩
/-- Field STAGE of `BOOT_STATUS`. -/
def Fd.BOOT_STATUS_STAGE : Fld := ⟨0, 4, .ro⟩
/-- Field WARM of `BOOT_STATUS`. -/
def Fd.BOOT_STATUS_WARM : Fld := ⟨4, 1, .ro⟩
/-- Field WARM_DENIED of `BOOT_STATUS`. -/
def Fd.BOOT_STATUS_WARM_DENIED : Fld := ⟨5, 1, .ro⟩
/-- Field SLOT of `BOOT_STATUS`. -/
def Fd.BOOT_STATUS_SLOT : Fld := ⟨6, 1, .ro⟩
/-- Field SLOT_OK of `BOOT_STATUS`. -/
def Fd.BOOT_STATUS_SLOT_OK : Fld := ⟨7, 2, .ro⟩
/-- Field SLOT_FAILED of `BOOT_STATUS`. -/
def Fd.BOOT_STATUS_SLOT_FAILED : Fld := ⟨9, 2, .ro⟩
/-- Field RECOVERY_CAUSE of `BOOT_STATUS`. -/
def Fd.BOOT_STATUS_RECOVERY_CAUSE : Fld := ⟨11, 3, .ro⟩
/-- Field SEC_VERSION of `BOOT_IMG`. -/
def Fd.BOOT_IMG_SEC_VERSION : Fld := ⟨0, 32, .ro⟩
/-- Field BUILD_SEQ of `BOOT_IMG`. -/
def Fd.BOOT_IMG_BUILD_SEQ : Fld := ⟨32, 32, .ro⟩
/-- Field LOCK of `BOOT_LOCK`. -/
def Fd.BOOT_LOCK_LOCK : Fld := ⟨0, 1, .rw⟩
/-- Field WATCHDOG_S of `BOOT_CFG`. -/
def Fd.BOOT_CFG_WATCHDOG_S : Fld := ⟨0, 8, .rwl⟩
/-- Field NET_NOTICE_MS of `BOOT_CFG`. -/
def Fd.BOOT_CFG_NET_NOTICE_MS : Fld := ⟨8, 16, .rwl⟩
/-- Field WARM_EN of `BOOT_CFG`. -/
def Fd.BOOT_CFG_WARM_EN : Fld := ⟨24, 1, .rwl⟩
/-- Field SCOPE of `BOOT_RESET`. -/
def Fd.BOOT_RESET_SCOPE : Fld := ⟨0, 3, .wo⟩
/-- Field FORCE of `BOOT_RESET`. -/
def Fd.BOOT_RESET_FORCE : Fld := ⟨3, 1, .wo⟩
/-- Field COLD of `BOOT_RESET`. -/
def Fd.BOOT_RESET_COLD : Fld := ⟨4, 1, .wo⟩
/-- Field TARGET of `BOOT_RESET`. -/
def Fd.BOOT_RESET_TARGET : Fld := ⟨8, 14, .wo⟩
/-- Field BUSY of `BOOT_RESET`. -/
def Fd.BOOT_RESET_BUSY : Fld := ⟨32, 1, .ro⟩
/-- Field ERR of `BOOT_RESET`. -/
def Fd.BOOT_RESET_ERR : Fld := ⟨33, 1, .rw1c⟩
/-- Field ERR_CODE of `BOOT_RESET`. -/
def Fd.BOOT_RESET_ERR_CODE : Fld := ⟨36, 4, .ro⟩
/-- Field ARM of `BOOT_NET_ANNOUNCE`. -/
def Fd.BOOT_NET_ANNOUNCE_ARM : Fld := ⟨0, 1, .rw⟩
/-- Field ELAPSED of `BOOT_NET_ANNOUNCE`. -/
def Fd.BOOT_NET_ANNOUNCE_ELAPSED : Fld := ⟨16, 16, .ro⟩
/-- Field SITE of `BOOT_READY`. -/
def Fd.BOOT_READY_SITE : Fld := ⟨0, 8, .ro⟩
/-- Field NET of `BOOT_READY`. -/
def Fd.BOOT_READY_NET : Fld := ⟨8, 8, .ro⟩
/-- Field HBM of `BOOT_READY`. -/
def Fd.BOOT_READY_HBM : Fld := ⟨16, 11, .ro⟩
/-- Field PORT of `BOOT_READY`. -/
def Fd.BOOT_READY_PORT : Fld := ⟨32, 8, .ro⟩
/-- Field ALL of `BOOT_READY`. -/
def Fd.BOOT_READY_ALL : Fld := ⟨63, 1, .ro⟩
/-- Field BITS of `BOOT_READY_NETn`. -/
def Fd.BOOT_READY_NETn_BITS : Fld := ⟨0, 64, .ro⟩
/-- Field BITS of `BOOT_READY_SITEn`. -/
def Fd.BOOT_READY_SITEn_BITS : Fld := ⟨0, 64, .ro⟩
/-- Field BITS of `BOOT_READY_HBMn`. -/
def Fd.BOOT_READY_HBMn_BITS : Fld := ⟨0, 64, .ro⟩
/-- Field BITS of `BOOT_READY_PORTn`. -/
def Fd.BOOT_READY_PORTn_BITS : Fld := ⟨0, 64, .ro⟩
/-- Field BITS of `BOOT_READY_SVC`. -/
def Fd.BOOT_READY_SVC_BITS : Fld := ⟨0, 11, .ro⟩
/-- Field OP of `BOOT_LOAD_CMD`. -/
def Fd.BOOT_LOAD_CMD_OP : Fld := ⟨0, 2, .wo⟩
/-- Field PART of `BOOT_LOAD_CMD`. -/
def Fd.BOOT_LOAD_CMD_PART : Fld := ⟨4, 2, .wo⟩
/-- Field MASK of `BOOT_LOAD_CMD`. -/
def Fd.BOOT_LOAD_CMD_MASK : Fld := ⟨8, 4, .wo⟩
/-- Field ADDR of `BOOT_LOAD_SRC`. -/
def Fd.BOOT_LOAD_SRC_ADDR : Fld := ⟨0, 48, .rw⟩
/-- Field STATE of `BOOT_LOAD_STATUSp`. -/
def Fd.BOOT_LOAD_STATUSp_STATE : Fld := ⟨0, 3, .ro⟩
/-- Field CODE of `BOOT_LOAD_STATUSp`. -/
def Fd.BOOT_LOAD_STATUSp_CODE : Fld := ⟨8, 8, .ro⟩
/-- Field DETAIL of `BOOT_LOAD_STATUSp`. -/
def Fd.BOOT_LOAD_STATUSp_DETAIL : Fld := ⟨16, 32, .ro⟩
/-- Field VARIANT of `FUSE_INFO`. -/
def Fd.FUSE_INFO_VARIANT : Fld := ⟨0, 2, .ro⟩
/-- Field MAX_OPPT of `FUSE_INFO`. -/
def Fd.FUSE_INFO_MAX_OPPT : Fld := ⟨2, 2, .ro⟩
/-- Field CORES of `FUSE_INFO`. -/
def Fd.FUSE_INFO_CORES : Fld := ⟨4, 14, .ro⟩
/-- Field STACKS of `FUSE_INFO`. -/
def Fd.FUSE_INFO_STACKS : Fld := ⟨18, 6, .ro⟩
/-- Field PORTS of `FUSE_INFO`. -/
def Fd.FUSE_INFO_PORTS : Fld := ⟨24, 8, .ro⟩
/-- Field MIN_SV of `FUSE_INFO`. -/
def Fd.FUSE_INFO_MIN_SV : Fld := ⟨32, 32, .ro⟩
/-- Field SERIAL of `FUSE_SERIALn`. -/
def Fd.FUSE_SERIALn_SERIAL : Fld := ⟨0, 64, .ro⟩
/-- Field MASK of `FUSE_STACK_MASK`. -/
def Fd.FUSE_STACK_MASK_MASK : Fld := ⟨0, 32, .ro⟩
/-- Field MASK of `FUSE_PORT_MASKn`. -/
def Fd.FUSE_PORT_MASKn_MASK : Fld := ⟨0, 64, .ro⟩
/-- Field PORT of `FUSE_GATEWAY`. -/
def Fd.FUSE_GATEWAY_PORT : Fld := ⟨0, 32, .ro⟩
/-- Field STATE of `FUSE_SITE_STATEn`. -/
def Fd.FUSE_SITE_STATEn_STATE : Fld := ⟨0, 64, .ro⟩
/-- Field MASK of `FUSE_CORE_MASKn`. -/
def Fd.FUSE_CORE_MASKn_MASK : Fld := ⟨0, 64, .ro⟩
/-- Field MV0 of `FUSE_VSETn`. -/
def Fd.FUSE_VSETn_MV0 : Fld := ⟨0, 10, .ro⟩
/-- Field MV1 of `FUSE_VSETn`. -/
def Fd.FUSE_VSETn_MV1 : Fld := ⟨16, 10, .ro⟩
/-- Field MV2 of `FUSE_VSETn`. -/
def Fd.FUSE_VSETn_MV2 : Fld := ⟨32, 10, .ro⟩
/-- Field MV3 of `FUSE_VSETn`. -/
def Fd.FUSE_VSETn_MV3 : Fld := ⟨48, 10, .ro⟩
/-- Field SEQ of `FLT_STATUS`. -/
def Fd.FLT_STATUS_SEQ : Fld := ⟨0, 32, .ro⟩
/-- Field OPEN_SEV of `FLT_STATUS`. -/
def Fd.FLT_STATUS_OPEN_SEV : Fld := ⟨32, 3, .ro⟩
/-- Field LOST of `FLT_STATUS`. -/
def Fd.FLT_STATUS_LOST : Fld := ⟨35, 1, .rw1c⟩
/-- Field RETIRING of `FLT_STATUS`. -/
def Fd.FLT_STATUS_RETIRING : Fld := ⟨36, 1, .ro⟩
/-- Field SEQ of `FLT_LOG_ACK`. -/
def Fd.FLT_LOG_ACK_SEQ : Fld := ⟨0, 32, .rw⟩
/-- Field SEQ of `FLT_LOG_SEL`. -/
def Fd.FLT_LOG_SEL_SEQ : Fld := ⟨0, 32, .rw⟩
/-- Field HELD of `FLT_LOG_SEL`. -/
def Fd.FLT_LOG_SEL_HELD : Fld := ⟨63, 1, .ro⟩
/-- Field WORD of `FLT_LOG_DATAn`. -/
def Fd.FLT_LOG_DATAn_WORD : Fld := ⟨0, 64, .ro⟩
/-- Field KIND of `FLT_ACCESS`. -/
def Fd.FLT_ACCESS_KIND : Fld := ⟨0, 2, .ro⟩
/-- Field WRITE of `FLT_ACCESS`. -/
def Fd.FLT_ACCESS_WRITE : Fld := ⟨2, 1, .ro⟩
/-- Field REQ of `FLT_ACCESS`. -/
def Fd.FLT_ACCESS_REQ : Fld := ⟨4, 4, .ro⟩
/-- Field SITE of `FLT_ACCESS`. -/
def Fd.FLT_ACCESS_SITE : Fld := ⟨8, 8, .ro⟩
/-- Field VALID of `FLT_ACCESS`. -/
def Fd.FLT_ACCESS_VALID : Fld := ⟨63, 1, .rw1c⟩
/-- Field ADDR of `FLT_ACCESS_ADDR`. -/
def Fd.FLT_ACCESS_ADDR_ADDR : Fld := ⟨0, 48, .ro⟩
/-- Field EN of `FLT_LEASE`. -/
def Fd.FLT_LEASE_EN : Fld := ⟨0, 1, .rw⟩
/-- Field EXPIRED of `FLT_LEASE`. -/
def Fd.FLT_LEASE_EXPIRED : Fld := ⟨1, 1, .ro⟩
/-- Field FENCED of `FLT_LEASE`. -/
def Fd.FLT_LEASE_FENCED : Fld := ⟨2, 1, .ro⟩
/-- Field PERIOD_MS of `FLT_LEASE`. -/
def Fd.FLT_LEASE_PERIOD_MS : Fld := ⟨16, 16, .rw⟩
/-- Field REMAIN_MS of `FLT_LEASE`. -/
def Fd.FLT_LEASE_REMAIN_MS : Fld := ⟨32, 32, .ro⟩
/-- Field UNTIL_MS of `FLT_LEASE_RENEW`. -/
def Fd.FLT_LEASE_RENEW_UNTIL_MS : Fld := ⟨0, 58, .wo⟩
/-- Field EXPIRY_MS of `FLT_LEASE_EXPIRY`. -/
def Fd.FLT_LEASE_EXPIRY_EXPIRY_MS : Fld := ⟨0, 58, .ro⟩
/-- Field OP of `FLT_FENCE_CMD`. -/
def Fd.FLT_FENCE_CMD_OP : Fld := ⟨0, 2, .wo⟩
/-- Field KIND of `FLT_FENCE_CMD`. -/
def Fd.FLT_FENCE_CMD_KIND : Fld := ⟨4, 4, .wo⟩
/-- Field INDEX of `FLT_FENCE_CMD`. -/
def Fd.FLT_FENCE_CMD_INDEX : Fld := ⟨8, 16, .wo⟩
/-- Field BUSY of `FLT_FENCE_CMD`. -/
def Fd.FLT_FENCE_CMD_BUSY : Fld := ⟨32, 1, .ro⟩
/-- Field ERR of `FLT_FENCE_CMD`. -/
def Fd.FLT_FENCE_CMD_ERR : Fld := ⟨33, 1, .rw1c⟩
/-- Field ERR_CODE of `FLT_FENCE_CMD`. -/
def Fd.FLT_FENCE_CMD_ERR_CODE : Fld := ⟨36, 4, .ro⟩
/-- Field ACTIVE of `FLT_STEWARD`. -/
def Fd.FLT_STEWARD_ACTIVE : Fld := ⟨0, 1, .ro⟩
/-- Field STANDBY_OK of `FLT_STEWARD`. -/
def Fd.FLT_STEWARD_STANDBY_OK : Fld := ⟨1, 1, .ro⟩
/-- Field LOCKSTEP of `FLT_STEWARD`. -/
def Fd.FLT_STEWARD_LOCKSTEP : Fld := ⟨2, 1, .ro⟩
/-- Field MISMATCH of `FLT_STEWARD`. -/
def Fd.FLT_STEWARD_MISMATCH : Fld := ⟨3, 1, .rw1c⟩
/-- Field TAKEOVER of `FLT_STEWARD`. -/
def Fd.FLT_STEWARD_TAKEOVER : Fld := ⟨4, 1, .rw1c⟩
/-- Field COUNT of `FLT_RECORDS`. -/
def Fd.FLT_RECORDS_COUNT : Fld := ⟨0, 48, .ro⟩
/-- Field COUNT of `FLT_RETIREMENTS`. -/
def Fd.FLT_RETIREMENTS_COUNT : Fld := ⟨0, 48, .ro⟩
/-- Field COUNT of `FLT_PUBLICATIONS`. -/
def Fd.FLT_PUBLICATIONS_COUNT : Fld := ⟨0, 48, .ro⟩
/-- Field COUNT of `FLT_TAKEOVERS`. -/
def Fd.FLT_TAKEOVERS_COUNT : Fld := ⟨0, 48, .ro⟩
/-- Field COUNT of `FLT_SELF_FENCES`. -/
def Fd.FLT_SELF_FENCES_COUNT : Fld := ⟨0, 48, .ro⟩
/-- Field COUNT of `FLT_ACCESS_ERRS`. -/
def Fd.FLT_ACCESS_ERRS_COUNT : Fld := ⟨0, 48, .ro⟩
/-- Field STATE of `SEC_LIFECYCLE`. -/
def Fd.SEC_LIFECYCLE_STATE : Fld := ⟨0, 2, .ro⟩
/-- Field DEBUG_OPENED of `SEC_LIFECYCLE`. -/
def Fd.SEC_LIFECYCLE_DEBUG_OPENED : Fld := ⟨2, 1, .ro⟩
/-- Field TARGET of `SEC_LC_CMD`. -/
def Fd.SEC_LC_CMD_TARGET : Fld := ⟨0, 2, .wo⟩
/-- Field OPEN_DEBUG of `SEC_LC_CMD`. -/
def Fd.SEC_LC_CMD_OPEN_DEBUG : Fld := ⟨2, 1, .wo⟩
/-- Field BUSY of `SEC_LC_CMD`. -/
def Fd.SEC_LC_CMD_BUSY : Fld := ⟨8, 1, .ro⟩
/-- Field ERR of `SEC_LC_CMD`. -/
def Fd.SEC_LC_CMD_ERR : Fld := ⟨9, 1, .rw1c⟩
/-- Field PMODE of `SEC_PART_CFG`. -/
def Fd.SEC_PART_CFG_PMODE : Fld := ⟨0, 2, .rw⟩
/-- Field MESH of `SEC_CORRIDOR`. -/
def Fd.SEC_CORRIDOR_MESH : Fld := ⟨0, 16, .rw⟩
/-- Field SPAN of `SEC_CORRIDOR`. -/
def Fd.SEC_CORRIDOR_SPAN : Fld := ⟨16, 8, .rw⟩
/-- Field HOLDER of `SEC_CORRIDOR`. -/
def Fd.SEC_CORRIDOR_HOLDER : Fld := ⟨24, 2, .rw⟩
/-- Field READERS of `SEC_CORRIDOR`. -/
def Fd.SEC_CORRIDOR_READERS : Fld := ⟨28, 4, .rw⟩
/-- Field EN of `SEC_CORRIDOR`. -/
def Fd.SEC_CORRIDOR_EN : Fld := ⟨32, 1, .rw⟩
/-- Field STATE of `SEC_PARTp`. -/
def Fd.SEC_PARTp_STATE : Fld := ⟨0, 2, .ro⟩
/-- Field PMU_GRANT of `SEC_PARTp`. -/
def Fd.SEC_PARTp_PMU_GRANT : Fld := ⟨2, 1, .ro⟩
/-- Field TDI_RUN of `SEC_PARTp`. -/
def Fd.SEC_PARTp_TDI_RUN : Fld := ⟨3, 2, .ro⟩
/-- Field GO of `SEC_ZEROIZE`. -/
def Fd.SEC_ZEROIZE_GO : Fld := ⟨0, 4, .wo⟩
/-- Field BUSY of `SEC_ZEROIZE`. -/
def Fd.SEC_ZEROIZE_BUSY : Fld := ⟨4, 4, .ro⟩
/-- Field DONE of `SEC_ZEROIZE`. -/
def Fd.SEC_ZEROIZE_DONE : Fld := ⟨8, 4, .ro⟩
/-- Field LOADED of `SEC_SLOTS`. -/
def Fd.SEC_SLOTS_LOADED : Fld := ⟨0, 32, .ro⟩
/-- Field IMPORTED of `SEC_SLOTS`. -/
def Fd.SEC_SLOTS_IMPORTED : Fld := ⟨32, 32, .ro⟩
/-- Field ENTRY of `SEC_KS_SEL`. -/
def Fd.SEC_KS_SEL_ENTRY : Fld := ⟨0, 6, .rw⟩
/-- Field ROLE of `SEC_KS_INFO`. -/
def Fd.SEC_KS_INFO_ROLE : Fld := ⟨0, 8, .ro⟩
/-- Field ID of `SEC_KS_IDn`. -/
def Fd.SEC_KS_IDn_ID : Fld := ⟨0, 64, .ro⟩
/-- Field DIGEST of `SEC_PART_BINDp_n`. -/
def Fd.SEC_PART_BINDp_n_DIGEST : Fld := ⟨0, 64, .rw⟩
/-- Field COUNT of `SEC_ZEROISES`. -/
def Fd.SEC_ZEROISES_COUNT : Fld := ⟨0, 48, .ro⟩
/-- Field COUNT of `SEC_REFUSALS`. -/
def Fd.SEC_REFUSALS_COUNT : Fld := ⟨0, 48, .ro⟩
/-- Field DATA of `SEC_TOKEN`. -/
def Fd.SEC_TOKEN_DATA : Fld := ⟨0, 64, .rw⟩
/-- Field SELFTEST_OK of `SEC_EDGE_STATUS`. -/
def Fd.SEC_EDGE_STATUS_SELFTEST_OK : Fld := ⟨0, 1, .ro⟩
/-- Field KEYED of `SEC_EDGE_STATUS`. -/
def Fd.SEC_EDGE_STATUS_KEYED : Fld := ⟨1, 1, .ro⟩
/-- Field SLOTS of `SEC_EDGE_STATUS`. -/
def Fd.SEC_EDGE_STATUS_SLOTS : Fld := ⟨32, 32, .ro⟩
/-- Field FN of `MGT_FN_ID`. -/
def Fd.MGT_FN_ID_FN : Fld := ⟨0, 3, .ro⟩
/-- Field PORT of `MGT_FN_ID`. -/
def Fd.MGT_FN_ID_PORT : Fld := ⟨3, 1, .ro⟩
/-- Field PART of `MGT_FN_ID`. -/
def Fd.MGT_FN_ID_PART : Fld := ⟨4, 2, .ro⟩
/-- Field TDI_RUN of `MGT_FN_ID`. -/
def Fd.MGT_FN_ID_TDI_RUN : Fld := ⟨6, 1, .ro⟩
/-- Field EN of `MGT_FN_APn`. -/
def Fd.MGT_FN_APn_EN : Fld := ⟨0, 1, .rw⟩
/-- Field KEY of `MGT_FN_APn`. -/
def Fd.MGT_FN_APn_KEY : Fld := ⟨1, 5, .rw⟩
/-- Field BASE of `MGT_FN_APn`. -/
def Fd.MGT_FN_APn_BASE : Fld := ⟨30, 18, .rw⟩
/-- Field ADDR of `MGT_FN_FR_BASE`. -/
def Fd.MGT_FN_FR_BASE_ADDR : Fld := ⟨12, 52, .rw⟩
/-- Field LOG2 of `MGT_FN_FR_CTL`. -/
def Fd.MGT_FN_FR_CTL_LOG2 : Fld := ⟨0, 4, .rw⟩
/-- Field EN of `MGT_FN_FR_CTL`. -/
def Fd.MGT_FN_FR_CTL_EN : Fld := ⟨4, 1, .rw⟩
/-- Field HEAD of `MGT_FN_FR_CTL`. -/
def Fd.MGT_FN_FR_CTL_HEAD : Fld := ⟨16, 16, .ro⟩
/-- Field TAIL of `MGT_FN_FR_CTL`. -/
def Fd.MGT_FN_FR_CTL_TAIL : Fld := ⟨48, 16, .rw⟩
/-- Field EN of `MGT_FN_FPR_ADDR`. -/
def Fd.MGT_FN_FPR_ADDR_EN : Fld := ⟨0, 1, .rw⟩
/-- Field ADDR of `MGT_FN_FPR_ADDR`. -/
def Fd.MGT_FN_FPR_ADDR_ADDR : Fld := ⟨12, 52, .rw⟩
/-- Field ADDR of `MGT_FN_PS_BASE`. -/
def Fd.MGT_FN_PS_BASE_ADDR : Fld := ⟨12, 52, .rw⟩
/-- Field LOG2 of `MGT_FN_PS_CTL`. -/
def Fd.MGT_FN_PS_CTL_LOG2 : Fld := ⟨0, 6, .rw⟩
/-- Field EN of `MGT_FN_PS_CTL`. -/
def Fd.MGT_FN_PS_CTL_EN : Fld := ⟨6, 1, .rw⟩
/-- Field HEAD of `MGT_FN_PS_HEAD`. -/
def Fd.MGT_FN_PS_HEAD_HEAD : Fld := ⟨0, 34, .ro⟩
/-- Field TAIL of `MGT_FN_PS_TAIL`. -/
def Fd.MGT_FN_PS_TAIL_TAIL : Fld := ⟨0, 34, .rw⟩
/-- Field CAUSE of `MGT_FN_IRQ`. -/
def Fd.MGT_FN_IRQ_CAUSE : Fld := ⟨0, 8, .rw1c⟩
/-- Field MASK of `MGT_FN_IRQ_MASK`. -/
def Fd.MGT_FN_IRQ_MASK_MASK : Fld := ⟨0, 8, .rw⟩
/-- Field NS of `TIME_NS`. -/
def Fd.TIME_NS_NS : Fld := ⟨0, 30, .ro⟩
/-- Field SEC of `TIME_SEC`. -/
def Fd.TIME_SEC_SEC : Fld := ⟨0, 48, .ro⟩
/-- Field SEC of `TIME_SEC_SHADOW`. -/
def Fd.TIME_SEC_SHADOW_SEC : Fld := ⟨0, 48, .ro⟩
/-- Field VALID of `TIME_STATUS`. -/
def Fd.TIME_STATUS_VALID : Fld := ⟨0, 1, .ro⟩
/-- Field LOCKED of `TIME_STATUS`. -/
def Fd.TIME_STATUS_LOCKED : Fld := ⟨1, 1, .ro⟩
/-- Field HOLDOVER of `TIME_STATUS`. -/
def Fd.TIME_STATUS_HOLDOVER : Fld := ⟨2, 1, .ro⟩
/-- Field SLEWING of `TIME_STATUS`. -/
def Fd.TIME_STATUS_SLEWING : Fld := ⟨3, 1, .ro⟩
/-- Field BUSY of `TIME_STATUS`. -/
def Fd.TIME_STATUS_BUSY : Fld := ⟨4, 1, .ro⟩
/-- Field STEP_REFUSED of `TIME_STATUS`. -/
def Fd.TIME_STATUS_STEP_REFUSED : Fld := ⟨5, 1, .rw1c⟩
/-- Field OFFSET of `TIME_OFFSET`. -/
def Fd.TIME_OFFSET_OFFSET : Fld := ⟨0, 32, .ro⟩
/-- Field RATE of `TIME_OFFSET`. -/
def Fd.TIME_OFFSET_RATE : Fld := ⟨32, 32, .ro⟩
/-- Field SEC of `TIME_SET_SEC`. -/
def Fd.TIME_SET_SEC_SEC : Fld := ⟨0, 48, .rw⟩
/-- Field NS of `TIME_SET_NS`. -/
def Fd.TIME_SET_NS_NS : Fld := ⟨0, 30, .rw⟩
/-- Field NS of `TIME_ADJ`. -/
def Fd.TIME_ADJ_NS : Fld := ⟨0, 64, .rw⟩
/-- Field OP of `TIME_CMD`. -/
def Fd.TIME_CMD_OP : Fld := ⟨0, 2, .wo⟩
/-- Field PTP_EN of `TIME_CFG`. -/
def Fd.TIME_CFG_PTP_EN : Fld := ⟨0, 1, .rw⟩
/-- Field L2 of `TIME_CFG`. -/
def Fd.TIME_CFG_L2 : Fld := ⟨1, 1, .rw⟩
/-- Field DOMAIN of `TIME_CFG`. -/
def Fd.TIME_CFG_DOMAIN : Fld := ⟨2, 8, .rw⟩
/-- Field SLEW_PPM of `TIME_CFG`. -/
def Fd.TIME_CFG_SLEW_PPM : Fld := ⟨16, 10, .rw⟩
/-- Field OFFSET of `TIME_UTC`. -/
def Fd.TIME_UTC_OFFSET : Fld := ⟨0, 16, .ro⟩
/-- Field VALID of `TIME_UTC`. -/
def Fd.TIME_UTC_VALID : Fld := ⟨16, 1, .ro⟩
/-- Field SEQ of `TIME_MARK_SEQ`. -/
def Fd.TIME_MARK_SEQ_SEQ : Fld := ⟨0, 32, .ro⟩
/-- Field SC of `TIME_MARK_SC`. -/
def Fd.TIME_MARK_SC_SC : Fld := ⟨0, 64, .ro⟩
/-- Field SEC of `TIME_MARK_SEC`. -/
def Fd.TIME_MARK_SEC_SEC : Fld := ⟨0, 48, .ro⟩
/-- Field NS of `TIME_MARK_NS`. -/
def Fd.TIME_MARK_NS_NS : Fld := ⟨0, 30, .ro⟩
/-- Field DOMAIN of `TIME_MARK_NS`. -/
def Fd.TIME_MARK_NS_DOMAIN : Fld := ⟨32, 8, .ro⟩
/-- Field COUNT of `BSN_CE`. -/
def Fd.BSN_CE_COUNT : Fld := ⟨0, 48, .ro⟩
/-- Field COUNT of `BSN_UE`. -/
def Fd.BSN_UE_COUNT : Fld := ⟨0, 48, .ro⟩
/-- Field COUNT of `BSN_SCRUB_ROWS`. -/
def Fd.BSN_SCRUB_ROWS_COUNT : Fld := ⟨0, 48, .ro⟩
/-- Field COUNT of `BSN_SCHED_ACC`. -/
def Fd.BSN_SCHED_ACC_COUNT : Fld := ⟨0, 48, .ro⟩
/-- Field COUNT of `BSN_MAINT_ACC`. -/
def Fd.BSN_MAINT_ACC_COUNT : Fld := ⟨0, 48, .ro⟩
/-- Field COUNT of `BSN_ZF_ROWS`. -/
def Fd.BSN_ZF_ROWS_COUNT : Fld := ⟨0, 48, .ro⟩
/-- Field COUNT of `CORE_CYC_s_k`. -/
def Fd.CORE_CYC_s_k_COUNT : Fld := ⟨0, 48, .ro⟩
/-- Field COUNT of `CORE_BUNDLES`. -/
def Fd.CORE_BUNDLES_COUNT : Fld := ⟨0, 48, .ro⟩
/-- Field COUNT of `CORE_EVTn`. -/
def Fd.CORE_EVTn_COUNT : Fld := ⟨0, 48, .ro⟩
/-- Field COUNT of `CORE_SAMP_WRITTEN`. -/
def Fd.CORE_SAMP_WRITTEN_COUNT : Fld := ⟨0, 32, .ro⟩
/-- Field COUNT of `CORE_SAMP_LOST`. -/
def Fd.CORE_SAMP_LOST_COUNT : Fld := ⟨0, 32, .ro⟩
/-- Field SEL of `CORE_EVT_SEL`. -/
def Fd.CORE_EVT_SEL_SEL : Fld := ⟨0, 32, .rw⟩
/-- Field PERIOD of `CORE_SAMP_CFG`. -/
def Fd.CORE_SAMP_CFG_PERIOD : Fld := ⟨0, 24, .rw⟩
/-- Field OFFSET of `CORE_SAMP_CFG`. -/
def Fd.CORE_SAMP_CFG_OFFSET : Fld := ⟨24, 24, .rw⟩
/-- Field SLOT of `CORE_SAMP_CFG`. -/
def Fd.CORE_SAMP_CFG_SLOT : Fld := ⟨48, 3, .rw⟩
/-- Field EN of `PMU_CFG`. -/
def Fd.PMU_CFG_EN : Fld := ⟨0, 1, .rwl⟩
/-- Field LOG2P of `PMU_CFG`. -/
def Fd.PMU_CFG_LOG2P : Fld := ⟨1, 6, .rwl⟩
/-- Field BASE of `PMU_BUF`. -/
def Fd.PMU_BUF_BASE : Fld := ⟨26, 22, .rwl⟩
/-- Field IN_FORCE of `PMU_STATUS`. -/
def Fd.PMU_STATUS_IN_FORCE : Fld := ⟨0, 1, .ro⟩
/-- Field COLLECTING of `PMU_STATUS`. -/
def Fd.PMU_STATUS_COLLECTING : Fld := ⟨1, 1, .ro⟩
/-- Field FREEZE_SEQ of `PMU_STATUS`. -/
def Fd.PMU_STATUS_FREEZE_SEQ : Fld := ⟨32, 32, .ro⟩
/-- Field F of `PMU_FREEZE_SC`. -/
def Fd.PMU_FREEZE_SC_F : Fld := ⟨0, 64, .ro⟩
/-- Field OVF of `PMU_EVENTS`. -/
def Fd.PMU_EVENTS_OVF : Fld := ⟨0, 1, .rw1c⟩
/-- Field SAMP_OVF of `PMU_EVENTS`. -/
def Fd.PMU_EVENTS_SAMP_OVF : Fld := ⟨1, 1, .rw1c⟩
/-- Field SKIPPED of `PMU_EVENTS`. -/
def Fd.PMU_EVENTS_SKIPPED : Fld := ⟨2, 1, .rw1c⟩
/-- Field COUNT of `PMU_FREEZES`. -/
def Fd.PMU_FREEZES_COUNT : Fld := ⟨0, 48, .ro⟩
/-- Field COUNT of `PMU_SKIPPED`. -/
def Fd.PMU_SKIPPED_COUNT : Fld := ⟨0, 48, .ro⟩
/-- Field COUNT of `PMU_BYTES`. -/
def Fd.PMU_BYTES_COUNT : Fld := ⟨0, 48, .ro⟩
/-- Field EN of `MGT_PORTn_CFG`. -/
def Fd.MGT_PORTn_CFG_EN : Fld := ⟨0, 1, .rwl⟩
/-- Field FEC of `MGT_PORTn_CFG`. -/
def Fd.MGT_PORTn_CFG_FEC : Fld := ⟨1, 1, .rwl⟩
/-- Field LINK of `MGT_PORTn_STATUS`. -/
def Fd.MGT_PORTn_STATUS_LINK : Fld := ⟨0, 1, .ro⟩
/-- Field PTP_SRC of `MGT_PORTn_STATUS`. -/
def Fd.MGT_PORTn_STATUS_PTP_SRC : Fld := ⟨1, 1, .ro⟩
/-- Field SESSIONS of `MGT_PORTn_STATUS`. -/
def Fd.MGT_PORTn_STATUS_SESSIONS : Fld := ⟨2, 3, .ro⟩
/-- Field MAC of `MGT_PORTn_STATUS`. -/
def Fd.MGT_PORTn_STATUS_MAC : Fld := ⟨16, 48, .ro⟩
/-- Field COUNT of `MGT_DROPPED`. -/
def Fd.MGT_DROPPED_COUNT : Fld := ⟨0, 48, .ro⟩
/-- Field DATA of `CORE_SAMPn`. -/
def Fd.CORE_SAMPn_DATA : Fld := ⟨0, 64, .ro⟩
/-- Field SC of `CLK_MARK_SC`. -/
def Fd.CLK_MARK_SC_SC : Fld := ⟨0, 64, .ro⟩
/-- Field SEQ of `CLK_MARK`. -/
def Fd.CLK_MARK_SEQ : Fld := ⟨0, 32, .ro⟩
/-- Field MINV of `PWR_MINV_IN`. -/
def Fd.PWR_MINV_IN_MINV : Fld := ⟨0, 16, .ro⟩
/-- Field AMPS of `PWR_MINV_IN`. -/
def Fd.PWR_MINV_IN_AMPS : Fld := ⟨16, 16, .ro⟩
/-- Field REARM of `PWR_MINV_IN`. -/
def Fd.PWR_MINV_IN_REARM : Fld := ⟨63, 1, .wo⟩
/-- Field SC of `PWR_MINV_IN_SC`. -/
def Fd.PWR_MINV_IN_SC_SC : Fld := ⟨0, 64, .ro⟩
/-- Field NS of `PWR_MINV_IN_TIME`. -/
def Fd.PWR_MINV_IN_TIME_NS : Fld := ⟨0, 30, .ro⟩
/-- Field SEC of `PWR_MINV_IN_TIME`. -/
def Fd.PWR_MINV_IN_TIME_SEC : Fld := ⟨32, 32, .ro⟩
/-- Field DATA of `BOOT_FPR_BUFb_n`. -/
def Fd.BOOT_FPR_BUFb_n_DATA : Fld := ⟨0, 64, .ro⟩
/-- Field DATA of `STM_LD_BUFn`. -/
def Fd.STM_LD_BUFn_DATA : Fld := ⟨0, 64, .rw⟩

/-- Rows of block `core`. -/
def rowsCore : List RegRow :=
  [⟨0x0, [], 0x0, false, [⟨0, 12, .rw⟩, ⟨16, 1, .rw⟩, ⟨17, 1, .wo⟩]⟩,
   ⟨0x8, [], 0x0, false, [⟨0, 64, .rw⟩]⟩,
   ⟨0x10, [], 0x1, false, [⟨0, 3, .ro⟩, ⟨3, 1, .ro⟩, ⟨4, 3, .ro⟩, ⟨8, 12, .ro⟩, ⟨20, 2, .ro⟩, ⟨22, 2, .ro⟩, ⟨32, 16, .ro⟩]⟩,
   ⟨0x18, [], 0x0, false, [⟨0, 8, .ro⟩, ⟨8, 3, .ro⟩, ⟨12, 12, .ro⟩, ⟨63, 1, .rw1c⟩]⟩,
   ⟨0x20, [], 0x0, false, [⟨0, 64, .ro⟩]⟩,
   ⟨0x40, [(8, 4)], 0x0, false, [⟨0, 64, .ro⟩]⟩,
   ⟨0x100, [(8, 32)], 0x0, false, [⟨0, 64, .rw⟩]⟩,
   ⟨0x200, [], 0x1, false, [⟨0, 1, .ro⟩, ⟨1, 7, .rw⟩]⟩,
   ⟨0x210, [(8, 4)], 0x0, false, [⟨0, 12, .ro⟩, ⟨12, 12, .ro⟩, ⟨24, 32, .ro⟩, ⟨63, 1, .ro⟩]⟩,
   ⟨0x300, [], 0x0, false, [⟨0, 64, .rw⟩]⟩,
   ⟨0x310, [], 0x0, false, [⟨0, 1, .rw⟩]⟩,
   ⟨0x318, [], 0x0, false, [⟨0, 11, .ro⟩, ⟨16, 1, .rw1c⟩, ⟨17, 1, .rw1c⟩, ⟨32, 15, .ro⟩]⟩,
   ⟨0x400, [(8, 64)], 0x0, false, [⟨0, 64, .rw⟩]⟩,
   ⟨0x800, [(8, 16)], 0x0, true, [⟨0, 48, .ro⟩, ⟨63, 1, .ro⟩]⟩,
   ⟨0x880, [], 0x0, true, [⟨0, 48, .ro⟩, ⟨63, 1, .ro⟩]⟩,
   ⟨0x888, [(8, 4)], 0x0, true, [⟨0, 48, .ro⟩, ⟨63, 1, .ro⟩]⟩,
   ⟨0x8A8, [], 0x0, true, [⟨0, 32, .ro⟩, ⟨63, 1, .ro⟩]⟩,
   ⟨0x8B0, [], 0x0, true, [⟨0, 32, .ro⟩, ⟨63, 1, .ro⟩]⟩,
   ⟨0x900, [], 0x0, false, [⟨0, 32, .rw⟩]⟩,
   ⟨0x908, [], 0x0, false, [⟨0, 24, .rw⟩, ⟨24, 24, .rw⟩, ⟨48, 3, .rw⟩]⟩] ++
  [⟨0x1000, [(8, 512)], 0x0, false, [⟨0, 64, .ro⟩]⟩]

/-- Rows of block `site`. -/
def rowsSite : List RegRow :=
  [⟨0x4000, [], 0x0, false, [⟨0, 1, .wo⟩, ⟨1, 1, .ro⟩, ⟨2, 1, .rw1c⟩, ⟨8, 8, .rw⟩, ⟨16, 9, .rw⟩, ⟨40, 4, .ro⟩]⟩,
   ⟨0x4008, [], 0x0, false, [⟨0, 22, .rw⟩]⟩,
   ⟨0x4010, [], 0x0, false, [⟨0, 8, .rw⟩, ⟨8, 2, .rw⟩]⟩,
   ⟨0x4018, [], 0x0, false, [⟨0, 64, .ro⟩]⟩,
   ⟨0x4020, [], 0x0, false, [⟨0, 20, .wo⟩, ⟨20, 1, .wo⟩]⟩,
   ⟨0x4028, [], 0x0, false, [⟨0, 8, .ro⟩, ⟨8, 8, .ro⟩, ⟨16, 6, .ro⟩, ⟨63, 1, .rw1c⟩]⟩,
   ⟨0x4030, [], 0x0, false, [⟨0, 64, .ro⟩]⟩,
   ⟨0x4038, [], 0x0, false, [⟨0, 8, .ro⟩, ⟨63, 1, .rw1c⟩]⟩,
   ⟨0x4100, [], 0x0, true, [⟨0, 48, .ro⟩, ⟨63, 1, .ro⟩]⟩,
   ⟨0x4108, [], 0x0, true, [⟨0, 48, .ro⟩, ⟨63, 1, .ro⟩]⟩,
   ⟨0x4110, [], 0x0, true, [⟨0, 48, .ro⟩, ⟨63, 1, .ro⟩]⟩]

/-- Rows of block `bsn`. -/
def rowsBsn : List RegRow :=
  [⟨0x0, [], 0x14, false, [⟨0, 4, .rw⟩, ⟨4, 1, .rw⟩]⟩,
   ⟨0x8, [], 0x0, false, [⟨0, 1, .ro⟩, ⟨1, 1, .ro⟩, ⟨2, 1, .rw1c⟩, ⟨3, 1, .ro⟩, ⟨4, 1, .ro⟩]⟩,
   ⟨0x10, [], 0x0, false, [⟨0, 9, .ro⟩, ⟨9, 13, .ro⟩, ⟨22, 1, .ro⟩, ⟨24, 7, .ro⟩, ⟨31, 1, .ro⟩, ⟨32, 7, .ro⟩, ⟨39, 1, .ro⟩, ⟨40, 1, .ro⟩, ⟨48, 8, .ro⟩, ⟨63, 1, .rw1c⟩]⟩,
   ⟨0x18, [], 0x0, false, [⟨0, 64, .ro⟩]⟩,
   ⟨0x20, [], 0x0, false, [⟨0, 2, .ro⟩, ⟨2, 1, .ro⟩, ⟨3, 2, .ro⟩, ⟨5, 3, .ro⟩, ⟨8, 8, .ro⟩, ⟨16, 9, .ro⟩, ⟨25, 13, .ro⟩, ⟨63, 1, .rw1c⟩]⟩,
   ⟨0x28, [], 0x0, false, [⟨0, 64, .ro⟩]⟩,
   ⟨0x30, [], 0x0, false, [⟨0, 13, .ro⟩, ⟨13, 1, .rw1c⟩, ⟨32, 32, .ro⟩]⟩,
   ⟨0x40, [], 0x0, false, [⟨0, 1, .wo⟩, ⟨1, 1, .wo⟩, ⟨2, 8, .wo⟩]⟩,
   ⟨0x50, [], 0x0, false, [⟨0, 1, .wo⟩]⟩,
   ⟨0x58, [], 0x0, false, [⟨0, 22, .rw⟩]⟩,
   ⟨0x60, [], 0x0, false, [⟨0, 23, .rw⟩]⟩,
   ⟨0x80, [(8, 6)], 0x0, false, [⟨0, 64, .ro⟩]⟩,
   ⟨0x1000, [(8, 192)], 0x2, false, [⟨0, 1, .rw⟩, ⟨1, 1, .rw⟩, ⟨2, 1, .rw⟩, ⟨3, 1, .rw1c⟩]⟩,
   ⟨0x100, [], 0x0, true, [⟨0, 48, .ro⟩, ⟨63, 1, .ro⟩]⟩,
   ⟨0x108, [], 0x0, true, [⟨0, 48, .ro⟩, ⟨63, 1, .ro⟩]⟩,
   ⟨0x110, [], 0x0, true, [⟨0, 48, .ro⟩, ⟨63, 1, .ro⟩]⟩,
   ⟨0x118, [], 0x0, true, [⟨0, 48, .ro⟩, ⟨63, 1, .ro⟩]⟩,
   ⟨0x120, [], 0x0, true, [⟨0, 48, .ro⟩, ⟨63, 1, .ro⟩]⟩,
   ⟨0x128, [], 0x0, true, [⟨0, 48, .ro⟩, ⟨63, 1, .ro⟩]⟩]

/-- Rows of block `ril`. -/
def rowsRil : List RegRow :=
  [⟨0x0, [], 0x40000, false, [⟨0, 16, .ro⟩, ⟨16, 2, .ro⟩, ⟨18, 1, .ro⟩, ⟨19, 13, .ro⟩, ⟨32, 32, .ro⟩]⟩,
   ⟨0x10, [], 0x0, false, [⟨0, 8, .ro⟩, ⟨8, 8, .ro⟩, ⟨16, 8, .ro⟩, ⟨24, 13, .ro⟩, ⟨37, 9, .ro⟩, ⟨46, 1, .ro⟩, ⟨63, 1, .rw1c⟩]⟩,
   ⟨0x18, [], 0x0, false, [⟨0, 64, .ro⟩]⟩,
   ⟨0x20, [], 0x0, false, [⟨0, 8, .ro⟩, ⟨8, 8, .ro⟩, ⟨16, 8, .ro⟩]⟩,
   ⟨0x28, [], 0x0, false, [⟨0, 8, .rw1c⟩, ⟨8, 8, .rw1c⟩, ⟨16, 2, .rw1c⟩]⟩,
   ⟨0x30, [], 0x0, false, [⟨0, 1, .rw1c⟩, ⟨1, 1, .rw1c⟩, ⟨2, 1, .rw1c⟩, ⟨3, 1, .rw1c⟩]⟩,
   ⟨0x40, [], 0x0, false, [⟨0, 1, .wo⟩, ⟨1, 1, .ro⟩, ⟨2, 1, .rw1c⟩, ⟨3, 2, .rw⟩, ⟨8, 13, .rw⟩, ⟨21, 14, .rw⟩, ⟨40, 4, .ro⟩]⟩,
   ⟨0x48, [], 0x0, false, [⟨0, 22, .rw⟩]⟩,
   ⟨0x50, [], 0x0, false, [⟨0, 2, .rw⟩, ⟨8, 13, .rw⟩, ⟨21, 5, .rw⟩]⟩,
   ⟨0x58, [], 0x0, false, [⟨0, 64, .ro⟩]⟩,
   ⟨0x60, [], 0x0, false, [⟨0, 2, .ro⟩]⟩,
   ⟨0x80, [(8, 4)], 0x0, false, [⟨0, 16, .ro⟩, ⟨16, 8, .ro⟩]⟩,
   ⟨0x1000, [(8, 144)], 0xFF, false, [⟨0, 8, .ro⟩, ⟨8, 1, .ro⟩]⟩,
   ⟨0x4000, [(64, 8)], 0x0, true, [⟨0, 48, .ro⟩, ⟨63, 1, .ro⟩]⟩,
   ⟨0x4008, [(64, 8)], 0x0, true, [⟨0, 48, .ro⟩, ⟨63, 1, .ro⟩]⟩,
   ⟨0x4010, [(64, 8)], 0x0, true, [⟨0, 48, .ro⟩, ⟨63, 1, .ro⟩]⟩,
   ⟨0x4018, [(64, 8)], 0x0, true, [⟨0, 48, .ro⟩, ⟨63, 1, .ro⟩]⟩,
   ⟨0x4020, [(64, 8)], 0x0, false, [⟨0, 6, .ro⟩, ⟨8, 6, .ro⟩, ⟨16, 6, .ro⟩, ⟨24, 6, .ro⟩]⟩,
   ⟨0x5000, [(8, 10)], 0x0, true, [⟨0, 48, .ro⟩, ⟨63, 1, .ro⟩]⟩]

/-- Rows of block `csc`. -/
def rowsCsc : List RegRow :=
  [⟨0x0, [], 0x0, false, [⟨0, 16, .ro⟩, ⟨16, 16, .ro⟩]⟩,
   ⟨0x10, [], 0x0, false, [⟨0, 8, .ro⟩, ⟨8, 4, .ro⟩, ⟨12, 1, .ro⟩, ⟨13, 1, .ro⟩, ⟨16, 10, .ro⟩, ⟨32, 10, .ro⟩, ⟨63, 1, .rw1c⟩]⟩,
   ⟨0x18, [], 0x0, false, [⟨0, 64, .ro⟩]⟩,
   ⟨0x20, [], 0x0, false, [⟨0, 64, .ro⟩]⟩,
   ⟨0x40, [], 0x0, false, [⟨0, 1, .wo⟩, ⟨1, 1, .ro⟩, ⟨2, 1, .rw1c⟩, ⟨8, 10, .rw⟩, ⟨18, 11, .rw⟩, ⟨40, 4, .ro⟩]⟩,
   ⟨0x48, [], 0x0, false, [⟨0, 22, .rw⟩]⟩,
   ⟨0x50, [], 0x0, false, [⟨0, 10, .rw⟩, ⟨10, 1, .rw⟩]⟩,
   ⟨0x58, [], 0x0, false, [⟨0, 64, .ro⟩]⟩,
   ⟨0x100, [], 0x0, true, [⟨0, 48, .ro⟩, ⟨63, 1, .ro⟩]⟩,
   ⟨0x108, [], 0x0, true, [⟨0, 48, .ro⟩, ⟨63, 1, .ro⟩]⟩,
   ⟨0x110, [], 0x0, true, [⟨0, 48, .ro⟩, ⟨63, 1, .ro⟩]⟩,
   ⟨0x118, [], 0x0, true, [⟨0, 48, .ro⟩, ⟨63, 1, .ro⟩]⟩,
   ⟨0x120, [], 0x0, true, [⟨0, 48, .ro⟩, ⟨63, 1, .ro⟩]⟩]

/-- Rows of block `clk`. -/
def rowsClk : List RegRow :=
  [⟨0x0, [], 0x3, false, [⟨0, 2, .ro⟩, ⟨2, 1, .ro⟩, ⟨3, 1, .ro⟩, ⟨4, 1, .ro⟩, ⟨5, 1, .ro⟩, ⟨6, 1, .ro⟩, ⟨7, 1, .rw1c⟩, ⟨8, 9, .ro⟩, ⟨20, 2, .ro⟩]⟩,
   ⟨0x8, [], 0x0, false, [⟨0, 8, .ro⟩, ⟨8, 4, .ro⟩, ⟨63, 1, .rw1c⟩]⟩,
   ⟨0x10, [], 0x0, false, [⟨0, 64, .ro⟩]⟩,
   ⟨0x18, [], 0x0, false, [⟨0, 64, .ro⟩]⟩,
   ⟨0x40, [], 0x0, false, [⟨0, 1, .wo⟩, ⟨1, 1, .ro⟩, ⟨2, 1, .rw1c⟩, ⟨8, 10, .rw⟩, ⟨18, 11, .rw⟩, ⟨40, 4, .ro⟩]⟩,
   ⟨0x48, [], 0x0, false, [⟨0, 22, .rw⟩]⟩,
   ⟨0x50, [], 0x0, false, [⟨0, 10, .rw⟩, ⟨10, 1, .rw⟩]⟩,
   ⟨0x58, [], 0x0, false, [⟨0, 64, .rw⟩]⟩,
   ⟨0x60, [], 0x0, false, [⟨0, 10, .ro⟩, ⟨16, 16, .ro⟩]⟩,
   ⟨0x68, [], 0x0, false, [⟨0, 64, .ro⟩]⟩,
   ⟨0x100, [], 0x0, true, [⟨0, 48, .ro⟩, ⟨63, 1, .ro⟩]⟩,
   ⟨0x108, [], 0x0, true, [⟨0, 48, .ro⟩, ⟨63, 1, .ro⟩]⟩,
   ⟨0x110, [], 0x0, true, [⟨0, 48, .ro⟩, ⟨63, 1, .ro⟩]⟩,
   ⟨0x118, [], 0x0, true, [⟨0, 48, .ro⟩, ⟨63, 1, .ro⟩]⟩,
   ⟨0x120, [], 0x0, true, [⟨0, 48, .ro⟩, ⟨63, 1, .ro⟩]⟩,
   ⟨0x800, [(8, 10)], 0x101010, false, [⟨0, 6, .ro⟩, ⟨8, 6, .ro⟩, ⟨16, 6, .ro⟩, ⟨24, 1, .ro⟩, ⟨25, 1, .rw1c⟩]⟩,
   ⟨0x20, [], 0x0, false, [⟨0, 64, .ro⟩]⟩,
   ⟨0x28, [], 0x0, false, [⟨0, 32, .ro⟩]⟩]

/-- Rows of block `pwrs`. -/
def rowsPwrs : List RegRow :=
  [⟨0x0, [], 0x0, false, [⟨0, 1, .ro⟩, ⟨1, 1, .ro⟩, ⟨2, 1, .ro⟩, ⟨3, 1, .ro⟩, ⟨4, 3, .ro⟩, ⟨8, 10, .ro⟩]⟩,
   ⟨0x8, [], 0x0, false, [⟨0, 16, .ro⟩, ⟨16, 16, .ro⟩, ⟨32, 16, .ro⟩]⟩,
   ⟨0x20, [(32, 3)], 0xFFFF, false, [⟨0, 16, .ro⟩, ⟨16, 16, .ro⟩, ⟨63, 1, .wo⟩]⟩,
   ⟨0x28, [(32, 3)], 0x0, false, [⟨0, 64, .ro⟩]⟩,
   ⟨0x30, [(32, 3)], 0x0, false, [⟨0, 30, .ro⟩, ⟨32, 32, .ro⟩]⟩,
   ⟨0x38, [(32, 3)], 0x0, false, [⟨0, 16, .ro⟩, ⟨16, 16, .ro⟩, ⟨32, 1, .ro⟩, ⟨33, 1, .rw1c⟩]⟩,
   ⟨0x100, [], 0x0, false, [⟨0, 8, .ro⟩, ⟨8, 8, .ro⟩, ⟨16, 8, .ro⟩, ⟨24, 8, .ro⟩, ⟨32, 1, .ro⟩, ⟨33, 1, .ro⟩]⟩,
   ⟨0x108, [], 0x0, false, [⟨0, 16, .ro⟩]⟩,
   ⟨0x200, [], 0x0, true, [⟨0, 48, .ro⟩, ⟨63, 1, .ro⟩]⟩,
   ⟨0x208, [], 0x0, true, [⟨0, 48, .ro⟩, ⟨63, 1, .ro⟩]⟩,
   ⟨0x210, [], 0x0, true, [⟨0, 48, .ro⟩, ⟨63, 1, .ro⟩]⟩]

/-- Rows of block `hbm`. -/
def rowsHbm : List RegRow :=
  [⟨0x0, [], 0x0, false, [⟨0, 1, .ro⟩, ⟨1, 1, .ro⟩, ⟨2, 1, .ro⟩, ⟨32, 32, .ro⟩]⟩,
   ⟨0x8, [], 0x19, false, [⟨0, 1, .rw⟩, ⟨1, 5, .rw⟩]⟩,
   ⟨0x10, [], 0x0, false, [⟨0, 2, .ro⟩, ⟨2, 2, .ro⟩, ⟨4, 5, .ro⟩, ⟨9, 6, .ro⟩, ⟨63, 1, .rw1c⟩]⟩,
   ⟨0x18, [], 0x0, false, [⟨0, 48, .ro⟩]⟩,
   ⟨0x20, [], 0x0, false, [⟨0, 64, .ro⟩]⟩,
   ⟨0x28, [], 0x0, false, [⟨0, 8, .ro⟩, ⟨8, 1, .ro⟩]⟩,
   ⟨0x1000, [(64, 32)], 0x0, true, [⟨0, 48, .ro⟩, ⟨63, 1, .ro⟩]⟩,
   ⟨0x1008, [(64, 32)], 0x0, true, [⟨0, 48, .ro⟩, ⟨63, 1, .ro⟩]⟩,
   ⟨0x1010, [(64, 32)], 0x0, true, [⟨0, 48, .ro⟩, ⟨63, 1, .ro⟩]⟩,
   ⟨0x1018, [(64, 32)], 0x0, true, [⟨0, 48, .ro⟩, ⟨63, 1, .ro⟩]⟩,
   ⟨0x1020, [(64, 32)], 0x0, true, [⟨0, 48, .ro⟩, ⟨63, 1, .ro⟩]⟩]

/-- Rows of block `stm`. -/
def rowsStm : List RegRow :=
  [⟨0x0, [], 0x0, false, [⟨0, 7, .ro⟩, ⟨8, 4, .ro⟩, ⟨16, 7, .ro⟩]⟩,
   ⟨0x8, [], 0x0, false, [⟨0, 1, .wo⟩, ⟨1, 1, .wo⟩, ⟨2, 1, .ro⟩, ⟨20, 20, .rw⟩, ⟨40, 11, .rw⟩]⟩,
   ⟨0x10, [], 0x0, false, [⟨0, 20, .wo⟩]⟩,
   ⟨0x18, [], 0x0, false, [⟨0, 1, .ro⟩, ⟨1, 1, .rw1c⟩, ⟨32, 32, .ro⟩]⟩,
   ⟨0x20, [], 0x0, false, [⟨0, 4, .ro⟩, ⟨4, 4, .ro⟩, ⟨8, 20, .ro⟩, ⟨28, 8, .ro⟩, ⟨63, 1, .rw1c⟩]⟩,
   ⟨0x28, [], 0x0, false, [⟨0, 64, .ro⟩]⟩,
   ⟨0x100, [], 0x0, true, [⟨0, 48, .ro⟩, ⟨63, 1, .ro⟩]⟩,
   ⟨0x108, [], 0x0, true, [⟨0, 48, .ro⟩, ⟨63, 1, .ro⟩]⟩,
   ⟨0x110, [], 0x0, true, [⟨0, 48, .ro⟩, ⟨63, 1, .ro⟩]⟩,
   ⟨0x118, [], 0x0, true, [⟨0, 48, .ro⟩, ⟨63, 1, .ro⟩]⟩,
   ⟨0x120, [], 0x0, true, [⟨0, 48, .ro⟩, ⟨63, 1, .ro⟩]⟩,
   ⟨0x128, [], 0x0, true, [⟨0, 48, .ro⟩, ⟨63, 1, .ro⟩]⟩,
   ⟨0x130, [], 0x0, true, [⟨0, 48, .ro⟩, ⟨63, 1, .ro⟩]⟩,
   ⟨0x138, [], 0x0, true, [⟨0, 48, .ro⟩, ⟨63, 1, .ro⟩]⟩,
   ⟨0x140, [], 0x0, true, [⟨0, 48, .ro⟩, ⟨63, 1, .ro⟩]⟩]

/-- Rows of block `suo`. -/
def rowsSuo : List RegRow :=
  [⟨0x0, [], 0x0, false, [⟨0, 8, .ro⟩, ⟨8, 8, .ro⟩, ⟨16, 8, .ro⟩]⟩,
   ⟨0x10, [], 0x0, false, [⟨0, 4, .ro⟩, ⟨4, 1, .rw1c⟩, ⟨5, 1, .ro⟩]⟩,
   ⟨0x1000, [(512, 8)], 0x1, false, [⟨0, 1, .rw⟩, ⟨1, 1, .rw⟩, ⟨2, 1, .rw⟩]⟩,
   ⟨0x1008, [(512, 8)], 0x0, false, [⟨0, 3, .ro⟩, ⟨3, 1, .ro⟩, ⟨4, 1, .ro⟩, ⟨5, 1, .rw1c⟩, ⟨16, 9, .ro⟩, ⟨32, 7, .ro⟩, ⟨40, 9, .ro⟩]⟩,
   ⟨0x1010, [(512, 8)], 0x0, false, [⟨0, 10, .ro⟩, ⟨16, 7, .ro⟩, ⟨24, 32, .ro⟩]⟩,
   ⟨0x1018, [(512, 8)], 0x0, false, [⟨0, 64, .ro⟩]⟩,
   ⟨0x1020, [(512, 8)], 0x0, false, [⟨0, 64, .ro⟩]⟩,
   ⟨0x1028, [(512, 8)], 0x0, false, [⟨0, 16, .ro⟩, ⟨16, 16, .ro⟩, ⟨32, 12, .ro⟩, ⟨63, 1, .ro⟩]⟩,
   ⟨0x1030, [(512, 8)], 0x0, false, [⟨0, 32, .rw⟩, ⟨32, 32, .rw⟩]⟩,
   ⟨0x1040, [(512, 8), (8, 16)], 0x800000008000, false, [⟨0, 64, .rw⟩]⟩,
   ⟨0x1100, [(512, 8)], 0x0, true, [⟨0, 48, .ro⟩, ⟨63, 1, .ro⟩]⟩,
   ⟨0x1108, [(512, 8)], 0x0, true, [⟨0, 48, .ro⟩, ⟨63, 1, .ro⟩]⟩,
   ⟨0x1110, [(512, 8)], 0x0, true, [⟨0, 48, .ro⟩, ⟨63, 1, .ro⟩]⟩,
   ⟨0x1118, [(512, 8)], 0x0, true, [⟨0, 48, .ro⟩, ⟨63, 1, .ro⟩]⟩,
   ⟨0x1120, [(512, 8)], 0x0, true, [⟨0, 48, .ro⟩, ⟨63, 1, .ro⟩]⟩,
   ⟨0x1128, [(512, 8)], 0x0, true, [⟨0, 48, .ro⟩, ⟨63, 1, .ro⟩]⟩,
   ⟨0x1130, [(512, 8)], 0x0, true, [⟨0, 48, .ro⟩, ⟨63, 1, .ro⟩]⟩,
   ⟨0x1138, [(512, 8)], 0x0, true, [⟨0, 48, .ro⟩, ⟨63, 1, .ro⟩]⟩,
   ⟨0x1140, [(512, 8)], 0x0, true, [⟨0, 48, .ro⟩, ⟨63, 1, .ro⟩]⟩,
   ⟨0x1148, [(512, 8)], 0x0, true, [⟨0, 48, .ro⟩, ⟨63, 1, .ro⟩]⟩] ++
  [⟨0x3000, [], 0x0, false, [⟨0, 1, .rw⟩, ⟨1, 3, .rw⟩]⟩,
   ⟨0x3008, [], 0x0, false, [⟨12, 36, .rw⟩]⟩,
   ⟨0x3010, [], 0x0, false, [⟨0, 5, .rw⟩, ⟨16, 16, .ro⟩, ⟨48, 16, .rw⟩]⟩,
   ⟨0x3018, [], 0x0, false, [⟨12, 36, .rw⟩]⟩,
   ⟨0x3020, [], 0x0, false, [⟨0, 5, .rw⟩, ⟨16, 16, .ro⟩, ⟨48, 16, .rw⟩]⟩,
   ⟨0x3028, [], 0x0, true, [⟨0, 48, .ro⟩, ⟨63, 1, .ro⟩]⟩]

/-- Rows of block `ec`. -/
def rowsEc : List RegRow :=
  [⟨0x0, [], 0x0, false, [⟨0, 2, .wo⟩, ⟨2, 1, .rw⟩, ⟨8, 8, .rw⟩, ⟨16, 1, .ro⟩, ⟨17, 1, .rw1c⟩]⟩,
   ⟨0x8, [], 0x0, false, [⟨0, 48, .rw⟩]⟩,
   ⟨0x10, [], 0x0, false, [⟨0, 48, .rw⟩]⟩,
   ⟨0x18, [], 0x0, false, [⟨0, 37, .rw⟩]⟩,
   ⟨0x40, [(8, 6)], 0x0, false, [⟨0, 64, .ro⟩]⟩]

/-- Rows of block `secE`. -/
def rowsSecE : List RegRow :=
  [⟨0x0, [], 0x0, false, [⟨0, 1, .ro⟩, ⟨1, 1, .ro⟩, ⟨32, 32, .ro⟩]⟩]

/-- Rows of block `pPwr`. -/
def rowsPPwr : List RegRow :=
  [⟨0x0, [], 0x5DC05DC0, false, [⟨0, 16, .rw⟩, ⟨16, 16, .rw⟩]⟩,
   ⟨0x8, [], 0x0, false, [⟨0, 16, .rw⟩]⟩,
   ⟨0x10, [], 0x0, false, [⟨0, 16, .rw⟩]⟩,
   ⟨0x18, [], 0x0, false, [⟨0, 16, .rw⟩]⟩,
   ⟨0x20, [], 0x0, false, [⟨0, 16, .ro⟩, ⟨16, 16, .ro⟩, ⟨32, 1, .ro⟩, ⟨33, 1, .ro⟩, ⟨34, 1, .ro⟩, ⟨35, 1, .ro⟩, ⟨36, 1, .ro⟩, ⟨37, 1, .ro⟩, ⟨40, 8, .ro⟩, ⟨48, 16, .ro⟩]⟩,
   ⟨0x28, [], 0x0, false, [⟨0, 5, .rw1c⟩, ⟨5, 1, .rw1c⟩, ⟨6, 1, .rw1c⟩, ⟨7, 1, .rw1c⟩, ⟨8, 1, .rw1c⟩, ⟨9, 1, .rw1c⟩, ⟨10, 1, .rw1c⟩, ⟨11, 1, .rw1c⟩, ⟨12, 1, .rw1c⟩]⟩,
   ⟨0x30, [], 0x0, false, [⟨0, 16, .ro⟩, ⟨16, 16, .ro⟩, ⟨32, 16, .ro⟩]⟩,
   ⟨0x50, [(8, 4)], 0x0, false, [⟨0, 8, .ro⟩, ⟨8, 1, .ro⟩, ⟨9, 1, .ro⟩, ⟨16, 16, .ro⟩, ⟨32, 16, .ro⟩, ⟨48, 8, .ro⟩]⟩,
   ⟨0x80, [], 0x0, false, [⟨0, 2, .ro⟩, ⟨2, 2, .ro⟩, ⟨4, 1, .ro⟩, ⟨8, 4, .ro⟩, ⟨12, 4, .ro⟩, ⟨16, 4, .ro⟩, ⟨32, 16, .ro⟩]⟩,
   ⟨0x100, [], 0x0, true, [⟨0, 48, .ro⟩, ⟨63, 1, .ro⟩]⟩,
   ⟨0x108, [], 0x0, true, [⟨0, 48, .ro⟩, ⟨63, 1, .ro⟩]⟩,
   ⟨0x110, [], 0x0, true, [⟨0, 48, .ro⟩, ⟨63, 1, .ro⟩]⟩,
   ⟨0x118, [], 0x0, true, [⟨0, 48, .ro⟩, ⟨63, 1, .ro⟩]⟩,
   ⟨0x120, [], 0x0, true, [⟨0, 48, .ro⟩, ⟨63, 1, .ro⟩]⟩,
   ⟨0x128, [], 0x0, true, [⟨0, 48, .ro⟩, ⟨63, 1, .ro⟩]⟩,
   ⟨0x38, [], 0xFFFF, false, [⟨0, 16, .ro⟩, ⟨16, 16, .ro⟩, ⟨63, 1, .wo⟩]⟩,
   ⟨0x40, [], 0x0, false, [⟨0, 64, .ro⟩]⟩,
   ⟨0x48, [], 0x0, false, [⟨0, 30, .ro⟩, ⟨32, 32, .ro⟩]⟩]

/-- Rows of block `pThm`. -/
def rowsPThm : List RegRow :=
  [⟨0x0, [], 0x5F, false, [⟨0, 8, .rw⟩]⟩,
   ⟨0x8, [], 0x0, false, [⟨0, 8, .ro⟩, ⟨8, 8, .ro⟩, ⟨16, 16, .ro⟩, ⟨32, 8, .ro⟩, ⟨40, 8, .ro⟩, ⟨48, 1, .ro⟩, ⟨49, 1, .ro⟩, ⟨50, 1, .ro⟩]⟩,
   ⟨0x10, [], 0x0, false, [⟨0, 6, .rw1c⟩]⟩,
   ⟨0x20, [], 0x0, false, [⟨0, 9, .rw⟩]⟩,
   ⟨0x28, [], 0x0, false, [⟨0, 16, .ro⟩, ⟨16, 16, .ro⟩, ⟨32, 1, .ro⟩, ⟨33, 1, .ro⟩]⟩,
   ⟨0x40, [(8, 8)], 0x0, false, [⟨0, 32, .ro⟩, ⟨32, 32, .ro⟩]⟩]

/-- Rows of block `pBoot`. -/
def rowsPBoot : List RegRow :=
  [⟨0x100, [], 0x0, false, [⟨0, 32, .ro⟩, ⟨32, 1, .ro⟩, ⟨33, 1, .ro⟩]⟩,
   ⟨0x108, [], 0x0, false, [⟨0, 32, .ro⟩, ⟨32, 1, .ro⟩, ⟨33, 1, .ro⟩]⟩,
   ⟨0x0, [], 0x0, false, [⟨0, 4, .ro⟩, ⟨4, 1, .ro⟩, ⟨5, 1, .ro⟩, ⟨6, 1, .ro⟩, ⟨7, 2, .ro⟩, ⟨9, 2, .ro⟩, ⟨11, 3, .ro⟩]⟩,
   ⟨0x8, [], 0x0, false, [⟨0, 32, .ro⟩, ⟨32, 32, .ro⟩]⟩,
   ⟨0x10, [], 0x0, false, [⟨0, 1, .rw⟩]⟩,
   ⟨0x18, [], 0x100643C, false, [⟨0, 8, .rwl⟩, ⟨8, 16, .rwl⟩, ⟨24, 1, .rwl⟩]⟩,
   ⟨0x20, [], 0x0, false, [⟨0, 3, .wo⟩, ⟨3, 1, .wo⟩, ⟨4, 1, .wo⟩, ⟨8, 14, .wo⟩, ⟨32, 1, .ro⟩, ⟨33, 1, .rw1c⟩, ⟨36, 4, .ro⟩]⟩,
   ⟨0x28, [], 0x0, false, [⟨0, 1, .rw⟩, ⟨16, 16, .ro⟩]⟩,
   ⟨0x30, [], 0x0, false, [⟨0, 8, .ro⟩, ⟨8, 8, .ro⟩, ⟨16, 11, .ro⟩, ⟨32, 8, .ro⟩, ⟨63, 1, .ro⟩]⟩,
   ⟨0x200, [(8, 3)], 0x0, false, [⟨0, 64, .ro⟩]⟩,
   ⟨0x218, [(8, 3)], 0x0, false, [⟨0, 64, .ro⟩]⟩,
   ⟨0x240, [(8, 16)], 0x0, false, [⟨0, 64, .ro⟩]⟩,
   ⟨0x2C0, [(8, 2)], 0x0, false, [⟨0, 64, .ro⟩]⟩,
   ⟨0x2D0, [], 0x0, false, [⟨0, 11, .ro⟩]⟩,
   ⟨0x300, [], 0x0, false, [⟨0, 2, .wo⟩, ⟨4, 2, .wo⟩, ⟨8, 4, .wo⟩]⟩,
   ⟨0x308, [], 0x0, false, [⟨0, 48, .rw⟩]⟩,
   ⟨0x320, [(8, 4)], 0x0, false, [⟨0, 3, .ro⟩, ⟨8, 8, .ro⟩, ⟨16, 32, .ro⟩]⟩,
   ⟨0x3000, [], 0x0, false, [⟨0, 2, .ro⟩, ⟨2, 2, .ro⟩, ⟨4, 14, .ro⟩, ⟨18, 6, .ro⟩, ⟨24, 8, .ro⟩, ⟨32, 32, .ro⟩]⟩,
   ⟨0x3008, [(8, 2)], 0x0, false, [⟨0, 64, .ro⟩]⟩,
   ⟨0x3018, [], 0x0, false, [⟨0, 32, .ro⟩]⟩] ++
  [⟨0x3020, [(8, 2)], 0x0, false, [⟨0, 64, .ro⟩]⟩,
   ⟨0x3030, [], 0x0, false, [⟨0, 32, .ro⟩]⟩,
   ⟨0x3040, [(8, 5)], 0x0, false, [⟨0, 64, .ro⟩]⟩,
   ⟨0x3400, [(8, 144)], 0x0, false, [⟨0, 64, .ro⟩]⟩,
   ⟨0x3C00, [(8, 144)], 0x0, false, [⟨0, 10, .ro⟩, ⟨16, 10, .ro⟩, ⟨32, 10, .ro⟩, ⟨48, 10, .ro⟩]⟩,
   ⟨0x1000, [(4096, 2), (8, 512)], 0x0, false, [⟨0, 64, .ro⟩]⟩]

/-- Rows of block `pFlt`. -/
def rowsPFlt : List RegRow :=
  [⟨0x0, [], 0x0, false, [⟨0, 32, .ro⟩, ⟨32, 3, .ro⟩, ⟨35, 1, .rw1c⟩, ⟨36, 1, .ro⟩]⟩,
   ⟨0x8, [], 0x0, false, [⟨0, 32, .rw⟩]⟩,
   ⟨0x10, [], 0x0, false, [⟨0, 32, .rw⟩, ⟨63, 1, .ro⟩]⟩,
   ⟨0x40, [(8, 8)], 0x0, false, [⟨0, 64, .ro⟩]⟩,
   ⟨0x80, [], 0x0, false, [⟨0, 2, .ro⟩, ⟨2, 1, .ro⟩, ⟨4, 4, .ro⟩, ⟨8, 8, .ro⟩, ⟨63, 1, .rw1c⟩]⟩,
   ⟨0x88, [], 0x0, false, [⟨0, 48, .ro⟩]⟩,
   ⟨0x100, [], 0x7D00000, false, [⟨0, 1, .rw⟩, ⟨1, 1, .ro⟩, ⟨2, 1, .ro⟩, ⟨16, 16, .rw⟩, ⟨32, 32, .ro⟩]⟩,
   ⟨0x108, [], 0x0, false, [⟨0, 58, .wo⟩]⟩,
   ⟨0x110, [], 0x0, false, [⟨0, 58, .ro⟩]⟩,
   ⟨0x180, [], 0x0, false, [⟨0, 2, .wo⟩, ⟨4, 4, .wo⟩, ⟨8, 16, .wo⟩, ⟨32, 1, .ro⟩, ⟨33, 1, .rw1c⟩, ⟨36, 4, .ro⟩]⟩,
   ⟨0x200, [], 0x0, false, [⟨0, 1, .ro⟩, ⟨1, 1, .ro⟩, ⟨2, 1, .ro⟩, ⟨3, 1, .rw1c⟩, ⟨4, 1, .rw1c⟩]⟩,
   ⟨0x300, [], 0x0, true, [⟨0, 48, .ro⟩, ⟨63, 1, .ro⟩]⟩,
   ⟨0x308, [], 0x0, true, [⟨0, 48, .ro⟩, ⟨63, 1, .ro⟩]⟩,
   ⟨0x310, [], 0x0, true, [⟨0, 48, .ro⟩, ⟨63, 1, .ro⟩]⟩,
   ⟨0x318, [], 0x0, true, [⟨0, 48, .ro⟩, ⟨63, 1, .ro⟩]⟩,
   ⟨0x320, [], 0x0, true, [⟨0, 48, .ro⟩, ⟨63, 1, .ro⟩]⟩,
   ⟨0x328, [], 0x0, true, [⟨0, 48, .ro⟩, ⟨63, 1, .ro⟩]⟩]

/-- Rows of block `pSec`. -/
def rowsPSec : List RegRow :=
  [⟨0x0, [], 0x0, false, [⟨0, 2, .ro⟩, ⟨2, 1, .ro⟩]⟩,
   ⟨0x8, [], 0x0, false, [⟨0, 2, .wo⟩, ⟨2, 1, .wo⟩, ⟨8, 1, .ro⟩, ⟨9, 1, .rw1c⟩]⟩,
   ⟨0x10, [], 0x0, false, [⟨0, 2, .rw⟩]⟩,
   ⟨0x18, [], 0x0, false, [⟨0, 16, .rw⟩, ⟨16, 8, .rw⟩, ⟨24, 2, .rw⟩, ⟨28, 4, .rw⟩, ⟨32, 1, .rw⟩]⟩,
   ⟨0x40, [(8, 4)], 0x0, false, [⟨0, 2, .ro⟩, ⟨2, 1, .ro⟩, ⟨3, 2, .ro⟩]⟩,
   ⟨0x80, [], 0x0, false, [⟨0, 4, .wo⟩, ⟨4, 4, .ro⟩, ⟨8, 4, .ro⟩]⟩,
   ⟨0x88, [], 0x0, false, [⟨0, 32, .ro⟩, ⟨32, 32, .ro⟩]⟩,
   ⟨0xC0, [], 0x0, false, [⟨0, 6, .rw⟩]⟩,
   ⟨0xC8, [], 0x0, false, [⟨0, 8, .ro⟩]⟩,
   ⟨0xD0, [(8, 2)], 0x0, false, [⟨0, 64, .ro⟩]⟩,
   ⟨0x100, [(64, 4), (8, 6)], 0x0, false, [⟨0, 64, .rw⟩]⟩,
   ⟨0x300, [], 0x0, true, [⟨0, 48, .ro⟩, ⟨63, 1, .ro⟩]⟩,
   ⟨0x308, [], 0x0, true, [⟨0, 48, .ro⟩, ⟨63, 1, .ro⟩]⟩,
   ⟨0x10000, [(8, 1024)], 0x0, false, [⟨0, 64, .rw⟩]⟩]

/-- Rows of block `pMgt`. -/
def rowsPMgt : List RegRow :=
  [⟨0x0, [(16, 2)], 0x3, false, [⟨0, 1, .rwl⟩, ⟨1, 1, .rwl⟩]⟩,
   ⟨0x8, [(16, 2)], 0x0, false, [⟨0, 1, .ro⟩, ⟨1, 1, .ro⟩, ⟨2, 3, .ro⟩, ⟨16, 48, .ro⟩]⟩,
   ⟨0x100, [], 0x0, true, [⟨0, 48, .ro⟩, ⟨63, 1, .ro⟩]⟩]

/-- Rows of block `pTime`. -/
def rowsPTime : List RegRow :=
  [⟨0x1000, [], 0x3, false, [⟨0, 2, .ro⟩, ⟨2, 2, .ro⟩, ⟨4, 2, .ro⟩, ⟨16, 16, .ro⟩]⟩,
   ⟨0x1008, [], 0x0, false, [⟨0, 1, .rw⟩]⟩,
   ⟨0x1010, [], 0x0, false, [⟨0, 1, .ro⟩, ⟨1, 10, .ro⟩, ⟨11, 1, .ro⟩]⟩,
   ⟨0x1018, [], 0x0, false, [⟨0, 8, .ro⟩, ⟨8, 8, .ro⟩, ⟨63, 1, .rw1c⟩]⟩,
   ⟨0x1020, [], 0x0, false, [⟨0, 64, .ro⟩]⟩,
   ⟨0x1028, [], 0x0, false, [⟨0, 64, .ro⟩]⟩,
   ⟨0x1040, [], 0x0, false, [⟨0, 2, .ro⟩, ⟨2, 1, .rw1c⟩, ⟨3, 1, .rw1c⟩, ⟨4, 1, .rw1c⟩, ⟨5, 1, .ro⟩, ⟨6, 1, .ro⟩]⟩,
   ⟨0x1048, [], 0x0, false, [⟨0, 32, .ro⟩, ⟨32, 32, .ro⟩]⟩,
   ⟨0x1080, [(8, 3)], 0x0, false, [⟨0, 64, .rw1c⟩]⟩,
   ⟨0x1100, [], 0x0, true, [⟨0, 48, .ro⟩, ⟨63, 1, .ro⟩]⟩,
   ⟨0x1108, [], 0x0, true, [⟨0, 48, .ro⟩, ⟨63, 1, .ro⟩]⟩,
   ⟨0x0, [], 0x0, false, [⟨0, 30, .ro⟩]⟩,
   ⟨0x8, [], 0x0, false, [⟨0, 48, .ro⟩]⟩,
   ⟨0x10, [], 0x0, false, [⟨0, 48, .ro⟩]⟩,
   ⟨0x18, [], 0x0, false, [⟨0, 1, .ro⟩, ⟨1, 1, .ro⟩, ⟨2, 1, .ro⟩, ⟨3, 1, .ro⟩, ⟨4, 1, .ro⟩, ⟨5, 1, .rw1c⟩]⟩,
   ⟨0x20, [], 0x0, false, [⟨0, 32, .ro⟩, ⟨32, 32, .ro⟩]⟩,
   ⟨0x28, [], 0x0, false, [⟨0, 48, .rw⟩]⟩,
   ⟨0x30, [], 0x0, false, [⟨0, 30, .rw⟩]⟩,
   ⟨0x38, [], 0x0, false, [⟨0, 64, .rw⟩]⟩,
   ⟨0x40, [], 0x0, false, [⟨0, 2, .wo⟩]⟩] ++
  [⟨0x48, [], 0x640001, false, [⟨0, 1, .rw⟩, ⟨1, 1, .rw⟩, ⟨2, 8, .rw⟩, ⟨16, 10, .rw⟩]⟩,
   ⟨0x50, [], 0x0, false, [⟨0, 16, .ro⟩, ⟨16, 1, .ro⟩]⟩,
   ⟨0x60, [], 0x0, false, [⟨0, 32, .ro⟩]⟩,
   ⟨0x68, [], 0x0, false, [⟨0, 64, .ro⟩]⟩,
   ⟨0x70, [], 0x0, false, [⟨0, 48, .ro⟩]⟩,
   ⟨0x78, [], 0x0, false, [⟨0, 30, .ro⟩, ⟨32, 8, .ro⟩]⟩]

/-- Rows of block `pPmu`. -/
def rowsPPmu : List RegRow :=
  [⟨0x0, [], 0x31, false, [⟨0, 1, .rwl⟩, ⟨1, 6, .rwl⟩]⟩,
   ⟨0x8, [], 0x0, false, [⟨26, 22, .rwl⟩]⟩,
   ⟨0x10, [], 0x0, false, [⟨0, 1, .ro⟩, ⟨1, 1, .ro⟩, ⟨32, 32, .ro⟩]⟩,
   ⟨0x18, [], 0x0, false, [⟨0, 64, .ro⟩]⟩,
   ⟨0x20, [], 0x0, false, [⟨0, 1, .rw1c⟩, ⟨1, 1, .rw1c⟩, ⟨2, 1, .rw1c⟩]⟩,
   ⟨0x100, [], 0x0, true, [⟨0, 48, .ro⟩, ⟨63, 1, .ro⟩]⟩,
   ⟨0x108, [], 0x0, true, [⟨0, 48, .ro⟩, ⟨63, 1, .ro⟩]⟩,
   ⟨0x110, [], 0x0, true, [⟨0, 48, .ro⟩, ⟨63, 1, .ro⟩]⟩]

/-- Rows of block `pStm`. -/
def rowsPStm : List RegRow :=
  [⟨0x0, [], 0x0, false, [⟨26, 22, .rw⟩]⟩,
   ⟨0x8, [], 0x0, false, [⟨0, 20, .rw⟩]⟩,
   ⟨0x10, [], 0x0, false, [⟨0, 1, .wo⟩, ⟨1, 1, .ro⟩, ⟨2, 1, .rw1c⟩]⟩,
   ⟨0x40, [(8, 8)], 0x0, false, [⟨0, 64, .rw⟩]⟩,
   ⟨0x1000, [], 0x0, false, [⟨0, 3, .wo⟩]⟩,
   ⟨0x1008, [], 0x0, false, [⟨0, 3, .ro⟩, ⟨8, 8, .ro⟩, ⟨16, 16, .ro⟩]⟩,
   ⟨0x1010, [], 0x0, false, [⟨0, 32, .ro⟩, ⟨32, 32, .ro⟩]⟩,
   ⟨0x1018, [], 0x0, false, [⟨0, 14, .rw⟩]⟩,
   ⟨0x1020, [], 0x0, false, [⟨0, 3, .ro⟩, ⟨4, 2, .ro⟩, ⟨32, 32, .ro⟩]⟩,
   ⟨0x1028, [], 0x0, false, [⟨0, 4, .wo⟩, ⟨4, 4, .ro⟩, ⟨8, 4, .ro⟩, ⟨16, 32, .ro⟩, ⟨48, 16, .ro⟩]⟩,
   ⟨0x1040, [], 0x10258, false, [⟨0, 16, .rw⟩, ⟨16, 1, .rw⟩]⟩,
   ⟨0x1048, [], 0x0, false, [⟨0, 32, .ro⟩, ⟨32, 16, .ro⟩, ⟨48, 14, .ro⟩]⟩,
   ⟨0x2000, [], 0x0, false, [⟨0, 3, .wo⟩, ⟨3, 1, .wo⟩, ⟨8, 4, .wo⟩]⟩,
   ⟨0x2008, [], 0x0, false, [⟨0, 3, .ro⟩, ⟨3, 1, .ro⟩, ⟨4, 2, .ro⟩, ⟨32, 32, .ro⟩]⟩,
   ⟨0x80000, [(8, 65536)], 0x0, false, [⟨0, 64, .rw⟩]⟩]

/-- Rows of block `pSuo`. -/
def rowsPSuo : List RegRow :=
  [⟨0x0, [], 0x0, false, [⟨0, 10, .rw⟩]⟩,
   ⟨0x8, [], 0x0, false, [⟨0, 1, .rw⟩, ⟨1, 1, .rw1c⟩]⟩,
   ⟨0x10, [], 0x3E8, false, [⟨0, 16, .rw⟩]⟩,
   ⟨0x18, [], 0x28, false, [⟨0, 16, .rw⟩]⟩,
   ⟨0x1000, [(1024, 2), (8, 128)], 0xF0F0F0F0F0F0F0F, false, [⟨0, 64, .rw⟩]⟩,
   ⟨0x2000, [(128, 2), (8, 16)], 0x0, false, [⟨0, 64, .rw⟩]⟩,
   ⟨0x3000, [(8, 8)], 0x0, false, [⟨0, 64, .rw⟩]⟩]

/-- Rows of block `fn`. -/
def rowsFn : List RegRow :=
  [⟨0x0, [], 0x0, false, [⟨0, 3, .ro⟩, ⟨3, 1, .ro⟩, ⟨4, 2, .ro⟩, ⟨6, 1, .ro⟩]⟩,
   ⟨0x10, [(8, 4)], 0x0, false, [⟨0, 1, .rw⟩, ⟨1, 5, .rw⟩, ⟨30, 18, .rw⟩]⟩,
   ⟨0x40, [], 0x0, false, [⟨12, 52, .rw⟩]⟩,
   ⟨0x48, [], 0x0, false, [⟨0, 4, .rw⟩, ⟨4, 1, .rw⟩, ⟨16, 16, .ro⟩, ⟨48, 16, .rw⟩]⟩,
   ⟨0x50, [], 0x0, false, [⟨0, 1, .rw⟩, ⟨12, 52, .rw⟩]⟩,
   ⟨0x60, [], 0x0, false, [⟨12, 52, .rw⟩]⟩,
   ⟨0x68, [], 0x0, false, [⟨0, 6, .rw⟩, ⟨6, 1, .rw⟩]⟩,
   ⟨0x70, [], 0x0, false, [⟨0, 34, .ro⟩]⟩,
   ⟨0x78, [], 0x0, false, [⟨0, 34, .rw⟩]⟩,
   ⟨0x80, [], 0x0, false, [⟨0, 8, .rw1c⟩]⟩,
   ⟨0x88, [], 0xFF, false, [⟨0, 8, .rw⟩]⟩]

/-- The rows of a block. -/
def rowsOf : Blk → List RegRow
  | .core => rowsCore
  | .site => rowsSite
  | .bsn => rowsBsn
  | .ril => rowsRil
  | .csc => rowsCsc
  | .clk => rowsClk
  | .pwrs => rowsPwrs
  | .hbm => rowsHbm
  | .stm => rowsStm
  | .suo => rowsSuo
  | .ec => rowsEc
  | .secE => rowsSecE
  | .pPwr => rowsPPwr
  | .pThm => rowsPThm
  | .pBoot => rowsPBoot
  | .pFlt => rowsPFlt
  | .pSec => rowsPSec
  | .pMgt => rowsPMgt
  | .pTime => rowsPTime
  | .pPmu => rowsPPmu
  | .pStm => rowsPStm
  | .pSuo => rowsPSuo
  | .fn => rowsFn

/-- Where an address falls among the register windows: block, unit, offset in the block (R23 to R26). -/
def locate (a : Nat) : Option (Blk × Nat × Nat) :=
  bif Nat.blt a 0x0600_0000_0000 then none
  else bif Nat.blt a (siteCsr 144) then
    let k := (a - siteCsr 0) / 0x10_0000
    let o := a % 0x10_0000
    bif Nat.blt o 0x1_0000 then some (.site, k, o)
    else bif Nat.blt o 0x2_0000 then some (.bsn, k, o - 0x1_0000)
    else bif Nat.blt o 0x3_0000 then some (.ril, k, o - 0x2_0000)
    else bif Nat.blt o 0x4_0000 then some (.csc, k, o - 0x3_0000)
    else bif Nat.blt o 0x5_0000 then some (.clk, k, o - 0x4_0000)
    else bif Nat.blt o 0x6_0000 then some (.pwrs, k, o - 0x5_0000)
    else bif Nat.blt o 0x8_0000 then none
    else some (.core, k * 64 + (o - 0x8_0000) / 0x2000, (o - 0x8_0000) % 0x2000)
  else bif Nat.blt a 0x0610_0000_0000 then none
  else bif Nat.blt a (edgeCsr 16) then
    let e := (a - edgeCsr 0) / 0x100_0000
    let o := a % 0x100_0000
    bif Nat.blt o 0x4000 then none
    else bif Nat.blt o 0x10_0000 then some (.clk, 144 + e, o - 0x4000)
    else bif Nat.blt o 0x20_0000 then some (.hbm, 2 * e, o - 0x10_0000)
    else bif Nat.blt o 0x40_0000 then some (.hbm, 2 * e + 1, o - 0x20_0000)
    else bif Nat.blt o 0x60_0000 then some (.stm, e, o - 0x40_0000)
    else bif Nat.blt o 0x80_0000 then some (.suo, e, o - 0x60_0000)
    else bif Nat.blt o 0xA0_0000 then some (.ec, e, o - 0x80_0000)
    else some (.secE, e, o - 0xA0_0000)
  else bif Nat.blt a panelCsr then none
  else bif Nat.blt a (panelCsr + 0x100_0000) then
    let o := a - panelCsr
    bif Nat.blt o 0x10_0000 then some (.pPwr, 0, o)
    else bif Nat.blt o 0x20_0000 then some (.pThm, 0, o - 0x10_0000)
    else bif Nat.blt o 0x30_0000 then some (.pBoot, 0, o - 0x20_0000)
    else bif Nat.blt o 0x40_0000 then some (.pFlt, 0, o - 0x30_0000)
    else bif Nat.blt o 0x50_0000 then some (.pSec, 0, o - 0x40_0000)
    else bif Nat.blt o 0x60_0000 then some (.pMgt, 0, o - 0x50_0000)
    else bif Nat.blt o 0x70_0000 then some (.pTime, 0, o - 0x60_0000)
    else bif Nat.blt o 0x80_0000 then some (.pPmu, 0, o - 0x70_0000)
    else bif Nat.blt o 0x90_0000 then some (.pStm, 0, o - 0x80_0000)
    else bif Nat.blt o 0xA0_0000 then some (.pSuo, 0, o - 0x90_0000)
    else none
  else bif Nat.blt a (fnKey 0) then none
  else bif Nat.blt a (fnKey 10) then some (.fn, (a - fnKey 0) / 0x1000, a % 0x1000)
  else none

/-- Whether an offset is that of a row. -/
def RegRow.hit (r : RegRow) (o : Nat) : Bool :=
  match r.dims with
  | [] => o == r.off
  | [d] => Nat.ble r.off o && (o - r.off) % d.1 == 0 && Nat.blt ((o - r.off) / d.1) d.2
  | [d, e] =>
    Nat.ble r.off o && (o - r.off) % d.1 % e.1 == 0 && Nat.blt ((o - r.off) / d.1) d.2
      && Nat.blt ((o - r.off) % d.1 / e.1) e.2
  | _ => false

/-- The row that an offset of a block names, if any (R13). -/
def findRow (b : Blk) (o : Nat) : Option RegRow := (rowsOf b).find? (fun r => r.hit o)

/-- The eFuse map the model resets with: a legal IAP1-F, 61 cores at sites 0 to 63 and 60 at the others (8,704, R1 to R3),
all stacks and ports enabled, port 0 of each engine pair the gateway. DESIGN CHOICE (log entry 1). -/
def fuseReset (o : Nat) : Nat :=
  bif o == 0x3000 then 0 + 0 * 4 + 8704 * 16 + 32 * 2 ^ 18 + 128 * 2 ^ 24
  else bif o == 0x3018 then 0xFFFF_FFFF
  else bif o == 0x3020 || o == 0x3028 then 0xFFFF_FFFF_FFFF_FFFF
  else bif Nat.ble 0x3400 o && Nat.blt o (0x3400 + 64 * 8) then 0x1FFF_FFFF_FFFF_FFFF
  else bif Nat.ble (0x3400 + 64 * 8) o && Nat.blt o (0x3400 + 144 * 8) then 0x0FFF_FFFF_FFFF_FFFF
  else bif Nat.ble 0x3C00 o && Nat.blt o (0x3C00 + 144 * 8) then
    750 + 700 * 2 ^ 16 + 650 * 2 ^ 32 + 600 * 2 ^ 48
  else 0

/-- Nibble `i` of a trunk register under the standard assignment of R382 for the map of `fuseReset`:
ports 16n are gateways, the others are ranked in ascending order. -/
def trunkNibble (n i : Nat) : Nat := bif i == 0 then 0xF else (15 * n + (i - 1)) % 6

/-- The standard assignment of `SUO_TRUNK_n` (R382, R387). -/
def trunkReset (n : Nat) : Nat :=
  (List.range 16).foldl (fun acc i => acc + trunkNibble n i * 16 ^ i) 0

/-- What a register reads as until something writes it: its reset value, 0 where no register stands. A panel leaves the factory in
PROVISIONED (R501). -/
def csrReset (a : Nat) : W64 :=
  match locate a with
  | none => 0#64
  | some (b, u, o) =>
    match findRow b o with
    | none => 0#64
    | some r =>
      match b with
      | .pBoot => bif Nat.blt o 0x3000 then BitVec.ofNat 64 r.reset else BitVec.ofNat 64 (fuseReset o)
      | .pSec => bif o == 0 then 1#64 else BitVec.ofNat 64 r.reset
      | .pSuo => bif Nat.blt o 0x3000 then BitVec.ofNat 64 r.reset else BitVec.ofNat 64 (trunkReset ((o - 0x3000) / 8))
      | .clk =>
        -- an edge die has weirs 0 to 2 only; the others read 0 (R302)
        bif Nat.ble 144 u && Nat.ble 0x818 o then 0#64 else BitVec.ofNat 64 r.reset
      | .fn => bif o == 0 then BitVec.ofNat 64 (u % 5 + u / 5 * 8 + (u % 5 - 1) * 16) else BitVec.ofNat 64 r.reset
      | _ => BitVec.ofNat 64 r.reset

/-- The fields of a word written under the access codes of R10; `locked` is BOOT_LOCK. Reserved bits stay (R12). -/
def applyWrite (r : RegRow) (locked : Bool) (old v : W64) : W64 :=
  r.fields.foldl (fun w f =>
    match f.acc with
    | .ro => w
    | .wo => w
    | .rw => fset f (fget f v) w
    | .rws => fset f (fget f v) w
    | .rwl => bif locked then w else fset f (fget f v) w
    | .rw1c => fset f (Nat.land (fget f w) (2 ^ f.len - 1 - fget f v)) w) old

/-- What a read of a register word returns: write-only fields read 0 (R10). -/
def readMask (r : RegRow) (w : W64) : W64 :=
  r.fields.foldl (fun w f => match f.acc with | .wo => fset f 0 w | _ => w) w

end Sys2Proof.Machine
end

