-- ==== Sys2Proof/Machine/State.lean ====
section
/-!
DEFINITION. The state of the panel. `csr` holds every named register under its address; the other stores hold what the rules say stands
behind the registers. Every store is sparse and canonical (Machine/Sparse.lean).
-/
namespace Sys2Proof.Machine

/-- Why the machine stops with a fault. -/
inductive Fault where
  /-- A measured input stands beyond an absolute maximum rating; R583 says the panel may be damaged and gives no behaviour.
  Raised by INPUT_RANGE. Safe: the model stops where the manual promises nothing. -/
  | beyondAbsoluteRating
deriving DecidableEq, Repr

/-- Why the machine has no meaning for a command. -/
inductive Refusal where
  /-- A command that has no meaning yet. Raised by the dispatch only. Safe. -/
  | notModelled (mnemonic : String)
  /-- An access by panel firmware to a steward window of R23, whose contents the manual says it does not describe.
  Raised by register access. Safe. -/
  | stewardWindow
deriving DecidableEq, Repr

/-- What an operation in flight does when it lands (R64). -/
inductive LandAct where
  | vreg (d : Nat) (v : VReg)
  | lanes (d grp : Nat) (v : BitVec 512)
  | areg (d : Nat) (v : W64)
  | pred (d : Nat) (b : Bool)
  | bytes (a : Nat) (bs : List Byte)
  | brd (a : Nat)
  | desc (d : Nat) (vs : List W64)
  | im (entries : List (Nat × Nat)) (hcount : Nat) (imovf hovf : Bool) (table : List (Nat × Byte))
  | imClr
  | hclr (base : Nat)
  | none
deriving DecidableEq, Repr

/-- An operation in flight: issue SC, landing SC, slot (0 TU, 1 VU, 2 XU, 3 MX), effect. -/
structure Flight where
  issue : Nat
  land : Nat
  slot : Nat
  act : LandAct
deriving DecidableEq, Repr

/-- A tensor-unit compute operation in flight (R150 to R152, R161): the bytes it read at issue and how far its metadata is checked. -/
structure TuFlight where
  issue : Nat
  occ : Nat
  op : Nat
  desc : W64
  coff : Nat
  flags : Nat
  a : List Byte
  b : List Byte
  sa : List Byte
  sb : List Byte
  metaBytes : List Byte
  pc : Nat
  bundle : BitVec 256
  dead : Bool
deriving DecidableEq, Repr

/-- An access to a core-local store counted under R82: store (0 local, 1 operand, 2 accumulator, 3 instruction), unit
(1 VU, 2 XU), write, the SCs it counts at, the bytes it touches. -/
structure StoreAcc where
  store : Nat
  unit : Nat
  wr : Bool
  first : Nat
  last : Nat
  lo : Nat
  hi : Nat
deriving DecidableEq, Repr

/-- A region a tensor operation reads or updates over an SC interval (R82, R151). -/
structure TuRegion where
  first : Nat
  last : Nat
  lo : Nat
  hi : Nat
  upd : Bool
deriving DecidableEq, Repr

/-- A sample waiting to be written (R556). -/
structure PendSample where
  due : Nat
  issue : Nat
  pc : Nat
  slot : Nat
  exec : Bool
  variant : Nat
  phase : Nat
  held0 : Nat
  bundle : BitVec 256
deriving DecidableEq, Repr

/-- The internals of a core behind its registers. `haltAt` is the SC by which the operations issued up to a HALT have landed (R96). -/
structure CoreX where
  flights : List Flight
  tu : List TuFlight
  tuFree : Nat
  issued : Option Nat
  tuGate : Option (Nat × Nat)
  vuGate : Option (Nat × Nat)
  tuOff : Bool
  vuOff : Bool
  resume : Nat
  sleepLevel : Nat
  thawing : Bool
  awake : Bool
  vsel : Option Nat
  haltAt : Option Nat
  refills : List (Nat × Nat × Nat)
  accs : List StoreAcc
  regions : List TuRegion
  imEntries : List (Nat × Nat)
  imBusy : Nat
  evtSel : W64
  sampCfg : W64
  evtStaged : Option W64
  sampStaged : Option W64
  samples : List PendSample
  sampNext : Nat
  marked : Nat
  collected : Nat
deriving DecidableEq, Repr

/-- A core with nothing in flight. -/
def CoreX.init : CoreX :=
  { flights := [], tu := [], tuFree := 0, issued := Option.none, tuGate := Option.none, vuGate := Option.none, tuOff := false, vuOff := false, resume := 0,
    sleepLevel := 0, thawing := false, awake := true, vsel := Option.none, haltAt := Option.none, refills := [], accs := [], regions := [],
    imEntries := [], imBusy := 0, evtSel := 0#64, sampCfg := 0#64, evtStaged := Option.none, sampStaged := Option.none,
    samples := [], sampNext := 0, marked := 0, collected := 0 }

/-- A scheduled slice: 256 bytes (R200). -/
abbrev Slice := BitVec 2048

/-- A router channel (R207, R208, R253): contents, contents before the last write, the SC of that write; the tag latch, the latch before
its last load and the SC of that load. -/
structure Chan where
  val : BitVec 2048
  prev : BitVec 2048
  wsc : Nat
  tag : Option (Nat × Nat)
  ptag : Option (Nat × Nat)
  tsc : Nat
deriving DecidableEq, Repr

/-- A channel nothing has written. -/
def Chan.init : Chan := { val := 0#2048, prev := 0#2048, wsc := 0, tag := Option.none, ptag := Option.none, tsc := 0 }

/-- A scheduled bank access waiting for its SC (R181): port (a core, or 64 + a router port), write, basin words in order, the words to
write, the issue SC of the core operation, the tile shape of a MODE 2 read and the core-local destination. -/
structure BankReq where
  sc : Nat
  port : Nat
  wr : Bool
  words : List Nat
  data : List (BitVec 32)
  issue : Nat
  tile : Option Nat
  dest : Nat
deriving DecidableEq, Repr

/-- A channel write waiting for its SC (R208, R253), and whether it has landed. -/
structure ChanWrite where
  sc : Nat
  chan : Nat
  ofs : Nat
  words : List (BitVec 32)
  tag : Option (Nat × Nat)
  done : Bool
deriving DecidableEq, Repr

/-- What a core's last issue can be taken back to (R275): its SC, and the core, the registers, the live counters and the site's sleep before it, with
the channel writes it queued. -/
structure CoreUndo where
  sc : Nat
  x : CoreX
  csr : Sparse W64
  live : Sparse W64
  chanw : List ChanWrite
  sleep : Nat
  wake : Nat
deriving DecidableEq, Repr

/-- No issue yet. -/
def CoreUndo.init : CoreUndo := { sc := 0, x := CoreX.init, csr := [], live := [], chanw := [], sleep := 0, wake := 0 }

/-- A stream issue waiting for t + 1 (R322). -/
structure StrmReq where
  sc : Nat
  core : Nat
  index : Nat
  row : Nat
  ofsS : W64
  ofsD : W64
deriving DecidableEq, Repr

/-- A table load under way (R219, R258, R300, R340): the table, first row, row count, first source line, rows done. -/
structure LoadJob where
  table : Nat
  first : Nat
  count : Nat
  line : Nat
  next : Nat
deriving DecidableEq, Repr


/-- A weir entry waiting for its presentation SC (R271): the weir, the SC, each slice's data by slice number (`none` for a slice that
carries nothing), whether its control word held. An SC without slices has no entry here: its control words say that no slice carries data. -/
structure WeirEntry where
  weir : Nat
  sc : Nat
  slices : List (Nat × Slice)
  ok : Bool
deriving DecidableEq, Repr

/-- The internals of a lockstep domain behind its clock registers. `debt` counts 412ths of a cycle, so that both the 1.25 stretch
(103) and full catch-up (12 per SC) are whole (R265 to R267); `spent` is how much of the cycle in progress has run, `extra` what it is
stretched by, `waited` whether a weir wait stretches it; `variant` is the schedule variant in force there (R89). -/
structure DomX where
  sc : Nat
  stopped : Bool
  stop : Nat
  causes : List Nat
  debt : Nat
  droop : Bool
  spent : Nat
  extra : Nat
  waited : Bool
  variant : Nat
  weirHolds : List (Nat × Nat)
  repeatWeir : Bool
  attnBusy : Bool
  attnPending : Bool
  alarmBusy : Bool
  alarmPending : Bool
  markBusy : Bool
  markPending : Bool
  bndStart : Nat
  ring : List WeirEntry
  wire : List WeirEntry
  bndJob : Option LoadJob
  frozen : Bool
deriving DecidableEq, Repr

/-- A domain before alignment. -/
def DomX.init : DomX :=
  { sc := 0, stopped := false, stop := 0, causes := [], debt := 0, droop := false, spent := 0, extra := 0, waited := false, variant := 0, weirHolds := [], repeatWeir := false,
    attnBusy := false, attnPending := false, alarmBusy := false, alarmPending := false, markBusy := false, markPending := false,
    bndStart := 0, ring := [], wire := [], bndJob := Option.none, frozen := false }

/-- A maintenance-port request waiting for an idle bank cycle (R192). -/
structure MaintReq where
  req : Requester
  wr : Bool
  word : Nat
  data : List Byte
deriving DecidableEq, Repr

/-- A Cascade frame at a pipe input (R241, R244): the SC of its tag slice, tag word, frame word, the payload slices received, and the SC T
of the pair it belongs to once its partner has come. -/
structure CFrame where
  sc : Nat
  tag : Nat
  word : Nat
  data : List Slice
  pair : Option Nat
deriving DecidableEq, Repr

/-- A flit in a dynamic input queue (R228): input, virtual channel, packet, flit index, whether it came with a parity error. -/
structure QFlit where
  inp : Nat
  vc : Nat
  pkt : DynPkt
  idx : Nat
  bad : Bool
deriving DecidableEq, Repr

/-- A packet on its way out of a router (R228): the queue it leaves, the output (mesh 0 to 3, edge port A 8, B 9), the virtual channel beyond, flits
still to go, the packet. -/
structure Move where
  inp : Nat
  vc : Nat
  out : Nat
  ovc : Nat
  left : Nat
  pkt : DynPkt
deriving DecidableEq, Repr

/-- An armed issue-table row (R321, R322, R332): the row, the stream, CHECK, deadline D, bytes landed, notices received, whether it
failed or is complete. -/
structure SitArm where
  row : Nat
  stream : Nat
  check : Nat
  deadline : Nat
  bytes : Nat
  notices : Nat
  failed : Bool
  complete : Bool
deriving DecidableEq, Repr

/-- A stream landing in progress (R230): the packet, the lines still to be written as basin word and bytes, and whether its BW port has moved
its 256 bytes of this cycle. -/
structure Landing where
  pkt : DynPkt
  lines : List (Nat × List Byte)
  busy : Bool
deriving DecidableEq, Repr

/-- The internals of a site behind its registers. `rreqs` are the router's bank accesses of SCs that the core ports have still to be served at; `mused`
are the banks that the maintenance port has used in this cycle (R180, R190), 512 standing for the port's 64 bytes; `bwUsed` counts the BW ports that
stream landings have used in this cycle (R230); `digRange` is the range of a digest under way (R195); for each Cascade input, `kdead` is the last SC of the
payload of a frame discarded while it was still coming, `klate` the frames still to come whose partners have been discarded (R244, R257). -/
structure SiteX where
  bankQ : List BankReq
  served : Nat
  faultSc : Option Nat
  rewriteQ : List Nat
  maint : List MaintReq
  zfLeft : List Nat
  rreqs : List BankReq
  mused : List Nat
  bwUsed : Nat
  digRange : Option (Nat × Nat)
  scrubLog2 : Nat
  scrubbed : List Nat
  chanQ : List ChanWrite
  chanR : List (Nat × Nat × Nat)
  entryStart : Nat
  routed : Option Nat
  ki : List (Nat × Nat × Slice)
  ko : List (Nat × Nat × Slice)
  strmQ : List StrmReq
  sleep : Nat
  wake : Nat
  rilJob : Option LoadJob
  cscJob : Option LoadJob
  sitJob : Option LoadJob
  out : Bool
  retired : Bool
  faultCount : Nat
  loopAt : Nat
  routeSc : Option Nat
  cscSc : Option Nat
  kin : Sparse (List CFrame)
  kdead : Sparse Nat
  klate : Sparse Nat
  outQ : List DynPkt
  dynQ : List QFlit
  moves : List Move
  used : Sparse Nat
  credBack : List Nat
  rr : Sparse Nat
  landQ : List Landing
  inbox : List DynPkt
  dropped : List DynPkt
  arms : List SitArm
deriving DecidableEq, Repr

/-- A site with nothing queued. -/
def SiteX.init : SiteX :=
  { bankQ := [], served := 0, faultSc := Option.none, rewriteQ := [], maint := [], zfLeft := [], rreqs := [], mused := [],
    bwUsed := 0, digRange := Option.none, scrubLog2 := 4,
    scrubbed := [], chanQ := [], chanR := [], entryStart := 0, routed := Option.none, ki := [], ko := [], strmQ := [], sleep := 0,
    wake := 0, rilJob := Option.none, cscJob := Option.none, sitJob := Option.none, out := false, retired := false, faultCount := 0, loopAt := 0,
    routeSc := Option.none, cscSc := Option.none, kin := [], kdead := [], klate := [], outQ := [], dynQ := [], moves := [], used := [], credBack := [], rr := [],
    landQ := [], inbox := [], dropped := [], arms := [] }

/-- An issue of a stream as an engine holds it (R320, R323, R324): index, offsets, deadline, issue-table row, issuing site, partition,
the engine whose STM_ISSUE it came through. -/
structure IssueRec where
  index : Nat
  ofsS : W64
  ofsD : W64
  deadline : Option Nat
  row : Option Nat
  site : Nat
  part : Nat
  host : Option (Nat × Nat)
deriving DecidableEq, Repr

/-- The key pair that a line was written under (R506): drawn by a fill of a slot, named by slot and fill, or imported. -/
inductive HbmKey where
  | drawn (n : Nat)
  | imported (keys : Nat)
deriving DecidableEq, Repr

/-- What a written line was encrypted under (R308): key pair, tweak, and the version of its band's map (R312). -/
structure LineTag where
  key : HbmKey
  tweak : Nat
  map : Nat
deriving DecidableEq, Repr

/-- A table walk in flight (R326, R319): the index, and whether the entry was rewritten meanwhile. -/
structure Walk where
  index : Nat
  redo : Bool
deriving DecidableEq, Repr

/-- An accepted stream (R328): its issue, its entry, acceptance order; how far its source has been walked, the bytes this engine asked for,
the bytes finished or gathered, what is gathered by byte position, the wire bytes sent. -/
structure Strm where
  issue : IssueRec
  entry : Nat
  seq : Nat
  moved : Nat
  asked : Nat
  got : Nat
  buf : List (Nat × List Byte)
  out : Nat
deriving DecidableEq, Repr

/-- A panel-to-panel packet inside an edge die: the packet, nanoseconds of TIME when it came into the panel, the port it came in on. -/
structure Transit where
  pkt : PanelPkt
  since : Nat
  port : Option Nat
deriving DecidableEq, Repr

/-- A STREAM packet that awaits its ACK (R375): the packet, nanoseconds of TIME when it was sent, the stream, its drops. -/
structure Unacked where
  pkt : PanelPkt
  since : Nat
  issue : IssueRec
  drops : Nat
deriving DecidableEq, Repr

/-- An operation of an erasure-code engine under way (R418): 1 MULXOR or 2 DIGEST, ACC, COEF, source, destination and length as it started. -/
structure EcOp where
  op : Nat
  acc : Bool
  coef : Nat
  src : Nat
  dst : Nat
  len : Nat
deriving DecidableEq, Repr

/-- The internals of an edge die: transfer engine (R324 to R331), packets, the edge program (R354), reassembly (R373), the TAGs received by
panel, MATCH and epoch (R375); `lateQ` holds issues beyond the 64 that may wait for a walk (R326), `past` the last receive stream of each partner and
MATCH that is over (R375), `jobsFailed` the STM_ISSUE streams of a load that have failed (R403);
`crossed` says since when packets that cross the panel have been in it, by the TAG of their pieces (R371, R373). -/
structure EdgeX where
  cache : List (Nat × Nat)
  walks : List Walk
  waitQ : List IssueRec
  strms : List Strm
  accepted : Nat
  inbox : List DynPkt
  outQ : List DynPkt
  dropped : List DynPkt
  drops : Sparse Nat
  failQ : List (IssueRec × Nat × Nat)
  notices : List (Nat × Nat × Bool)
  prefetch : Option (Nat × Nat)
  hostNext : Nat
  hostJobs : List (Nat × Nat × Bool)
  transit : List Transit
  arrived : List PanelPkt
  unacked : List Unacked
  tagNext : Sparse Nat
  rend : List PanelPkt
  seen : List (Nat × Nat × Nat × Nat)
  pieces : List DynPkt
  pieceTag : Nat
  xor : BitVec 32
  progEmpty : Bool
  progEntry : Nat
  progStart : Nat
  progLoop : Nat
  progRep : Nat
  fwd : Option Nat
  latch : List (Nat × Nat × Slice)
  ecBusy : Option EcOp
  lateQ : List IssueRec
  past : List Strm
  jobsFailed : List Nat
  crossed : List (Nat × Nat)
deriving DecidableEq, Repr

/-- An edge die with nothing to do. -/
def EdgeX.init : EdgeX :=
  { cache := [], walks := [], waitQ := [], strms := [], accepted := 0, inbox := [], outQ := [], dropped := [], drops := [], failQ := [],
    notices := [], prefetch := Option.none, hostNext := 0, hostJobs := [], transit := [], arrived := [], unacked := [], tagNext := [], rend := [], seen := [], pieces := [],
    pieceTag := 0, xor := 1#32, progEmpty := true, progEntry := 0, progStart := 0, progLoop := 0, progRep := 0, fwd := Option.none,
    latch := [], ecBusy := Option.none, lateQ := [], past := [], jobsFailed := [], crossed := [] }

/-- A closed frame in a transmit queue (R356 to R358): its chunks, the slot at which it became eligible, its due slot. -/
structure TxFrame where
  chunks : List Slice
  elig : Option Nat
  due : Nat
deriving DecidableEq, Repr

/-- A frame in a receive weir (R357, R359): SEQ, chunks, due slot, chunks presented, whether it may be consumed. -/
structure RxFrame where
  seq : Nat
  chunks : List Slice
  due : Nat
  used : Nat
  ready : Bool
deriving DecidableEq, Repr

/-- A frame kept for resending (R363): the slot it last went out in, the frame, its resends. -/
structure Kept where
  slot : Nat
  frame : Frame
  resends : Nat
deriving DecidableEq, Repr

/-- The internals of an optical port (R349 to R366, R378). Slots are counted from the alignment made in IDENT. Per virtual channel `dynUsed`
counts dynamic frames sent, `dynKnown` those the partner has freed, `dynFreed` those freed here, `dynPart` the bytes sent of the packet in
progress, `rxPart` the bytes received of one; `naks` are bad slots to report and `nakSent` those reported, with the slot of the report; `dynOut`
holds each packet's channel and since when it is in the panel. `partnerUp`: the partner has sent more than control frames; `cwBad`: the last
codeword of the slot before was uncorrectable, and the next slot shares it (R347); `rxAt`: when the last slot had arrived, and `ctlStamp`,
`ctlAt` the STAMP and arrival of the last control frame, in 0.25 ns of the engine's clock; `rtSum` and `rtCount`: the round trips of MEASURE
(R379). `keyEpoch` and `rxEpoch` are the key epochs of the two directions, `cntS` and `cntD` the frames sent under a key, `txRec` the tag records
sent, `txCover` and `rxCover` what the next record covers and what has been received, by slot (R365, R366). `xoff`: XOFF is in force (R385). -/
structure PortX where
  opn : List Slice
  txq : List TxFrame
  slot : Nat
  lastDue : Option Nat
  lastOut : Option Nat
  txSeq : Nat
  dynSeq : Nat
  txCount : Nat
  credits : Nat
  kept : List Kept
  resendQ : List Nat
  rxSlot : Nat
  naks : List (Nat × Bool)
  nakSent : List (Nat × Nat)
  rxw : List RxFrame
  rxSeq : Nat
  freed : Nat
  dynWait : List (Nat × Frame)
  dynRx : Nat
  dynUsed : Sparse Nat
  dynFreed : Sparse Nat
  dynKnown : Sparse Nat
  dynPart : Sparse Nat
  dcvc : Nat
  dynOut : List (Nat × Nat × PanelPkt)
  ident : Option Identity
  identRun : Nat
  mapped : Option LinkMapEntry
  hotCals : Nat
  calResends : Nat
  faults : List Nat
  presented : Option Nat
  appended : Option Nat
  txWait : Bool
  rxWait : Bool
  keyEpoch : Nat
  paused : Bool
  sent : Option Frame
  partnerUp : Bool
  cwBad : Bool
  rxAt : Nat
  ctlStamp : Nat
  ctlAt : Nat
  rtSum : Nat
  rtCount : Nat
  rxEpoch : Nat
  cntS : Nat
  cntD : Nat
  txRec : Nat
  txCover : List Cover
  rxCover : List (Nat × Cover)
  rxPart : Sparse (List Byte)
  xoff : Bool
deriving DecidableEq, Repr

/-- A port that is DOWN. -/
def PortX.init : PortX :=
  { opn := [], txq := [], slot := 0, lastDue := Option.none, lastOut := Option.none, txSeq := 0, dynSeq := 0, txCount := 0, credits := 256,
    kept := [], resendQ := [], rxSlot := 0, naks := [], nakSent := [], rxw := [], rxSeq := 0, freed := 0, dynWait := [], dynRx := 0,
    dynUsed := [], dynFreed := [], dynKnown := [], dynPart := [], dcvc := 0, dynOut := [], ident := Option.none, identRun := 0, mapped := Option.none,
    hotCals := 0, calResends := 0, faults := [], presented := Option.none, appended := Option.none, txWait := false, rxWait := false,
    keyEpoch := 0, paused := false, sent := Option.none, partnerUp := false, cwBad := false, rxAt := 0, ctlStamp := 0, ctlAt := 0, rtSum := 0,
    rtCount := 0, rxEpoch := 0, cntS := 0, cntD := 0, txRec := 0, txCover := [], rxCover := [], rxPart := [], xoff := false }

/-- The internals of an HBM stack's controller: lines marked uncorrectable (R306), the line the patrol visits next (R307), the last
uncorrectable error of each channel in nanoseconds of TIME, plus 1 (R489). -/
structure StackX where
  marks : List Nat
  scrub : Nat
  lastUe : Sparse Nat
deriving DecidableEq, Repr

/-- A stack without errors. -/
def StackX.init : StackX := { marks := [], scrub := 0, lastUe := [] }

/-- A placement under the load controller (R402, R403, R417): state 0 IDLE, 1 LANDING, 2 CHECKING, 3 COMMITTED, 4 FAILED, 5 PASSED; digest
failures; blocks landed and blocks whose streams are complete in this pass. -/
structure PlcX where
  pl : Placement
  state : Nat
  tries : Nat
  blocks : Nat
  out : Nat
deriving DecidableEq, Repr

/-- A set on its way down the chain (R401): placements whose blocks are still to land, in order, and blocks of the first that have. -/
structure SetX where
  queue : List Nat
  pos : Nat
deriving DecidableEq, Repr

/-- A landing slot in use (R401): home die, slot, set, placement, block within the shard, whether its streams are issued; the STM_ISSUE stream that
brings it from a panel, and those that take it on (R324). -/
structure SlotX where
  home : Nat
  slot : Nat
  set : Nat
  plc : Nat
  block : Nat
  issued : Bool
  inJob : Option Nat
  outJobs : List Nat
deriving DecidableEq, Repr

/-- A load of a partition: its manifest, placements, sets, landing slots in use, whether it has reached DONE (R406), whether a placement that
a re-digest failed is loaded again (R407). -/
structure LoadX where
  man : Manifest
  plcs : List PlcX
  sets : List SetX
  slots : List SlotX
  done : Bool
  recover : Bool
deriving DecidableEq, Repr

/-- The internals of a partition (R374, R394 and the image loader): its current job epoch, the units its loaded image uses as kind and index
(R486), the image, its load, whether a zeroise is in progress and whether it raised a hold (R522), and whether a zeroise has turned its stream
landings off (R338). -/
structure PartX where
  epoch : BitVec 32
  uses : List (Nat × Nat)
  image : Option SchedImage
  load : Option LoadX
  zero : Option Bool
  landsOff : Bool
deriving DecidableEq, Repr

/-- A partition without a job. -/
def PartX.init : PartX := { epoch := 0#32, uses := [], image := Option.none, load := Option.none, zero := Option.none, landsOff := false }

/-- An event of R479 that the steward has yet to record (R481, R492): class, severity, kind, index, cause, SC and TIME at detection,
detail words, the domain and hold cause it raised, what it fences (kind and index), the partition of a stream event, and the partitions
whose image used what hardware has fenced for it (R486). -/
structure FaultEv where
  cls : Nat
  sev : Nat
  kind : Nat
  index : Nat
  cause : Nat
  sc : Nat
  sec : Nat
  ns : Nat
  d0 : W64
  d1 : W64
  d2 : W64
  hold : Option (Nat × Nat)
  fence : Option (Nat × Nat)
  part : Option Nat
  users : List Nat
deriving DecidableEq, Repr

/-- A session on a port (R508, R512, R535): kind 0 attestation, 1 management, 2 + p owner session of partition p; its event mask and
event index, and the events that wait for it (R536, R537). -/
structure Session where
  port : Nat
  idx : Nat
  kind : Nat
  mask : Nat
  events : Nat
  leaf : BitVec 384
  queue : List (Nat × List Byte)
deriving DecidableEq, Repr

/-- What leaves the panel in answer to a read or a request: whether it was accepted and its bytes. The model's own field. -/
structure Reply where
  ok : Bool
  data : List Byte
deriving DecidableEq, Repr

/-- A fault record (R481): its event, SEQ, PARTS, ACTION, GEN, MERGED, and whether GEN awaits a publication. -/
structure FltRec where
  ev : FaultEv
  seq : Nat
  parts : Nat
  action : Nat
  gen : Nat
  merged : Nat
  wait : Bool
deriving DecidableEq, Repr

/-- A running mean and what counts on it (R430, R437): sum and count of the baseline, updates in a row above the limit, sum and count of
the window under way. -/
structure RunAvg where
  sum : Nat
  cnt : Nat
  run : Nat
  wsum : Nat
  wcnt : Nat
deriving DecidableEq, Repr

/-- A mean of nothing. -/
def RunAvg.init : RunAvg := { sum := 0, cnt := 0, run := 0, wsum := 0, wcnt := 0 }

/-- The power controller, the supply and the thermal model (R419 to R447, R568, R570). `trig` are the emergency triggers present, `lows`
the low samples of THROTTLE_L in a row; `hot` and `dutyN` count the updates of R443; `db`, `rampOnly`, `phaseNs` and `tau` are those of
R441 (tau in steps of 10 us); `dieT` is each die's temperature; `thrLow` and `tripRun` count samples of R433 and R434; `edgeHead`
and `edgePwr` are an edge position's headroom and draw; `rain` holds turning points of R436; `drained` the
reservoirs that recharge; `step`, `wave` and `down` the power-on sequence; `offLow` whether OFF_L is low. -/
structure PowerX where
  trig : List Nat
  lows : Nat
  hot : Nat
  dutyN : Nat
  db : Nat
  rampOnly : Bool
  phaseNs : Nat
  tau : Nat
  dieT : Sparse Nat
  thrLow : Sparse Nat
  tripRun : Sparse Nat
  edgeHead : Sparse Nat
  edgePwr : Sparse Nat
  inletRun : Nat
  flowRun : Nat
  rain : Sparse (List Nat)
  rdyn : Sparse RunAvg
  rth : Sparse RunAvg
  mjPart : Sparse Nat
  drained : List Nat
  step : Nat
  wave : Nat
  down : Bool
  offLow : Bool
  senseOpen : Bool
  wakeDef : List Nat
deriving DecidableEq, Repr

/-- Before power-on. -/
def PowerX.init : PowerX :=
  { trig := [], lows := 0, hot := 0, dutyN := 0, db := 0, rampOnly := false, phaseNs := 0, tau := 0, dieT := [], thrLow := [], tripRun := [],
    edgeHead := [], edgePwr := [], inletRun := 0, flowRun := 0, rain := [], rdyn := [], rth := [], mjPart := [], drained := [],
    step := 0, wave := 0, down := false, offLow := false, senseOpen := false, wakeDef := [] }

/-- The erasure group of the panel (R412 to R416): the partition whose manifest holds its record, the members that sent READY, the
positions lost and not rebuilt, the positions lost in the window (R415), the recorded digests, the state that COMMITTING or VERIFYING left. -/
structure EgX where
  part : Nat
  ready : List Nat
  lost : List Nat
  win : List Nat
  digs : Sparse (BitVec 384)
  prev : Nat
deriving DecidableEq, Repr

/-- No group. -/
def EgX.init : EgX := { part := 0, ready := [], lost := [], win := [], digs := [], prev := 0 }

/-- A message of the load controller to a neighbour panel (R403): whether it asks for a shard or sends one, the panel, set and shard index. -/
structure LdMsg where
  ask : Bool
  panel : Nat
  set : Nat
  index : Nat
deriving DecidableEq, Repr

/-- Bring-up, the configuration NVM and the floor plan record (R40 to R54, R451 to R467): the start that is due (warm or not), whether one runs
and is warm, the panel's last complete step and each unit's, the image slots A and B, digest failures of firmware, when ARM was set, the
FPR copies and generation counters in NVM with the fences they hold, the scope of the reset in progress and the sites whose compute dies are
still to pass their checks after it (R473), straps as read, the hold-tree trims (R263), failed lanes, the fenced units whose release this start takes up, the fused variant and
serial held in retention, the bytes written to the NVM by updates, an update in progress: its session's port and index, and LENGTH (R538). -/
structure BootX where
  start : Option Bool
  running : Bool
  warm : Bool
  step : Nat
  units : Sparse Nat
  slotA : Option CfgImage
  slotB : Option CfgImage
  fwTries : Sparse Nat
  armedMs : Option Nat
  nvA : Option (Nat × List Byte)
  nvB : Option (Nat × List Byte)
  cntA : Option Nat
  cntB : Option Nat
  nvFences : Sparse Nat
  scope : Nat
  checks : List Nat
  straps : Sparse Nat
  trims : Sparse Nat
  lanes : Sparse Nat
  released : List (Nat × Nat)
  nvm : List Host.Cell
  update : Option (Nat × Nat × Nat)
deriving DecidableEq, Repr

/-- A panel to which power has just been applied, with an empty NVM (log entry 10): a cold start is due (R459). -/
def BootX.init : BootX :=
  { start := some false, running := false, warm := false, step := 0, units := [], slotA := Option.none, slotB := Option.none, fwTries := [],
    armedMs := Option.none, nvA := Option.none, nvB := Option.none, cntA := Option.none, cntB := Option.none, nvFences := [], scope := 0, checks := [], straps := [], trims := [], lanes := [],
    released := [], nvm := [], update := Option.none }

/-- What the security unit holds behind its registers: the key store's entries as entry, role and identifier (R505), whether the fuse that lets the
ROM read the unique device secret is blown (R502, R503), the TDIs that are locked and not yet in RUN, as port times 4 plus partition (R520). -/
structure SecX where
  keys : List (Nat × Nat × BitVec 128)
  udsBlown : Bool
  tdiLocked : List Nat
deriving DecidableEq, Repr

/-- As the panel leaves the factory: the owner root installed (R501). -/
def SecX.init : SecX := { keys := [(0, 1, 0#128)], udsBlown := false, tdiLocked := [] }

/-- The time unit behind its registers: the sub-nanosecond fraction in 2^-32 ns, what a slew has still to apply in 2^-32 ns, the servo's rate in
ppb (R540, R542, R543), whether a PTP offset has set TIME, the commands that wait for the next tick. -/
structure TimeX where
  frac : Nat
  ptpSet : Bool
  slew : Int
  rate : Int
  cmds : List (Requester × Nat)
deriving DecidableEq, Repr

/-- Time at power-on. -/
def TimeX.init : TimeX := { frac := 0, ptpSet := false, slew := 0, rate := 0, cmds := [] }

/-- A block of a snapshot record (R559): TYPE, UNIT, the partition of its unit (4 for the panel block), the words. -/
structure SnapBlock where
  typ : Nat
  unit : Nat
  part : Nat
  words : List W64
deriving DecidableEq, Repr

/-- Freezes (R547 to R560): the latest F that was skipped, TIME at the reference latch, the blocks that the collector has gathered, whether the
record has gone to its recipients. -/
structure PmuX where
  skipAt : Option Nat
  sec : Nat
  ns : Nat
  blocks : List SnapBlock
  sent : Bool
deriving DecidableEq, Repr

/-- No freeze yet. -/
def PmuX.init : PmuX := { skipAt := Option.none, sec := 0, ns := 0, blocks := [], sent := false }

/-- The internals of the panel's stewards and shared units. `choice` is the variant and operating point fixed at the boundary hold in force,
`stepTo` the code the PLLs relock to, `crossing` the H of a boundary release under way; `refSel` is the selected generator, `refGood` counts the measurements in a row that
agree (R288); `extValid` are the external references. `log` is the retained ring and `nvmLog` the NVM ring of fault records, `toClear` the
holds whose events are handled, `pub` the publication in progress (generation and reason), `pubWant` the reason of one that is due,
`relReq` the units whose release is requested, `hostQ` what waits to be written to a host function (port, function, kind, bytes); `ld` is the partition of the load under the load controller, `ldMsgs`
its messages to other panels, `rdLast` the second of the last re-digest; `i3c` is the sideband's dynamic address and `ibi` whether an in-band
interrupt is raised (R539, R572). -/
structure PanelX where
  boot : BootX
  sec : SecX
  time : TimeX
  pmu : PmuX
  i3c : Option Nat
  ibi : Bool
  ld : Option Nat
  ldMsgs : List LdMsg
  rdLast : Nat
  eg : EgX
  log : List FltRec
  nvmLog : List FltRec
  toClear : List (Nat × Nat)
  pub : Option (Nat × Nat)
  pubWant : Option Nat
  relReq : List (Nat × Nat)
  hostQ : List (Nat × Nat × Nat × List Byte)
  pwr : PowerX
  choice : Option (Nat × Nat)
  stepTo : Option Nat
  crossing : Option Nat
  refSel : Nat
  refGood : Nat
  extValid : List Nat
  sessions : List Session
  slices : List Nat
  reply : Option Reply
  causes : List Nat
  release : Option Nat
  events : List FaultEv
  ovfPend : List Nat
  wall : Nat
  wakeQ : List Nat
  wakeAt : List Nat
  stOut : List DynPkt
  stIn : List DynPkt
deriving DecidableEq, Repr

/-- Before power-on. -/
def PanelX.init : PanelX :=
  { boot := BootX.init, sec := SecX.init, time := TimeX.init, pmu := PmuX.init, i3c := Option.none, ibi := false, ld := Option.none, ldMsgs := [], rdLast := 0, eg := EgX.init, log := [], nvmLog := [], toClear := [], pub := Option.none, pubWant := Option.none, relReq := [], hostQ := [],
    pwr := PowerX.init, choice := Option.none, stepTo := Option.none, crossing := Option.none, refSel := 0, refGood := 0, extValid := [],
    sessions := [], slices := List.range 32, reply := Option.none, causes := [], release := Option.none, events := [], ovfPend := [], wall := 0, wakeQ := [], wakeAt := [], stOut := [], stIn := [] }


/-- The state. `undo` holds what the last issue of each core can be taken back to; `risen` holds, for each register, the write-1-to-clear bits that hardware has set since the last clock step (R14). -/
structure State where
  csr : Sparse W64
  risen : Sparse Nat
  live : Sparse W64
  mem : List Host.Cell
  lineKey : Sparse (Option LineTag)
  cmem : List Host.Cell
  chans : Sparse Chan
  tables : Sparse Nat
  vregs : Sparse VReg
  cores : Sparse CoreX
  undo : Sparse CoreUndo
  sites : Sparse SiteX
  doms : Sparse DomX
  edges : Sparse EdgeX
  hbms : Sparse StackX
  ports : Sparse PortX
  parts : Sparse PartX
  pnl : PanelX
  fresh : Nat
  pending : List Instr
deriving DecidableEq, Repr

/-- The panel right after power is applied: every register at its reset value, every store empty, no command waiting (R473). -/
def State.reset : State :=
  { csr := [], risen := [], live := [], mem := [], lineKey := [], cmem := [], chans := [], tables := [], vregs := [], cores := [], undo := [], sites := [],
    doms := [], edges := [], hbms := [], ports := [], parts := [], pnl := PanelX.init, fresh := 0, pending := [] }

end Sys2Proof.Machine
end

