-- ==== Sys2Proof/Machine/Setters.lean ====
section
/-!
DEFINITION. One setter per field of the state. Every operation changes the state through these.
-/
namespace Sys2Proof.Machine

/-- Replace `csr`. -/
def State.setCsr (s : State) (v : Sparse W64) : State := { s with csr := v }

/-- Replace `risen`. -/
def State.setRisen (s : State) (v : Sparse Nat) : State := { s with risen := v }

/-- Replace `live`. -/
def State.setLive (s : State) (v : Sparse W64) : State := { s with live := v }

/-- Replace `mem`. -/
def State.setMem (s : State) (v : List Host.Cell) : State := { s with mem := v }

/-- Replace `lineKey`. -/
def State.setLineKey (s : State) (v : Sparse (Option LineTag)) : State := { s with lineKey := v }

/-- Replace `cmem`. -/
def State.setCmem (s : State) (v : List Host.Cell) : State := { s with cmem := v }

/-- Replace `chans`. -/
def State.setChans (s : State) (v : Sparse Chan) : State := { s with chans := v }

/-- Replace `tables`. -/
def State.setTables (s : State) (v : Sparse Nat) : State := { s with tables := v }

/-- Replace `vregs`. -/
def State.setVregs (s : State) (v : Sparse VReg) : State := { s with vregs := v }

/-- Replace `cores`. -/
def State.setCores (s : State) (v : Sparse CoreX) : State := { s with cores := v }

/-- Replace `undo`. -/
def State.setUndo (s : State) (v : Sparse CoreUndo) : State := { s with undo := v }

/-- Replace `sites`. -/
def State.setSites (s : State) (v : Sparse SiteX) : State := { s with sites := v }

/-- Replace `doms`. -/
def State.setDoms (s : State) (v : Sparse DomX) : State := { s with doms := v }

/-- Replace `edges`. -/
def State.setEdges (s : State) (v : Sparse EdgeX) : State := { s with edges := v }

/-- Replace `hbms`. -/
def State.setStacks (s : State) (v : Sparse StackX) : State := { s with hbms := v }

/-- Replace `ports`. -/
def State.setPorts (s : State) (v : Sparse PortX) : State := { s with ports := v }

/-- Replace `parts`. -/
def State.setParts (s : State) (v : Sparse PartX) : State := { s with parts := v }

/-- Replace `pnl`. -/
def State.setPnl (s : State) (v : PanelX) : State := { s with pnl := v }

/-- Replace `fresh`. -/
def State.setFresh (s : State) (v : Nat) : State := { s with fresh := v }

/-- Replace `pending`. -/
def State.setPending (s : State) (v : List Instr) : State := { s with pending := v }

end Sys2Proof.Machine
end

