-- ==== Sys2Proof/Machine/Ops.lean ====
section
/-!
DEFINITION. The named operations over registers, counters, memories and unit internals that every meaning uses, the raising of a hold
(R275, R276) and the reporting of an event (R479).
-/
namespace Sys2Proof.Machine

/-! Registers. -/

/-- The word of the register at `a`. -/
def rd (s : State) (a : Nat) : W64 := sget csrReset s.csr a

/-- Set the word of the register at `a`. -/
def wr (s : State) (a : Nat) (v : W64) : State := s.setCsr (sput csrReset a v s.csr)

/-- The value of a field of the register at `a`. -/
def rf (s : State) (a : Nat) (f : Fld) : Nat := fget f (rd s a)

/-- The write-1-to-clear bits set since the last clock step, with those that setting field `f` of the register at `a` to `v` adds. -/
def risenWith (m : Sparse Nat) (a : Nat) (f : Fld) (v : Nat) : Sparse Nat :=
  match f.acc with
  | .rw1c => smod (fun _ => 0) a (fun x => Nat.lor x (v % 2 ^ f.len * 2 ^ f.lo)) m
  | _ => m

/-- Hardware sets bits of a write-1-to-clear field: a clear in the same clock step leaves them set (R14). -/
def rise (s : State) (a : Nat) (f : Fld) (v : Nat) : State := s.setRisen (risenWith s.risen a f v)

/-- Set a field of the register at `a`. -/
def wf (s : State) (a : Nat) (f : Fld) (v : Nat) : State := rise (wr s a (fset f v (rd s a))) a f v

/-- What a software write of `v` to the register at `a` does to its write-1-to-clear bits: bits set in this clock step stay (R14). -/
def lateClear (s : State) (a : Nat) (v : W64) : W64 :=
  BitVec.ofNat 64 (v.toNat - Nat.land v.toNat (sget (fun _ => 0) s.risen a))

/-- Software writes `v` to field `f`, a write-1-to-clear field: the bits written 1 clear, but for those set in this clock step (R10, R14). -/
def clear1 (s : State) (a : Nat) (f : Fld) (v : W64) : State :=
  wr s a (fset f (Nat.land (rf s a f) (2 ^ f.len - 1 - fget f (lateClear s a v))) (rd s a))

/-- Set a field to a truth value. -/
def wfb (s : State) (a : Nat) (f : Fld) (b : Bool) : State := wf s a f (if b then 1 else 0)

/-! Free values. -/

/-- Draw a free value: its bits, and the state with the draw counter advanced. -/
def takeFree (w : Nat) (s : State) : BitVec w × State := (Config.freeBits w s.fresh, s.setFresh (s.fresh + 1))

/-! Unit internals. -/

def core (s : State) (g : Nat) : CoreX := sget (fun _ => CoreX.init) s.cores g
def modCore (s : State) (g : Nat) (f : CoreX → CoreX) : State := s.setCores (smod (fun _ => CoreX.init) g f s.cores)
def site (s : State) (k : Nat) : SiteX := sget (fun _ => SiteX.init) s.sites k
def modSite (s : State) (k : Nat) (f : SiteX → SiteX) : State := s.setSites (smod (fun _ => SiteX.init) k f s.sites)
def dom (s : State) (d : Nat) : DomX := sget (fun _ => DomX.init) s.doms d
def modDom (s : State) (d : Nat) (f : DomX → DomX) : State := s.setDoms (smod (fun _ => DomX.init) d f s.doms)
def edge (s : State) (e : Nat) : EdgeX := sget (fun _ => EdgeX.init) s.edges e
def modEdge (s : State) (e : Nat) (f : EdgeX → EdgeX) : State := s.setEdges (smod (fun _ => EdgeX.init) e f s.edges)
def stack (s : State) (h : Nat) : StackX := sget (fun _ => StackX.init) s.hbms h
def modStack (s : State) (h : Nat) (f : StackX → StackX) : State := s.setStacks (smod (fun _ => StackX.init) h f s.hbms)
def port (s : State) (p : Nat) : PortX := sget (fun _ => PortX.init) s.ports p
def modPort (s : State) (p : Nat) (f : PortX → PortX) : State := s.setPorts (smod (fun _ => PortX.init) p f s.ports)
def part (s : State) (p : Nat) : PartX := sget (fun _ => PartX.init) s.parts p
def modPart (s : State) (p : Nat) (f : PartX → PartX) : State := s.setParts (smod (fun _ => PartX.init) p f s.parts)
def modPnl (s : State) (f : PanelX → PanelX) : State := s.setPnl (f s.pnl)

/-! Bytes. -/

/-- `n` bytes of a word, least significant first. -/
def bytesOf (n w : Nat) : List Byte := (List.range n).map (fun i => BitVec.ofNat 8 (w / 256 ^ i))

/-- The number that bytes spell, least significant first. -/
def natOf (bs : List Byte) : Nat := bs.foldr (fun b acc => b.toNat + 256 * acc) 0

/-- What an unlisted byte of memory reads as. DESIGN CHOICE (log entry 5). -/
def memUnlisted (_ : Nat) : Byte := 0#8

/-- The byte of HBM or a basin at a GPA. -/
def memRead (s : State) (a : Nat) : Byte := sget memUnlisted s.mem a

/-- `n` bytes from a GPA. -/
def memReads (s : State) (a n : Nat) : List Byte := (List.range n).map (fun i => memRead s (a + i))

/-- Write a byte at a GPA. -/
def memWrite (s : State) (a : Nat) (b : Byte) : State := s.setMem (sput memUnlisted a b s.mem)

/-- Write bytes from a GPA up. -/
def memWrites (s : State) (a : Nat) : List Byte → State
  | [] => s
  | b :: bs => memWrites (memWrite s a b) (a + 1) bs

/-- Key of a core-local byte (R60): 2^20 addresses per core. -/
def ckey (g a : Nat) : Nat := g * 0x10_0000 + a

/-- The byte of a core's local space. -/
def cread (s : State) (g a : Nat) : Byte := sget memUnlisted s.cmem (ckey g a)

/-- `n` bytes of a core's local space. -/
def creads (s : State) (g a n : Nat) : List Byte := (List.range n).map (fun i => cread s g (a + i))

/-- Write a byte of a core's local space. -/
def cwrite (s : State) (g a : Nat) (b : Byte) : State := s.setCmem (sput memUnlisted (ckey g a) b s.cmem)

/-- Write bytes of a core's local space. -/
def cwrites (s : State) (g a : Nat) : List Byte → State
  | [] => s
  | b :: bs => cwrites (cwrite s g a b) g (a + 1) bs

/-- Key of a router channel (R207). -/
def chanKey (k c : Nat) : Nat := k * 1024 + c

/-- A router channel. -/
def chan (s : State) (k c : Nat) : Chan := sget (fun _ => Chan.init) s.chans (chanKey k c)

/-- Change a router channel. -/
def modChan (s : State) (k c : Nat) (f : Chan → Chan) : State := s.setChans (smod (fun _ => Chan.init) (chanKey k c) f s.chans)

/-- A word of a table row; the tables' key ranges are below. Rows never loaded read 0. -/
def tab (s : State) (key : Nat) : Nat := sget (fun _ => 0) s.tables key

/-- Write a table word. -/
def setTab (s : State) (key v : Nat) : State := s.setTables (sput (fun _ => 0) key v s.tables)

/-! Registers of the core (R59). -/

/-- A[n]; A0 reads 0. -/
def areg (s : State) (g n : Nat) : W64 := if n = 0 then 0#64 else rd s (CORE_AREGn g n)

/-- Write A[n]; writes to A0 are discarded. -/
def setAreg (s : State) (g n : Nat) (v : W64) : State := if n = 0 then s else wr s (CORE_AREGn g n) v

/-- P[n]; P0 reads 1. -/
def pred (s : State) (g n : Nat) : Bool := decide (n = 0) || (rd s (CORE_PRED g)).getLsbD n

/-- Write P[n]; P0 cannot be written. -/
def setPred (s : State) (g n : Nat) (b : Bool) : State :=
  if n = 0 then s else wf s (CORE_PRED g) ⟨n, 1, .rw⟩ (if b then 1 else 0)

/-- Key of a vector register. -/
def vkey (g n : Nat) : Nat := g * 32 + n

/-- V[n]. -/
def vreg (s : State) (g n : Nat) : VReg := sget (fun _ => 0#4096) s.vregs (vkey g n)

/-- Write V[n]. -/
def setVreg (s : State) (g n : Nat) (v : VReg) : State := s.setVregs (sput (fun _ => 0#4096) (vkey g n) v s.vregs)

/-- Lane `i` of width `w` of a vector register (R111). -/
def lane (w : Nat) (v : VReg) (i : Nat) : Nat := v.toNat / 2 ^ (w * i) % 2 ^ w

/-- The register whose lanes of width `w` are the list. -/
def ofLanes (w : Nat) (xs : List Nat) : VReg :=
  BitVec.ofNat 4096 (xs.foldr (fun x acc => x % 2 ^ w + 2 ^ w * acc) 0)

/-! Counters (R237, R546, R550). -/

/-- Set a cause of a host function's page, numbered port times 5 plus function (R531). -/
def hostCause (s : State) (u bit : Nat) : State := wf s (MGT_FN_IRQ u) ⟨bit, 1, .rw1c⟩ 1

/-- Set a cause of every function. -/
def hostCauseAll (s : State) (bit : Nat) : State := (List.range 10).foldl (fun s u => hostCause s u bit) s

/-- Deliver a counter's overflow event (R550). -/
def ovfDeliver (s : State) (a : Nat) : State :=
  let sampling := match locate a with | some (.core, _, o) => o == 0x8A8 || o == 0x8B0 | _ => false
  hostCauseAll (wf s PMU_EVENTS (if sampling then Fd.PMU_EVENTS_SAMP_OVF else Fd.PMU_EVENTS_OVF) 1) 4

/-- A counter's overflow event is delivered, or kept while a freeze is in force (R550). -/
def ovfEvent (s : State) (a : Nat) : State :=
  if rf s PMU_STATUS Fd.PMU_STATUS_IN_FORCE = 1 then modPnl s (fun p => { p with ovfPend := p.ovfPend ++ [a] }) else ovfDeliver s a

/-- Width of the counter at `a`: 48 bits, the sampling counters 32 (R546, R555). -/
def counterWidth (a : Nat) : Nat :=
  match locate a with
  | some (.core, _, o) => if o == 0x8A8 || o == 0x8B0 then 32 else 48
  | _ => 48

/-- The live value of a counter: COUNT and OVF at bit 63. -/
def live (s : State) (a : Nat) : W64 := sget (fun _ => 0#64) s.live a

/-- Advance a live counter; a wrap sets the sticky OVF and makes an overflow event (R237). -/
def bump (s : State) (a n : Nat) : State :=
  let w := live s a
  let width := counterWidth a
  let c := w.toNat % 2 ^ 63 + n
  let ovf := w.toNat / 2 ^ 63
  if c < 2 ^ width then s.setLive (sput (fun _ => 0#64) a (BitVec.ofNat 64 (c + ovf * 2 ^ 63)) s.live)
  else ovfEvent (s.setLive (sput (fun _ => 0#64) a (BitVec.ofNat 64 (c % 2 ^ width + 2 ^ 63)) s.live)) a

/-! The schedule counter and holds. -/

/-- The SC of a domain (R62). -/
def scOf (s : State) (d : Nat) : Nat := (dom s d).sc

/-- Whether a hold is in force at a domain (R275). -/
def held (s : State) (d : Nat) : Bool := (dom s d).stopped

/-- TIME as seconds and nanoseconds (R540). -/
def timeSec (s : State) : Nat := rf s TIME_SEC Fd.TIME_SEC_SEC
def timeNs (s : State) : Nat := rf s TIME_NS Fd.TIME_NS_NS

/-- Whether two domains are equal as numbers below 160; 160 is the steward (R302). -/
def stewardDom : Nat := 160

/-- Whether some domain or the steward still has an active cause (R277). -/
def anyCause (s : State) : Bool := !s.pnl.causes.isEmpty || s.doms.any (fun e => !e.2.causes.isEmpty)

/-- The record of CLK_HOLD_STATUS.ACTIVE: bit n for cause code n (R302). -/
def activeCauses (s : State) : Nat :=
  (List.range 10).foldl (fun acc i =>
    let c := i + 1
    if s.pnl.causes.contains c || s.doms.any (fun e => e.2.causes.contains c) then acc + 2 ^ i else acc) 0

/-- An attention event crosses to the steward (R291 to R293): it starts, or merges into the pending one. -/
def attention (s : State) (d : Nat) : State :=
  modDom s d (fun x => if x.attnBusy then { x with attnPending := true } else { x with attnBusy := true })

/-- The panel's record of a hold: the first cause names it, later causes merge (R277, R302); a release under way is cancelled (R279). -/
def recordHold (s : State) (d cause sc : Nat) : State :=
  let s :=
    if rf s CLK_HOLD_STATUS Fd.CLK_HOLD_STATUS_IN_FORCE = 1 then s
    else
      let s := rise s CLK_HOLD_LAST Fd.CLK_HOLD_LAST_VALID 1
      let s := wr s CLK_HOLD_LAST (fset Fd.CLK_HOLD_LAST_VALID 1 (fset Fd.CLK_HOLD_LAST_DOMAIN d (fset Fd.CLK_HOLD_LAST_CAUSE cause 0#64)))
      wr s CLK_HOLD_LAST_SC (BitVec.ofNat 64 sc)
  let s := modPnl s (fun p => { p with release := Option.none })
  wr s CLK_HOLD_STATUS
    (fset Fd.CLK_HOLD_STATUS_RELEASING 0 (fset Fd.CLK_HOLD_STATUS_ACTIVE (activeCauses s)
      (fset Fd.CLK_HOLD_STATUS_IN_FORCE 1 (rd s CLK_HOLD_STATUS))))

/-- Refresh CLK_HOLD_STATUS.ACTIVE. -/
def showActive (s : State) : State := wf s CLK_HOLD_STATUS Fd.CLK_HOLD_STATUS_ACTIVE (activeCauses s)

/-- A cause of a domain clears (R276, R277). -/
def clearCause (s : State) (d cause : Nat) : State :=
  let s := modDom s d (fun x => { x with causes := x.causes.filter (fun c => c != cause) })
  showActive (wfb s (CLK_STATUS d) Fd.CLK_STATUS_RAISING (!(dom s d).causes.isEmpty))

/-- A cause that the steward raised clears. -/
def stewardClear (s : State) (cause : Nat) : State :=
  showActive (modPnl s (fun p => { p with causes := p.causes.filter (fun c => c != cause) }))

/-- The steward raises a hold itself: THROTTLE, STEWARD, SOFTWARE, or the start step of R286 (R302). -/
def stewardHold (s : State) (cause : Nat) : State :=
  let sc := scOf s 0
  let s := modPnl s (fun p => { p with causes := if p.causes.contains cause then p.causes else p.causes ++ [cause] })
  recordHold s stewardDom cause sc

/-! Events for the fault log. -/

/-- Report an event to the active steward (R479, R481). -/
def report (s : State) (ev : FaultEv) : State := modPnl s (fun p => { p with events := p.events ++ [ev] })

/-- An event of a unit, with the SC and TIME of its detection. -/
def mkEvent (s : State) (cls sev kind index cause sc : Nat) (d0 d1 d2 : W64) (hold fence : Option (Nat × Nat)) : FaultEv :=
  { cls := cls, sev := sev, kind := kind, index := index, cause := cause, sc := sc, sec := timeSec s, ns := timeNs s,
    d0 := d0, d1 := d1, d2 := d2, hold := hold, fence := fence, part := Option.none, users := [] }

/-- Hold cause codes of R276. -/
def hFault : Nat := 1
def hError : Nat := 2
def hWeir : Nat := 3
def hDeadline : Nat := 4
def hWake : Nat := 5
def hBoundary : Nat := 6
def hThrottle : Nat := 7
def hSteward : Nat := 8
def hOptical : Nat := 9
def hSoftware : Nat := 10

/-- A non-fatal CSR or data access error (R13, R27, R480): counted, and recorded unless a record stands. -/
def accessError (s : State) (kind : Nat) (write : Bool) (reqCode siteNo a : Nat) : State :=
  let s := rise (bump s FLT_ACCESS_ERRS 1) FLT_ACCESS Fd.FLT_ACCESS_VALID 1
  if rf s FLT_ACCESS Fd.FLT_ACCESS_VALID = 1 then s
  else
    let s := wr s FLT_ACCESS (fset Fd.FLT_ACCESS_VALID 1 (fset Fd.FLT_ACCESS_SITE siteNo (fset Fd.FLT_ACCESS_REQ reqCode
      (fset Fd.FLT_ACCESS_WRITE (if write then 1 else 0) (fset Fd.FLT_ACCESS_KIND kind 0#64)))))
    wr s FLT_ACCESS_ADDR (BitVec.ofNat 64 (a % 2 ^ 48))

/-- The requester code of FLT_ACCESS.REQ (R500) and the SCP's site. -/
def reqCode : Requester → Nat
  | .host p _ => p.val
  | .mgmt p _ => match p.val with | 0 => 2 | 1 => 3 | 2 => 0 | 3 => 1 | _ => 7
  | .steward => 4
  | .scp _ => 5
  | .edge _ => 6

def reqSite : Requester → Nat
  | .scp k => k.val
  | _ => 0

/-- A CSR access error by a requester. -/
def csrError (s : State) (req : Requester) (write : Bool) (a : Nat) : State := accessError s 1 write (reqCode req) (reqSite req) a

/-- A data access error by a requester. -/
def dataError (s : State) (req : Requester) (write : Bool) (a : Nat) : State := accessError s 2 write (reqCode req) (reqSite req) a

/-- What every meaning that changes the state answers with. -/
def ok (s : State) : Host.Outcome State Fault Refusal := .next s

end Sys2Proof.Machine
end

