-- ==== Sys2Proof/Machine/Operands.lean ====
section
/-!
DEFINITION. The bundle and its slots (R65 to R71, R75, R78): fields from bits and bits from fields, and the plan a slot makes at issue.
-/
namespace Sys2Proof.Machine

/-- `n` bits of a number from bit `lo`. -/
def bf (w lo n : Nat) : Nat := w / 2 ^ lo % 2 ^ n

/-- The slots of a bundle (R65). -/
def tuSlot (b : Nat) : Nat := bf b 0 56
def vuSlot (b : Nat) : Nat := bf b 56 64
def xuSlot (b : Nat) : Nat := bf b 120 64
def mxSlot (b : Nat) : Nat := bf b 184 40
def ctlField (b : Nat) : Nat := bf b 224 32

/-- A bundle from its slots (R65). -/
def bundleOf (tu vu xu mx ctl : Nat) : BitVec 256 :=
  BitVec.ofNat 256 (tu + vu * 2 ^ 56 + xu * 2 ^ 120 + mx * 2 ^ 184 + ctl * 2 ^ 224)

def b2n (b : Bool) : Nat := if b then 1 else 0

/-- The words of the slots (R70, R71, R75, R78) and of the control field (R69). -/
def tuWord (op : Nat) (f : TuF) : Nat :=
  op * 2 ^ 50 + b2n f.hdr.pneg * 2 ^ 49 + f.hdr.pred.val * 2 ^ 46 + f.desc.val * 2 ^ 40 + f.aoff.toNat * 2 ^ 28
    + f.boff.toNat * 2 ^ 16 + f.coff.toNat * 2 ^ 5 + f.flags.toNat
def vuWord (op : Nat) (f : VuF) : Nat :=
  op * 2 ^ 56 + b2n f.hdr.pneg * 2 ^ 55 + f.hdr.pred.val * 2 ^ 52 + f.fmt.val * 2 ^ 50 + f.vd.val * 2 ^ 45 + f.va.val * 2 ^ 40
    + f.vb.val * 2 ^ 35 + f.vc.val * 2 ^ 30 + b2n f.sb * 2 ^ 29 + f.as.val * 2 ^ 24 + f.mod.toNat * 2 ^ 16 + f.imm.toNat
def xuWord (op : Nat) (f : XuF) : Nat :=
  op * 2 ^ 58 + b2n f.hdr.pneg * 2 ^ 57 + f.hdr.pred.val * 2 ^ 54 + f.ra.val * 2 ^ 49 + f.rb.val * 2 ^ 44 + f.mode.val * 2 ^ 41
    + f.rc.val * 2 ^ 36 + f.words.val * 2 ^ 29 + b2n f.postinc * 2 ^ 28 + f.imm.toNat
def mxWord (op : Nat) (f : MxF) : Nat :=
  op * 2 ^ 34 + b2n f.hdr.pneg * 2 ^ 33 + f.hdr.pred.val * 2 ^ 30 + f.rd.val * 2 ^ 25 + f.ra.val * 2 ^ 20 + f.rb.val * 2 ^ 15
    + f.imm.toNat
def ctlWord (op : Nat) (arg : BitVec 29) : Nat := op * 2 ^ 29 + arg.toNat

/-- A slot's opcode and header (R67). -/
structure Head where
  op : Nat
  pneg : Bool
  pred : Nat
deriving DecidableEq, Repr

def tuHead (w : Nat) : Head := ⟨bf w 50 6, bf w 49 1 == 1, bf w 46 3⟩
def vuHead (w : Nat) : Head := ⟨bf w 56 8, bf w 55 1 == 1, bf w 52 3⟩
def xuHead (w : Nat) : Head := ⟨bf w 58 6, bf w 57 1 == 1, bf w 54 3⟩
def mxHead (w : Nat) : Head := ⟨bf w 34 6, bf w 33 1 == 1, bf w 30 3⟩

/-- Whether a slot executes (R67). -/
def executes (s : State) (g : Nat) (h : Head) : Bool := h.op != 0 && (pred s g h.pred != h.pneg)

/-- Schedule-fault causes of R100. -/
def cFormat : Nat := 1
def cNest : Nat := 2
def cWrite : Nat := 3
def cPort : Nat := 4
def cIfetch : Nat := 5
def cGated : Nat := 6
def cAddress : Nat := 7
def cPhase : Nat := 8

/-- What a slot does when its bundle issues without a fault, and the faults it raises by itself. `lat` is its latency (R64). -/
structure Plan where
  faults : List Nat
  exec : Bool
  lat : Nat
  flights : List Flight
  accs : List StoreAcc
  bank : List BankReq
  chanw : List ChanWrite
  chanr : List (Nat × Nat × Nat)
  strm : List StrmReq
  tu : List TuFlight
  regions : List TuRegion
  tuFree : Option Nat
  refill : List (Nat × Nat × Nat)
  events : List (Nat × Nat)
deriving DecidableEq, Repr

/-- A slot that does nothing. -/
def Plan.idle : Plan :=
  { faults := [], exec := false, lat := 0, flights := [], accs := [], bank := [], chanw := [], chanr := [], strm := [], tu := [], regions := [],
    tuFree := Option.none, refill := [], events := [] }

/-- A plan that only faults. -/
def Plan.fail (cs : List Nat) : Plan := { Plan.idle with faults := cs }

/-- One fault code when a check fails. -/
def chk (code : Nat) (good : Bool) : List Nat := if good then [] else [code]

/-- The stores of R60: local 0, operand 1, accumulator 2, instruction memory 3; `none` for a range that is not wholly in one. -/
def storeOf (a n : Nat) : Option Nat :=
  if a + n ≤ 0x4_0000 then some 0
  else if 0x4_0000 ≤ a ∧ a + n ≤ 0x7_0000 then some 1
  else if 0x8_0000 ≤ a ∧ a + n ≤ 0xA_0000 then some 2
  else if 0xA_0000 ≤ a ∧ a + n ≤ 0xC_0000 then some 3
  else Option.none

/-- The code of a StoreAcc that stands for the landing of a VU load from the local store (R175): no store of R60. -/
def loadLanding : Nat := 4

/-- The words of 4 bytes that bytes spell. -/
def wordsOf (n : Nat) (bs : List Byte) : List (BitVec 32) :=
  (List.range n).map (fun i => BitVec.ofNat 32 (natOf ((bs.drop (4 * i)).take 4)))

/-- The bytes of words. -/
def bytesOfWords (ws : List (BitVec 32)) : List Byte := ws.flatMap (fun w => bytesOf 4 w.toNat)

/-- Key bases of the tables store; each table has 2^40 keys. -/
def tk (n : Nat) : Nat := n * 2 ^ 40

/-- In-service and start-up fences: the cause code of a unit, 0 while it is good (R46, R482, R488). -/
def unitKey (kind index : Nat) : Nat := tk 1 + kind * 0x1_0000 + index
def unitCause (s : State) (kind index : Nat) : Nat := tab s (unitKey kind index)

/-- The variant's fused maximum operating point (R5, R261), as FUSE_INFO.MAX_OPPT and CLK_PANEL.FUSED_MAX show it (R302, R478). -/
def fusedMax (s : State) : Nat := rf s FUSE_INFO Fd.FUSE_INFO_MAX_OPPT

/-- Factory state of a site: 0 active, 1 dark, 2 hole (R478). -/
def fuseSite (s : State) (k : Nat) : Nat := bf (rd s (FUSE_SITE_STATEn (k / 32))).toNat (2 * (k % 32)) 2

/-- State of a site (R35): a fused or fenced base die makes a hole, a fused or fenced compute die a dark site. -/
def siteState (s : State) (k : Nat) : Nat :=
  if fuseSite s k = 2 ∨ unitCause s 3 k ≠ 0 then 2
  else if fuseSite s k = 1 ∨ unitCause s 2 k ≠ 0 then 1
  else 0

/-- Whether a core is enabled: fuse map and fences both say good (R34). -/
def coreEnabled (s : State) (g : Nat) : Bool :=
  decide (siteState s (g / 64) = 0) && (rd s (FUSE_CORE_MASKn (g / 64))).getLsbD (g % 64) && decide (unitCause s 1 g = 0)

/-- The enabled cores of a site. -/
def enabledCores (s : State) (k : Nat) : List Nat := ((List.range 64).map (fun c => k * 64 + c)).filter (coreEnabled s)

/-- State codes of a core (R102). -/
def coreState (s : State) (g : Nat) : Nat := if coreEnabled s g then rf s (CORE_STATUS g) Fd.CORE_STATUS_STATE else 0
def setCoreState (s : State) (g v : Nat) : State := wf s (CORE_STATUS g) Fd.CORE_STATUS_STATE v

end Sys2Proof.Machine
end

