-- ==== Sys2Proof/Machine/Flags.lean ====
section
/-!
DEFINITION. The flags that arithmetic sets: Cascade's NaN and wrap telemetry (R242, R259).
-/
namespace Sys2Proof.Machine

/-- Signed value of the low `n` bits. -/
def signed (n w : Nat) : Int := if w % 2 ^ n < 2 ^ (n - 1) then (w % 2 ^ n : Nat) else (w % 2 ^ n : Nat) - (2 ^ n : Nat)

/-- Lane width in bits (R242). -/
def laneBits (fmt : Nat) : Nat := match fmt with | 0 => 32 | 1 => 16 | 2 => 64 | 3 => 32 | _ => 64

/-- Whether an output lane is NaN. -/
def laneNan (fmt r : Nat) : Bool :=
  match fmt with
  | 0 => (fp32 r).isNan
  | 1 => (decodeElem .bf16 r).isNan
  | 2 => (fp32 (bf r 0 32)).isNan
  | _ => false

/-- Whether an integer sum left its lane (R259). -/
def laneWrap (fmt op a b : Nat) : Bool :=
  Nat.ble 3 fmt && op == 0 &&
    (let n := laneBits fmt
     let t := signed n a + signed n b
     decide (t < -(2 ^ (n - 1) : Int)) || decide ((2 ^ (n - 1) : Int) ≤ t))

end Sys2Proof.Machine
end

