-- ==== Sys2Proof/Machine/Holds.lean ====
section
/-!
DEFINITION. Holds as a domain raises and meets them (R275 to R277): what its cores issued at the SC of the stop is taken back, and its registers show
the hold; with the sleep level that the registers show (R93).
-/
namespace Sys2Proof.Machine

/-- Wake time of a sleep level in cycles at the operating point in force (R295). -/
def wakeCycles (s : State) (level : Nat) : Nat :=
  let mult := match rf s CLK_PANEL Fd.CLK_PANEL_OPPT with | 0 => 16 | 1 => 14 | 2 => 12 | _ => 10
  match level with
  | 2 => 800 * mult
  | 3 => 6000 * mult
  | _ => 64

/-- Show the site's sleep level in the status registers (R93). -/
def showSleep (s : State) (k : Nat) : State :=
  let cs := enabledCores s k
  let lvl := (site s k).sleep
  let all := !cs.isEmpty && cs.all (fun g => coreState s g == 4)
  let s := cs.foldl (fun s g =>
    let v := if coreState s g = 4 then max 1 lvl else 0
    if rf s (CORE_STATUS g) Fd.CORE_STATUS_SLEEP = v then s else wf s (CORE_STATUS g) Fd.CORE_STATUS_SLEEP v) s
  wf s (CLK_STATUS k) Fd.CLK_STATUS_SLEEP (if all then max 1 lvl else 0)

/-! Taking back an issue. -/

/-- The counters that an issue advances: slot classes, bundles, events (R106, R553). -/
def issueCounters (g : Nat) : List Nat :=
  (List.range 16).map (fun i => CORE_CYC_s_k g i) ++ CORE_BUNDLES g :: (List.range 4).map (fun i => CORE_EVTn g i)

/-- The registers that an issue writes. -/
def issueRegs (g : Nat) : List Nat := CORE_STATUS g :: (List.range 4).map (fun i => CORE_LOOPn g i)

/-- A core's internals without what it issued at an SC: `x` now, `u` before. -/
def unissuedCore (sc : Nat) (u x : CoreX) : CoreX :=
  { x with
    flights := x.flights.filter (fun f => f.issue != sc), tu := x.tu.filter (fun f => f.issue != sc), tuFree := u.tuFree, issued := u.issued,
    tuGate := u.tuGate, vuGate := u.vuGate, tuOff := u.tuOff, vuOff := u.vuOff, resume := u.resume, sleepLevel := u.sleepLevel,
    thawing := u.thawing, awake := u.awake, vsel := u.vsel, haltAt := u.haltAt, refills := u.refills, accs := u.accs, regions := u.regions,
    imBusy := u.imBusy, samples := u.samples, sampNext := u.sampNext }

/-- A site's queues without what a core issued at an SC. -/
def unissuedSite (i sc : Nat) (u : CoreUndo) (x : SiteX) : SiteX :=
  { x with
    bankQ := x.bankQ.filter (fun r => !(r.port == i && r.issue == sc)), chanQ := u.chanw.foldl (fun q w => q.erase w) x.chanQ,
    strmQ := x.strmQ.filter (fun r => !(r.core == i && r.sc == sc + 1)), chanR := x.chanR.filter (fun r => !(r.1 == sc && r.2.2 % 64 == i)),
    sleep := u.sleep, wake := u.wake }

/-- Take back what a core issued at SC `sc`, as `u` keeps the state before it. A core that has faulted since stays FAULTED (R99). -/
def unissueCore (s : State) (g sc : Nat) (u : CoreUndo) : State :=
  let faulted := coreState s g == 6
  let s := (issueRegs g).foldl (fun s a => wr s a (sget csrReset u.csr a)) s
  let s := (issueCounters g).foldl (fun s a => s.setLive (sput (fun _ => 0#64) a (sget (fun _ => 0#64) u.live a) s.live)) s
  let s := modCore (if faulted then setCoreState s g 6 else s) g (unissuedCore sc u.x)
  modSite s (g / 64) (unissuedSite (g % 64) sc u)

/-- A site that raises or meets a hold at SC `sc` issues nothing there (R275): what its cores have issued at that SC is taken back. -/
def unissue (s : State) (k sc : Nat) : State :=
  let us := s.undo.filter (fun e => e.1 / 64 == k && (core s e.1).issued == some sc && e.2.sc == sc)
  if us.isEmpty then s else showSleep (us.foldl (fun s e => unissueCore s e.1 sc e.2) s) k

/-! Holds. -/

/-- A domain stops: its stop SC is its SC, at which nothing of it has issued (R275). Catch-up pauses (R280). -/
def stopDomain (s : State) (d : Nat) : State :=
  if held s d then s
  else
    let sc := scOf s d
    let s := if d < 144 then unissue s d sc else s
    let s := modDom s d (fun x => { x with stopped := true, stop := sc })
    let s := wr s (CLK_STOP_SC d) (BitVec.ofNat 64 sc)
    wf (wf s (CLK_STATUS d) Fd.CLK_STATUS_CATCHUP 0) (CLK_STATUS d) Fd.CLK_STATUS_HELD 1

/-- A domain raises a hold at its SC: it issues nothing there, records the cause, and sends it up the hold tree (R275, R276, R300). -/
def raiseHold (s : State) (d cause weir : Nat) : State :=
  let sc := scOf s d
  let s := modDom s d (fun x => { x with causes := if x.causes.contains cause then x.causes else x.causes ++ [cause] })
  let s := rise s (CLK_HOLD d) Fd.CLK_HOLD_VALID 1
  let s :=
    if rf s (CLK_HOLD d) Fd.CLK_HOLD_VALID = 1 then s
    else wr s (CLK_HOLD d) (fset Fd.CLK_HOLD_VALID 1 (fset Fd.CLK_HOLD_WEIR weir (fset Fd.CLK_HOLD_CAUSE cause 0#64)))
  let s := wr s (CLK_HOLD_SC d) (BitVec.ofNat 64 sc)
  let s := stopDomain s d
  let s := wf s (CLK_STATUS d) Fd.CLK_STATUS_RAISING 1
  attention (recordHold s d cause sc) d

end Sys2Proof.Machine
end

