-- ==== Sys2Proof/Machine/RouterTables.lean ====
section
/-!
DEFINITION. The site router's tables, endpoints and the configuration in force (R200, R206, R210 to R217), which the basin also needs for
the bank accesses of the router ports.
-/
namespace Sys2Proof.Machine

/-- Keys of the four router tables (R210). -/
def hopKey (k row : Nat) : Nat := tk 3 + k * 8192 + row
def cfgKey (k row : Nat) : Nat := tk 4 + k * 512 + row
def bpdKey (k row : Nat) : Nat := tk 5 + k * 256 + row
def phaseKey (k row : Nat) : Nat := tk 6 + k * 256 + row

/-- Byte `i` of a configuration (R214). -/
def cfgByte (cfg i : Nat) : Nat := bf cfg (8 * i) 8

/-- Fields of a hop-program entry (R212). -/
def hopDuration (e : Nat) : Nat := bf e 0 16
def hopConfig (e : Nat) : Nat := bf e 16 9
def hopOpen (e : Nat) : Bool := bf e 25 1 == 1
def hopLast (e : Nat) : Bool := bf e 26 1 == 1

/-- Whether the empty program runs (R211, R236). -/
def emptyProgram (s : State) (k : Nat) : Bool := rf s (RIL_STATUS k) Fd.RIL_STATUS_EMPTY == 1

/-- The entry in force. -/
def entryWord (s : State) (k : Nat) : Nat := tab s (hopKey k (rf s (RIL_STATUS k) Fd.RIL_STATUS_ENTRY))

/-- The configuration in force; none under the empty program. -/
def cfgInForce (s : State) (k : Nat) : Option Nat :=
  if emptyProgram s k then Option.none else some (tab s (cfgKey k (hopConfig (entryWord s k))))

/-- The outputs that select a source (R206). -/
def outputsOf (cfg src : Nat) : List Nat := (List.range 164).filter (fun o => cfgByte cfg o == src)

/-- Whether an output selects a source. -/
def selects (cfg src : Nat) : Bool := (List.range 164).any (fun o => cfgByte cfg o == src)

/-- The word address of a BR or BW port at SC `sc` (R216). -/
def portAddr (s : State) (k desc sc : Nat) : Nat :=
  let d := tab s (bpdKey k desc)
  let a : Int := (bf d 0 26 : Nat) + signed 16 (bf d 64 16) * ((sc : Int) - ((site s k).entryStart : Nat))
    + signed 32 (bf d 32 32) * (rf s (RIL_STATUS k) Fd.RIL_STATUS_REP : Nat)
  (a % (2 ^ 26 : Int)).toNat

/-- The router's bank accesses at SC `sc`: used BR ports read, used BW ports write 64 words at unit stride (R214, R216). Those outside the
basin make none (R220). The data of a write is filled in by the router. -/
def routerReqs (s : State) (k sc : Nat) : List BankReq :=
  match cfgInForce s k with
  | Option.none => []
  | some cfg =>
    let mk := fun (portNo desc : Nat) (w : Bool) =>
      let a := portAddr s k desc sc
      if a + 64 ≤ 0x300_0000 then
        [(⟨sc, portNo, w, (List.range 64).map (fun i => a + i), [], sc, Option.none, 0⟩ : BankReq)]
      else []
    (List.range 16).flatMap (fun i => if selects cfg (0x70 + i) then mk (64 + i) (cfgByte cfg (192 + i)) false else [])
      ++ (List.range 16).flatMap (fun i => if cfgByte cfg (96 + i) != 0 then mk (80 + i) (cfgByte cfg (208 + i)) true else [])

/-! Links. Directions north, east, south, west are 0 to 3; links 0 to 3 are mesh, 4 to 7 span (R42). Logical north is away from
steward A, which stands at site (0, 0) (R9, R18). -/

/-- The site `n` positions away in a direction, if inside the array. -/
def siteAt (k dir n : Nat) : Option Nat :=
  let x := k % 12
  let y := k / 12
  match dir with
  | 0 => if y + n < 12 then some (k + 12 * n) else Option.none
  | 1 => if x + n < 12 then some (k + n) else Option.none
  | 2 => if n ≤ y then some (k - 12 * n) else Option.none
  | _ => if n ≤ x then some (k - n) else Option.none

/-- The far site of link `l`. -/
def linkFar (k l : Nat) : Option Nat := if l < 4 then siteAt k l 1 else siteAt k (l - 4) 3

/-- The opposite direction's link at the far site. -/
def linkBack (l : Nat) : Nat := if l < 4 then (l + 2) % 4 else (l - 4 + 2) % 4 + 4

/-- Front sites of an edge die (R16). -/
def frontSite (e j : Nat) : Nat :=
  let q := e % 4
  match e / 4 with
  | 0 => 3 * q + j
  | 1 => (3 * q + j) * 12 + 11
  | 2 => 11 * 12 + (11 - 3 * q - j)
  | _ => (11 - 3 * q - j) * 12

/-- The edge dies wired to a site, lower number first: edge port A, then B at a corner (R232). -/
def edgePorts (k : Nat) : List (Nat × Nat) :=
  (List.range 16).flatMap (fun e => (List.range 3).flatMap (fun j => if frontSite e j = k then [(e, j)] else []))

/-- Whether an edge die is in service: not fenced, with a usable front site (R38). -/
def edgeInService (s : State) (e : Nat) : Bool :=
  decide (unitCause s 5 e = 0) &&
    (List.range 3).any (fun j =>
      let k := frontSite e j
      siteState s k != 2 &&
        (((edgePorts k).zipIdx).any (fun p => p.1.1 == e && unitCause s 4 (1152 + 2 * k + p.2) == 0)))

/-- Whether link `l` of a site is usable (R37, R204, R222, R488): it exists, neither end nor a span's intermediate site is a hole, and neither
direction is fenced. -/
def linkUsable (s : State) (k l : Nat) : Bool :=
  match linkFar k l with
  | Option.none => false
  | some f =>
    siteState s k != 2 && siteState s f != 2 && unitCause s 4 (k * 8 + l) == 0 && unitCause s 4 (f * 8 + linkBack l) == 0
      && (decide (l < 4) ||
        [1, 2].all (fun n => match siteAt k (l - 4) n with | some m => siteState s m != 2 | Option.none => false))

/-- Whether edge port `b` (0 A, 1 B) of a site is usable (R38, R42). -/
def edgePortUsable (s : State) (k b : Nat) : Bool :=
  match (edgePorts k)[b]? with
  | Option.none => false
  | some p => siteState s k != 2 && unitCause s 4 (1152 + 2 * k + b) == 0 && edgeInService s p.1

/-- Byte `i` of the current floor plan record (R40, R48). -/
def fprByte (s : State) (i : Nat) : Nat := bf (rd s (BOOT_FPR_BUFb_n (rf s BOOT_FPR_GEN Fd.BOOT_FPR_GEN_BUF) (i / 8))).toNat (8 * (i % 8)) 8

/-- Whether the current record marks link `l` of a site usable, at both of its ends (R37, R42). -/
def fprLink (s : State) (k l : Nat) : Bool :=
  match linkFar k l with
  | Option.none => false
  | some f => bf (fprByte s (0x80 + 16 * k + 10)) l 1 == 1 && bf (fprByte s (0x80 + 16 * f + 10)) (linkBack l) 1 == 1

/-- Whether the current record marks edge port `b` of a site usable (R42). -/
def fprEdge (s : State) (k b : Nat) : Bool := bf (fprByte s (0x80 + 16 * k + 14)) b 1 == 1

/-- Whether the current record marks the link or edge port of an output group usable. -/
def fprGroup (s : State) (k w : Nat) : Bool := if w < 8 then fprLink s k w else fprEdge s k (w - 8)

/-- The site in whose record a unit stands (R42). -/
def siteOfUnit (kind i : Nat) : Option Nat :=
  match kind with
  | 1 => some (i / 64)
  | 2 => some i
  | 3 => some i
  | 4 => some (if i < 1152 then i / 8 else (i - 1152) / 2)
  | _ => Option.none

/-- Key of the cause of the last change to a site's entry. -/
def siteCauseKey (k : Nat) : Nat := tk 23 + k

/-- The entry of a site changes because a unit that it depends on was fenced: cause 0x07 (R42, R46). -/
def dependCause (s : State) (k : Nat) : State := setTab s (siteCauseKey k) 7

/-- Record a unit's cause, unless one stands. -/
def markUnit (s : State) (kind i cause : Nat) : State :=
  if unitCause s kind i = 0 then
    let s := setTab s (unitKey kind i) cause
    match siteOfUnit kind i with
    | some k => setTab s (siteCauseKey k) cause
    | Option.none => s
  else s

end Sys2Proof.Machine
end

