-- ==== Sys2Proof/Machine/Guard.lean ====
section
/-!
DEFINITION. Who may reach what: partitions (R510), requester classes and permissions (R513 to R515, R529, R535), addresses that no access
reaches (R23, R27), and staging registers per requester (R500, R513, R541).
-/
namespace Sys2Proof.Machine

/-- PMODE as 1, 2 or 4 partitions (R511). -/
def pmode (s : State) : Nat := rf s SEC_PART_CFG Fd.SEC_PART_CFG_PMODE

/-- Number of partitions. -/
def partCount (s : State) : Nat := match pmode s with | 0 => 1 | 1 => 2 | _ => 4

/-- Partition of a site (R510). -/
def partOfSite (s : State) (k : Nat) : Nat :=
  match pmode s with
  | 0 => 0
  | 1 => k / 12 / 6
  | _ => k % 12 / 6 + 2 * (k / 12 / 6)

/-- Partition of an edge die: that of its front site j = 1 (R510). -/
def partOfEdge (s : State) (e : Nat) : Nat := partOfSite s (frontSite e 1)

/-- Whether a partition has an image loaded (R586). States: 0 NONE, 1 LOADING, 2 LOADED, 3 STARTING, 4 RUNNING, 5 REFUSED, 6 STOPPED. -/
def imageLoaded (s : State) (p : Nat) : Bool :=
  let st := rf s (BOOT_LOAD_STATUSp p) Fd.BOOT_LOAD_STATUSp_STATE
  st != 0 && st != 5

/-- Whether any partition has an image loaded. -/
def anyImage (s : State) : Bool := (List.range 4).any (fun p => imageLoaded s p)

/-- The requester classes of R513. -/
inductive Cls where
  | tenant (p : Nat)
  | operator
  | management
  | firmware
  | nobody
deriving DecidableEq, Repr

/-- Whether the port of a steward, 0 or 1, is lost with it (R527, R533): its steward is fenced. -/
def stewardLost (s : State) (g : Nat) : Bool := unitCause s 10 g != 0

/-- The class of a requester (R513, R529, R535). A port that is lost with its steward carries nobody's requests (R527). -/
def clsOf (s : State) (req : Requester) : Cls :=
  match req with
  | .host pt f =>
    if stewardLost s pt.val then .nobody
    else if f.val = 0 then .operator
    else
      let p := f.val - 1
      if p < partCount s ∧ (rf s (SEC_PARTp p) Fd.SEC_PARTp_TDI_RUN) / 2 ^ pt.val % 2 = 1 then .tenant p else .nobody
  | .mgmt pt i =>
    match s.pnl.sessions.find? (fun x => x.port == pt.val && x.idx == i.val) with
    | some x => if x.kind = 1 then .management else if 2 ≤ x.kind then .tenant (x.kind - 2) else .nobody
    | Option.none => .nobody
  | .steward => .firmware
  | .scp k => .tenant (partOfSite s k.val)
  | .edge _ => .firmware

/-- Whether the class is tenant `p`. -/
def Cls.owns (c : Cls) (p : Nat) : Bool := match c with | .tenant q => q == p | .firmware => true | _ => false

/-- Operator or management (or firmware). -/
def Cls.ops (c : Cls) : Bool := match c with | .operator => true | .management => true | .firmware => true | _ => false

/-- Any class that may reach the panel at all. -/
def Cls.known (c : Cls) : Bool := match c with | .nobody => false | _ => true

/-- Read of a counter of partition `p`'s units (R513). -/
def counterRead (s : State) (c : Cls) (p : Nat) : Bool :=
  c.owns p || (c.ops && rf s (SEC_PARTp p) Fd.SEC_PARTp_PMU_GRANT == 1)

/-- Whether an offset of a block is a counter register. -/
def isCounter (b : Blk) (o : Nat) : Bool := match findRow b o with | some r => r.counter | Option.none => false

/-- Status and log offsets of the per-site blocks, readable by every class (R513). -/
def siteStatus (b : Blk) (o : Nat) : Bool :=
  match b with
  | .bsn => o == 0x8 || o == 0x10 || o == 0x18 || o == 0x20 || o == 0x28 || o == 0x30
  | .ril => o == 0x0 || o == 0x10 || o == 0x18 || o == 0x20 || o == 0x28 || o == 0x30
  | .csc => o == 0x0 || o == 0x10 || o == 0x18 || o == 0x20
  | .clk => Nat.blt o 0x40 || o == 0x60 || o == 0x68 || Nat.ble 0x800 o
  | .site => o == 0x4028 || o == 0x4030 || o == 0x4038
  | _ => false

/-- Whether R513 permits an access to a register. -/
def permitted (s : State) (c : Cls) (write : Bool) (b : Blk) (u o : Nat) : Bool :=
  if c = .firmware then true
  else if !c.known then false
  else
    match b with
    | .core =>
      if isCounter .core o || Nat.ble 0x1000 o then !write && counterRead s c (partOfSite s (u / 64))
      else c.owns (partOfSite s (u / 64))
    | .site | .bsn | .ril | .csc =>
      if isCounter b o then !write && counterRead s c (partOfSite s u)
      else (!write && siteStatus b o) || c.owns (partOfSite s u)
    | .clk =>
      if Nat.ble 144 u then !write
      else if isCounter b o then !write && counterRead s c (partOfSite s u)
      else (!write && siteStatus b o) || c.owns (partOfSite s u)
    | .pwrs => if isCounter b o then !write && counterRead s c (partOfSite s u) else !write
    | .hbm =>
      let p := partOfEdge s (u / 2)
      if isCounter b o then !write && counterRead s c p
      else if o == 0x8 then c.owns p || c.ops else !write
    | .stm =>
      let p := partOfEdge s u
      if isCounter b o then !write && counterRead s c p
      else if o == 0x8 || o == 0x10 || o == 0x18 then c.owns p else !write
    | .suo =>
      let p := partOfEdge s u
      if isCounter b o then !write && counterRead s c p
      else if Nat.ble 0x3000 o then c.owns p
      else if Nat.ble 0x1000 o && Nat.blt o 0x2000 then
        let r := (o - 0x1000) % 512
        if Nat.ble 0x40 r && Nat.blt r 0xC0 then c.owns p
        else if r == 0 || r == 0x30 then c.owns p || c.ops
        else !write
      else !write
    | .ec => false
    | .secE => !write
    | .pPwr => if Nat.ble o 0x18 then !write || c.ops else !write
    | .pThm => if o == 0 then !write || c.ops else !write
    | .pBoot => if o == 0x20 || o == 0x28 then !write || c.ops else if o == 0x300 || o == 0x308 then true else !write
    | .pFlt =>
      if o == 0x10 then true
      else if o == 0x8 || o == 0x100 || o == 0x180 then !write || c.ops
      else if o == 0x108 then write && c.ops
      else !write
    | .pSec =>
      if o == 0x10 || o == 0x18 || (Nat.ble 0x100 o && Nat.blt o 0x200) then !write || c.ops
      else if o == 0x8 || Nat.ble 0x10000 o then !write || c.ops
      else if o == 0x80 || o == 0xC0 then true
      else !write
    | .pMgt => !write
    | .pTime => if o == 0x1008 then !write || c.ops else if Nat.ble 0x28 o && Nat.ble o 0x40 then true else !write
    | .pPmu => !write
    | .pStm => if o == 0 then false else if Nat.blt o 0x1000 then (match c with | .tenant _ => true | _ => false) else true
    | .pSuo => !write || c.ops
    | .fn => true

/-- Stack of an HBM slice: the assignment of the last publication (R28, R30). -/
def stackOfSlice (s : State) (i : Nat) : Option Nat := s.pnl.slices[i]?

/-- Whether a stack is enabled: fused in, not fenced, its edge die in service (R34, R38). -/
def stackEnabled (s : State) (h : Nat) : Bool :=
  (rd s FUSE_STACK_MASK).getLsbD h && unitCause s 6 h == 0 && edgeInService s (h / 2)

/-- Whether a port is enabled. -/
def portEnabled (s : State) (p : Nat) : Bool :=
  (rd s (FUSE_PORT_MASKn (p / 64))).getLsbD (p % 64) && unitCause s 8 p == 0 && unitCause s 9 (p / 8) == 0 && edgeInService s (p / 8)

/-- The steward windows of R23. -/
def inStewardWindow (a : Nat) : Bool :=
  (Nat.ble 0x0620_0000_0000 a && Nat.blt a 0x0620_0100_0000) || (Nat.ble 0x0621_0000_0000 a && Nat.blt a 0x0621_0100_0000)

/-- Whether R27 rejects an address: unmapped, beyond a basin, a hole's window, a core that is not enabled, a fenced edge die, a slice whose
stack is not enabled. -/
def rejected (s : State) (a : Nat) : Bool :=
  if a < 0x0400_0000_0000 then
    match stackOfSlice s (a / 0x10_0000_0000) with
    | Option.none => true
    | some h => !stackEnabled s h
  else if a < basinBase 144 then
    decide (0xC00_0000 ≤ a % 0x1000_0000) || siteState s ((a - basinBase 0) / 0x1000_0000) == 2
  else if a < 0x0600_0000_0000 then true
  else if a < siteCsr 144 then
    let k := (a - siteCsr 0) / 0x10_0000
    let o := a % 0x10_0000
    siteState s k == 2 || (decide (0x8_0000 ≤ o) && !coreEnabled s (k * 64 + (o - 0x8_0000) / 0x2000))
  else if a < 0x0610_0000_0000 then true
  else if a < edgeCsr 16 then !edgeInService s ((a - edgeCsr 0) / 0x100_0000)
  else if inStewardWindow a then false
  else if panelCsr ≤ a ∧ a < panelCsr + 0x100_0000 then false
  else true

/-- Whether an address is data: HBM or a basin (R23). -/
def isData (a : Nat) : Bool := Nat.blt a (basinBase 144)

/-- The partition that owns a data address: that of the slice's edge die, or of the basin's site (R510). -/
def partOfData (s : State) (a : Nat) : Nat :=
  if a < 0x0400_0000_0000 then
    match stackOfSlice s (a / 0x10_0000_0000) with
    | some h => partOfEdge s (h / 2)
    | Option.none => 0
  else partOfSite s ((a - basinBase 0) / 0x1000_0000)

/-- Count a refusal under R513 to R515 (R525). -/
def countRefusal (s : State) : State := bump s SEC_REFUSALS 1

/-- Run a register access, or reject it under R27 or R514: no state changes but the error's record. Only firmware reaches a steward window (R23). -/
def guardCsr (s : State) (req : Requester) (a : Nat) (write : Bool) (f : State → State) : State :=
  if rejected s a then csrError s req write a
  else if inStewardWindow a then csrError (countRefusal s) req write a
  else
    match locate a with
    | Option.none => csrError s req write a
    | some (b, u, o) =>
      if permitted s (clsOf s req) write b u o then f s else csrError (countRefusal s) req write a

/-- Index of a reader (R541). -/
def readerIdx : Requester → Nat
  | .host p f => p.val * 5 + f.val
  | .mgmt p i => 10 + p.val * 8 + i.val
  | .scp k => 50 + k.val
  | .steward => 194
  | .edge e => 195 + e.val

/-- Key of a requester's own copy of a staged register (R500, R513, R541). -/
def stagedKey (req : Requester) (a : Nat) : Nat := tk 7 + readerIdx req * 0x100_0000 + (a - panelCsr)

/-- A staged register of a requester; the registers staged reset to 0. -/
def staged (s : State) (req : Requester) (a : Nat) : Nat := tab s (stagedKey req a)

/-- Write a staged register. -/
def setStaged (s : State) (req : Requester) (a v : Nat) : State := setTab s (stagedKey req a) v

/-- Whether a port carries its services: a management port may be off (R562), and a steward's ports are lost with it (R527, R533). Ports 0 and 1
are management, 2 and 3 host, 4 the fabric. -/
def portOn (s : State) (pt : Nat) : Bool :=
  pt == 4 || (!stewardLost s (pt % 2) && (Nat.ble 2 pt || rf s (MGT_PORTn_CFG pt) Fd.MGT_PORTn_CFG_EN == 1))

/-- Answer a requester. -/
def reply (s : State) (ok : Bool) (data : List Byte) : State := modPnl s (fun p => { p with reply := some ⟨ok, data⟩ })

/-- An event for the management sessions that subscribe to its type (R536, R537). -/
def mgtEvent (s : State) (typ : Nat) (body : List Byte) : State :=
  modPnl s (fun p => { p with sessions := p.sessions.map (fun x =>
    if x.kind = 1 ∧ x.mask / 2 ^ typ % 2 = 1 then { x with queue := x.queue ++ [(typ, body)] } else x) })

/-- The I3C target raises an in-band interrupt (R539). -/
def raiseIbi (s : State) : State := modPnl s (fun p => { p with ibi := true })

/-- Set a bit of PWR_EVENTS or of THM_EVENTS; a new bit is told to sessions (R537). -/
def warnBit (s : State) (a i : Nat) : State :=
  if (rd s a).getLsbD i then rise s a ⟨i, 1, .rw1c⟩ 1
  else
    let s := wf s a ⟨i, 1, .rw1c⟩ 1
    mgtEvent s 4 (bytesOf 8 (rd s PWR_EVENTS).toNat ++ bytesOf 8 (rd s THM_EVENTS).toNat)

end Sys2Proof.Machine
end

