-- ==== Sys2Proof/Machine/Basin.lean ====
section
/-!
DEFINITION. The basin scratchpad: bank mapping (R177, R178), collisions and their effects (R180 to R189), errors (R186 to R188, R197), the
maintenance port (R190 to R195), and the meanings of the basin's commands.
-/
namespace Sys2Proof.Machine

/-- Bank and row of a line (R177). -/
def bankOfLine (l : Nat) : Nat := Nat.xor (Nat.xor (bf l 0 9) (bf l 9 9)) (bf l 18 4)
def rowOfLine (l : Nat) : Nat := bf l 9 13

/-- The line that a bank and row hold: the inverse of R177. -/
def lineOf (bank row : Nat) : Nat := Nat.xor (Nat.xor bank (bf row 0 9)) (bf row 9 4) + row * 512

/-- The region of a word (R178). -/
def regionOf (w : Nat) : Nat := w / 0x4_0000

/-- Region attributes (R197). -/
def regionWeight (s : State) (k n : Nat) : Bool := rf s (BSN_REGIONn k n) Fd.BSN_REGIONn_CLASS == 1
def regionSchedWr (s : State) (k n : Nat) : Bool := rf s (BSN_REGIONn k n) Fd.BSN_REGIONn_SCHED_WR == 1
def regionDynWr (s : State) (k n : Nat) : Bool := rf s (BSN_REGIONn k n) Fd.BSN_REGIONn_DYN_WR == 1

/-- GPA of a basin word (R23). -/
def wordAddr (k w : Nat) : Nat := basinBase k + 4 * w

/-- A basin word. -/
def basinWord (s : State) (k w : Nat) : BitVec 32 := BitVec.ofNat 32 (natOf (memReads s (wordAddr k w) 4))

/-- A core state that keeps its site busy: ARMED, RUN or SLEEP. -/
def coreBusy (s : State) (g : Nat) : Bool := let c := coreState s g; c == 2 || c == 3 || c == 4

/-- Whether any core of the site is ARMED, RUN or SLEEP. -/
def siteBusy (s : State) (k : Nat) : Bool := (List.range 64).any (fun c => coreBusy s (k * 64 + c))

/-- One bank access (R180): the words one port requests from one row of a bank, or from one row of a partner pair in a weight-class
region. `banks` are the banks whose row it reaches. -/
structure BankAcc where
  port : Nat
  issue : Nat
  wr : Bool
  weight : Bool
  row : Nat
  banks : List Nat
  words : List Nat
deriving DecidableEq, Repr

/-- Add a word to the accesses of its port. -/
def addWord (s : State) (k : Nat) (r : BankReq) (accs : List BankAcc) (w : Nat) : List BankAcc :=
  let l := w / 16
  let bank := bankOfLine l
  let row := rowOfLine l
  let weight := regionWeight s k (regionOf w)
  let same := fun (a : BankAcc) => a.row == row && (a.banks.contains bank || (weight && a.weight && a.banks.any (fun b => b / 2 == bank / 2)))
  if accs.any same then
    accs.map (fun a => if same a then
      { a with banks := if a.banks.contains bank then a.banks else a.banks ++ [bank], words := a.words ++ [w] } else a)
  else accs ++ [⟨r.port, r.issue, r.wr, weight, row, [bank], [w]⟩]

/-- The bank accesses of a request. -/
def accsOf (s : State) (k : Nat) (r : BankReq) : List BankAcc := r.words.foldl (addWord s k r) []

/-- The banks an access occupies: its own, and in a weight-class region their partners (R183). -/
def occupied (a : BankAcc) : List Nat :=
  if a.weight then a.banks ++ (a.banks.map (fun b => Nat.xor b 1)).filter (fun b => !a.banks.contains b) else a.banks

/-- A bank with a fault at an SC: bank, cause (R197), the accesses involved, whether the collision arose through a pair. -/
structure BankFault where
  bank : Nat
  cause : Nat
  accs : List BankAcc
  pair : Bool
deriving DecidableEq, Repr

/-- Every pair of accesses that meet in a bank (R183). `xs` are indexed, so that one operation can collide with itself. -/
def collisions (xs : List BankAcc) : List BankFault :=
  (List.range 512).flatMap (fun b =>
    let here := xs.filter (fun a => (occupied a).contains b)
    if 2 ≤ here.length then [⟨b, 1, here, here.any (fun a => !a.banks.contains b)⟩] else [])

/-- Whether a write to weight-class lines replaces whole codewords (R187). -/
def wholeBlocks (r : BankReq) (a : BankAcc) : Bool :=
  !a.weight || (a.words.all (fun w => (List.range 32).all (fun i => a.words.contains (w / 32 * 32 + i)))
    && (decide (64 ≤ r.port) || r.words.length == 32))

/-- Faults of a request by itself: READ_ONLY and WEIGHT_PARTIAL (R187, R189). -/
def ownFaults (s : State) (k : Nat) (r : BankReq) : List BankFault :=
  if !r.wr then []
  else
    (accsOf s k r).flatMap (fun a =>
      a.banks.flatMap (fun b =>
        (if a.words.any (fun w => !regionSchedWr s k (regionOf w)) then [⟨b, 2, [a], false⟩] else [])
          ++ (if wholeBlocks r a then [] else [⟨b, 3, [a], false⟩])))

/-- All bank faults of the requests of one SC. -/
def bankFaults (s : State) (k : Nat) (rs : List BankReq) : List BankFault :=
  collisions (rs.flatMap (accsOf s k)) ++ rs.flatMap (ownFaults s k)

/-- Whether a request takes part in a fault: it then has no effect in any bank (R185). -/
def faulted (fs : List BankFault) (r : BankReq) : Bool := fs.any (fun f => f.accs.any (fun a => a.port == r.port && a.issue == r.issue && a.wr == r.wr))

/-- Lowest of a list of numbers. -/
def minimum (d : Nat) (xs : List Nat) : Nat := xs.foldl min d

/-- BSN_SFAULT of an SC's faults (R197): lowest bank, its lowest cause, the two lowest ports. -/
def sfaultWord (fs : List BankFault) : W64 :=
  let bank := minimum 511 (fs.map (fun f => f.bank))
  let here := fs.filter (fun f => f.bank == bank)
  let cause := minimum 3 (here.map (fun f => f.cause))
  let hits := (here.filter (fun f => f.cause == cause)).flatMap (fun f => f.accs)
  let pa := minimum 96 (hits.map (fun a => a.port))
  let others := hits.filter (fun a => a.port != pa)
  let a := (hits.find? (fun a => a.port == pa)).getD ⟨0, 0, false, false, 0, [], []⟩
  let pb := if others.isEmpty then pa else minimum 96 (others.map (fun a => a.port))
  let b := (hits.reverse.find? (fun a => a.port == pb)).getD a
  let ports := (hits.map (fun a => a.port)).foldl (fun acc p => if acc.contains p then acc else acc ++ [p]) ([] : List Nat)
  let more := decide (2 < ports.length) || fs.any (fun f => f.bank != bank)
  let pair := decide (cause = 1) && here.any (fun f => f.cause == 1 && f.pair)
  BitVec.ofNat 64 (bank + a.row * 2 ^ 9 + b2n pair * 2 ^ 22 + pa * 2 ^ 24 + b2n a.wr * 2 ^ 31 + pb * 2 ^ 32 + b2n b.wr * 2 ^ 39
    + b2n more * 2 ^ 40 + cause * 2 ^ 48 + 2 ^ 63)

/-- A site's hold on a schedule fault with a report; a retired site counts and raises nothing (R485), but a record that is new, as `fresh` says,
makes its attention event (R293). -/
def siteScheduleFault (s : State) (k : Nat) (fresh : Bool) (ev : FaultEv) : State :=
  if (site s k).retired then (if fresh then attention s k else s) else report (raiseHold s k hFault 0) ev

/-- Whether the hold in force at a site began at this SC with a schedule fault of its own: what the fault does not concern completes its work of this
SC nevertheless (R185, R220, R257). -/
def completesSc (s : State) (k : Nat) : Bool :=
  let sc := some (scOf s k)
  (dom s k).stop == scOf s k && ((site s k).faultSc == sc || (site s k).routeSc == sc || (site s k).cscSc == sc)

/-- Whether the scheduled work of a site stands still: a hold is in force there, and it is not that of this SC's own fault (R97, R217, R248). -/
def frozen (s : State) (k : Nat) : Bool := held s k && !completesSc s k

/-- Record a basin schedule fault at SC `sc` once: the record, a hold, a report to the steward (R185, R197). -/
def basinFault (s : State) (k sc : Nat) (fs : List BankFault) : State :=
  if fs.isEmpty ∨ (site s k).faultSc = some sc then s
  else
    let w := sfaultWord fs
    let fresh := rf s (BSN_SFAULT k) Fd.BSN_SFAULT_VALID == 0
    let s := modSite s k (fun x => { x with faultSc := some sc, faultCount := if x.retired then x.faultCount + 1 else x.faultCount })
    let s := rise s (BSN_SFAULT k) Fd.BSN_SFAULT_VALID 1
    let s :=
      if rf s (BSN_SFAULT k) Fd.BSN_SFAULT_VALID = 1 then s
      else
        let s := wr s (BSN_SFAULT k) w
        let s := wr s (BSN_SFAULT_SC k) (BitVec.ofNat 64 sc)
        wf s (BSN_STATUS k) Fd.BSN_STATUS_SFAULT 1
    siteScheduleFault s k fresh (mkEvent s 1 1 3 k (bf w.toNat 48 8) sc w (BitVec.ofNat 64 sc) 0#64 (some (k, hFault)) Option.none)

/-- Software clears BSN_SFAULT.VALID, of which BSN_STATUS.SFAULT is a copy (R197). -/
def clearSfault (s : State) (k : Nat) (v : W64) : State :=
  let s := clear1 s (BSN_SFAULT k) Fd.BSN_SFAULT_VALID v
  wf s (BSN_STATUS k) Fd.BSN_STATUS_SFAULT (rf s (BSN_SFAULT k) Fd.BSN_SFAULT_VALID)

/-- Log an ECC error (R188, R197): a corrected one never overwrites an uncorrectable record while VALID; every error is counted. -/
def eccLog (s : State) (k source : Nat) (e : BankErr) : State :=
  let region := regionOf (lineOf e.bank e.row * 16)
  let weight := regionWeight s k region
  let s := bump s (if e.ue then BSN_UE k else BSN_CE k) 1
  let s := if e.ue then wf (wf s (BSN_REGIONn k region) Fd.BSN_REGIONn_UE 1) (BSN_STATUS k) Fd.BSN_STATUS_UE 1 else s
  let s := rise s (BSN_ECC_LOG k) Fd.BSN_ECC_LOG_VALID 1
  let old := rd s (BSN_ECC_LOG k)
  if !e.ue && fget Fd.BSN_ECC_LOG_VALID old == 1 && fget Fd.BSN_ECC_LOG_TYPE old == 2 then s
  else
    let w := BitVec.ofNat 64 ((if e.ue then 2 else 1) + b2n weight * 4 + source * 8 + e.cw % 8 * 32 + e.syn.toNat * 256
      + e.bank % 512 * 2 ^ 16 + e.row % 8192 * 2 ^ 25 + 2 ^ 63)
    wr (wr s (BSN_ECC_LOG k) w) (BSN_ECC_SC k) (BitVec.ofNat 64 (scOf s k))

/-- The errors that an access meets: those in a row it reads, its partner included in a weight-class region. -/
def errsMet (a : BankAcc) (errs : List BankErr) : List BankErr :=
  errs.filter (fun e => e.row == a.row && (occupied a).contains e.bank
    && a.words.any (fun w => w % 16 / 2 == e.cw))

/-- Queue a row for rewriting (R191): at most 16 rows. -/
def queueRewrite (s : State) (k bank row : Nat) : State :=
  modSite s k (fun x =>
    if x.rewriteQ.contains (bank * 8192 + row) ∨ 16 ≤ x.rewriteQ.length then x else { x with rewriteQ := x.rewriteQ ++ [bank * 8192 + row] })

/-- An uncorrectable error met by a scheduled read: ERROR hold and a report (R188). -/
def basinUe (s : State) (k : Nat) : State :=
  let s := raiseHold s k hError 0
  report s (mkEvent s 2 1 3 k (rf s (BSN_ECC_LOG k) Fd.BSN_ECC_LOG_TYPE) (scOf s k) (rd s (BSN_ECC_LOG k)) (rd s (BSN_ECC_SC k)) 0#64
    (some (k, hError)) Option.none)

/-- Log what a read meets, and say whether it may deliver (R188). -/
def readErrors (s : State) (k : Nat) (r : BankReq) (errs : List BankErr) : State × Bool :=
  let met := (accsOf s k r).flatMap (fun a => errsMet a errs)
  let s := met.foldl (fun s e => let s := eccLog s k 0 e; if e.ue then s else queueRewrite s k e.bank e.row) s
  if met.any (fun e => e.ue) then (basinUe s k, false) else (s, true)

/-- The bytes a BRD lands: its words in order, or the transpose of a MODE 2 tile (R182, R184). -/
def gathered (r : BankReq) (ws : List (BitVec 32)) : List Byte :=
  match r.tile with
  | Option.none => bytesOfWords ws
  | some t =>
    let p := 2 ^ t
    let e := 32 / p
    let per := 8 / p
    let rowVal := fun (i : Nat) => natOf (bytesOfWords ((ws.drop (i * per)).take per))
    (List.range 8).flatMap (fun c =>
      bytesOf 32 ((List.range (8 * p)).foldl (fun acc i => acc + bf (rowVal i) (e * c) e * 2 ^ (e * i)) 0))

/-- Give a core's BRD in flight the data it read. -/
def fillBrd (s : State) (k : Nat) (r : BankReq) (bs : List Byte) : State :=
  modCore s (k * 64 + r.port) (fun x =>
    { x with flights := x.flights.map (fun f => if f.issue = r.issue ∧ f.act = .brd r.dest then { f with act := .bytes r.dest bs } else f) })

/-- Write words to the basin. -/
def basinWrites (s : State) (k : Nat) (ps : List (Nat × BitVec 32)) : State :=
  ps.foldl (fun s p => memWrites s (wordAddr k p.1) (bytesOf 4 p.2.toNat)) s

/-- One core request that met no fault takes effect. -/
def serveCore (s : State) (k : Nat) (errs : List BankErr) (r : BankReq) : State :=
  let s := bump s (BSN_SCHED_ACC k) (accsOf s k r).length
  if r.wr then basinWrites s k (r.words.zip r.data)
  else
    let q := readErrors s k r errs
    if q.2 then fillBrd q.1 k r (gathered r (r.words.map (basinWord s k))) else q.1

/-- The core ports' bank accesses of SC `sc`, against those of the router ports at that SC (R181, R183, R185). -/
def serveCores (s : State) (k sc : Nat) (router : List BankReq) (errs : List BankErr) : State :=
  let rs := (site s k).bankQ.filter (fun r => r.sc == sc)
  let fs := bankFaults s k (rs ++ router)
  let s := (rs.filter (fun r => !faulted fs r)).foldl (fun s r => serveCore s k errs r) s
  let s := if rs.any (fun r => faulted fs r) then basinFault s k sc fs else s
  modSite s k (fun x => { x with served := sc + 1 })

/-- Serve every SC before `now` that still waits, against what the router accessed at it. -/
def catchUp (s : State) (k now : Nat) : Nat → State
  | 0 => s
  | n + 1 =>
    match ((site s k).bankQ.map (fun r => r.sc)).filter (fun x => (site s k).served ≤ x ∧ x < now) with
    | [] => s
    | x :: xs => catchUp (serveCores s k (minimum x xs) ((site s k).rreqs.filter (fun r => r.sc == minimum x xs)) []) k now n

/-- Serve what is overdue and forget the requests of past SCs. -/
def bankCatchUp (s : State) (k now : Nat) : State :=
  let s := catchUp s k now (site s k).bankQ.length
  modSite s k (fun x => { x with
    bankQ := x.bankQ.filter (fun r => Nat.ble now r.sc), rreqs := x.rreqs.filter (fun r => Nat.ble now r.sc) })

/-! The maintenance port (R190). -/

/-- The banks that an access to a row takes: a weight-class row stands in both banks of its pair (R186, R190). -/
def rowBanks (s : State) (k bank row : Nat) : List Nat :=
  if regionWeight s k (regionOf (lineOf bank row * 16)) then [bank, Nat.xor bank 1] else [bank]

/-- Whether two lists of banks meet. -/
def banksMeet (xs ys : List Nat) : Bool := xs.any (fun b => ys.contains b)

/-- Whether the schedule leaves a bank idle at the SC now, its partner too for a weight-class row (R190). Held banks are idle. The hop-program entry
is that of the SC: a domain brings it up to each SC that it reaches (R213). -/
def bankIdle (s : State) (k bank row : Nat) : Bool :=
  if held s k then true
  else
    let sc := scOf s k
    let rs := (site s k).bankQ.filter (fun r => r.sc == sc) ++ routerReqs s k sc
    !((rs.flatMap (accsOf s k)).any (fun a => banksMeet (rowBanks s k bank row) (occupied a)))

/-- Whether a row is being zero-filled (R194). -/
def zeroFilling (s : State) (k region : Nat) : Bool := (site s k).zfLeft.contains region

/-- BW ports open to the dynamic class now (R223, R230). -/
def openPorts (s : State) (k : Nat) : Nat :=
  if held s k then 16
  else
    match cfgInForce s k with
    | Option.none => 16
    | some cfg => if hopOpen (entryWord s k) then ((List.range 16).filter (fun i => cfgByte cfg (96 + i) == 0)).length else 0

/-- Whether some BW port can take a stream landing now: it is open, and no landing of this cycle has it (R230). -/
def bwOpen (s : State) (k : Nat) : Bool := Nat.blt (site s k).bwUsed (openPorts s k)

/-- Whether a stream landing that a BW port can take now waits for one of the banks: it comes before every kind of maintenance work (R230). -/
def landingWants (s : State) (k : Nat) (banks : List Nat) : Bool :=
  bwOpen s k && (site s k).landQ.any (fun l => !l.busy && l.lines.any (fun p => banks.contains (bankOfLine (p.1 / 16))))

/-- Places in the order of R190. -/
def mRewrite : Nat := 2
def mDynamic : Nat := 3
def mDigest : Nat := 4
def mScrub : Nat := 5

/-- Banks of the row that a queued rewrite needs, and of the row of a waiting request. -/
def rewriteBanks (s : State) (k q : Nat) : List Nat := rowBanks s k (q / 8192) (q % 8192)
def maintBanks (s : State) (k : Nat) (m : MaintReq) : List Nat := rowBanks s k (bankOfLine (m.word / 16)) (rowOfLine (m.word / 16))

/-- Whether the maintenance port may use a bank now for work of place `lvl` in R190's order: the schedule leaves it idle, nothing has used it in this
cycle (R180), and no work that comes before waits for it. Zero-fill takes every idle bank cycle (R194). -/
def maintFree (s : State) (k lvl bank row : Nat) : Bool :=
  let bs := rowBanks s k bank row
  (site s k).zfLeft.isEmpty && bankIdle s k bank row && !banksMeet bs (site s k).mused && !landingWants s k bs
    && (Nat.ble lvl mRewrite || !(site s k).rewriteQ.any (fun q => banksMeet bs (rewriteBanks s k q)))
    && (Nat.ble lvl mDynamic || !(site s k).maint.any (fun m => banksMeet bs (maintBanks s k m)))

/-- The maintenance port uses a row's banks in this cycle. -/
def useBanks (s : State) (k bank row : Nat) : State := modSite s k (fun x => { x with mused := x.mused ++ rowBanks s k bank row })

/-- The maintenance port moves its 64 bytes of this cycle (R179, R192). -/
def usePort (s : State) (k : Nat) (m : MaintReq) : State :=
  modSite s k (fun x => { x with mused := x.mused ++ 512 :: maintBanks s k m })

/-- The errors that a request's read meets. -/
def maintErrs (s : State) (k : Nat) (m : MaintReq) (errs : List BankErr) : List BankErr :=
  let words := (List.range ((m.data.length + 3) / 4)).map (fun i => m.word + i)
  (accsOf s k ⟨0, 96, m.wr, words, [], 0, Option.none, 0⟩).flatMap (fun a => errsMet a errs)

/-- A maintenance-port access that has found its idle cycle (R192, R194, R188): what it answers and does. A write merges; a write to a region
with DYN_WR = 0 is refused while the site is busy; a read of a row being filled, or of an uncorrectable codeword, is an error. -/
def maintAccess (s : State) (k : Nat) (m : MaintReq) (errs : List BankErr) : State :=
  let region := regionOf m.word
  let a := wordAddr k m.word
  if m.wr then
    if !regionDynWr s k region && siteBusy s k then reply (dataError s m.req true a) false []
    else reply (memWrites (bump (usePort s k m) (BSN_MAINT_ACC k) 1) a m.data) true []
  else if zeroFilling s k region then reply (dataError s m.req false a) false []
  else
    let met := maintErrs s k m errs
    let s := bump (usePort s k m) (BSN_MAINT_ACC k) 1
    let s := met.foldl (fun s e => eccLog s k 2 e) s
    if met.any (fun e => e.ue) then reply (dataError s m.req false a) false []
    else reply s true (memReads s a m.data.length)

/-- Whether a maintenance request can be answered now: the port has its 64 bytes of this cycle left and the bank is free, or the request reads a row
that is being filled (R192, R194). -/
def maintReady (s : State) (k : Nat) (m : MaintReq) : Bool :=
  (!m.wr && zeroFilling s k (regionOf m.word))
    || (!(site s k).mused.contains 512 && maintFree s k mDynamic (bankOfLine (m.word / 16)) (rowOfLine (m.word / 16)))

/-- Serve the oldest waiting request that can be answered now (R190, R192). -/
def serveMaint (s : State) (k : Nat) (errs : List BankErr) : State :=
  match (site s k).maint.find? (maintReady s k) with
  | Option.none => s
  | some m => maintAccess (modSite s k (fun x => { x with maint := x.maint.erase m })) k m errs

/-- `BASIN_BANK_ACCESS` (R181): the core ports' accesses of the SC now, then the maintenance port at the banks left idle (R190). Held core
ports make no access (R97), but for those of the SC at which a fault of the site itself raised the hold (R185). -/
def execBasinBankAccess (k : Site) (errs : List BankErr) (s : State) : Host.Outcome State Fault Refusal :=
  let sc := scOf s k.val
  if siteState s k.val = 2 then ok s
  else if frozen s k.val ∨ sc < (site s k.val).served then ok (serveMaint s k.val errs)
  else ok (serveMaint (serveCores (bankCatchUp s k.val sc) k.val sc (routerReqs s k.val sc) errs) k.val errs)

/-- `BASIN_ROW_REWRITE` (R191): the first queued row of a bank is rewritten at an idle cycle and leaves the queue. -/
def execBasinRowRewrite (k : Site) (bank : Fin 512) (s : State) : Host.Outcome State Fault Refusal :=
  match (site s k.val).rewriteQ.find? (fun q => q / 8192 == bank.val) with
  | Option.none => ok s
  | some q =>
    if maintFree s k.val mRewrite bank.val (q % 8192) then
      ok (bump (useBanks (modSite s k.val (fun x => { x with rewriteQ := x.rewriteQ.filter (fun y => y != q) })) k.val bank.val (q % 8192))
        (BSN_MAINT_ACC k.val) 1)
    else ok s

/-- `BASIN_DYNAMIC_ACCESS` (R192): a dynamic-class or SCP access of up to 64 bytes within one line, served when its bank is idle; until
then it waits. An access that R27 or R513 rejects is a data access error. -/
def execBasinDynamicAccess (req : Requester) (k : Site) (w : Bool) (word : BitVec 26) (data : List Byte) (errs : List BankErr) (s : State) :
    Host.Outcome State Fault Refusal :=
  let a := wordAddr k.val word.toNat
  if rejected s a ∨ !(clsOf s req).owns (partOfSite s k.val) then
    ok (reply (dataError (if rejected s a then s else countRefusal s) req w a) false [])
  else
    let m : MaintReq := ⟨req, w, word.toNat, data.take (64 - 4 * (word.toNat % 16))⟩
    if maintReady s k.val m then ok (maintAccess s k.val m errs)
    else ok (modSite s k.val (fun x => { x with maint := x.maint ++ [m] }))

/-- `BASIN_DYNAMIC_TIMEOUT` (R192): the oldest waiting request is answered with a data access error and has no effect. -/
def execBasinDynamicTimeout (k : Site) (s : State) : Host.Outcome State Fault Refusal :=
  match (site s k.val).maint with
  | [] => ok s
  | m :: ms =>
    ok (reply (dataError (modSite s k.val (fun x => { x with maint := ms })) m.req m.wr (wordAddr k.val m.word)) false [])

/-- `SCRUB_INTERVAL` (R193): the interval ends; a bank not visited starves; the next row, and the interval length in force, follow. DESIGN CHOICE
(log entry 130): while SCRUB_EN is 0 no interval is counted. -/
def execScrubInterval (k : Site) (s : State) : Host.Outcome State Fault Refusal :=
  let k := k.val
  if rf s (BSN_CFG k) Fd.BSN_CFG_SCRUB_EN = 0 ∨ rf s (CLK_STATUS k) Fd.CLK_STATUS_ALIGNED = 0 then ok s
  else
    let row := rf s (BSN_SCRUB_STATUS k) Fd.BSN_SCRUB_STATUS_ROW
    let starved := decide ((site s k).scrubbed.length < 512)
    let fresh := starved && rf s (BSN_SCRUB_STATUS k) Fd.BSN_SCRUB_STATUS_STARVED == 0
    let s := if starved then wf s (BSN_SCRUB_STATUS k) Fd.BSN_SCRUB_STATUS_STARVED 1 else s
    let s := wf s (BSN_SCRUB_STATUS k) Fd.BSN_SCRUB_STATUS_ROW ((row + 1) % 6144)
    let s :=
      if row = 6143 then wf s (BSN_SCRUB_STATUS k) Fd.BSN_SCRUB_STATUS_PASSES (rf s (BSN_SCRUB_STATUS k) Fd.BSN_SCRUB_STATUS_PASSES + 1)
      else s
    let s := modSite s k (fun x => { x with scrubbed := [], scrubLog2 := rf s (BSN_CFG k) Fd.BSN_CFG_SCRUB_LOG2 })
    ok (if fresh then
      report (attention s k) (mkEvent s 7 0 3 k 0 (scOf s k) (rd s (BSN_SCRUB_STATUS k)) 0#64 0#64 Option.none Option.none) else s)

/-- `SCRUB_BANK_VISIT` (R190, R193): the bank's first idle cycle of the interval that nothing before it in R190 takes; what can be corrected is. No
interval runs before alignment. -/
def execScrubBankVisit (k : Site) (bank : Fin 512) (errs : List BankErr) (s : State) : Host.Outcome State Fault Refusal :=
  let k := k.val
  let row := rf s (BSN_SCRUB_STATUS k) Fd.BSN_SCRUB_STATUS_ROW
  if rf s (BSN_CFG k) Fd.BSN_CFG_SCRUB_EN = 0 ∨ rf s (CLK_STATUS k) Fd.CLK_STATUS_ALIGNED = 0 ∨ (site s k).scrubbed.contains bank.val
    ∨ !maintFree s k mScrub bank.val row then ok s
  else
    let s := useBanks (modSite s k (fun x => { x with scrubbed := x.scrubbed ++ [bank.val] })) k bank.val row
    let s := bump s (BSN_SCRUB_ROWS k) 1
    ok ((errs.filter (fun e => e.bank == bank.val && e.row == row)).foldl (fun s e => eccLog s k 1 e) s)

/-- Start zero-fill of regions (R194). -/
def startZeroFill (s : State) (k : Nat) (regions : List Nat) : State :=
  wf (modSite s k (fun x => { x with zfLeft := x.zfLeft ++ regions.filter (fun r => !x.zfLeft.contains r) }))
    (BSN_STATUS k) Fd.BSN_STATUS_ZF_BUSY 1

/-- Zero data in a region. -/
def zeroRegion (s : State) (k n : Nat) : State :=
  let lo := basinBase k + n * 0x10_0000
  s.setMem (sreplace lo (lo + 0x10_0000) [] s.mem)

/-- A write of BSN_ZF_CTRL (R194, R197, R198). -/
def writeZeroFill (s : State) (req : Requester) (k : Nat) (v : W64) : State :=
  let a := BSN_ZF_CTRL k
  if siteBusy s k then csrError s req true a
  else if fget Fd.BSN_ZF_CTRL_GO v = 0 then s
  else if fget Fd.BSN_ZF_CTRL_ALL v = 1 then startZeroFill s k (List.range 192)
  else if 192 ≤ fget Fd.BSN_ZF_CTRL_REGION v then csrError s req true a
  else startZeroFill s k [fget Fd.BSN_ZF_CTRL_REGION v]

/-- `ZERO_FILL_GO` (R194, R197, R198). -/
def execZeroFillGo (req : Requester) (k : Site) (v : W64) (s : State) : Host.Outcome State Fault Refusal :=
  ok (guardCsr s req (BSN_ZF_CTRL k.val) true (fun s => writeZeroFill s req k.val v))

/-- The zero-fill engine ends: the filled regions read 0, ZF_BUSY falls (R194). -/
def finishZeroFill (s : State) (k : Nat) : State :=
  let rs := (site s k).zfLeft
  let s := rs.foldl (fun s n => zeroRegion s k n) s
  let s := bump s (BSN_ZF_ROWS k) (rs.length * 32 * 512)
  wf (modSite s k (fun x => { x with zfLeft := [] })) (BSN_STATUS k) Fd.BSN_STATUS_ZF_BUSY 0

/-- `ZERO_FILL_DONE` (R194). -/
def execZeroFillDone (k : Site) (s : State) : Host.Outcome State Fault Refusal := ok (finishZeroFill s k.val)

/-- Set a region's class and attributes; a class change fills it (R194, R197). -/
def setRegion (s : State) (k n cls wr dyn : Nat) : State :=
  let a := BSN_REGIONn k n
  let change := rf s a Fd.BSN_REGIONn_CLASS != cls
  let s := wf (wf (wf s a Fd.BSN_REGIONn_CLASS cls) a Fd.BSN_REGIONn_SCHED_WR wr) a Fd.BSN_REGIONn_DYN_WR dyn
  if change then startZeroFill s k [n] else s

/-- A write of BSN_REGIONn (R197, R198): class and attributes only while no core of the site is busy. UE clears by writing 1. -/
def writeRegion (s : State) (req : Requester) (k n : Nat) (v : W64) : State :=
  let a := BSN_REGIONn k n
  let s := clear1 s a Fd.BSN_REGIONn_UE v
  let s := wfb s (BSN_STATUS k) Fd.BSN_STATUS_UE ((List.range 192).any (fun i => rf s (BSN_REGIONn k i) Fd.BSN_REGIONn_UE == 1))
  if siteBusy s k then csrError s req true a
  else setRegion s k n (fget Fd.BSN_REGIONn_CLASS v) (fget Fd.BSN_REGIONn_SCHED_WR v) (fget Fd.BSN_REGIONn_DYN_WR v)

/-- `BSN_REGION_WRITE` (R197, R198). -/
def execBsnRegionWrite (req : Requester) (k : Site) (n : Fin 192) (v : W64) (s : State) : Host.Outcome State Fault Refusal :=
  ok (guardCsr s req (BSN_REGIONn k.val n.val) true (fun s => writeRegion s req k.val n.val v))

/-- A write of BSN_DIG_CTRL (R195, R197): the range that a GO finds is the one digested. -/
def writeDigest (s : State) (req : Requester) (k : Nat) (v : W64) : State :=
  let a := BSN_DIG_CTRL k
  let base := rf s (BSN_DIG_BASE k) Fd.BSN_DIG_BASE_LINE
  let n := rf s (BSN_DIG_LINES k) Fd.BSN_DIG_LINES_COUNT
  if fget Fd.BSN_DIG_CTRL_GO v = 0 ∨ rf s (BSN_STATUS k) Fd.BSN_STATUS_DIG_BUSY = 1 then s
  else if n = 0 ∨ 0x30_0000 < base + n then csrError s req true a
  else modSite (wf s (BSN_STATUS k) Fd.BSN_STATUS_DIG_BUSY 1) k (fun x => { x with digRange := some (base, n) })

/-- `DIGEST_GO` (R195, R197). -/
def execDigestGo (req : Requester) (k : Site) (v : W64) (s : State) : Host.Outcome State Fault Refusal :=
  ok (guardCsr s req (BSN_DIG_CTRL k.val) true (fun s => writeDigest s req k.val v))

/-- Write a 384-bit digest to six registers, bytes 0 to 7 first. -/
def putDigest (s : State) (a : Nat → Nat) (d : BitVec 384) : State :=
  (List.range 6).foldl (fun s i => wr s (a i) (BitVec.ofNat 64 (d.toNat / 2 ^ (64 * i)))) s

/-- `DIGEST_DONE` (R195): the digest of the range, or DIG_ERR and zeros on an uncorrectable error. DESIGN CHOICE (log entry 130): a later digest that
succeeds leaves DIG_ERR as it stands. -/
def execDigestDone (k : Site) (errs : List BankErr) (s : State) : Host.Outcome State Fault Refusal :=
  let k := k.val
  match (site s k).digRange with
  | Option.none => ok s
  | some (base, n) =>
    let s := modSite (wf s (BSN_STATUS k) Fd.BSN_STATUS_DIG_BUSY 0) k (fun x => { x with digRange := Option.none })
    let s := errs.foldl (fun s e => eccLog s k 3 e) s
    if errs.any (fun e => e.ue) then ok (putDigest (wf s (BSN_STATUS k) Fd.BSN_STATUS_DIG_ERR 1) (BSN_DIG_RESULTn k) 0#384)
    else ok (putDigest s (BSN_DIG_RESULTn k) (sha384 (memReads s (basinBase k + 64 * base) (64 * n))))

end Sys2Proof.Machine
end

