-- ==== Sys2Proof/Machine/Channels.lean ====
section
/-!
DEFINITION. Router schedule faults (R220, R236), the program in force (R211 to R213), channels and their bank rule (R207 to R209), tag
latches (R253, R254) and LATCH faults (R256, R257, R259).
-/
namespace Sys2Proof.Machine

/-- Whether a domain is in lockstep (R263, R264). -/
def aligned (s : State) (d : Nat) : Bool := rf s (CLK_STATUS d) Fd.CLK_STATUS_ALIGNED == 1

/-- Whether a site is in compute service: not a hole or dark, not retired or unloaded (R218, R485). -/
def inCompute (s : State) (k : Nat) : Bool := siteState s k == 0 && !(site s k).out && !(site s k).retired

/-! Router faults. -/

/-- Causes of R220. -/
def rUnrouted : Nat := 1
def rEmpty : Nat := 2
def rChannel : Nat := 3
def rAddress : Nat := 4

/-- A router schedule fault: cause, output byte, source code (R236). -/
abbrev RFault := Nat × Nat × Nat

/-- Order of R236: lowest cause, then lowest output. -/
def rBefore (a b : RFault) : Bool := Nat.blt a.1 b.1 || (a.1 == b.1 && Nat.blt a.2.1 b.2.1)

/-- The fault recorded among several. -/
def rFirst (f : RFault) (fs : List RFault) : RFault := fs.foldl (fun m x => if rBefore x m then x else m) f

/-- RIL_SFAULT of the faults of one SC. -/
def rilWord (s : State) (k : Nat) (f : RFault) (more : Bool) : W64 :=
  fset Fd.RIL_SFAULT_VALID 1 (fset Fd.RIL_SFAULT_MORE (b2n more) (fset Fd.RIL_SFAULT_CONFIG
    (if emptyProgram s k then 0 else hopConfig (entryWord s k)) (fset Fd.RIL_SFAULT_ENTRY
      (rf s (RIL_STATUS k) Fd.RIL_STATUS_ENTRY) (fset Fd.RIL_SFAULT_SOURCE f.2.2 (fset Fd.RIL_SFAULT_OUTPUT f.2.1
        (fset Fd.RIL_SFAULT_CAUSE f.1 0#64))))))

/-- Raise router schedule faults at SC `sc` (R220): record, hold, report, once per SC. Out of compute service EMPTY is only counted
(R218); a retired site records and counts every cause (R485). -/
def routerFault (s : State) (k sc : Nat) (fs : List RFault) : State :=
  let x := site s k
  let raised := if x.retired || inCompute s k then fs else fs.filter (fun f => f.1 != rEmpty)
  let counted := if x.retired then fs.length else fs.length - raised.length
  let s := if counted = 0 then s else modSite s k (fun x => { x with faultCount := x.faultCount + counted })
  match raised with
  | [] => s
  | f :: rest =>
    let again := x.routeSc == some sc
    let fresh := rf s (RIL_SFAULT k) Fd.RIL_SFAULT_VALID == 0
    let s := rise (modSite s k (fun x => { x with routeSc := some sc })) (RIL_SFAULT k) Fd.RIL_SFAULT_VALID 1
    let s :=
      if rf s (RIL_SFAULT k) Fd.RIL_SFAULT_VALID = 1 then
        if again ∧ (rd s (RIL_SFAULT_SC k)).toNat = sc then
          if rBefore (rFirst f rest)
              (rf s (RIL_SFAULT k) Fd.RIL_SFAULT_CAUSE, rf s (RIL_SFAULT k) Fd.RIL_SFAULT_OUTPUT, rf s (RIL_SFAULT k) Fd.RIL_SFAULT_SOURCE) then
            wr s (RIL_SFAULT k) (rilWord s k (rFirst f rest) true)
          else wf s (RIL_SFAULT k) Fd.RIL_SFAULT_MORE 1
        else s
      else wr (wr s (RIL_SFAULT k) (rilWord s k (rFirst f rest) (!rest.isEmpty))) (RIL_SFAULT_SC k) (BitVec.ofNat 64 sc)
    if again then s
    else
      siteScheduleFault s k fresh (mkEvent s 1 1 3 k (rFirst f rest).1 sc (rd s (RIL_SFAULT k)) (BitVec.ofNat 64 sc) 0#64
        (some (k, hFault)) Option.none)

/-! The program in force. -/

/-- Run the empty program (R211, R213). -/
def runEmpty (s : State) (k : Nat) : State := wf s (RIL_STATUS k) Fd.RIL_STATUS_EMPTY 1

/-- Put an entry in force from SC `sc`; an entry with DURATION 0 is the empty program (R213). -/
def startEntry (s : State) (k entry sc : Nat) : State :=
  if hopDuration (tab s (hopKey k entry)) = 0 then runEmpty s k
  else
    let s := modSite s k (fun x => { x with entryStart := sc })
    wf s (RIL_STATUS k) Fd.RIL_STATUS_ENTRY entry

/-- The next entry when the one in force has expired at `sc` (R213). -/
def advanceOnce (s : State) (k sc : Nat) : State :=
  let e := entryWord s k
  let due := (site s k).entryStart + hopDuration e
  if emptyProgram s k || Nat.blt sc due then s
  else if hopLast e then
    let s := wf s (RIL_STATUS k) Fd.RIL_STATUS_REP (rf s (RIL_STATUS k) Fd.RIL_STATUS_REP + 1)
    startEntry s k (site s k).loopAt due
  else startEntry s k ((rf s (RIL_STATUS k) Fd.RIL_STATUS_ENTRY + 1) % 8192) due

/-- Bring the program to SC `sc`. -/
def advanceTo (s : State) (k sc : Nat) : Nat → State
  | 0 => s
  | n + 1 =>
    if emptyProgram s k || Nat.blt sc ((site s k).entryStart + hopDuration (entryWord s k)) then s
    else advanceTo (advanceOnce s k sc) k sc n

/-- Bring the program to SC `sc`: at most one entry per SC passes. -/
def advanceProgram (s : State) (k sc : Nat) : State := advanceTo s k sc (sc + 1)

/-- Fields of a phase row (R211). -/
def phaseMatches (row phaseId variant : Nat) : Bool :=
  bf row 18 1 == 1 && bf row 0 16 == phaseId && bf row 16 2 == variant

/-- At a boundary the router looks up the lowest matching row and starts its program at `sc` = B + 1, or the empty program (R211). -/
def startProgram (s : State) (k phaseId variant sc : Nat) : State :=
  let s := wr s (RIL_STATUS k) (fset Fd.RIL_STATUS_EMPTY 1 (fset Fd.RIL_STATUS_VARIANT variant (fset Fd.RIL_STATUS_PHASE_ID phaseId 0#64)))
  match (List.range 256).find? (fun i => phaseMatches (tab s (phaseKey k i)) phaseId variant) with
  | Option.none => s
  | some i =>
    let row := tab s (phaseKey k i)
    let s := wf s (RIL_STATUS k) Fd.RIL_STATUS_EMPTY 0
    let s := modSite s k (fun x => { x with loopAt := bf row 48 13 })
    startEntry s k (bf row 32 13) sc

/-! Channels. -/

/-- CR ports used: port and channel (R214). A retired site's CR ports present nothing (R485). -/
def crUsed (cfg : Nat) : List (Nat × Nat) :=
  (List.range 4).filterMap (fun i => if selects cfg (0xA0 + i) then some (i, bf cfg (8 * (176 + 2 * i)) 10) else Option.none)

/-- CW ports used: port and channel. -/
def cwUsed (cfg : Nat) : List (Nat × Nat) :=
  (List.range 4).filterMap (fun i => if cfgByte cfg (160 + i) != 0 then some (i, bf cfg (8 * (184 + 2 * i)) 10) else Option.none)

/-- Channels written at SC `sc`, by RSEND and CSEND landings and by CW ports. -/
def chanWriters (s : State) (k sc cfg : Nat) : List Nat :=
  ((site s k).chanQ.filter (fun w => w.sc == sc)).map (fun w => w.chan) ++ (cwUsed cfg).map (fun p => p.2)

/-- Channels read at SC `sc`, by RRECV and by CR ports. -/
def chanReaders (s : State) (k sc cfg : Nat) : List Nat :=
  ((site s k).chanR.filter (fun r => r.1 == sc)).map (fun r => r.2.1) ++ (crUsed cfg).map (fun p => p.2)

/-- Whether a channel's bank is used more than once (R209). -/
def bankClash (users : List Nat) (c : Nat) : Bool := decide (2 ≤ (users.filter (fun u => u % 64 == c % 64)).length)

/-- Configuration at SC `sc` of the entry in force, 0 for the empty program. -/
def cfgNow (s : State) (k : Nat) : Nat := (cfgInForce s k).getD 0

/-- Put words into a channel's contents. -/
def putWords (v : BitVec 2048) (ofs : Nat) (ws : List (BitVec 32)) : BitVec 2048 :=
  let old := (List.range 64).map (fun i => BitVec.ofNat 32 (bf v.toNat (32 * i) 32))
  let new := old.take ofs ++ ws ++ old.drop (ofs + ws.length)
  BitVec.ofNat 2048 (natOf (bytesOfWords (new.take 64)))

/-- A channel after a write at SC `sc`. -/
def writeChan (c : Chan) (sc : Nat) (v : BitVec 2048) : Chan := { c with val := v, prev := c.val, wsc := sc }

/-! Cascade faults. -/

/-- Record a Cascade fault at SC `sc` (R256, R257, R259): the lowest cause, then the lowest pipe, of one SC. -/
def cascadeFault (s : State) (k cause pipe input tag chan sc : Nat) : State :=
  let again := (site s k).cscSc == some sc
  let s := modSite s k (fun x => { x with cscSc := some sc, faultCount := if x.retired then x.faultCount + 1 else x.faultCount })
  let a := CSC_SFAULT k
  let fresh := rf s a Fd.CSC_SFAULT_VALID == 0
  let s := rise s a Fd.CSC_SFAULT_VALID 1
  let w := fset Fd.CSC_SFAULT_VALID 1 (fset Fd.CSC_SFAULT_CHANNEL chan (fset Fd.CSC_SFAULT_TREE (bf tag 26 10)
    (fset Fd.CSC_SFAULT_INPUT input (fset Fd.CSC_SFAULT_PIPE pipe (fset Fd.CSC_SFAULT_CAUSE cause 0#64)))))
  let put := fun (s : State) (w : W64) => wr (wr (wr s a w) (CSC_SFAULT_SC k) (BitVec.ofNat 64 sc)) (CSC_SFAULT_TAG k) (BitVec.ofNat 64 tag)
  let s :=
    if rf s a Fd.CSC_SFAULT_VALID = 0 then put s w
    else if again && (rd s (CSC_SFAULT_SC k)).toNat == sc then
      let c0 := rf s a Fd.CSC_SFAULT_CAUSE
      if cause < c0 ∨ (cause = c0 ∧ pipe < rf s a Fd.CSC_SFAULT_PIPE) then put s (fset Fd.CSC_SFAULT_MORE 1 w)
      else wf s a Fd.CSC_SFAULT_MORE 1
    else s
  if again then s
  else siteScheduleFault s k fresh (mkEvent s 1 1 3 k cause sc (rd s a) (BitVec.ofNat 64 sc) (BitVec.ofNat 64 tag) (some (k, hFault)) Option.none)

/-- Whether a CW port of a configuration writes the bank of a channel. -/
def cwMeets (cfg c : Nat) : Bool := (cwUsed cfg).any (fun p => p.2 % 64 == c % 64)

/-- Land one channel write (R208, R253, R254). A conflict of R209 writes nothing; one with a CW port is raised by the router at that SC. A
loaded latch that no CR read of this SC empties raises LATCH. A write that lands late meets no port. -/
def landChanWrite (s : State) (k : Nat) (w : ChanWrite) : State :=
  let s := modSite s k (fun x => { x with chanQ := x.chanQ.map (fun y => if y = w then { y with done := true } else y) })
  let cfg := if w.sc = scOf s k then cfgNow s k else 0
  let c := chan s k w.chan
  if cwMeets cfg w.chan then s
  else if bankClash (chanWriters s k w.sc cfg) w.chan then routerFault s k w.sc [(rChannel, 0xFF, w.chan % 64)]
  else
    let v := putWords c.val w.ofs w.words
    match w.tag with
    | Option.none => modChan s k w.chan (fun c => writeChan c w.sc v)
    | some t =>
      let read := (site s k).routed != some w.sc && (crUsed cfg).any (fun p => p.2 == w.chan)
      match c.tag with
      | some old =>
        if read then modChan s k w.chan (fun c => { writeChan c w.sc v with ptag := c.tag, tag := some t, tsc := w.sc })
        else cascadeFault s k 6 0 0 old.1 w.chan w.sc
      | Option.none => modChan s k w.chan (fun c => { writeChan c w.sc v with ptag := Option.none, tag := some t, tsc := w.sc })

/-- Land the channel writes due by SC `now`, and forget those of past SCs. -/
def landChannels (s : State) (k now : Nat) : State :=
  let due := (site s k).chanQ.filter (fun w => !w.done && Nat.ble w.sc now)
  if due.isEmpty then s
  else
    let s := due.foldl (fun s w => landChanWrite s k w) s
    modSite s k (fun x => { x with chanQ := x.chanQ.filter (fun w => !w.done || Nat.ble now w.sc) })

/-- Record the channel reads of a bundle's RRECV; a read that shares a bank with another read of its SC lands nothing (R209). -/
def noteChanReads (s : State) (k : Nat) (rs : List (Nat × Nat × Nat)) : State :=
  rs.foldl (fun s r =>
    let s := modSite s k (fun x => { x with chanR := x.chanR.filter (fun y => Nat.ble r.1 y.1) ++ [r] })
    let users := chanReaders s k r.1 (cfgNow s k)
    if bankClash users r.2.1 then
      let losers := (site s k).chanR.filter (fun y => y.1 == r.1 && y.2.1 % 64 == r.2.1 % 64)
      let s := losers.foldl (fun s y =>
        modCore s y.2.2 (fun x => { x with flights := x.flights.filter (fun f => !(f.slot == 2 && f.issue == y.1)) })) s
      routerFault s k r.1 [(rChannel, 0xFF, r.2.1 % 64)]
    else s) s

end Sys2Proof.Machine
end

