-- ==== Sys2Proof/Machine/Router.lean ====
section
/-!
DEFINITION. The router (Rill): switching at an SC (R206, R214 to R220), links and weirs (R205, R270 to R273), table loads (R210, R219) and
the fencing of ports that face a hole (R234).
-/
namespace Sys2Proof.Machine

/-! Presentation. -/

/-- First source code of a weir (R206): mesh N, E, S, W, span N, E, S, W, edge A, B. -/
def weirSource (w : Nat) : Nat := if w < 4 then 0x10 + 16 * w else 0x50 + 8 * (w - 4) + (if 8 ≤ w then 0x10 else 0)

/-- Whether a weir of a site is in use (R273). -/
def weirEnabled (s : State) (k w : Nat) : Bool := if w < 8 then linkUsable s k w else edgePortUsable s k (w - 8)

/-- The domain that sends to a weir (R270). -/
def weirSender (d w : Nat) : Option Nat :=
  if d < 144 then
    if w < 8 then linkFar d w else ((edgePorts d)[w - 8]?).map (fun p => 144 + p.1)
  else if w < 3 then some (frontSite (d - 144) w) else Option.none

/-- Which edge port of front site `j` an edge die is wired to: 0 A, 1 B (R232). -/
def edgeSide (e j : Nat) : Nat := if (edgePorts (frontSite e j))[0]? = some (e, j) then 0 else 1

/-- Hop latency of a weir's input (R215, R268). -/
def hopLatency (d w : Nat) : Nat := if d < 144 ∧ 4 ≤ w ∧ w < 8 then 4 else 3

/-- Weirs of a domain (R270). -/
def weirsOf (d : Nat) : List Nat := List.range (if d < 144 then 10 else 3)

/-- Whether a weir of a domain is in use (R273, R301). -/
def weirOn (s : State) (d w : Nat) : Bool :=
  if d < 144 then weirEnabled s d w else Nat.blt w 3 && edgePortUsable s (frontSite (d - 144) w) (edgeSide (d - 144) w)

/-- Whether the entry of a weir for presentation SC `sc` is missing (R268): it is on its way, or the sender has yet to end the SC that sends it. -/
def missingEntry (s : State) (d sc w : Nat) : Bool :=
  weirOn s d w && ((dom s d).wire.any (fun e => e.weir == w && e.sc == sc)
    || (match weirSender d w with
        | some f => aligned s f && Nat.ble (scOf s f + hopLatency d w) sc
        | Option.none => false))

/-- The weirs whose entries for SC `sc` are missing: the domain waits for them before that SC (R268). -/
def missingAt (s : State) (d sc : Nat) : List Nat := (weirsOf d).filter (missingEntry s d sc)

/-- Whether a domain waits for an entry for SC `sc`. -/
def awaited (s : State) (d sc : Nat) : Bool := (weirsOf d).any (missingEntry s d sc)

/-- Put an entry into a domain's ring: entry k holds the SC that is k modulo 32 (R271). -/
def ringPut (ring : List WeirEntry) (e : WeirEntry) : List WeirEntry :=
  ring.filter (fun x => !(x.weir == e.weir && x.sc % 32 == e.sc % 32)) ++ [e]

/-- Slices that the weirs and the Cascade outputs present at SC `sc`: source code and data (R217, R246, R272). -/
def presented (s : State) (k sc : Nat) : List (Nat × Slice) :=
  ((dom s k).ring.filter (fun e => e.sc == sc && weirOn s k e.weir)).flatMap (fun e => e.slices.map (fun p => (weirSource e.weir + p.1, p.2)))
    ++ ((site s k).ko.filter (fun p => p.2.1 == sc)).map (fun p => (0x90 + p.1, p.2.2))

/-- Slices that BR ports read at SC `sc`, and the sources that present nothing because their access faulted. A retired site's BR ports
present no data (R485). -/
def readPort (s : State) (k : Nat) (fs : List BankFault) (errs : List BankErr) (r : BankReq) : State × List (Nat × Slice) × List Nat :=
  let code := 0x70 + (r.port - 64)
  if (site s k).retired then (s, [], [])
  else if faulted fs r then (s, [], [code])
  else
    let s := bump s (BSN_SCHED_ACC k) (accsOf s k r).length
    let q := readErrors s k r errs
    if q.2 then (q.1, [(code, BitVec.ofNat 2048 (natOf (bytesOfWords (r.words.map (basinWord s k)))))], [])
    else (q.1, [], [code])

/-- Bytes of a slice as basin words. -/
def sliceWords (v : Slice) : List (BitVec 32) := (List.range 64).map (fun i => BitVec.ofNat 32 (bf v.toNat (32 * i) 32))

/-- The tag slice built from a latch (R241, R254). -/
def tagSlice (t : Nat × Nat) : Slice := BitVec.ofNat 2048 (t.1 % 2 ^ 64 + 2 ^ 64 * (t.2 % 2 ^ 36))

/-- A CR port reads its channel (R208, R254): a loaded latch is presented and emptied. Conflicting reads read nothing (R209). -/
def crPort (s : State) (k sc cfg : Nat) (p : Nat × Nat) : State × List (Nat × Slice) × List Nat × List RFault :=
  let code := 0xA0 + p.1
  let c := chan s k p.2
  if bankClash (chanReaders s k sc cfg) p.2 then
    (s, [], [code], (outputsOf cfg code).map (fun o => (rChannel, o, p.2 % 64)))
  else
    let latch := if c.tsc = sc ∧ sc ≠ 0 then c.ptag else c.tag
    match latch with
    | some t =>
      let s := modChan s k p.2 (fun c => if c.tsc = sc ∧ sc ≠ 0 then { c with ptag := Option.none } else { c with tag := Option.none })
      if (site s k).retired then (s, [], [], []) else (s, [(code, tagSlice t)], [], [])
    | Option.none =>
      if (site s k).retired then (s, [], [], [])
      else (s, [(code, if sc ≤ c.wsc ∧ c.wsc ≠ 0 then c.prev else c.val)], [], [])

/-- Read all used CR ports. -/
def crPorts (s : State) (k sc cfg : Nat) : State × List (Nat × Slice) × List Nat × List RFault :=
  (crUsed cfg).foldl (fun acc p =>
    let r := crPort acc.1 k sc cfg p
    (r.1, acc.2.1 ++ r.2.1, acc.2.2.1 ++ r.2.2.1, acc.2.2.2 ++ r.2.2.2)) (s, [], [], [])

/-- Read all used BR ports. -/
def brPorts (s : State) (k : Nat) (fs : List BankFault) (errs : List BankErr) (rs : List BankReq) : State × List (Nat × Slice) × List Nat :=
  (rs.filter (fun r => !r.wr)).foldl (fun acc r =>
    let q := readPort acc.1 k fs errs r
    (q.1, acc.2.1 ++ q.2.1, acc.2.2 ++ q.2.2)) (s, [], [])

/-- Data of a source. -/
def sourceData (src : List (Nat × Slice)) (c : Nat) : Option Slice := (src.find? (fun p => p.1 == c)).map (fun p => p.2)

/-- Whether an output must have data: BW, CW, KI and edge outputs (R220). -/
def mustHave (o : Nat) : Bool := Nat.ble 96 o

/-! Faults of an SC. -/

/-- ADDRESS faults of the BR and BW ports (R216, R220). -/
def addressFaults (s : State) (k sc cfg : Nat) : List RFault :=
  let bad := fun (desc : Nat) => decide (0x300_0000 < portAddr s k desc sc + 64)
  (List.range 16).flatMap (fun i => if bad (cfgByte cfg (192 + i)) then (outputsOf cfg (0x70 + i)).map (fun o => (rAddress, o, 0x70 + i)) else [])
    ++ (List.range 16).flatMap (fun i =>
      if cfgByte cfg (96 + i) != 0 && bad (cfgByte cfg (208 + i)) then [(rAddress, 96 + i, cfgByte cfg (96 + i))] else [])

/-- UNROUTED: presented data at an input that no output selects (R220). -/
def unrouted (cfg : Nat) (ins : List (Nat × Slice)) : List RFault :=
  (ins.filter (fun p => !selects cfg p.1)).map (fun p => (rUnrouted, 0xFF, p.1))

/-- EMPTY: an output that must have data and has none, unless its source's own access faulted (R220). -/
def emptyFaults (cfg : Nat) (src : List (Nat × Slice)) (silent : List Nat) : List RFault :=
  ((List.range 164).filter (fun o => mustHave o && cfgByte cfg o != 0 && !silent.contains (cfgByte cfg o)
    && (sourceData src (cfgByte cfg o)).isNone)).map (fun o => (rEmpty, o, cfgByte cfg o))

/-- CHANNEL_CONFLICT of the CW ports (R209). -/
def cwFaults (s : State) (k sc cfg : Nat) : List RFault :=
  ((cwUsed cfg).filter (fun p => bankClash (chanWriters s k sc cfg) p.2)).map (fun p => (rChannel, 160 + p.1, p.2 % 64))

/-! Delivery. -/

/-- First output byte and slice count of an output group: mesh N to W, span N to W, edge A, edge B (R206). -/
def groupBase (o : Nat) : Nat := if o < 4 then 16 * o else if o < 8 then 64 + 8 * (o - 4) else 112 + 8 * (o - 8)
def groupSize (o : Nat) : Nat := if o < 4 then 16 else 8 -- R200, R233

/-- Slices that an output group carries. -/
def groupSlices (cfg : Nat) (src : List (Nat × Slice)) (o : Nat) : List (Nat × Slice) :=
  (List.range (groupSize o)).filterMap (fun n => (sourceData src (cfgByte cfg (groupBase o + n))).map (fun v => (n, v)))

/-- Data on the wire to a domain's weir, presented at SC `sc` (R215). -/
def sendTo (s : State) (d weir sc : Nat) (sl : List (Nat × Slice)) : State :=
  modDom s d (fun x => { x with wire := x.wire ++ [⟨weir, sc, sl, true⟩] })

/-- Send an output group's slices (R215). Slices sent to a fenced or absent port are discarded (R234). -/
def sendGroup (s : State) (k sc cfg : Nat) (src : List (Nat × Slice)) (o : Nat) : State :=
  let sl := groupSlices cfg src o
  if sl.isEmpty then s
  else
    let s := bump s (RIL_SPORTo_SLICES k o) sl.length
    if o < 8 then
      match linkFar k o with
      | Option.none => s
      | some f => if linkUsable s k o then sendTo s f (linkBack o) (sc + (if o < 4 then 3 else 4)) sl else s
    else
      match (edgePorts k)[o - 8]? with
      | Option.none => s
      | some p => if edgePortUsable s k (o - 8) then sendTo s (144 + p.1) p.2 (sc + 3) sl else s

/-- Write a BW port's slice (R216). -/
def writePort (s : State) (k cfg : Nat) (src : List (Nat × Slice)) (fs : List BankFault) (r : BankReq) : State :=
  match sourceData src (cfgByte cfg (96 + (r.port - 80))) with
  | Option.none => s
  | some v =>
    if faulted fs r then s
    else basinWrites (bump s (BSN_SCHED_ACC k) (accsOf s k r).length) k (r.words.zip (sliceWords v))

/-- Write a CW port's slice (R208). -/
def cwPort (s : State) (k sc cfg : Nat) (src : List (Nat × Slice)) (p : Nat × Nat) : State :=
  match sourceData src (cfgByte cfg (160 + p.1)) with
  | Option.none => s
  | some v => if bankClash (chanWriters s k sc cfg) p.2 then s else modChan s k p.2 (fun c => writeChan c sc v)

/-- Slices that the Cascade inputs take at this SC. -/
def kiSlices (cfg sc : Nat) (src : List (Nat × Slice)) : List (Nat × Nat × Slice) :=
  (List.range 32).filterMap (fun i => (sourceData src (cfgByte cfg (128 + i))).map (fun v => (i, sc, v)))

/-- The router at SC `sc` under the configuration in force. -/
def routeSite (s : State) (k sc : Nat) (errs : List BankErr) : State :=
  let s := bankCatchUp (landChannels (advanceProgram s k sc) k (sc - 1)) k sc
  let cfg := cfgNow s k
  let ins := presented s k sc
  let reqs := routerReqs s k sc
  let fs := bankFaults s k ((site s k).bankQ.filter (fun r => r.sc == sc) ++ reqs)
  let bad := addressFaults s k sc cfg
  let chw := cwFaults s k sc cfg
  let br := brPorts s k fs errs reqs
  let cr := crPorts br.1 k sc cfg
  let src := ins ++ br.2.1 ++ cr.2.1
  let silent := br.2.2 ++ cr.2.2.1 ++ (bad.filter (fun f => Nat.ble 0x70 f.2.2 && Nat.blt f.2.2 0x80)).map (fun f => f.2.2)
  let s := (reqs.filter (fun r => r.wr)).foldl (fun s r => writePort s k cfg src fs r) cr.1
  let s := (cwUsed cfg).foldl (fun s p => cwPort s k sc cfg src p) s
  let s := (List.range 10).foldl (fun s o => sendGroup s k sc cfg src o) s
  let s := modSite s k (fun x => { x with
    routed := some sc
    rreqs := x.rreqs ++ (if x.served ≤ sc then reqs else [])
    chanQ := x.chanQ.map (fun w => if w.sc = sc ∧ cwMeets cfg w.chan then { w with done := true } else w)
    ki := x.ki.filter (fun p => p.2.1 == sc) ++ kiSlices cfg sc src
    ko := x.ko.filter (fun p => Nat.blt sc p.2.1) })
  let s := modDom s k (fun x => { x with ring := x.ring.filter (fun e => Nat.blt sc e.sc) })
  let s := if reqs.any (fun r => faulted fs r) then basinFault s k sc fs else s
  routerFault s k sc (unrouted cfg ins ++ emptyFaults cfg src silent ++ chw ++ cr.2.2.2 ++ bad)

/-- `ROUTER_SC` (R215 to R220, R272): once per SC, when no hold is in force but that of a fault of the site itself at this SC, of which the router
then completes its own part (R185, R257). Every entry for the SC has arrived, or the domain would not have reached it (R268). -/
def execRouterSc (k : Site) (errs : List BankErr) (s : State) : Host.Outcome State Fault Refusal :=
  let sc := scOf s k.val
  if siteState s k.val = 2 ∨ frozen s k.val ∨ (site s k.val).routed = some sc then ok s
  else ok (routeSite s k.val sc errs)

/-- `HOP_ENTRY_ADVANCE` (R213, R217): the entry that has expired gives way to the next. -/
def execHopEntryAdvance (k : Site) (s : State) : Host.Outcome State Fault Refusal :=
  if held s k.val then ok s else ok (advanceOnce s k.val (scOf s k.val))

/-- `CHANNEL_WRITE_LAND` (R208, R209, R253, R254). -/
def execChannelWriteLand (k : Site) (s : State) : Host.Outcome State Fault Refusal :=
  if frozen s k.val then ok s else ok (landChannels (advanceProgram s k.val (scOf s k.val)) k.val (scOf s k.val))

/-! Link errors. -/

/-- LINKS index of a weir's input in R482: the unit index under KIND 4. -/
def linkIndex (d w : Nat) : Nat :=
  if d < 144 then (if w < 8 then d * 8 + w else 1152 + 2 * d + (w - 8))
  else
    let k := frontSite (d - 144) w
    1152 + 2 * k + edgeSide (d - 144) w

/-- Nanoseconds of TIME. -/
def timeAll (s : State) : Nat := timeSec s * 1_000_000_000 + timeNs s

/-- Key of the time of a link's last uncorrected scheduled-data error, plus 1 (R489). -/
def linkErrKey (i : Nat) : Nat := tk 9 + i

/-- An uncorrected error on scheduled data (R205): recorded, an ERROR hold, a report. A second on one link within 1 s fences it (R489). -/
def linkDataError (s : State) (d w : Nat) : State :=
  let i := linkIndex d w
  let last := tab s (linkErrKey i)
  let second := last != 0 && decide (timeAll s + 1 ≤ last + 1_000_000_000)
  let s := setTab s (linkErrKey i) (timeAll s + 1)
  let s :=
    if d < 144 then
      if w < 8 then wf s (RIL_LINK_ERR d) ⟨w, 1, .rw1c⟩ 1 else wf s (RIL_LINK_ERR d) ⟨16 + (w - 8), 1, .rw1c⟩ 1
    else s
  if d < 144 ∧ (site s d).retired then s
  else
    let s := raiseHold s d hError 0
    report s (mkEvent s (if second then 3 else 2) (if second then 2 else 1) 4 i 0 (scOf s d) (if d < 144 then rd s (RIL_LINK_ERR d) else 0#64)
      0#64 0#64 (some (d, hError)) (if second then some (4, i) else Option.none))

/-- `LINK_SLICE_ARRIVE` (R205, R215, R271, R273): the oldest entry on the wire to a weir enters its ring. A disabled weir takes nothing. With a
parity error the slices are still delivered. -/
def execLinkSliceArrive (d : Dom) (w : Fin 10) (parity : Bool) (s : State) : Host.Outcome State Fault Refusal :=
  match (dom s d.val).wire.find? (fun e => e.weir == w.val) with
  | Option.none => ok s
  | some e =>
    let s := modDom s d.val (fun x => { x with wire := x.wire.erase e })
    if !weirOn s d.val w.val then ok s
    else
      let s := modDom s d.val (fun x => { x with ring := ringPut x.ring { e with ok := !parity } })
      ok (if parity then linkDataError s d.val w.val else s)

/-! Fences of links. -/

/-- A link's end shows that it is fenced: RIL_LINK.FENCED and USABLE (R236). -/
def showFenced (s : State) (k l : Nat) : State := wf (wf s (RIL_LINK k) ⟨8 + l, 1, .ro⟩ 1) (RIL_LINK k) ⟨l, 1, .ro⟩ 0

/-- Fence a link direction's end: the unit's record and RIL_LINK. -/
def fenceLinkEnd (s : State) (k l cause : Nat) : State := showFenced (markUnit s 4 (k * 8 + l) cause) k l

/-- Fence both directions of a link (R488). -/
def fenceLink (s : State) (k l cause : Nat) : State :=
  match linkFar k l with
  | Option.none => s
  | some f => fenceLinkEnd (fenceLinkEnd s k l cause) f (linkBack l) cause

/-- Every link that faces a site or crosses it (R234): as (site, link). -/
def linksAcross (k : Nat) : List (Nat × Nat) :=
  (List.range 144).flatMap (fun j => (List.range 8).filterMap (fun l =>
    if (if l < 4 then siteAt j l 1 == some k else [1, 2, 3].any (fun n => siteAt j (l - 4) n == some k)) then some (j, l) else Option.none))

/-- Fence the ports that face or cross a hole (R234). Their links depend on it (R46); `r` is the state in which they were in use. -/
def fenceHole (r s : State) (k : Nat) : State :=
  (linksAcross k).foldl (fun s p => let s := showFenced s p.1 p.2; if linkUsable r p.1 p.2 then dependCause s p.1 else s) s

/-- `HOLE_PORT_FENCE` (R234): the neighbours of a site that has become a hole fence the ports that face or cross it. -/
def execHolePortFence (k : Site) (s : State) : Host.Outcome State Fault Refusal :=
  if siteState s k.val = 2 then ok (fenceHole s s k.val) else ok s

/-! Table loads. -/

/-- The registers and limits of one loader (R219, R258, R300, R340). -/
structure Loader where
  ctrl : Nat
  rows : Nat
  bytes : Nat
deriving DecidableEq, Repr

/-- BUSY, ERR and ERR_CODE stand at the same bits in every load control register. -/
def ldBusy : Fld := Fd.RIL_LOAD_CTRL_BUSY
def ldErr : Fld := Fd.RIL_LOAD_CTRL_ERR
def ldCode : Fld := Fd.RIL_LOAD_CTRL_ERR_CODE

/-- Stop a load with a code. -/
def loadStop (s : State) (ctrl code : Nat) : State := wf (wf (wf s ctrl ldBusy 0) ctrl ldErr 1) ctrl ldCode code

/-- Range check of a load (R219): COUNT, table, source lines in the basin. -/
def loadRange (l : Loader) (first count line : Nat) : Bool :=
  count != 0 && decide (first + count ≤ l.rows) && decide (line + (count * l.bytes + 63) / 64 ≤ 0x30_0000)

/-- The job a GO starts, if its range holds. -/
def loadJob (l : Loader) (table first count line : Nat) : Option LoadJob :=
  if loadRange l first count line then some ⟨table, first, count, line, 0⟩ else Option.none

/-- Row `next` of a job as a number. -/
def loadSource (s : State) (k : Nat) (j : LoadJob) (bytes : Nat) : Nat := natOf (memReads s (basinBase k + 64 * j.line + j.next * bytes) bytes)

/-- The lines that row `next` of a job is read from, as bank and row. -/
def loadLines (j : LoadJob) (bytes : Nat) : List (Nat × Nat) :=
  let lo := (64 * j.line + j.next * bytes) / 64
  let hi := (64 * j.line + j.next * bytes + bytes - 1) / 64
  (List.range (hi - lo + 1)).map (fun i => (bankOfLine (lo + i), rowOfLine (lo + i)))

/-- Whether a load finds the idle bank cycles that reading its row takes; it waits for them without limit (R190, R219). DEDUCED (log entry 133): among
the maintenance port's work a load stands with the dynamic-class accesses. -/
def loadFree (s : State) (k : Nat) (j : LoadJob) (bytes : Nat) : Bool := (loadLines j bytes).all (fun p => maintFree s k mDynamic p.1 p.2)

/-- A row's source lines are read through the maintenance port. -/
def loadRead (s : State) (k : Nat) (j : LoadJob) (bytes : Nat) : State :=
  bump ((loadLines j bytes).foldl (fun s p => useBanks s k p.1 p.2) s) (BSN_MAINT_ACC k) (loadLines j bytes).length

/-- Whether a load waits: its source line stands in a region being zero-filled, or a bank is not idle (R219). -/
def loadWaits (s : State) (k : Nat) (j : LoadJob) (bytes : Nat) : Bool :=
  zeroFilling s k ((64 * j.line + j.next * bytes) / 0x10_0000) || !loadFree s k j bytes

/-- The job after one row. -/
def loadNext (j : LoadJob) : Option LoadJob := if j.next + 1 < j.count then some { j with next := j.next + 1 } else Option.none

/-- Code 0x6: a core of the site is busy while the site is in compute service. -/
def loadBlocked (s : State) (k : Nat) : Bool := siteBusy s k && inCompute s k

/-- Table geometry: 0 hop program, 1 configurations, 2 descriptors, 3 phase table (R210). -/
def rilLoader (k table : Nat) : Loader :=
  match table with
  | 0 => ⟨RIL_LOAD_CTRL k, 8192, 4⟩
  | 1 => ⟨RIL_LOAD_CTRL k, 512, 256⟩
  | 2 => ⟨RIL_LOAD_CTRL k, 256, 16⟩
  | _ => ⟨RIL_LOAD_CTRL k, 256, 16⟩

/-- Whether a source code is one of R206. -/
def sourceCode (c : Nat) : Bool := c == 0 || (Nat.ble 0x10 c && Nat.ble c 0xA3)

/-- The output group and slice of an output byte, or of a source code on a link. -/
def groupOf (o : Nat) : Nat × Nat := if o < 64 then (o / 16, o % 16) else if o < 96 then (4 + (o - 64) / 8, o % 8) else (8 + (o - 112) / 8, o % 8)
def groupOfSource (c : Nat) : Nat × Nat :=
  if c < 0x50 then ((c - 0x10) / 16, c % 16) else if c < 0x70 then (4 + (c - 0x50) / 8, c % 8) else (8 + (c - 0x80) / 8, c % 8)

/-- Every link slice a configuration uses: outputs with a source, and link sources. -/
def linkUses (cfg : Nat) : List (Nat × Nat) :=
  ((List.range 128).filter (fun o => (Nat.blt o 96 || Nat.ble 112 o) && cfgByte cfg o != 0)).map groupOf
    ++ (((List.range 164).map (cfgByte cfg)).filter (fun c => (Nat.ble 0x10 c && Nat.blt c 0x70) || (Nat.ble 0x80 c && Nat.blt c 0x90))).map groupOfSource

/-- Bit of a corridor register: mesh slices then span slices (R236). -/
def corridorBit (s : State) (k : Nat) (u : Nat × Nat) : Bool :=
  if u.1 < 4 then (rd s (RIL_CORRIDORn k u.1)).getLsbD u.2 else (rd s (RIL_CORRIDORn k (u.1 - 4))).getLsbD (16 + u.2)

/-- Whether a slice of a link joins two partitions. -/
def crosses (s : State) (k : Nat) (u : Nat × Nat) : Bool :=
  decide (u.1 < 8) && (match linkFar k u.1 with | some f => partOfSite s f != partOfSite s k | Option.none => false)

/-- Whether partition `p` holds the corridors, and whether it reads through them (R516). -/
def corridorHolder (s : State) (p : Nat) : Bool := rf s SEC_CORRIDOR Fd.SEC_CORRIDOR_HOLDER == p
def corridorReader (s : State) (p : Nat) : Bool := !corridorHolder s p && (rd s SEC_CORRIDOR).getLsbD (28 + p)

/-- Whether a link leads to the holder's partition. -/
def towardsHolder (s : State) (k l : Nat) : Bool := match linkFar k l with | some f => corridorHolder s (partOfSite s f) | Option.none => false

/-- Whether a source is an inbound corridor slice. -/
def inboundCorridor (s : State) (k c : Nat) : Bool :=
  let u := groupOfSource c
  Nat.ble 0x10 c && Nat.blt c 0x70 && crosses s k u && corridorBit s k u

/-- Whether a reader's configuration sends towards the holder, or sends its own data out over a corridor (R516). -/
def corridorBreach (s : State) (k cfg : Nat) : Bool :=
  rf s SEC_CORRIDOR Fd.SEC_CORRIDOR_EN == 1 && corridorReader s (partOfSite s k)
    && (List.range 96).any (fun o => cfgByte cfg o != 0 && crosses s k (groupOf o)
      && (towardsHolder s k (groupOf o).1 || !inboundCorridor s k (cfgByte cfg o)))

/-- Checks on a configuration (R219, R516): codes 2 to 5, the lowest that fails, 0 if it is good. Code 4 is the injection and ejection width of 16
slices of R222 and R233. -/
def configCheck (s : State) (k cfg : Nat) : Nat :=
  let clean := (List.range 164).all (fun o => sourceCode (cfgByte cfg o)) && bf cfg (8 * 164) 96 == 0 && bf cfg (8 * 224) 256 == 0
    && (List.range 8).all (fun i => bf cfg (8 * (176 + 2 * i) + 10) 6 == 0)
  let uses := linkUses cfg
  let reads := (List.range 16).filter (fun i => selects cfg (0x70 + i))
  let writes := (List.range 16).filter (fun i => cfgByte cfg (96 + i) != 0)
  if !clean then 2
  else if uses.any (fun u => !fprGroup s k u.1) then 3
  else if 16 < reads.length + (crUsed cfg).length ∨ 16 < writes.length + (cwUsed cfg).length then 4
  else if uses.any (fun u => crosses s k u && !corridorBit s k u) ∨ corridorBreach s k cfg then 5
  else 0

/-- Check of a row of a router table: 0 if it is good (R211, R212, R214, R216, R219). -/
def rilCheck (s : State) (k table w : Nat) : Nat :=
  match table with
  | 0 => if hopDuration w = 0 ∨ bf w 27 5 ≠ 0 then 2 else 0
  | 1 => configCheck s k w
  | 2 => if bf w 26 6 ≠ 0 ∨ bf w 80 48 ≠ 0 then 2 else 0
  | _ => if bf w 19 13 ≠ 0 ∨ bf w 45 3 ≠ 0 ∨ bf w 61 67 ≠ 0 then 2 else 0

/-- Where a row of a router table is kept. -/
def rilKey (k table row : Nat) : Nat :=
  match table with
  | 0 => hopKey k row
  | 1 => cfgKey k row
  | 2 => bpdKey k row
  | _ => phaseKey k row

/-- A write of RIL_LOAD_CTRL (R219, R236). -/
def writeRilLoad (s : State) (k : Nat) (v : W64) : State :=
  let a := RIL_LOAD_CTRL k
  let s := clear1 s a Fd.RIL_LOAD_CTRL_ERR v
  let table := fget Fd.RIL_LOAD_CTRL_TABLE v
  let first := fget Fd.RIL_LOAD_CTRL_FIRST v
  let count := fget Fd.RIL_LOAD_CTRL_COUNT v
  let s := wf (wf (wf s a Fd.RIL_LOAD_CTRL_TABLE table) a Fd.RIL_LOAD_CTRL_FIRST first) a Fd.RIL_LOAD_CTRL_COUNT count
  if fget Fd.RIL_LOAD_CTRL_GO v = 0 ∨ rf s a Fd.RIL_LOAD_CTRL_BUSY = 1 then s
  else
    match loadJob (rilLoader k table) table first count (rf s (RIL_LOAD_SRC k) Fd.RIL_LOAD_SRC_LINE) with
    | Option.none => loadStop s a 1
    | some j =>
      if loadBlocked s k then loadStop s a 6
      else modSite (wf s a Fd.RIL_LOAD_CTRL_BUSY 1) k (fun x => { x with rilJob := some j })

/-- `RIL_LOAD_GO` (R219, R236). -/
def execRilLoadGo (req : Requester) (k : Site) (v : W64) (s : State) : Host.Outcome State Fault Refusal :=
  ok (guardCsr s req (RIL_LOAD_CTRL k.val) true (fun s => writeRilLoad s k.val v))

/-- `RIL_LOAD_ROW` (R210, R219): one row is read through the maintenance port, checked and written, or the load stops. `ue` is whether its
source line holds an uncorrectable error. -/
def execRilLoadRow (k : Site) (ue : Bool) (s : State) : Host.Outcome State Fault Refusal :=
  let k := k.val
  match (site s k).rilJob with
  | Option.none => ok s
  | some j =>
    let l := rilLoader k j.table
    let stop := fun (code : Nat) => loadStop (modSite s k (fun x => { x with rilJob := Option.none })) l.ctrl code
    if loadWaits s k j l.bytes then ok s
    else if loadBlocked s k then ok (stop 6)
    else if ue then ok (stop 7)
    else
      let w := loadSource s k j l.bytes
      let c := rilCheck s k j.table w
      if c ≠ 0 then ok (stop c)
      else
        let s := setTab s (rilKey k j.table (j.first + j.next)) w
        let s := modSite (loadRead s k j l.bytes) k (fun x => { x with rilJob := loadNext j })
        ok (if (loadNext j).isNone then wf s l.ctrl ldBusy 0 else s)

end Sys2Proof.Machine
end

