-- ==== Sys2Proof/Machine/Transfer.lean ====
section
/-!
DEFINITION. The transfer unit: basin shapes (R77, R182, R184), channels (R207, R208), Cascade sends (R253), stream issue (R320), and the
plan of an XU slot.
-/
namespace Sys2Proof.Machine

/-- The XU opcodes (R76). -/
def opBrd : Nat := 1
def opBwr : Nat := 2
def opRsend : Nat := 3
def opRrecv : Nat := 4
def opCsend : Nat := 5
def opStrm : Nat := 6

/-- Most words of a transfer (R76). -/
def xuMaxWords (op : Nat) : Nat := if op = opBrd ∨ op = opRrecv then 64 else 32

/-- The FORMAT checks on the bits of an XU slot (R68, R75 to R77, R182, R207, R253, R320). -/
def xuFormat (w : Nat) : Bool :=
  let op := bf w 58 6
  let mode := bf w 41 3
  let ra := bf w 49 5
  let rc := bf w 36 5
  let n := bf w 29 7 + 1
  let imm := bf w 0 28
  if op = 0 then w == 0
  else if op = opBrd then decide (mode < 3) && (mode != 0 || rc == 0) && decide (n ≤ 64)
  else if op = opBwr then decide (mode < 2) && (mode != 0 || rc == 0) && decide (n ≤ 32)
  else if op = opRsend ∨ op = opRrecv ∨ op = opCsend then
    bf imm 16 12 == 0 && ra == 0 && mode == 0 && rc == 0 && bf w 28 1 == 0 && decide (n ≤ xuMaxWords op)
  else if op = opStrm then mode == 0 && rc == 0 && n == 1 && bf w 28 1 == 0
  else false

/-- The ADDRESS checks on the bits of an XU slot: the shape of MODE 2 (R184), offset and word count (R207, R253). -/
def xuAddressBits (w : Nat) : Bool :=
  let op := bf w 58 6
  let n := bf w 29 7 + 1
  if op = opBrd ∧ bf w 41 3 = 2 then n == 64 && bf w 28 1 == 0
  else if op = opRsend ∨ op = opRrecv ∨ op = opCsend then decide (bf w 10 6 + n ≤ 64)
  else true

/-- Basin words of a transfer, in order (R77, R182, R184). -/
def basinWords (mode a n : Nat) (c : W64) : List Nat :=
  match mode with
  | 0 => (List.range n).map (fun i => a + i)
  | 1 => (List.range n).map (fun i => (a + i * c.toNat) % 2 ^ 26)
  | _ =>
    let q := bf c.toNat 0 16
    let p := 2 ^ bf c.toNat 16 2
    (List.range (8 * p)).flatMap (fun r => (List.range (8 / p)).map (fun j => (a + r * q + j) % 2 ^ 26))

/-- Whether the stride register of MODE 1 or 2 is in range (R182, R184). -/
def strideOk (mode : Nat) (c : W64) : Bool :=
  match mode with
  | 0 => true
  | 1 => decide (1 ≤ c.toNat ∧ c.toNat ≤ 65535)
  | _ => decide (1 ≤ bf c.toNat 0 16) && c.toNat / 2 ^ 18 == 0

/-- The core-local side of a transfer: aligned, wholly in one store, whole bundles into instruction memory (R77). -/
def localOk (a n : Nat) (write : Bool) : Bool :=
  a % 4 == 0 &&
  (match storeOf a (4 * n) with
   | Option.none => false
   | some st => !(write && st == 3) || (a % 32 == 0 && n % 8 == 0))

/-- The access of a transfer to a core-local store at SC `sc` (R82): none where its range lies in no store. -/
def localAccs (b n sc : Nat) (wr : Bool) : List StoreAcc :=
  match storeOf b (4 * n) with
  | some st => [⟨st, 2, wr, sc, sc, b, b + 4 * n⟩]
  | Option.none => []

/-- Advance of POSTINC (R77). -/
def postinc (s : State) (g sc w n : Nat) : List Flight :=
  if bf w 28 1 = 1 then
    let ra := bf w 49 5
    let rb := bf w 44 5
    let step := if bf w 41 3 = 1 then BitVec.ofNat 64 n * areg s g (bf w 36 5) else BitVec.ofNat 64 n
    [⟨sc, sc + 1, 2, .areg ra (areg s g ra + step)⟩, ⟨sc, sc + 1, 2, .areg rb (areg s g rb + BitVec.ofNat 64 (4 * n))⟩]
  else []

/-- The instruction-memory bundles a write covers: issue SC, first bundle, count (R83). -/
def refillOf (sc a n : Nat) : List (Nat × Nat × Nat) :=
  if storeOf a (4 * n) = some 3 then [(sc, (a - 0xA_0000) / 32, n / 8)] else []

/-- The plan of an executing BRD or BWR (R76, R77, R181 to R184). A BRD reads the banks at t + 1 and lands at t + 3; a BWR writes them at
t + 3. A breach of R77 leaves the writes and accesses that R81 and R82 look at (R101). -/
def planBasin (s : State) (g sc w : Nat) : Plan :=
  let op := bf w 58 6
  let n := bf w 29 7 + 1
  let mode := bf w 41 3
  let c := areg s g (bf w 36 5)
  let a := (areg s g (bf w 49 5) + BitVec.ofNat 64 (bf w 0 28)).toNat % 2 ^ 26
  let b := (areg s g (bf w 44 5)).toNat
  let ws := basinWords mode a n c
  let bad := chk cAddress (strideOk mode c && ws.all (fun x => decide (x < 0x300_0000)) && decide (a < 0x300_0000) && localOk b n (op == opBrd))
  if op = opBrd then
    { Plan.idle with
      faults := bad, exec := true, lat := 3, flights := ⟨sc, sc + 3, 2, .brd b⟩ :: postinc s g sc w n,
      accs := localAccs b n (sc + 3) true,
      bank := [⟨sc + 1, g % 64, false, ws, [], sc, if mode = 2 then some (bf c.toNat 16 2) else Option.none, b⟩],
      refill := refillOf sc b n, events := [(0x03, n)] }
  else
    { Plan.idle with
      faults := bad, exec := true, lat := 3, flights := postinc s g sc w n, accs := localAccs b n sc false,
      bank := [⟨sc + 3, g % 64, true, ws, wordsOf n (creads s g b (4 * n)), sc, Option.none, b⟩], events := [(0x04, n)] }

/-- What a channel reads as at SC `v`: writes at earlier SCs only (R208). -/
def chanRead (c : Chan) (v : Nat) : BitVec 2048 := if v ≤ c.wsc ∧ c.wsc ≠ 0 then c.prev else c.val

/-- Key of a Cascade descriptor row; its value is tag word + 2^64 * frame word (R253). -/
def cscKey (k row : Nat) : Nat := tk 2 + k * 1024 + row

/-- The plan of an executing RSEND, RRECV or CSEND (R207, R208, R253). -/
def planChannel (s : State) (g sc w : Nat) : Plan :=
  let op := bf w 58 6
  let n := bf w 29 7 + 1
  let b := (areg s g (bf w 44 5)).toNat
  let imm := bf w 0 28
  let k := g / 64
  let bad := chk cAddress (localOk b n (op == opRrecv))
  if op = opRrecv then
    let data := bytesOf 256 (chanRead (chan s k (bf imm 0 10)) sc).toNat
    let bs := (data.drop (4 * bf imm 10 6)).take (4 * n)
    { Plan.idle with
      faults := bad, exec := true, lat := 3, flights := [⟨sc, sc + 3, 2, .bytes b bs⟩], accs := localAccs b n (sc + 3) true, chanr := [(sc, bf imm 0 10, g)], refill := refillOf sc b n,
      events := [(0x06, n)] }
  else
    let words := wordsOf n (creads s g b (4 * n))
    let row := tab s (cscKey k (bf imm 0 10))
    let ch := if op = opCsend then bf row (64 + 40) 10 else bf imm 0 10
    let tag := if op = opCsend then some (row % 2 ^ 64, row / 2 ^ 64) else Option.none
    { Plan.idle with
      faults := bad, exec := true, lat := 1, accs := localAccs b n sc false,
      chanw := [⟨sc + 1, ch, bf imm 10 6, words, tag, false⟩], events := [(0x05, n)] }

/-- The plan of an XU slot (R67, R76). -/
def planXu (s : State) (g sc w : Nat) : Plan :=
  if !xuFormat w then Plan.fail [cFormat]
  else if !executes s g (xuHead w) then (if xuAddressBits w then Plan.idle else Plan.fail [cAddress])
  else
    let op := bf w 58 6
    let bits := fun (p : Plan) => { p with faults := p.faults ++ chk cAddress (xuAddressBits w) }
    bits <| if op = opBrd ∨ op = opBwr then planBasin s g sc w
    else if op = opStrm then
      { Plan.idle with
        exec := true, lat := 1,
        strm := [⟨sc + 1, g % 64, bf w 0 20, bf w 20 8, areg s g (bf w 49 5), areg s g (bf w 44 5)⟩], events := [(0x07, 1)] }
    else planChannel s g sc w

end Sys2Proof.Machine
end

