-- ==== Sys2Proof/Machine/Cascade.lean ====
section
/-!
DEFINITION. Cascade, the in-network reduction: canonical trees (R238 to R240), frames (R241, R242), pipes (R243 to R250), node arithmetic
(R251), faults (R256, R257) and the descriptor table's load (R258).
-/
namespace Sys2Proof.Machine

/-! Canonical trees. -/

/-- Depth of the tree over `pm1 + 1` participants (R238). -/
def treeDepth (pm1 : Nat) : Nat := if pm1 = 0 then 0 else Nat.log2 pm1 + 1

/-- First participant that node `n` covers in a tree of depth `d` (R238). -/
def nodeStart (d n : Nat) : Nat := (n - 2 ^ Nat.log2 n) * 2 ^ (d - Nat.log2 n)

/-- Whether node `n` exists and is not empty (R238). -/
def nodeLive (d p n : Nat) : Bool := n != 0 && Nat.ble (Nat.log2 n) d && Nat.blt (nodeStart d n) p

/-- The loop of canon (R240); a node has at most 20 ancestors. -/
def canonGo (d p : Nat) : Nat → Nat → Nat
  | 0, n => n
  | f + 1, n => if 2 ≤ n ∧ n % 2 = 0 ∧ p ≤ nodeStart d (n + 1) then canonGo d p f (n / 2) else n

/-- Canonical tag of a node (R240). -/
def canon (d p n : Nat) : Nat := canonGo d p 21 n

/-! Tag and frame words. -/

/-- NODE, DEPTH, LEN, FMT, OP, MCAST, PM1 (R241). -/
def tNode (t : Nat) : Nat := bf t 0 21
def tDepth (t : Nat) : Nat := bf t 21 5
def fLen (w : Nat) : Nat := bf w 0 6
def fFmt (w : Nat) : Nat := bf w 8 3
def fOp (w : Nat) : Nat := bf w 12 2
def fMcast (w : Nat) : Bool := bf w 14 1 == 1
def fPm1 (w : Nat) : Nat := bf w 16 20

/-- Payload slices of a frame (R241). -/
def fCount (w : Nat) : Nat := fLen w + 1

/-- FMT and OP that R242 permits together. -/
def fmtOp (fmt op : Nat) : Bool := Nat.ble fmt 4 && Nat.ble op 2 && (fmt != 2 || op == 0)

/-- A valid tag word and the low 36 bits of a frame word (R241). -/
def tagValid (t w : Nat) : Bool :=
  bf w 6 2 == 0 && bf w 11 1 == 0 && bf w 15 1 == 0 && fmtOp (fFmt w) (fOp w) && tDepth t == treeDepth (fPm1 w)
    && nodeLive (tDepth t) (fPm1 w + 1) (tNode t) && canon (tDepth t) (fPm1 w + 1) (tNode t) == tNode t

/-- A valid tag slice (R241): the two words, and zero elsewhere. -/
def sliceValid (v : Slice) : Bool := v.toNat / 2 ^ 100 == 0 && tagValid (bf v.toNat 0 64) (bf v.toNat 64 64)

/-! Node arithmetic (R251). -/

/-- Lane combination of two FP32 lanes. -/
def combFp32 (op a b : Nat) : Nat := match op with | 0 => addFp32 a b | 1 => pickLane .fp32 true a b | _ => pickLane .fp32 false a b

/-- Lane combination of two BF16T lanes: FP32 arithmetic, then one BF16 rounding of a sum. -/
def combBf16 (op a b : Nat) : Nat :=
  match op with
  | 0 => narrow .bf16 .rne false 0 (fp32 (rne32 (Num.add (decodeElem .bf16 a) (decodeElem .bf16 b))))
  | 1 => pickLane .bf16 true a b
  | _ => pickLane .bf16 false a b

/-- Lane combination of two FP32 pairs. -/
def combPair (a b : Nat) : Nat :=
  let r := pairAdd ⟨bf a 0 32, bf a 32 32⟩ (Num.add (fp32 (bf b 0 32)) (fp32 (bf b 32 32)))
  r.h + 2 ^ 32 * r.l

/-- Lane combination of two signed integers. -/
def combInt (n op a b : Nat) : Nat :=
  match op with
  | 0 => (a + b) % 2 ^ n
  | 1 => if signed n a < signed n b then b else a
  | _ => if signed n a < signed n b then a else b

/-- The combination a ⊕ b of two lanes. -/
def combLane (fmt op a b : Nat) : Nat :=
  match fmt with
  | 0 => combFp32 op a b
  | 1 => combBf16 op a b
  | 2 => combPair a b
  | 3 => combInt 32 op a b
  | _ => combInt 64 op a b

/-- Lanes of a slice. -/
def sliceLanes (w : Nat) (v : Slice) : List Nat := (List.range (2048 / w)).map (fun i => bf v.toNat (w * i) w)

/-- Slice of lanes. -/
def laneSlice (w : Nat) (xs : List Nat) : Slice := BitVec.ofNat 2048 (xs.foldr (fun x acc => x % 2 ^ w + 2 ^ w * acc) 0)

/-- Combination of two payload slices (R246). -/
def combSlice (fmt op : Nat) (a b : Slice) : List Nat := List.zipWith (combLane fmt op) (sliceLanes (laneBits fmt) a) (sliceLanes (laneBits fmt) b)

/-! Pipe inputs. -/

/-- Frames at an input, oldest first. -/
def frames (s : State) (k i : Nat) : List CFrame := sget (fun _ => []) (site s k).kin i

/-- Set the frames of an input. -/
def setFrames (s : State) (k i : Nat) (fs : List CFrame) : State :=
  modSite s k (fun x => { x with kin := sput (fun _ => []) i fs x.kin })

/-- The other input of a pipe. -/
def otherIn (i : Nat) : Nat := if i % 2 = 0 then i + 1 else i - 1

/-- Whether a slice at SC `now` is payload of a frame that has been discarded (R257). -/
def deadAt (s : State) (k i now : Nat) : Bool := Nat.ble now (sget (fun _ => 0) (site s k).kdead i) && now != 0

/-- The rest of a frame that has begun at an input is discarded as it comes. -/
def discardRest (s : State) (k i : Nat) (sc w : Nat) : State :=
  modSite s k (fun x => { x with kdead := smod (fun _ => 0) i (max (sc + fCount w)) x.kdead })

/-- The next frame to come at an input is discarded (R244). -/
def discardLate (s : State) (k i : Nat) : State := modSite s k (fun x => { x with klate := smod (fun _ => 0) i (fun n => n + 1) x.klate })

/-- The frame in progress at an input at SC `now` (R244): its payload is due in the SCs after its tag slice. -/
def inProgress (s : State) (k i now : Nat) : Option CFrame :=
  match (frames s k i).getLast? with
  | some f => if f.sc < now ∧ now ≤ f.sc + fCount f.word then some f else Option.none
  | Option.none => Option.none

/-- Show BUSY and WAITING of a pipe (R259). -/
def showPipe (s : State) (k j : Nat) : State :=
  let fs := frames s k (2 * j) ++ frames s k (2 * j + 1)
  let s := wf s (CSC_STATUS k) ⟨j, 1, .ro⟩ (b2n (!fs.isEmpty))
  wf s (CSC_STATUS k) ⟨16 + j, 1, .ro⟩ (b2n (fs.any (fun f => f.pair.isNone)))

/-- Discard the `n`-th frame of an input: what is still to come of it too, and all of it if it has not begun to come (R244, R257). -/
def dropAt (s : State) (k i n : Nat) : State :=
  match (frames s k i)[n]? with
  | some f => discardRest (setFrames s k i ((frames s k i).eraseIdx n)) k i f.sc f.word
  | Option.none => discardLate s k i

/-- Discard the `n`-th frames of both inputs of a pipe (R257). -/
def dropPair (s : State) (k j n : Nat) : State := showPipe (dropAt (dropAt s k (2 * j) n) k (2 * j + 1) n) k j

/-- A pair that has presented its last slice leaves the pipe. -/
def pairLeaves (s : State) (k j n : Nat) : State :=
  let s := setFrames s k (2 * j) ((frames s k (2 * j)).eraseIdx n)
  showPipe (setFrames s k (2 * j + 1) ((frames s k (2 * j + 1)).eraseIdx n)) k j

/-- Agreement of a pair (R245): TREE, DEPTH, SEG, LEN, FMT, OP and PM1, and sibling nodes. -/
def pairAgrees (a b : CFrame) : Bool := a.tag / 2 ^ 21 == b.tag / 2 ^ 21 && a.word == b.word && (tNode a.tag ^^^ tNode b.tag) == 1

/-- A tag has come at input `i` at SC `now`: it meets its partner, if that stands at the same place of the other input (R244 to R246). -/
def meetPair (s : State) (k i now : Nat) : State :=
  let n := (frames s k i).length - 1
  match (frames s k i)[n]?, (frames s k (otherIn i))[n]? with
  | some f, some g =>
    let j := i / 2
    if g.sc + 64 < now then cascadeFault (dropPair s k j n) k 3 j (otherIn i % 2) g.tag 0 (g.sc + 65)
    else if pairAgrees f g then
      let due : Option Nat := some (max f.sc g.sc + 2)
      let s := setFrames s k i ((frames s k i).set n { f with pair := due })
      setFrames s k (otherIn i) ((frames s k (otherIn i)).set n { g with pair := due })
    else cascadeFault (dropPair s k j n) k 2 j (i % 2) f.tag 0 now
  | _, _ => s

/-- A slice taken as a tag slice (R244). -/
def takeTag (s : State) (k i now : Nat) (v : Slice) : State :=
  let t := bf v.toNat 0 64
  let w := bf v.toNat 64 36
  if !sliceValid v || fMcast w then cascadeFault s k 1 (i / 2) (i % 2) t 0 now
  else if 0 < sget (fun _ => 0) (site s k).klate i then
    discardRest (modSite s k (fun x => { x with klate := smod (fun _ => 0) i (fun n => n - 1) x.klate })) k i now w
  else showPipe (meetPair (setFrames s k i (frames s k i ++ [⟨now, t, w, [], Option.none⟩])) k i now) k (i / 2)

/-- The slice the router has put on a Cascade input at SC `now`. -/
def kiSlice (s : State) (k i now : Nat) : Option Slice :=
  ((site s k).ki.find? (fun p => p.1 == i && p.2.1 == now)).map (fun p => p.2.2)

/-- Take the slice off the input. -/
def clearKi (s : State) (k i : Nat) : State := modSite s k (fun x => { x with ki := x.ki.filter (fun p => p.1 != i) })

/-- `CASCADE_TAG_ARRIVE` (R241, R244, R245, R256). -/
def execCascadeTagArrive (k : Site) (i : Fin 32) (s : State) : Host.Outcome State Fault Refusal :=
  let now := scOf s k.val
  match kiSlice s k.val i.val now with
  | Option.none => ok s
  | some v =>
    if (inProgress s k.val i.val now).isSome ∨ deadAt s k.val i.val now ∨ frozen s k.val then ok s
    else ok (takeTag (clearKi s k.val i.val) k.val i.val now v)

/-- Discard the frame in progress at an input with its partner, if that has come. -/
def dropFrame (s : State) (k i : Nat) : State := dropPair s k (i / 2) ((frames s k i).length - 1)

/-- Whether the input's source is None although a frame expects a payload slice there now (R256). -/
def gapAt (s : State) (k i now : Nat) : Bool := (inProgress s k i now).isSome && cfgByte (cfgNow s k) (128 + i) == 0

/-- `CASCADE_PAYLOAD_ARRIVE` (R244, R256): the payload slice due now, once the router has switched, or GAP. -/
def execCascadePayloadArrive (k : Site) (i : Fin 32) (s : State) : Host.Outcome State Fault Refusal :=
  let k := k.val
  let i := i.val
  let now := scOf s k
  match inProgress s k i now with
  | Option.none => ok (if deadAt s k i now then clearKi s k i else s)
  | some f =>
    if frozen s k then ok s
    else if gapAt s k i now then ok (cascadeFault (dropFrame s k i) k 4 (i / 2) (i % 2) f.tag 0 now)
    else if (site s k).routed ≠ some now then ok s
    else
      match kiSlice s k i now with
      | some v =>
        let s := clearKi s k i
        if f.data.length = now - f.sc - 1 then
          ok (setFrames s k i ((frames s k i).dropLast ++ [{ f with data := f.data ++ [v] }]))
        else ok s
      | Option.none => ok s

/-- The pair of a pipe that presents at SC `now`, with its place (R246). -/
def presenting (s : State) (k j now : Nat) : Option (Nat × CFrame × CFrame) :=
  (List.range (frames s k (2 * j)).length).findSome? (fun n =>
    match (frames s k (2 * j))[n]?, (frames s k (2 * j + 1))[n]? with
    | some a, some b =>
      match a.pair with
      | some t => if t ≤ now ∧ now ≤ t + fCount a.word then some (n, a, b) else Option.none
      | Option.none => Option.none
    | _, _ => Option.none)

/-- Output tag slice of a pair: NODE is canon(a / 2), the other fields are those of the inputs (R245). -/
def outTag (a : CFrame) : Slice :=
  let node := canon (tDepth a.tag) (fPm1 a.word + 1) (tNode a.tag / 2)
  tagSlice (node + 2 ^ 21 * (a.tag / 2 ^ 21), a.word)

/-- Put a slice on a Cascade output (R246). -/
def putKo (s : State) (k j now : Nat) (v : Slice) : State := modSite s k (fun x => { x with ko := x.ko ++ [(j, now, v)] })

/-- Present payload slice `n` of a pair, with the counters of R259. -/
def outPayload (s : State) (k j now n : Nat) (a b : CFrame) : State :=
  match a.data[n]?, b.data[n]? with
  | some x, some y =>
    let fmt := fFmt a.word
    let op := fOp a.word
    let w := laneBits fmt
    let rs := combSlice fmt op x y
    let wraps := (List.zipWith (laneWrap fmt op) (sliceLanes w x) (sliceLanes w y)).filter (fun c => c)
    let s := bump s (CSC_LANE_OPS k) rs.length
    let s := bump s (CSC_NAN k) (rs.filter (laneNan fmt)).length
    let s := bump s (CSC_WRAP k) wraps.length
    putKo s k j now (laneSlice w rs)
  | _, _ => s

/-- `CASCADE_OUTPUT` (R245, R246, R251): the slice a pipe presents at KO j in this SC, before the router switches. The pair leaves the pipe
with its last payload slice. A pair that meets a GAP at this SC presents nothing from it on (R257). -/
def execCascadeOutput (k : Site) (j : Fin 16) (s : State) : Host.Outcome State Fault Refusal :=
  let k := k.val
  let j := j.val
  let now := scOf s k
  if frozen s k ∨ (site s k).routed = some now ∨ (site s k).ko.any (fun p => p.1 == j && p.2.1 == now) then ok s
  else
    match presenting s k j now with
    | Option.none => ok s
    | some (n, a, b) =>
      let t := a.pair.getD 0
      let gap := [2 * j, 2 * j + 1].any (fun i => gapAt s k i now && (frames s k i).length == n + 1)
      if gap then ok s else
      let s := if now = t then putKo s k j now (outTag a) else outPayload s k j now (now - t - 1) a b
      if now = t + fCount a.word then ok (bump (pairLeaves s k j n) (CSC_FRAMES k) 1) else ok s

/-- A frame of a pipe whose partner is 65 SCs late: its input and place (R256). -/
def skewed (s : State) (k j now : Nat) : Option (Nat × Nat × CFrame) :=
  [2 * j, 2 * j + 1].findSome? (fun i =>
    ((frames s k i).zipIdx.find? (fun p => p.1.pair.isNone && p.1.sc + 65 == now)).map (fun p => (i, p.2, p.1)))

/-- `SKEW` (R246, R256). -/
def execSkew (k : Site) (j : Fin 16) (s : State) : Host.Outcome State Fault Refusal :=
  let now := scOf s k.val
  match skewed s k.val j.val now with
  | Option.none => ok s
  | some (i, n, f) =>
    if frozen s k.val then ok s
    else ok (cascadeFault (dropPair s k.val j.val n) k.val 3 j.val (i % 2) f.tag 0 now)

/-- Discard every frame of a pipe. -/
def clearPipe (s : State) (k j : Nat) : State := showPipe (setFrames (setFrames s k (2 * j) []) k (2 * j + 1) []) k j

/-- UNFINISHED at a boundary whose SC B is `b` (R249, R256, R257): each pipe that still holds a frame discards it, lowest pipe first. No frame crosses
the boundary, so nothing of a discarded one is still to come. -/
def unfinished (s : State) (k b : Nat) : State :=
  let s := modSite s k (fun x => { x with kdead := [], klate := [] })
  (List.range 16).foldl (fun s j =>
    match frames s k (2 * j) with
    | f :: _ => cascadeFault (clearPipe s k j) k 5 j 0 f.tag 0 b
    | [] =>
      match frames s k (2 * j + 1) with
      | f :: _ => cascadeFault (clearPipe s k j) k 5 j 1 f.tag 0 b
      | [] => s) s

/-! The descriptor table. -/

/-- Geometry of the descriptor table. -/
def cscLoader (k : Nat) : Loader := ⟨CSC_LOAD_CTRL k, 1024, 16⟩

/-- Check of a descriptor row (R258): the tag and frame words valid, CHANNEL the only other field. -/
def cscCheck (w : Nat) : Nat := if tagValid (bf w 0 64) (bf w 64 36) && bf w 100 4 == 0 && bf w 114 14 == 0 then 0 else 2

/-- A write of CSC_LOAD_CTRL (R258, R259). -/
def writeCscLoad (s : State) (k : Nat) (v : W64) : State :=
  let a := CSC_LOAD_CTRL k
  let s := clear1 s a Fd.CSC_LOAD_CTRL_ERR v
  let first := fget Fd.CSC_LOAD_CTRL_FIRST v
  let count := fget Fd.CSC_LOAD_CTRL_COUNT v
  let s := wf (wf s a Fd.CSC_LOAD_CTRL_FIRST first) a Fd.CSC_LOAD_CTRL_COUNT count
  if fget Fd.CSC_LOAD_CTRL_GO v = 0 ∨ rf s a Fd.CSC_LOAD_CTRL_BUSY = 1 then s
  else
    match loadJob (cscLoader k) 0 first count (rf s (CSC_LOAD_SRC k) Fd.CSC_LOAD_SRC_LINE) with
    | Option.none => loadStop s a 1
    | some j =>
      if loadBlocked s k then loadStop s a 6
      else modSite (wf s a Fd.CSC_LOAD_CTRL_BUSY 1) k (fun x => { x with cscJob := some j })

/-- `CSC_LOAD_GO` (R258). -/
def execCscLoadGo (req : Requester) (k : Site) (v : W64) (s : State) : Host.Outcome State Fault Refusal :=
  ok (guardCsr s req (CSC_LOAD_CTRL k.val) true (fun s => writeCscLoad s k.val v))

/-- `CSC_LOAD_ROW` (R258). `ue` is whether the row's source line holds an uncorrectable error. -/
def execCscLoadRow (k : Site) (ue : Bool) (s : State) : Host.Outcome State Fault Refusal :=
  let k := k.val
  match (site s k).cscJob with
  | Option.none => ok s
  | some j =>
    let l := cscLoader k
    let stop := fun (code : Nat) => loadStop (modSite s k (fun x => { x with cscJob := Option.none })) l.ctrl code
    if loadWaits s k j l.bytes then ok s
    else if loadBlocked s k then ok (stop 6)
    else if ue then ok (stop 7)
    else
      let w := loadSource s k j l.bytes
      if cscCheck w ≠ 0 then ok (stop (cscCheck w))
      else
        let s := setTab s (cscKey k (j.first + j.next)) w
        let s := loadRead s k j l.bytes
        let s := modSite s k (fun x => { x with cscJob := loadNext j })
        ok (if (loadNext j).isNone then wf s l.ctrl ldBusy 0 else s)

end Sys2Proof.Machine
end

