-- ==== Sys2Proof/Machine/Hbm.lean ====
section
/-!
DEFINITION. HBM: bands and interleave (R309 to R311), encryption by key slot (R308, R506), errors and their log (R305, R306, R341, R489),
and patrol scrubbing (R307).
-/
namespace Sys2Proof.Machine

/-- First byte of the stream table (R313). -/
def tableBase (s : State) : Nat := (rd s STM_TBL_BASE).toNat

/-- Band of an HBM address. -/
def bandOf (a : Nat) : Nat := a % 0x10_0000_0000 / 0x4000_0000

/-! Keys. -/

/-- Partition that a key slot 1 to 31 belongs to (R506). -/
def partOfKey (s : State) (slot : Nat) : Option Nat :=
  if slot = 0 then Option.none
  else
    match pmode s with
    | 0 => some 0
    | 1 => some (slot / 16)
    | _ => some (slot / 8)

/-- Key of a slot's fill count: it changes whenever the slot's key does (R506, R507). -/
def slotKey (slot : Nat) : Nat := tk 14 + slot

/-- Key of what was imported into a slot, plus 1; 0 where its keys were drawn (R506). -/
def slotImport (slot : Nat) : Nat := tk 25 + slot

/-- Key of a band's map changes (R312). -/
def bandKey (q : Nat) : Nat := tk 15 + q

/-- The keys in a slot now. -/
def keyOf (s : State) (slot : Nat) : HbmKey :=
  match tab s (slotImport slot) with
  | 0 => .drawn (slot + 32 * tab s (slotKey slot))
  | v + 1 => .imported v

/-- What keys are as bits: the XTS pair, then the export key (R506). -/
def keyBits : HbmKey → BitVec 768
  | .drawn n => Config.drbgKeys n
  | .imported v => BitVec.ofNat 768 v

/-- The XTS pair and the export key. -/
def xtsPair (k : HbmKey) : BitVec 512 := (keyBits k).extractLsb' 0 512
def exportKey (k : HbmKey) : BitVec 256 := (keyBits k).extractLsb' 512 256

/-- What a line written through a slot now is encrypted under (R308). -/
def tagNow (s : State) (slot a : Nat) : LineTag := ⟨keyOf s slot, a / 64, tab s (bandKey (bandOf a))⟩

/-- What a line was last written under; none for a line nothing has written. -/
def lineTag (s : State) (a : Nat) : Option LineTag := sget (fun _ => Option.none) s.lineKey (a / 64)

/-- The version of a band's map at the last fill of a slice (R522, step 7). -/
def fillKey (slice q : Nat) : Nat := tk 26 + 64 * slice + q

/-- Whether a line that nothing has written holds what its store does: its band's map is that of the fill of its slice. -/
def lineBlank (s : State) (a : Nat) : Bool := tab s (bandKey (bandOf a)) == tab s (fillKey (a / 0x10_0000_0000) (bandOf a))

/-- The byte at an HBM address as it decrypts under a slot's key (R308): the byte written, where key pair and tweak are those of the write; else
what AES-256-XTS makes of the line. None where the band's map has changed since, which leaves the byte undefined (R312). A line that nothing
has written reads as its store does. -/
def hbmByte (s : State) (slot a : Nat) : Option Byte :=
  match lineTag s a with
  | Option.none => if lineBlank s a then some (memRead s a) else Option.none
  | some t =>
    let now := tagNow s slot a
    if t.map ≠ now.map then Option.none
    else if t.tweak = now.tweak ∧ (t.key = now.key ∨ xtsPair t.key = xtsPair now.key) then some (memRead s a)
    else
      let stored := Config.xtsSeal (xtsPair t.key) t.tweak (BitVec.ofNat 512 (natOf (memReads s (a / 64 * 64) 64)))
      some ((Config.xtsOpen (xtsPair now.key) now.tweak stored).extractLsb' (8 * (a % 64)) 8)

/-- `n` bytes from an HBM address under a slot's key. Bytes that R312 leaves undefined are free values (log entry 3). -/
def hbmReads (s : State) (slot a : Nat) : Nat → State × List Byte
  | 0 => (s, [])
  | n + 1 =>
    match hbmByte s slot a with
    | some b =>
      let r := hbmReads s slot (a + 1) n
      (r.1, b :: r.2)
    | Option.none =>
      let f := takeFree 8 s
      let r := hbmReads f.2 slot (a + 1) n
      (r.1, f.1 :: r.2)

/-- Every line of a range is written under the slot's key from now on. -/
def tagLines (s : State) (slot a n : Nat) : State :=
  s.setLineKey ((List.range ((a + n - 1) / 64 + 1 - a / 64)).foldl (fun m i =>
    sput (fun _ => Option.none) (a / 64 + i) (some (tagNow s slot (64 * (a / 64 + i)))) m) s.lineKey)

/-- Whether a line holds what the slot's key now writes there: nothing has to be encrypted anew. -/
def lineOpens (s : State) (slot a : Nat) : Bool :=
  match lineTag s a with
  | Option.none => lineBlank s a
  | some t => t == tagNow s slot a

/-! Where a line is. -/

/-- Whether band `q` is spread: bit 0 of byte q of stream-table entry 0, which is kept under slot 0 (R309, R313). -/
def bandSpread (s : State) (q : Nat) : Bool :=
  let a := tableBase s + q
  ((hbmByte s 0 a).getD (memRead s a)).getLsbD 0

/-- Partition of the stack that holds a slice. -/
def partOfSlice (s : State) (i : Nat) : Option Nat := (stackOfSlice s i).map (fun h => partOfEdge s (h / 2))

/-- The slices of a partition, ascending. -/
def slicesOf (s : State) (p : Nat) : List Nat := (List.range s.pnl.slices.length).filter (fun i => partOfSlice s i == some p)

/-- Whether two ranges meet. -/
def meet (a n b m : Nat) : Bool := Nat.blt a (b + m) && Nat.blt b (a + n)

/-- The slices whose stack belongs to the partition of stack `h`, ascending; `sl` gives each slice's stack and `pt` each stack's partition. -/
def slicesBeside (sl : List Nat) (pt : Nat → Nat) (h : Nat) : List Nat :=
  (List.range sl.length).filter (fun i => (sl[i]?).map pt == some (pt h))

/-- The stacks that share spread bands with stack `h`: those of its partition that hold slices, ascending (R311). -/
def stacksBeside (sl : List Nat) (pt : Nat → Nat) (h : Nat) : List Nat := sl.filter (fun x => pt x == pt h)

/-- Where an address lies (R310, R311): the stack, and the byte within it, counted band by band, granule position by position and channel by
channel. `sp` says which bands are spread. -/
def placeIn (sl : List Nat) (pt : Nat → Nat) (sp : Nat → Bool) (a : Nat) : Option (Nat × Nat) :=
  let i := a / 0x10_0000_0000
  let b := a % 0x4000_0000
  (sl[i]?).map (fun h =>
    let base := bandOf a * 0x4000_0000
    if sp (bandOf a) then
      let st := stacksBeside sl pt h
      let n := 32 * max 1 st.length
      let j := ((slicesBeside sl pt h).filter (fun x => Nat.blt x i)).length * 262_144 + b / 4096
      (st.getD (j % n / 32) h, base + (j / n * 32 + j % 32) * 4096 + a % 4096)
    else (h, base + b))

/-- The address whose place is a byte of a stack: the inverse of `placeIn`. -/
def addrIn (sl : List Nat) (pt : Nat → Nat) (sp : Nat → Bool) (h o : Nat) : Option Nat :=
  let q := o / 0x4000_0000
  let b := o % 0x4000_0000
  if sp q then
    let st := stacksBeside sl pt h
    match st.findIdx? (fun x => x == h) with
    | Option.none => Option.none
    | some rank =>
      let j := b / 4096 / 32 * (32 * st.length) + rank * 32 + b / 4096 % 32
      ((slicesBeside sl pt h)[j / 262_144]?).map (fun i => i * 0x10_0000_0000 + q * 0x4000_0000 + j % 262_144 * 4096 + b % 4096)
  else (sl.findIdx? (fun x => x == h)).map (fun i => i * 0x10_0000_0000 + q * 0x4000_0000 + b)

/-- Where an address lies now: the slices are those published last (R28 to R30; log entry 135). -/
def placeOf (s : State) (a : Nat) : Option (Nat × Nat) := placeIn s.pnl.slices (fun h => partOfEdge s (h / 2)) (bandSpread s) a

/-- The address of a byte of a stack now. -/
def addrAt (s : State) (h o : Nat) : Option Nat := addrIn s.pnl.slices (fun h => partOfEdge s (h / 2)) (bandSpread s) h o

/-- The stack and channel that hold an address (R310, R311). -/
def homeOf (s : State) (a : Nat) : Option (Nat × Nat) := (placeOf s a).map (fun p => (p.1, p.2 / 4096 % 32))

/-- The stack that holds an address. -/
def stackOfAddr (s : State) (a : Nat) : Option Nat := (homeOf s a).map (fun p => p.1)

/-- First address beyond the partition's slices is refused: whether every byte of a range lies in slices of `p` (R317). -/
def inPartition (s : State) (p a n : Nat) : Bool :=
  decide (a + n ≤ 0x0400_0000_0000) && (List.range ((a % 0x10_0000_0000 + n + 0xF_FFFF_FFFF) / 0x10_0000_0000)).all (fun d =>
    partOfSlice s (a / 0x10_0000_0000 + d) == some p)

/-- Merge a partly written line that another key wrote: what it decrypts to is rewritten (R308, R530). -/
def mergeLine (s : State) (slot a : Nat) : State :=
  if lineOpens s slot a then s
  else
    let l := a / 64 * 64
    let r := hbmReads s slot l 64
    tagLines (memWrites r.1 l r.2) slot l 64

/-- A write of whole lines replaces them and clears their marks (R306). -/
def clearMarks (s : State) (p : Nat → Bool) : State :=
  if s.hbms.any (fun e => e.2.marks.any p) then
    s.setStacks (smap (fun _ => StackX.init) (fun x => { x with marks := x.marks.filter (fun l => !p l) }) s.hbms)
  else s

/-- Write bytes to HBM under a slot's key. -/
def hbmWrites (s : State) (slot a : Nat) (bs : List Byte) : State :=
  if bs.isEmpty then s
  else
    let s := clearMarks s (fun l => Nat.ble a (64 * l) && Nat.ble (64 * l + 64) (a + bs.length))
    let s := if a % 64 = 0 then s else mergeLine s slot a
    let e := a + bs.length
    let s := if e % 64 = 0 then s else mergeLine s slot (e - 1)
    tagLines (memWrites s a bs) slot a bs.length

/-! Errors. -/

/-- An error found in a line: none, corrected, uncorrectable, corrected and reported by the stack (R305). -/
abbrev HbmErr := Fin 4

/-- The first byte of a marked line that a range meets, if any (R306). -/
def markedLine (s : State) (a n : Nat) : Option Nat :=
  (s.hbms.findSome? (fun e => e.2.marks.find? (fun l => Nat.ble (a / 64) l && Nat.blt (64 * l) (a + n)))).map (fun l => 64 * l)

/-- Count and log an error of a line (R306, R341). Sources: 0 stream, 1 table walk, 2 scrub, 3 aperture. -/
def hbmLog (s : State) (a source sym : Nat) (ue : Bool) : State :=
  match homeOf s a with
  | Option.none => s
  | some (h, c) =>
    let s := bump s (if ue then HBM_CHc_UE h c else HBM_CHc_CE h c) 1
    let s := rise s (HBM_ECC_LOG h) Fd.HBM_ECC_LOG_VALID 1
    let old := rd s (HBM_ECC_LOG h)
    if !ue && fget Fd.HBM_ECC_LOG_VALID old == 1 && fget Fd.HBM_ECC_LOG_TYPE old == 2 then s
    else
      let w := fset Fd.HBM_ECC_LOG_VALID 1 (fset Fd.HBM_ECC_LOG_SYMBOL sym (fset Fd.HBM_ECC_LOG_CHANNEL c
        (fset Fd.HBM_ECC_LOG_SOURCE source (fset Fd.HBM_ECC_LOG_TYPE (if ue then 2 else 1) 0#64))))
      let s := wr s (HBM_ECC_LOG h) w
      let s := wr s (HBM_ECC_ADDR h) (BitVec.ofNat 64 (a / 64 * 64))
      wr s (HBM_ECC_SC h) (BitVec.ofNat 64 (scOf s (144 + h / 2)))

/-- Report an uncorrectable error (R306). The second in one channel within 24 h fences the stack (R489). `hold` is whether an ERROR hold is
raised here. -/
def hbmReport (s : State) (a : Nat) (hold : Bool) : State :=
  match homeOf s a with
  | Option.none => s
  | some (h, c) =>
    let now := timeSec s * 1_000_000_000 + timeNs s
    let last := sget (fun _ => 0) (stack s h).lastUe c
    let second := last != 0 && decide (now + 1 ≤ last + 86_400_000_000_000)
    let s := modStack s h (fun x => { x with lastUe := sput (fun _ => 0) c (now + 1) x.lastUe })
    let d := 144 + h / 2
    let s := if hold then raiseHold s d hError 0 else s
    report s (mkEvent s (if second then 3 else 2) (if second then 2 else 1) 7 (h * 32 + c) (rf s (HBM_ECC_LOG h) Fd.HBM_ECC_LOG_TYPE)
      (scOf s d) (rd s (HBM_ECC_LOG h)) (rd s (HBM_ECC_ADDR h)) (rd s (HBM_ECC_SC h))
      (if hold then some (d, hError) else Option.none) (if second then some (6, h) else Option.none))

/-- Mark a line (R306). -/
def markLine (s : State) (a : Nat) : State :=
  match stackOfAddr s a with
  | some h => modStack s h (fun x => { x with marks := if x.marks.contains (a / 64) then x.marks else x.marks ++ [a / 64] })
  | Option.none => s

/-- The parts of a range that lie in one granule of 4 KiB each: address and bytes. -/
def granules (a n : Nat) : List (Nat × Nat) :=
  (List.range ((a % 4096 + n + 4095) / 4096)).map (fun i =>
    let lo := max a ((a / 4096 + i) * 4096)
    (lo, min (a + n) ((a / 4096 + i + 1) * 4096) - lo))

/-- Count bytes read or written in the channels that hold a range (R310, R311, R341). -/
def countHbm (s : State) (a n : Nat) (w : Bool) : State :=
  (granules a n).foldl (fun s g =>
    match homeOf s g.1 with
    | some (h, c) => bump s (if w then HBM_CHc_WR h c else HBM_CHc_RD h c) g.2
    | Option.none => s) s

/-- Count and log what a read finds in a line (R305, R306): a line with a corrected error is rewritten; a correction that the stack reports is
counted only. -/
def lineError (s : State) (a source : Nat) (err : HbmErr) (sym : Nat) : State :=
  match err.val with
  | 0 => s
  | 1 => countHbm (hbmLog s a source sym false) a 64 true
  | 2 => hbmLog s a source 0 true
  | _ =>
    match homeOf s a with
    | some (h, c) => bump s (HBM_CHc_ODECC h c) 1
    | Option.none => s

/-- Meet the errors on a read of `n` bytes: logged and counted; the line for which the read may not deliver, if any. A marked line never
delivers. -/
def meetErrors (s : State) (a n source : Nat) (errs : List LineErr) : State × Option Nat :=
  let es := errs.filter (fun e => Nat.blt (a / 64 * 64 + 64 * e.line) (a + n))
  let s' := es.foldl (fun s e => lineError s (a / 64 * 64 + 64 * e.line) source e.err e.sym.val) s
  match es.find? (fun e => e.err.val == 2) with
  | some e => (s', some (a / 64 * 64 + 64 * e.line))
  | Option.none =>
    match markedLine s a n with
    | some l => (hbmLog s' l source 0 true, some l)
    | Option.none => (s', Option.none)

/-- Meet an error on a read within one line. -/
def meetError (s : State) (a n source : Nat) (err : HbmErr) (sym : Fin 64) : State × Option Nat := meetErrors s a n source [⟨0, err, sym⟩]

/-- Whether the stack that holds an address is enabled (R27, R30). -/
def homeEnabled (s : State) (a : Nat) : Bool := match stackOfAddr s a with | some h => stackEnabled s h | Option.none => false

/-- Whether every granule of a range has an enabled home; after 1,024 consecutive granules of a band the homes repeat. -/
def homesEnabled (s : State) (a n : Nat) : Bool :=
  (List.range (min 2048 ((a % 4096 + n + 4095) / 4096))).all (fun i => homeEnabled s (a / 4096 * 4096 + 4096 * i))

/-- The HBM address whose home is line `l` of a stack. -/
def stackLine (s : State) (h l : Nat) : Option Nat := addrAt s h (64 * l)

/-- A whole line under a slot's key, as a number; what R312 leaves undefined reads as it is stored. -/
def hbmLine (s : State) (slot a : Nat) : Nat := natOf ((List.range 64).map (fun i => (hbmByte s slot (a + i)).getD (memRead s (a + i))))

/-- Whether a partition that `which` admits owns bands and has an image loaded (R312, R586): every slice has a part of every band. -/
def bandsHeld (s : State) (which : Nat → Bool) : Bool :=
  (List.range 4).any (fun p => which p && imageLoaded s p && !(slicesOf s p).isEmpty)

/-- Bands whose map differs between two states: their bytes are undefined from now on (R312). -/
def changedBands (s t : State) : State :=
  (List.range 64).foldl (fun r q => if bandSpread s q != bandSpread t q then setTab r (bandKey q) (tab r (bandKey q) + 1) else r) t

/-! Slices that move (R28 to R30). -/

/-- The band map as it reads once the slices are `sl` and stacks belong to partitions by `pt`: entry 0 of the stream table lies in a local
band, so its bytes are those that the new home of their addresses holds. -/
def spreadAfter (s : State) (sl : List Nat) (pt : Nat → Nat) (q : Nat) : Bool :=
  let l := fun (_ : Nat) => false
  match (placeIn sl pt l (tableBase s + q)).bind (fun p => addrAt s p.1 p.2) with
  | some a => ((hbmByte s 0 a).getD (memRead s a)).getLsbD 0
  | Option.none => false

/-- Where an address's bytes are found once the slices are `sl`, and stacks belong to partitions by `pt`: bytes stay in their stacks. -/
def movedTo (s : State) (sl : List Nat) (pt : Nat → Nat) (a : Nat) : Option Nat :=
  (placeOf s a).bind (fun p => addrIn sl pt (spreadAfter s sl pt) p.1 p.2)

/-- Move what HBM holds to the addresses it has in state `t`, in which slices or partitions have changed (R29, R310, R311). The bytes of a stack
that holds no slice have no address. -/
def rehome (s t : State) : State :=
  if s.pnl.slices = t.pnl.slices ∧ pmode s = pmode t then t
  else
    let go := movedTo s t.pnl.slices (fun h => partOfEdge t (h / 2))
    let inHbm := fun (a : Nat) => Nat.blt a 0x0400_0000_0000
    let t := t.setMem (s.mem.foldl (fun m c =>
      if inHbm c.1 then (match go c.1 with | some a => sput memUnlisted a c.2 m | Option.none => m) else m) (sdrop inHbm t.mem))
    let t := t.setLineKey (s.lineKey.foldl (fun m c =>
      match go (64 * c.1) with | some a => sput (fun _ => Option.none) (a / 64) c.2 m | Option.none => m) [])
    t.setStacks (smap (fun _ => StackX.init) (fun x => { x with marks := x.marks.filterMap (fun l => (go (64 * l)).map (fun a => a / 64)) }) t.hbms)

/-- `HBM_PATROL_SCRUB` (R306, R307): the next line of the stack is read; what can be corrected is, what cannot is logged, marked and
reported; a correction that the stack itself reports (`err` 3) is counted (R341). -/
def execHbmPatrolScrub (h : Stack) (err : Fin 4) (sym : Fin 64) (s : State) : Host.Outcome State Fault Refusal :=
  let h := h.val
  if rf s (HBM_CFG h) Fd.HBM_CFG_SCRUB_EN = 0 ∨ !stackEnabled s h then ok s
  else
    let l := (stack s h).scrub
    let s := modStack s h (fun x => { x with scrub := (l + 1) % 0x4000_0000 })
    match stackLine s h l with
    | Option.none => ok s
    | some a =>
      let s := countHbm s a 64 false
      if err.val = 2 then ok (hbmReport (markLine (lineError s a 2 err 0) a) a true)
      else ok (lineError s a 2 err sym.val)

end Sys2Proof.Machine
end

