-- ==== Sys2Proof/Machine/Panel.lean ====
section
/-!
DEFINITION. Packets between panels inside an edge die: their bytes and CRC-16 (R369), stamping at the source (R372), routing (R371, R376,
R382), and the pieces they cross the panel in (R373).
-/
namespace Sys2Proof.Machine

/-- One byte of CRC-16 with polynomial 0x1021 (R369). -/
def crc16Byte (crc b : Nat) : Nat :=
  (List.range 8).foldl (fun c _ => if 0x8000 ≤ c then Nat.xor (c * 2 % 0x1_0000) 0x1021 else c * 2) (Nat.xor crc (b * 256))

/-- CRC-16, initial value 0xFFFF. -/
def crc16 (bs : List Byte) : Nat := bs.foldl (fun c b => crc16Byte c b.toNat) 0xFFFF

/-- Header bytes 0 to 13 of a packet (R369). -/
def panelHead (p : PanelPkt) : List Byte :=
  let w0 := p.dst.toNat + p.src.toNat * 2 ^ 10 + p.via.toNat * 2 ^ 20 + b2n p.leg * 2 ^ 30 + b2n p.tepoch * 2 ^ 31
    + p.payload.length % 2 ^ 14 * 2 ^ 32 + p.dkind.toNat * 2 ^ 46 + p.part.val * 2 ^ 48 + p.dedge.val * 2 ^ 50 + b2n p.dl * 2 ^ 54
    + p.hops % 256 * 2 ^ 56
  bytesOf 8 w0 ++ bytesOf 4 p.epoch.toNat ++ bytesOf 2 p.tag.toNat

/-- The bytes of a packet: header, CRC and payload. A packet whose CRC fails carries another CRC. -/
def panelBytes (p : PanelPkt) : List Byte :=
  let c := crc16 (panelHead p ++ p.payload)
  panelHead p ++ bytesOf 2 (if p.crcOk then c else Nat.xor c 1) ++ p.payload

/-- The packet that bytes spell. -/
def panelOf (bs : List Byte) : PanelPkt :=
  let w0 := natOf (bs.take 8)
  let pay := (bs.drop 16).take (bf w0 32 14)
  { dst := BitVec.ofNat 10 w0, src := BitVec.ofNat 10 (bf w0 10 10), via := BitVec.ofNat 10 (bf w0 20 10), leg := bf w0 30 1 == 1,
    tepoch := bf w0 31 1 == 1, dkind := BitVec.ofNat 2 (bf w0 46 2), part := Fin.ofNat 4 (bf w0 48 2), dedge := Fin.ofNat 16 (bf w0 50 4),
    dl := bf w0 54 1 == 1, hops := bf w0 56 8, epoch := BitVec.ofNat 32 (natOf ((bs.drop 8).take 4)),
    tag := BitVec.ofNat 16 (natOf ((bs.drop 12).take 2)),
    crcOk := natOf ((bs.drop 14).take 2) == crc16 (bs.take 14 ++ pay), payload := pay }

/-- Panel number (R367). -/
def panelId (s : State) : Nat := rf s SUO_PANEL Fd.SUO_PANEL_ID

/-- Copy that sources stamp. -/
def routeCur (s : State) : Nat := rf s SUO_RT_CTRL Fd.SUO_RT_CTRL_CUR

/-- TRUNK of a panel's route entry in a copy (R376). -/
def routeEntry (s : State) (copy panel : Nat) : Nat := bf (rd s (SUO_RTc_n copy (panel / 8))).toNat (8 * (panel % 8)) 4

/-- Members of a copy's Valiant domain (R376). -/
def valiant (s : State) (copy : Nat) : List Nat :=
  (List.range 1024).filter (fun i => (rd s (SUO_VDOMc_n copy (i / 64))).getLsbD (i % 64))

/-- Nanoseconds of TIME. -/
def nowNs (s : State) : Nat := timeSec s * 1_000_000_000 + timeNs s

/-- A packet leaves its source (R372): VIA, LEG, TEPOCH and HOPS are set and it enters the panel at edge die `e`. -/
def sourcePacket (s : State) (e : Nat) (p : PanelPkt) : State :=
  let cur := routeCur s
  let ms := (valiant s cur).filter (fun m => m != panelId s && m != p.dst.toNat)
  let x := Config.xorshift (edge s e).xor
  let via := if ms.isEmpty then p.dst.toNat else ms.getD (x.toNat % ms.length) p.dst.toNat
  let q := { p with src := BitVec.ofNat 10 (panelId s), via := BitVec.ofNat 10 via, leg := ms.isEmpty, tepoch := cur == 1, dl := false,
                    hops := 32 }
  modEdge s e (fun y => { y with
    xor := if ms.isEmpty then y.xor else x
    transit := y.transit ++ [⟨q, nowNs s, Option.none⟩] })

/-- Whether a port is a gateway port (R384, R478): outside every trunk. -/
def isGateway (s : State) (p : Nat) : Bool := bf (rd s FUSE_GATEWAY).toNat (4 * (p / 16)) 4 == p % 16

/-- Trunk of a port (R382, R384, R387). -/
def trunkOf (s : State) (p : Nat) : Nat := if isGateway s p then 0xF else bf (rd s (SUO_TRUNK_n (p / 16))).toNat (4 * (p % 16)) 4

/-- State of a port (R378). -/
def portState (s : State) (p : Nat) : Nat := rf s (SUO_PORTp_STATUS (p / 8) (p % 8)) Fd.SUO_PORTp_STATUS_STATE
def setPortStateField (s : State) (p v : Nat) : State := wf s (SUO_PORTp_STATUS (p / 8) (p % 8)) Fd.SUO_PORTp_STATUS_STATE v

/-- The usable ports of a trunk: READY or MAPPED (R371, R378). -/
def trunkPorts (s : State) (t : Nat) : List Nat :=
  (List.range 128).filter (fun p => trunkOf s p == t && (portState s p == 4 || portState s p == 5) && portEnabled s p)

/-- Where a packet goes next (R371). -/
inductive Hop where
  | drop
  | deliver
  | port (p : Nat)
deriving DecidableEq, Repr

/-- The packet after its local turn to leg 1, if it has reached its intermediate panel (R371). -/
def turnLeg (s : State) (p : PanelPkt) : PanelPkt :=
  if !p.leg && routeEntry s (b2n p.tepoch) p.via.toNat == 0xE then { p with leg := true, dl := false } else p

/-- Route a packet (R371). -/
def routePacket (s : State) (p : PanelPkt) : Hop :=
  let entry := routeEntry s (b2n p.tepoch) (if p.leg then p.dst.toNat else p.via.toNat)
  if entry = 0xE then (if p.leg then .deliver else .drop)
  else if entry < 7 then
    let ps := trunkPorts s entry
    let h := (crc32 (bytesOf 2 p.src.toNat ++ bytesOf 2 p.dst.toNat ++ bytesOf 2 p.via.toNat ++ bytesOf 2 p.tag.toNat)).toNat
    match ps[h % ps.length]? with
    | some q => .port q
    | Option.none => .drop
  else .drop

/-- The on-panel pieces of a packet towards another edge die (R373): at most 4,064 payload bytes each. -/
def piecesOf (from_ : Nat × Nat) (dst : Nat × Nat) (part : Nat) (tag : Nat) (p : PanelPkt) : List DynPkt :=
  let bs := panelBytes p
  (List.range ((bs.length + 4063) / 4064)).map (fun i =>
    { kind := if p.dkind = 2#2 then 6#4 else 1#4, dstUnit := BitVec.ofNat 4 dst.2, dstSite := dst.1, srcUnit := BitVec.ofNat 4 from_.2,
      srcSite := from_.1, part := Fin.ofNat 4 part, tag := BitVec.ofNat 16 tag, addr := BitVec.ofNat 48 (4064 * i), stream := 0#20,
      via := 0xFF#8, leg := false, crcOk := true, payload := (bs.drop (4064 * i)).take 4064 })

/-- A usable front site of an edge die and the edge unit code (3 A, 4 B) there (R225, R227). -/
def edgeSeat (s : State) (e : Nat) : Option (Nat × Nat) :=
  (List.range 3).findSome? (fun j =>
    let k := frontSite e j
    let b := if (edgePorts k)[0]? = some (e, j) then 0 else 1
    if edgePortUsable s k b then some (k, 3 + b) else Option.none)

/-- The pieces of one reassembly, in offset order, once all have come (R373). -/
def reassemble (ps : List DynPkt) : Option (List Byte) :=
  let at_ := fun (o : Nat) => ps.find? (fun p => p.addr.toNat == o)
  match at_ 0 with
  | Option.none => Option.none
  | some h =>
    let total := 16 + bf (natOf (h.payload.take 8)) 32 14
    let parts := (List.range ((total + 4063) / 4064)).map (fun i => at_ (4064 * i))
    if parts.all (fun p => p.isSome) then some (parts.flatMap (fun p => match p with | some q => q.payload | Option.none => [])) else Option.none

end Sys2Proof.Machine
end

