-- ==== Sys2Proof/Machine/Streams.lean ====
section
/-!
DEFINITION. Streams: the table and its entries (R313 to R319), the issue table (R320 to R323), the engines' caches and walks (R325 to R327),
moving data (R328 to R331, R334, R335), completion and deadlines (R332), failures (R337), and the stream commands.
-/
namespace Sys2Proof.Machine

/-! Entries (R314). -/

/-- Bits of word `i` of an entry. -/
def ew (w i lo n : Nat) : Nat := bf w (64 * i + lo) n

def eSrc (w : Nat) : Nat := ew w 0 0 3
def eDst (w : Nat) : Nat := ew w 0 3 3
def eExec (w : Nat) : Nat := ew w 0 6 4
def ePart (w : Nat) : Nat := ew w 0 10 2
def eComp (w : Nat) : Nat := ew w 0 12 2
def eSfmt (w : Nat) : Nat := ew w 0 14 1
def eKey (w : Nat) : Nat := ew w 0 16 5
def eSite (w : Nat) : Nat := ew w 0 24 8
def eSrcAddr (w : Nat) : Nat := ew w 1 0 48
def eDstAddr (w : Nat) : Nat := ew w 2 0 48
def eRow64 (w : Nat) : Nat := ew w 3 0 16
def eN1 (w : Nat) : Nat := ew w 3 16 16
def eN2 (w : Nat) : Nat := ew w 3 32 16
def eMatch (w : Nat) : Nat := ew w 6 0 16
def ePanel (w : Nat) : Nat := ew w 6 16 10
def eRedge (w : Nat) : Nat := ew w 6 26 4

/-- Bytes of a row and of the whole stream (R315). -/
def eRowBytes (w : Nat) : Nat := eRow64 w * 64
def eTotal (w : Nat) : Nat := eRowBytes w * eN1 w * eN2 w

/-- Address of row (a, b) on a side: `dst` chooses the destination (R315). -/
def rowAddr (i : IssueRec) (w : Nat) (dst : Bool) (a b : Nat) : Int :=
  let base : Int := if dst then eDstAddr w else eSrcAddr w
  let ofs : Int := if dst then i.ofsD.toInt else i.ofsS.toInt
  let word := if dst then 5 else 4
  base + 64 * (ofs + b * signed 32 (ew w word 0 32) + a * signed 32 (ew w word 32 32))

/-- Address of byte `n` of the stream on a side. -/
def byteAddr (i : IssueRec) (w : Nat) (dst : Bool) (n : Nat) : Nat :=
  let row := n / max 1 (eRowBytes w)
  (rowAddr i w dst (row / max 1 (eN1 w)) (row % max 1 (eN1 w)) + (n % max 1 (eRowBytes w) : Nat)).toNat

/-- First address and end of a side's bounding range. -/
def bounds (i : IssueRec) (w : Nat) (dst : Bool) : Int × Int :=
  let a := eN2 w - 1
  let b := eN1 w - 1
  let xs := [rowAddr i w dst 0 0, rowAddr i w dst a 0, rowAddr i w dst 0 b, rowAddr i w dst a b]
  (xs.foldl min (rowAddr i w dst 0 0), xs.foldl max (rowAddr i w dst 0 0) + (eRowBytes w : Nat))

/-- Whether the HBM side, if any, is the destination; kind 1 is HBM. -/
def hbmSides (w : Nat) : List Bool := (if eSrc w = 1 then [false] else []) ++ (if eDst w = 1 then [true] else [])
def basinSides (w : Nat) : List Bool := (if eSrc w = 2 then [false] else []) ++ (if eDst w = 2 then [true] else [])

/-- Bands that a range touches. -/
def bandsOf (lo hi : Int) : List Nat :=
  let a := lo.toNat
  let n := (hi.toNat - a + a % 0x4000_0000 + 0x3FFF_FFFF) / 0x4000_0000
  (List.range (min n 4096)).map (fun i => bandOf (a + i * 0x4000_0000))

/-- Whether a stream is spread: its HBM side lies in spread bands (R316). -/
def isSpread (s : State) (i : IssueRec) (w : Nat) : Bool :=
  (hbmSides w).any (fun d => bandSpread s (bandOf (bounds i w d).1.toNat))

/-- The participants of a spread stream of partition `p` (R316). -/
def participants (s : State) (p : Nat) : List Nat :=
  (List.range 16).filter (fun e => partOfEdge s e == p && (stackEnabled s (2 * e) || stackEnabled s (2 * e + 1)))

/-- Whether an HBM range lies wholly in enabled stacks of an edge die, under local interleave: at most two slices, the die's. An edge die without
an enabled stack has none (R31, R316). -/
def localTo (s : State) (e : Nat) (lo hi : Int) : Bool :=
  let own := fun (i : Nat) => match stackOfSlice s i with | some h => h / 2 == e && stackEnabled s h | Option.none => false
  let a := lo.toNat / 0x10_0000_0000
  let b := (hi.toNat - 1) / 0x10_0000_0000
  decide (0 ≤ lo) && Nat.ble b (a + 1) && own a && own b

/-- Reserved fields and ranges of an entry (R314); a stream of more than 64 GiB is none (R315). DEDUCED (log entry 135): test 1 of R317. -/
def entryClean (w : Nat) : Bool :=
  ew w 0 15 1 == 0 && ew w 0 21 3 == 0 && decide (eComp w < 3) && ew w 1 48 16 == 0 && ew w 2 48 16 == 0 && ew w 3 48 16 == 0
    && ew w 6 30 34 == 0 && ew w 7 0 32 == 0 && ew w 0 32 32 != 0 && eRow64 w != 0 && eN1 w != 0 && eN2 w != 0
    && eSrcAddr w % 64 == 0 && eDstAddr w % 64 == 0 && Nat.ble (eTotal w) 0x10_0000_0000

/-- The entry's CRC (R314). -/
def entryCrc (w : Nat) : Bool := (crc32 (bytesOf 60 w)).toNat == ew w 7 32 32

/-- Whether the kinds are permitted (R316); a local HBM side lies in the stacks of EXEC. -/
def kindsOk (s : State) (i : IssueRec) (w : Nat) : Bool :=
  let e := eExec w
  let spread := isSpread s i w
  let loc := (hbmSides w).all (fun d => spread || localTo s e (bounds i w d).1 (bounds i w d).2)
  let siteOk := eSite w == i.site
  match eSrc w, eDst w with
  | 1, 2 => siteOk && decide (eComp w < 2) && loc
  | 2, 1 => siteOk && decide (eComp w < 2) && loc
  | 1, 1 => eComp w == 0 && !spread && (hbmSides w).all (fun d => localTo s e (bounds i w d).1 (bounds i w d).2)
  | 2, 3 => siteOk
  | 3, 2 => siteOk
  | _, _ => false

/-- Whether an HBM range meets the stream table or the collector buffer, which streams do not reach (R313, R558). -/
def panelRange (s : State) (a n : Nat) : Bool :=
  meet a n (tableBase s) 0x400_0000 || meet a n (rd s PMU_BUF).toNat 0x400_0000

/-- Offsets of the sides that are on this panel, in 64-byte units (R320). -/
def sideOffsets (i : IssueRec) (w : Nat) : List W64 := (if eSrc w = 3 then [] else [i.ofsS]) ++ (if eDst w = 3 then [] else [i.ofsD])

/-- The first test of R317 that fails, in table order from 1; 0 if the stream is accepted. A spread range with a home in a stack that is not
enabled fails test 5. DEDUCED (log entry 135): R27 refuses such lines. -/
def streamCheck (s : State) (e : Nat) (i : IssueRec) (w : Nat) : Nat :=
  let spread := isSpread s i w
  let hb := hbmSides w
  let eb := if eSfmt w = 0 then 128 else 64
  if !entryCrc w || !entryClean w || !kindsOk s i w then 1
  else if ePart w ≠ i.part ∨ ePart w ≠ partOfEdge s e ∨ (!hb.isEmpty ∧ partOfKey s (eKey w) ≠ some (ePart w)) then 2
  else if !spread ∧ eExec w ≠ e then 3
  else if (basinSides w).any (fun d => decide ((bounds i w d).1 < 0 ∨ 0xC00_0000 < (bounds i w d).2)) ∨
      (!(basinSides w).isEmpty ∧ siteState s (eSite w) = 2) then 4
  else if hb.any (fun d =>
      let r := bounds i w d
      decide (r.1 < 0) || !inPartition s (ePart w) r.1.toNat (r.2 - r.1).toNat || panelRange s r.1.toNat (r.2 - r.1).toNat || (spread && !homesEnabled s r.1.toNat (r.2 - r.1).toNat) || (bandsOf r.1 r.2).any (fun q => bandSpread s q != spread)) then 5
  else if eComp w = 1 ∧ !(eRowBytes w % 256 == 0 && eSrcAddr w % 256 == 0 && eDstAddr w % 256 == 0 && ew w 4 0 32 % 4 == 0
      && ew w 4 32 32 % 4 == 0 && ew w 5 0 32 % 4 == 0 && ew w 5 32 32 % 4 == 0 && (sideOffsets i w).all (fun o => o.toNat % 4 == 0)) then 6
  else if eComp w = 2 ∧ eRowBytes w % eb ≠ 0 then 7
  else if spread ∧ (participants s (ePart w)).isEmpty then 8
  else 0

/-! The engine. -/

/-- Cache lookup; a hit becomes the most recent (R325). -/
def cacheGet (c : List (Nat × Nat)) (i : Nat) : Option Nat := (c.find? (fun p => p.1 == i)).map (fun p => p.2)

/-- The issues that wait for a walk: their entry is not cached (R326). -/
def walkWaiters (x : EdgeX) : List IssueRec := x.waitQ.filter (fun i => (cacheGet x.cache i.index).isNone)

/-- Whether a prefetch is under way: indices left, or a walk that no issue waits for (R327). -/
def prefetching (x : EdgeX) : Bool := x.prefetch.isSome || x.walks.any (fun w => !x.waitQ.any (fun i => i.index == w.index))

/-- Show the engine's counts and a prefetch in progress (R342). -/
def showEngine (s : State) (e : Nat) : State :=
  let x := edge s e
  wf (wr s (STM_ENG_STATUS e) (fset Fd.STM_ENG_STATUS_WALK_QUEUE (walkWaiters x).length (fset Fd.STM_ENG_STATUS_WALKS x.walks.length
    (fset Fd.STM_ENG_STATUS_ACTIVE x.strms.length 0#64)))) (STM_CACHE_CTRL e) Fd.STM_CACHE_CTRL_BUSY (if prefetching x then 1 else 0)

def cacheTouch (c : List (Nat × Nat)) (i : Nat) : List (Nat × Nat) := c.filter (fun p => p.1 == i) ++ c.filter (fun p => p.1 != i)

/-- Put an entry into its set, evicting the least recently used of four (R325). -/
def cachePut (c : List (Nat × Nat)) (i w : Nat) : List (Nat × Nat) :=
  let c := c.filter (fun p => p.1 != i)
  let same := c.filter (fun p => p.1 % 256 == i % 256)
  let drop := if 4 ≤ same.length then (same.getLast?).map (fun p => p.1) else Option.none
  (i, w) :: c.filter (fun p => some p.1 != drop)

/-- A stream fails: it waits for STREAM_FAIL (R337). Causes: 1 refused, 2 pair, 3 uncorrectable, 4 fourth drop, 5 fence. -/
def failStream (s : State) (e : Nat) (i : IssueRec) (cause check : Nat) : State :=
  modEdge s e (fun x => { x with
    failQ := if x.failQ.any (fun f => f.1 == i) then x.failQ else x.failQ ++ [(i, cause, check)]
    strms := x.strms.filter (fun t => t.issue != i) })

/-- Accept or refuse a stream whose entry is at hand (R317). With the first stream after a zeroise the partition's landings are taken again. -/
def acceptIssue (s : State) (e : Nat) (i : IssueRec) (w : Nat) : State :=
  let c := streamCheck s e i w
  if c = 0 then
    bump (modEdge (if (part s i.part).landsOff then modPart s i.part (fun y => { y with landsOff := false }) else s) e (fun x => { x with
      strms := x.strms ++ [⟨i, w, x.accepted, 0, 0, 0, [], 0⟩]
      accepted := x.accepted + 1
      drops := x.drops.filter (fun p => p.1 / 2 ^ 52 != i.index)
      past := if eSrc w = 3 then x.past.filter (fun t => !(ePanel t.entry == ePanel w && eMatch t.entry == eMatch w)) else x.past })) (STM_ACCEPTED e) 1
  else failStream s e i 1 c

/-- Start walks for waiting indices, at most 8 at once (R326), then for the prefetch range (R327). -/
def startWalks (s : State) (e : Nat) : Nat → State
  | 0 => s
  | n + 1 =>
    let x := edge s e
    if 8 ≤ x.walks.length then s
    else
      let go := fun (s : State) (i : Nat) => bump (modEdge s e (fun x => { x with walks := x.walks ++ [⟨i, false⟩] })) (STM_WALKS e) 1
      match x.waitQ.find? (fun i => !x.walks.any (fun w => w.index == i.index) && (cacheGet x.cache i.index).isNone) with
      | some i => startWalks (go s i.index) e n
      | Option.none =>
        match x.prefetch with
        | Option.none => s
        | some (i, left) =>
          let s := modEdge s e (fun x => { x with prefetch := if left ≤ 1 then Option.none else some (i + 1, left - 1) })
          startWalks (if x.walks.any (fun w => w.index == i) ∨ 2 ^ 20 ≤ i then s else go s i) e n

/-- Accept waiting issues whose entry is cached, while fewer than 64 streams are held (R328). -/
def pump (s : State) (e : Nat) : Nat → State
  | 0 => s
  | n + 1 =>
    let x := edge s e
    if 64 ≤ x.strms.length then s
    else
      match x.waitQ.find? (fun i => (cacheGet x.cache i.index).isSome) with
      | Option.none => s
      | some i =>
        let w := (cacheGet x.cache i.index).getD 0
        let s := modEdge s e (fun x => { x with waitQ := x.waitQ.erase i, cache := cacheTouch x.cache i.index })
        pump (acceptIssue s e i w) e n

/-- Whether an issue may join those that wait: its entry is cached, or fewer than 64 issues wait for a walk (R326). -/
def mayWait (x : EdgeX) (i : Nat) : Bool := (cacheGet x.cache i).isSome || Nat.blt (walkWaiters x).length 64

/-- Issues that came from a register or another engine while 64 waited join in turn. -/
def lateIssues (s : State) (e : Nat) : Nat → State
  | 0 => s
  | n + 1 =>
    match (edge s e).lateQ with
    | [] => s
    | i :: rest =>
      if mayWait (edge s e) i.index then lateIssues (modEdge s e (fun x => { x with lateQ := rest, waitQ := x.waitQ ++ [i] })) e n else s

/-- Take the engine's waiting work as far as it goes. -/
def settle (s : State) (e : Nat) : State :=
  showEngine (startWalks (pump (lateIssues (pump s e 65) e (edge s e).lateQ.length) e 65) e 9) e

/-- An issue reaches its engine: looked up in the same cycle (R325, R326). One that may not wait for a walk yet is kept back; only issues of
STM_ISSUE can be, since packets stay in the router (R326). -/
def takeIssue (s : State) (e : Nat) (i : IssueRec) : State :=
  let s := if (cacheGet (edge s e).cache i.index).isSome then bump s (STM_HITS e) 1 else s
  if i.index = 0 then failStream s e i 1 1
  else if mayWait (edge s e) i.index && (edge s e).lateQ.isEmpty then settle (modEdge s e (fun x => { x with waitQ := x.waitQ ++ [i] })) e
  else modEdge s e (fun x => { x with lateQ := x.lateQ ++ [i] })

/-- The issue that a STREAM_ISSUE packet carries (R323). -/
def issueOf (p : DynPkt) : IssueRec :=
  { index := p.stream.toNat, ofsS := BitVec.ofNat 64 (natOf (p.payload.take 8)), ofsD := BitVec.ofNat 64 (natOf ((p.payload.drop 8).take 8)),
    deadline := some (natOf ((p.payload.drop 16).take 8)), row := some (natOf ((p.payload.drop 24).take 1)), site := p.srcSite,
    part := p.part.val, host := Option.none }

/-- `STREAM_ISSUE` (R317, R325, R326): the engine takes the next STREAM_ISSUE packet, unless it misses and 64 issues wait for walks. -/
def execStreamIssue (e : Edge) (s : State) : Host.Outcome State Fault Refusal :=
  let x := edge s e.val
  match x.inbox.find? (fun p => p.kind == 3#4) with
  | Option.none => ok s
  | some p =>
    if !mayWait x p.stream.toNat then ok s
    else ok (takeIssue (modEdge s e.val (fun x => { x with inbox := x.inbox.erase p })) e.val (issueOf p))

/-- `TABLE_WALK_DONE` (R306, R319, R326): the 64 bytes of the entry are read under slot 0 and cached; a walk that a table write met walks
again; an uncorrectable error fails every stream that waits for it. -/
def execTableWalkDone (e : Edge) (index : BitVec 20) (err : Fin 4) (sym : Fin 64) (s : State) : Host.Outcome State Fault Refusal :=
  let i := index.toNat
  let e := e.val
  match (edge s e).walks.find? (fun w => w.index == i) with
  | Option.none => ok s
  | some w =>
    if w.redo then ok (modEdge s e (fun x => { x with walks := x.walks.map (fun y => if y = w then ⟨i, false⟩ else y) }))
    else
      let s := modEdge s e (fun x => { x with walks := x.walks.erase w })
      let a := tableBase s + 64 * i
      let m := meetError s a 64 1 err sym
      if m.2.isNone then
        let r := hbmReads (countHbm m.1 a 64 false) 0 a 64
        ok (settle (modEdge r.1 e (fun x => { x with cache := cachePut x.cache i (natOf r.2) })) e)
      else
        let s := hbmReport m.1 a false
        let lost := (edge s e).waitQ.filter (fun q => q.index == i)
        let s := modEdge s e (fun x => { x with waitQ := x.waitQ.filter (fun q => q.index != i) })
        ok (settle (lost.foldl (fun s q => failStream s e q 3 0) s) e)

/-! Completion at the engine. -/

/-- One participant of the STM_ISSUE stream `n` of engine `h` ends: the stream is complete once every one is, unless one has failed (R324). -/
def hostDone (s : State) (h n : Nat) (good : Bool) : State :=
  let a := STM_ISSUE_STATUS h
  match (edge s h).hostJobs.find? (fun j => j.1 == n) with
  | Option.none => s
  | some (_, left, failed) =>
    let bad := failed || !good
    let rest := (edge s h).hostJobs.filter (fun j => j.1 != n)
    let s := if good then s else modEdge s h (fun x => { x with jobsFailed := if x.jobsFailed.contains n then x.jobsFailed else x.jobsFailed ++ [n] })
    let s := if good then s else wf s a Fd.STM_ISSUE_STATUS_ERR 1
    if 1 < left then modEdge s h (fun x => { x with hostJobs := rest ++ [(n, left - 1, bad)] })
    else
      let s := modEdge s h (fun x => { x with hostJobs := rest })
      let s := if n + 1 = (edge s h).hostNext then wf s a Fd.STM_ISSUE_STATUS_BUSY 0 else s
      if bad then s else wf s a Fd.STM_ISSUE_STATUS_DONE ((rf s a Fd.STM_ISSUE_STATUS_DONE + 1) % 2 ^ 32)

/-- Whether a stream's D has passed: its site has gone beyond D, or is held at D for want of a stream (R332, R342). -/
def isLate (s : State) (k d : Nat) : Bool := Nat.blt d (scOf s k) || (d == scOf s k && (dom s k).causes.contains hDeadline)

/-- An engine has done its part of a stream (R332): counted, a notice where the kinds complete by notice. -/
def streamDone (s : State) (e : Nat) (t : Strm) (notice : Bool) : State :=
  let s := bump s (STM_COMPLETED e) 1
  let s := match t.issue.deadline with
    | some d => if isLate s t.issue.site d then bump s (STM_LATE e) 1 else s
    | Option.none => s
  let s := if notice && t.issue.host.isNone then modEdge s e (fun x => { x with notices := x.notices ++ [(t.issue.site, t.issue.index, false)] }) else s
  match t.issue.host with
  | some h => hostDone s h.1 h.2 true
  | Option.none => s

/-- Replace a stream's record. -/
def setStrm (s : State) (e : Nat) (t : Strm) : State :=
  modEdge s e (fun x => { x with strms := x.strms.map (fun y => if y.issue = t.issue then t else y) })

/-- Remove a stream. -/
def dropStrm (s : State) (e : Nat) (t : Strm) : State :=
  settle (modEdge s e (fun x => { x with strms := x.strms.filter (fun y => y.issue != t.issue) })) e

/-! Moving data (R328, R329). -/

/-- Whether a stream has a packet to move. -/
def hasWork (t : Strm) : Bool :=
  if eSrc t.entry = 3 then decide (t.out = 1 ∧ t.moved < eTotal t.entry)
  else if eDst t.entry = 3 then decide (t.moved < eTotal t.entry) || decide (t.got = eTotal t.entry)
  else decide (t.moved < eTotal t.entry)

/-- Order of R328: increasing D, those without a deadline last, then acceptance. -/
def strmBefore (a b : Strm) : Bool :=
  match a.issue.deadline, b.issue.deadline with
  | some x, some y => Nat.blt x y || (x == y && Nat.blt a.seq b.seq)
  | some _, Option.none => true
  | Option.none, some _ => false
  | Option.none, Option.none => Nat.blt a.seq b.seq

/-- The stream that moves next. -/
def nextStrm (ts : List Strm) : Option Strm :=
  match ts.filter hasWork with
  | [] => Option.none
  | t :: rest => some (rest.foldl (fun m x => if strmBefore x m then x else m) t)

/-- Bytes of the next chunk from position `n`: within a row, at most 15 blocks of 256 bytes, or what one zero run can cover, and within a
4 KiB granule of a spread side. -/
def chunkLen (w n a : Nat) (spread : Bool) : Nat :=
  let row := eRowBytes w - n % max 1 (eRowBytes w)
  let m := min (if eComp w = 1 then 0x10_0000 else 3840) row
  if spread then min m (4096 - a % 4096) else m

/-- Whether this engine moves the lines at an address: its own stacks, for a spread stream (R329). -/
def ownLine (s : State) (e a : Nat) (spread : Bool) : Bool := !spread || (stackOfAddr s a).map (fun h => h / 2) == some e

/-- A packet from an edge die to a unit of a site. -/
def edgePacket (s : State) (e kind dstUnit dstSite : Nat) (addr index tag : Nat) (payload : List Byte) : DynPkt :=
  let seat := (edgeSeat s e).getD (frontSite e 0, 3)
  { kind := BitVec.ofNat 4 kind, dstUnit := BitVec.ofNat 4 dstUnit, dstSite := dstSite, srcUnit := BitVec.ofNat 4 seat.2, srcSite := seat.1,
    part := Fin.ofNat 4 (partOfEdge s e), tag := BitVec.ofNat 16 tag, addr := BitVec.ofNat 48 addr, stream := BitVec.ofNat 20 index,
    via := 0xFF#8, leg := false, crcOk := true, payload := payload }

/-- Send a packet from an edge die. -/
def edgeSend (s : State) (e : Nat) (p : DynPkt) : State := modEdge s e (fun x => { x with outQ := x.outQ ++ [p] })

/-- The STREAM_FETCH of a chunk (R329): the basin word, the length, the byte position, which the answer returns, and COMP, by which the site sends
(R334); tagged by the stream's acceptance. -/
def fetchPacket (s : State) (e : Nat) (t : Strm) (n len : Nat) : DynPkt :=
  edgePacket s e 2 0 (eSite t.entry) (byteAddr t.issue t.entry false n / 4) t.issue.index (t.seq % 0x1_0000)
    (bytesOf 2 len ++ bytesOf 8 n ++ bytesOf 1 (eComp t.entry))

/-- Leading zero blocks of 256 bytes (R334). -/
def zeroRun : List Byte → Nat → Nat
  | _, 0 => 0
  | bs, n + 1 => if bs.length < 256 ∨ (bs.take 256).any (fun b => b != 0#8) then 0 else 1 + zeroRun (bs.drop 256) n

/-- Leading blocks that are not zero. -/
def dataRun : List Byte → Nat → Nat
  | _, 0 => 0
  | bs, n + 1 => if bs.length < 256 ∨ (bs.take 256).all (fun b => b == 0#8) then 0 else 1 + dataRun (bs.drop 256) n

/-- Send the next piece of a stream into a basin from bytes at hand: how many of them go, and the packet (R329, R334). -/
def basinPiece (s : State) (e : Nat) (t : Strm) (n : Nat) (bs : List Byte) : State × Nat :=
  let word := byteAddr t.issue t.entry true n / 4
  let send := fun (tag : Nat) (pay : List Byte) => edgeSend s e (edgePacket s e 1 0 (eSite t.entry) word t.issue.index tag pay)
  if eComp t.entry = 1 then
    let z := zeroRun bs 4096
    if z ≠ 0 then (bump (send (z - 1) []) (STM_ZERO e) (256 * z), 256 * z)
    else
      let d := 256 * dataRun bs 15
      (send 0 (bs.take d), d)
  else (send 0 bs, bs.length)

/-! MX-FP8 transport (R335). -/

/-- Elements of a row as numbers. -/
def mxElems (sfmt : Nat) (bs : List Byte) : List Num :=
  let w := if sfmt = 0 then 4 else 2
  (List.range (bs.length / w)).map (fun i => decodeElem (if sfmt = 0 then .fp32 else .bf16) (natOf ((bs.drop (w * i)).take w)))

/-- One group of up to 32 blocks on the wire: scale bytes, then element bytes. -/
def mxGroup (xs : List Num) : List Byte :=
  let blocks := (List.range (xs.length / 32)).map (fun i => quantMx .e4m3 .rne ((xs.drop (32 * i)).take 32) (List.replicate 32 0))
  blocks.map (fun b => BitVec.ofNat 8 b.1) ++ blocks.flatMap (fun b => b.2.map (fun e => BitVec.ofNat 8 e))

/-- A row on the wire. -/
def mxRow (sfmt : Nat) (bs : List Byte) : List Byte :=
  let xs := mxElems sfmt bs
  (List.range ((xs.length + 1023) / 1024)).flatMap (fun i => mxGroup ((xs.drop (1024 * i)).take 1024))

/-- A group from the wire: `n` blocks. -/
def unGroup (sfmt n : Nat) (bs : List Byte) : List Byte :=
  (List.range n).flatMap (fun i =>
    let sc := decodeScale .mx ((bs.getD i 0#8).toNat)
    ((bs.drop (n + 32 * i)).take 32).flatMap (fun b =>
      bytesOf (if sfmt = 0 then 4 else 2) (roundLane (if sfmt = 0 then .fp32 else .bf16) (Num.mul (decodeElem .e4m3 b.toNat) sc))))

/-- A row from the wire: `n` elements. -/
def unRow (sfmt n : Nat) (bs : List Byte) : List Byte :=
  (List.range ((n + 1023) / 1024)).flatMap (fun i =>
    let blocks := (min 1024 (n - 1024 * i)) / 32
    unGroup sfmt blocks (bs.drop (1056 * i)))

/-- The wire bytes of a REMOTE send from its source bytes. -/
def wireBytes (w : Nat) (bs : List Byte) : List Byte :=
  if eComp w = 2 then
    (List.range (eN1 w * eN2 w)).flatMap (fun r => mxRow (eSfmt w) ((bs.drop (r * eRowBytes w)).take (eRowBytes w)))
  else bs

/-- Wire length of a REMOTE stream. -/
def wireLen (w : Nat) : Nat :=
  if eComp w = 2 then
    let n := eRowBytes w / (if eSfmt w = 0 then 4 else 2)
    (n + n / 32) * (eN1 w * eN2 w)
  else eTotal w

/-- The destination bytes of a REMOTE receive from its wire bytes. -/
def unwire (w : Nat) (bs : List Byte) : List Byte :=
  if eComp w = 2 then
    let n := eRowBytes w / (if eSfmt w = 0 then 4 else 2)
    (List.range (eN1 w * eN2 w)).flatMap (fun r => unRow (eSfmt w) n (bs.drop (r * (n + n / 32))))
  else bs

/-- Gathered bytes in order of position. -/
def gatheredBytes (buf : List (Nat × List Byte)) (n : Nat) : List Byte :=
  (List.range n).map (fun i =>
    match buf.find? (fun p => decide (p.1 ≤ i ∧ i < p.1 + p.2.length)) with
    | some p => p.2.getD (i - p.1) 0#8
    | Option.none => 0#8)

/-- Payload of a panel STREAM packet (log entry 6): MATCH, COMP, the sending edge die, position and total of the wire bytes, the stream's byte
count, the zero blocks that it stands for (R334), then data. -/
def strmPayload (m comp pos total count zeros : Nat) (bs : List Byte) : List Byte :=
  bytesOf 2 m ++ bytesOf 2 comp ++ bytesOf 8 pos ++ bytesOf 8 total ++ bytesOf 8 count ++ bytesOf 2 zeros ++ bs

/-- The next segment of wire bytes from position `n`: the zero blocks it stands for, its data, and the bytes it covers. Under zero-block
compression runs stay within a row (R334). -/
def wireSegment (w n : Nat) (wire : List Byte) : Nat × List Byte × Nat :=
  let rest := wire.drop n
  if eComp w = 1 then
    let row := rest.take (eRowBytes w - n % max 1 (eRowBytes w))
    let z := zeroRun row 4096
    if z ≠ 0 then (z, [], 256 * z)
    else
      let d := row.take (256 * dataRun row 16)
      (0, d, d.length)
  else (0, rest.take 4096, (rest.take 4096).length)

/-- Send the next segment of a REMOTE stream towards its partner (R330, R334, R375), at most 4,096 of the stream unacknowledged. -/
def remoteSegment (s : State) (e : Nat) (t : Strm) : State :=
  let w := t.entry
  let wire := wireBytes w (gatheredBytes t.buf (eTotal w))
  if 4096 ≤ ((edge s e).unacked.filter (fun u => u.issue.index == t.issue.index)).length then s
  else
    let g := wireSegment w t.out wire
    let tag := sget (fun _ => 0) (edge s e).tagNext t.issue.index
    let p : PanelPkt :=
      { dst := BitVec.ofNat 10 (ePanel w), src := BitVec.ofNat 10 (panelId s), via := 0#10, leg := false, tepoch := false, dkind := 1#2,
        part := Fin.ofNat 4 (ePart w), dedge := Fin.ofNat 16 (eRedge w), dl := false, hops := 32, epoch := (part s (ePart w)).epoch,
        tag := BitVec.ofNat 16 tag, crcOk := true, payload := strmPayload (eMatch w) (eComp w + 256 * e) t.out wire.length (eTotal w) g.1 g.2.1 }
    let s := modEdge s e (fun x => { x with
      tagNext := sput (fun _ => 0) t.issue.index ((tag + 1) % 0x1_0000) x.tagNext
      unacked := x.unacked ++ [⟨p, nowNs s, t.issue, 0⟩] })
    let s := sourcePacket s e p
    let s := if g.1 = 0 then s else bump s (STM_ZERO e) g.2.2
    let t := { t with out := t.out + g.2.2 }
    if t.out < wire.length then setStrm s e t else dropStrm s e t

/-- One move of an HBM-to-basin stream. -/
def moveToBasin (s : State) (e : Nat) (t : Strm) (errs : List LineErr) : State :=
  let w := t.entry
  let spread := isSpread s t.issue w
  let a := byteAddr t.issue w false t.moved
  let n := chunkLen w t.moved a spread
  let finish := fun (s : State) (t : Strm) => if t.moved < eTotal w then setStrm s e t else dropStrm (streamDone s e t false) e t
  if !ownLine s e a spread then finish s { t with moved := t.moved + n }
  else
    let m := meetErrors s a n 0 errs
    match m.2 with
    | some l => failStream (hbmReport m.1 l false) e t.issue 3 0
    | Option.none =>
      let r := hbmReads m.1 (eKey w) a n
      let q := basinPiece r.1 e t t.moved r.2
      let q := (countHbm q.1 a q.2 false, q.2)
      finish (bump q.1 (STM_BYTES e) q.2) { t with moved := t.moved + q.2, asked := t.asked + q.2, got := t.got + q.2 }

/-- One move of a stream whose source is a basin: the next fetch (R329). -/
def moveFetch (s : State) (e : Nat) (t : Strm) : State :=
  let w := t.entry
  let spread := isSpread s t.issue w
  let a := byteAddr t.issue w true t.moved
  let n := min 3840 (if eDst w = 1 then chunkLen w t.moved a spread else chunkLen w t.moved 0 false)
  let own := eDst w != 1 || ownLine s e a spread
  let s := if own then edgeSend s e (fetchPacket s e t t.moved n) else s
  let t := { t with moved := t.moved + n, asked := if own then t.asked + n else t.asked }
  if t.moved < eTotal w ∨ t.got < t.asked ∨ eDst w = 3 then setStrm s e t else dropStrm (streamDone s e t true) e t

/-- One move of an HBM-to-HBM stream, inside the edge die. -/
def moveLocal (s : State) (e : Nat) (t : Strm) (errs : List LineErr) : State :=
  let w := t.entry
  let a := byteAddr t.issue w false t.moved
  let b := byteAddr t.issue w true t.moved
  let n := chunkLen w t.moved a false
  let m := meetErrors s a n 0 errs
  match m.2 with
  | some l => failStream (hbmReport m.1 l false) e t.issue 3 0
  | Option.none =>
    let r := hbmReads m.1 (eKey w) a n
    let s := countHbm (countHbm r.1 a n false) b n true
    let s := bump (hbmWrites s (eKey w) b r.2) (STM_BYTES e) n
    let t := { t with moved := t.moved + n, got := t.got + n }
    if t.moved < eTotal w then setStrm s e t else dropStrm (streamDone s e t true) e t

/-- A receive stream is over; the engine still knows it by its partner and MATCH (R375). -/
def keepPast (s : State) (e : Nat) (t : Strm) : State :=
  modEdge s e (fun x => { x with
    past := t :: x.past.filter (fun (y : Strm) => !(ePanel y.entry == ePanel t.entry && eMatch y.entry == eMatch t.entry)) })

/-- One move of a REMOTE receive whose whole data has come: the next piece into the basin. -/
def moveReceived (s : State) (e : Nat) (t : Strm) : State :=
  let w := t.entry
  let bs := unwire w (gatheredBytes t.buf (wireLen w))
  let n := chunkLen w t.moved 0 false
  let q := basinPiece s e t t.moved ((bs.drop t.moved).take n)
  let t := { t with moved := t.moved + q.2 }
  let s := bump q.1 (STM_BYTES e) q.2
  if t.moved < eTotal w then setStrm s e t else dropStrm (keepPast (streamDone s e t false) e t) e t

/-- `STREAM_MOVE` (R306, R328, R329): the stream with the earliest D moves one packet's worth. `errs` is what the lines read from HBM show. -/
def execStreamMove (e : Edge) (errs : List LineErr) (s : State) : Host.Outcome State Fault Refusal :=
  let e := e.val
  match nextStrm (edge s e).strms with
  | Option.none => ok s
  | some t =>
    match eSrc t.entry, eDst t.entry with
    | 1, 2 => ok (moveToBasin s e t errs)
    | 1, _ => ok (moveLocal s e t errs)
    | 2, 3 => if t.moved < eTotal t.entry then ok (moveFetch s e t) else ok (remoteSegment s e t)
    | 2, _ => ok (moveFetch s e t)
    | _, _ => ok (moveReceived s e t)

/-! Fetches. -/

/-- The error answer to a fetch: 0 a data access error, 1 an uncorrectable error, with the fetch it answers (log entry 6). -/
def errorAnswer (code : Byte) (p : DynPkt) : List Byte := code :: p.payload ++ bytesOf 4 p.addr.toNat

/-- An answer packet of a fetch: from position `pos`, with its tag. -/
def answerPacket (s : State) (k : Nat) (p : DynPkt) (pos : Nat) (tag : BitVec 16) (payload : List Byte) : DynPkt :=
  { kind := 1#4, dstUnit := p.srcUnit, dstSite := p.srcSite, srcUnit := 0#4, srcSite := k, part := Fin.ofNat 4 (partOfSite s k), tag := tag,
    addr := BitVec.ofNat 48 pos, stream := p.stream, via := 0xFF#8, leg := false, crcOk := true,
    payload := payload }

/-- The pieces in which a site sends what a fetch asked for: position, zero blocks, data (R334). -/
def answerRuns : Nat → Nat → List Byte → List (Nat × Nat × List Byte)
  | 0, _, _ => []
  | n + 1, pos, bs =>
    if bs.isEmpty then []
    else
      let z := zeroRun bs 4096
      if z ≠ 0 then (pos, z, []) :: answerRuns n (pos + 256 * z) (bs.drop (256 * z))
      else
        let d := 256 * max 1 (dataRun bs 15)
        (pos, 0, bs.take d) :: answerRuns n (pos + d) (bs.drop d)

/-- The packets that answer a fetch with data: one, or under zero-block compression one per run, LEN = 0 for a run of zero blocks (R329, R334). -/
def answerPackets (s : State) (k : Nat) (p : DynPkt) (bs : List Byte) : List DynPkt :=
  let pos := natOf ((p.payload.drop 2).take 8)
  if p.payload.getD 10 0#8 = 1#8 then
    (answerRuns (bs.length + 1) pos bs).map (fun r => answerPacket s k p r.1 (if r.2.1 = 0 then p.tag else BitVec.ofNat 16 (r.2.1 - 1)) r.2.2)
  else [answerPacket s k p pos p.tag bs]

/-- Lines that a basin range touches. -/
def linesOf (word bytes : Nat) : List Nat := (List.range ((word % 16 * 4 + bytes + 63) / 64)).map (fun i => word / 16 + i)

/-- `STREAM_FETCH_SERVE` (R188, R192, R194, R329, R331): the site reads its basin through the maintenance port at idle bank cycles and returns
STREAM_DATA. `timeout` is whether no idle cycle was found in time; `errs` is what the rows show. -/
def execStreamFetchServe (k : Site) (timeout : Bool) (errs : List BankErr) (s : State) : Host.Outcome State Fault Refusal :=
  let k := k.val
  match (site s k).inbox.find? (fun p => p.kind == 2#4) with
  | Option.none => ok s
  | some p =>
    let word := p.addr.toNat
    let n := natOf (p.payload.take 2)
    let ls := linesOf word n
    let send := fun (s : State) (qs : List DynPkt) => modSite s k (fun x => { x with inbox := x.inbox.erase p, outQ := x.outQ ++ qs })
    let answer := fun (s : State) (pay : List Byte) => send s [answerPacket s k p (natOf ((p.payload.drop 2).take 8)) p.tag pay]
    if timeout ∨ ls.any (fun l => zeroFilling s k (l / 16384)) ∨ 0x300_0000 < word + n / 4 then ok (answer s (errorAnswer 0#8 p))
    else if !ls.all (fun l => maintFree s k mDynamic (bankOfLine l) (rowOfLine l)) then ok s
    else
      let s := ls.foldl (fun s l => useBanks s k (bankOfLine l) (rowOfLine l)) s
      let s := bump s (BSN_MAINT_ACC k) ls.length
      let s := errs.foldl (fun s e => eccLog s k 2 e) s
      if errs.any (fun e => e.ue) then ok (answer s (errorAnswer 1#8 p))
      else ok (send s (answerPackets s k p (memReads s (wordAddr k word) n)))

/-- The held stream that a fetch or its answer belongs to: by index and acceptance tag; the TAG of an answer with LEN = 0 counts zero blocks. -/
def fetchOwner (x : EdgeX) (p : DynPkt) : Option Strm :=
  x.strms.find? (fun t => t.issue.index == p.stream.toNat && eSrc t.entry == 2
    && ((p.kind == 1#4 && p.payload.isEmpty) || t.seq % 0x1_0000 == p.tag.toNat))

/-- Whether an answer reports an error rather than data. -/
def isErrorAnswer (p : DynPkt) : Bool := p.payload.length % 64 != 0

/-- The bytes that an answer stands for: those of the fetch, for an error (R331). -/
def answerLen (p : DynPkt) : Nat :=
  if p.payload.isEmpty then 256 * (p.tag.toNat % 4096 + 1)
  else if isErrorAnswer p then natOf ((p.payload.drop 1).take 2)
  else p.payload.length

/-- An engine takes a fetch answer (R329, R331): HBM is written, or a REMOTE send gathered. -/
def engineData (s : State) (e : Nat) (p : DynPkt) : State :=
  match fetchOwner (edge s e) p with
  | Option.none => s
  | some t =>
    let pos := p.addr.toNat
    if isErrorAnswer p then
      if p.payload.headD 0#8 = 1#8 then failStream s e t.issue 3 0
      else modEdge s e (fun x => { x with dropped := x.dropped ++ [fetchPacket s e t pos (answerLen p)] })
    else
      let n := answerLen p
      let bs := if p.payload.isEmpty then List.replicate n 0#8 else p.payload
      let t' := { t with got := t.got + n }
      let s := bump s (STM_BYTES e) n
      if eDst t.entry = 1 then
        let a := byteAddr t.issue t.entry true pos
        let s := countHbm (hbmWrites s (eKey t.entry) a bs) a n true
        if t'.moved = eTotal t.entry ∧ t'.asked ≤ t'.got then dropStrm (streamDone s e t' true) e t' else setStrm s e t'
      else
        let t' := { t' with buf := t'.buf ++ [(pos, bs)] }
        let s := setStrm s e t'
        if t'.got = eTotal t.entry then streamDone s e t' true else s

/-- The issue of a stream whose data has all been sent, from one of its packets to the basin. -/
def sentIssue (p : DynPkt) : IssueRec :=
  { index := p.stream.toNat, ofsS := 0#64, ofsD := 0#64, deadline := Option.none, row := Option.none, site := p.dstSite, part := p.part.val,
    host := Option.none }

/-- `STREAM_PACKET_RESEND` (R331): a dropped packet goes again, up to three times; a fourth drop fails the stream. -/
def execStreamPacketResend (e : Edge) (s : State) : Host.Outcome State Fault Refusal :=
  let e := e.val
  match (edge s e).dropped with
  | [] => ok s
  | p :: rest =>
    let key := p.stream.toNat * 2 ^ 52 + p.kind.toNat * 2 ^ 48 + p.addr.toNat
    let n := sget (fun _ => 0) (edge s e).drops key + 1
    let s := modEdge s e (fun x => { x with dropped := rest, drops := sput (fun _ => 0) key n x.drops })
    if n < 4 then ok (bump (edgeSend s e p) (STM_RESENDS e) 1)
    else
      let own := if p.kind = 2#4 then fetchOwner (edge s e) p else (edge s e).strms.find? (fun t => t.issue.index == p.stream.toNat)
      match own with
      | some t => ok (failStream s e t.issue 4 0)
      | Option.none => ok (if p.kind = 2#4 then s else failStream s e (sentIssue p) 4 0)

/-! REMOTE pairing (R330). -/

/-- Fields of a panel STREAM payload. -/
def spMatch (p : PanelPkt) : Nat := natOf (p.payload.take 2)
def spComp (p : PanelPkt) : Nat := natOf ((p.payload.drop 2).take 1)
def spEdge (p : PanelPkt) : Nat := natOf ((p.payload.drop 3).take 1) % 16
def spPos (p : PanelPkt) : Nat := natOf ((p.payload.drop 4).take 8)
def spTotal (p : PanelPkt) : Nat := natOf ((p.payload.drop 12).take 8)
def spCount (p : PanelPkt) : Nat := natOf ((p.payload.drop 20).take 8)
def spZeros (p : PanelPkt) : Nat := natOf ((p.payload.drop 28).take 2)

/-- The wire bytes that a packet carries, or stands for (R334). -/
def spData (p : PanelPkt) : List Byte := if spZeros p = 0 then p.payload.drop 30 else List.replicate (256 * spZeros p) 0#8

/-- The accepted receive stream that a packet pairs with. -/
def pairOf (ts : List Strm) (p : PanelPkt) : Option Strm :=
  ts.find? (fun t => eSrc t.entry == 3 && ePanel t.entry == p.src.toNat && eMatch t.entry == spMatch p)

/-- Bytes of a list of panel packets. -/
def heldBytes (ps : List PanelPkt) : Nat := ps.foldl (fun n p => n + p.payload.length) 0

/-- Whether a packet disagrees with its receive stream in byte count or COMP (R330). -/
def pairBad (t : Strm) (p : PanelPkt) : Bool := spTotal p != wireLen t.entry || spCount p != eTotal t.entry || spComp p != eComp t.entry

/-- Give a packet's data to its receive stream; a disagreement fails the pair. A repeated packet writes the same bytes again and counts
once (R375). -/
def pairData (s : State) (e : Nat) (t : Strm) (p : PanelPkt) : State :=
  if pairBad t p then failStream s e t.issue 2 0
  else
    let fresh := !t.buf.any (fun b => b.1 == spPos p)
    let t' := { t with
      buf := t.buf.filter (fun (b : Nat × List Byte) => b.1 != spPos p) ++ [(spPos p, spData p)]
      got := if fresh then t.got + (spData p).length else t.got }
    setStrm s e { t' with out := if wireLen t.entry ≤ t'.got then 1 else 0 }

/-- What recognises a repeated packet (R375): source panel, MATCH, epoch and TAG. -/
def tagKey (p : PanelPkt) : Nat × Nat × Nat × Nat := (p.src.toNat, spMatch p, p.epoch.toNat, p.tag.toNat)

/-- Record a TAG: the last 32,768 of each stream are kept (R375). -/
def noteTag (s : State) (e : Nat) (p : PanelPkt) : State :=
  let k := tagKey p
  let mine := fun (q : Nat × Nat × Nat × Nat) => q.1 == k.1 && q.2.1 == k.2.1
  modEdge s e (fun x => { x with seen := (k :: x.seen.filter mine).take 32_768 ++ x.seen.filter (fun q => !mine q) })

/-- COMP of the packet by which a receiving engine tells the sending one that their pair disagrees (log entry 6). -/
def pairFailComp : Nat := 0xFF

/-- That packet. -/
def pairFailPacket (s : State) (e : Nat) (p : PanelPkt) : PanelPkt :=
  { dst := p.src, src := BitVec.ofNat 10 (panelId s), via := 0#10, leg := false, tepoch := false, dkind := 1#2, part := 0, dedge := Fin.ofNat 16 (spEdge p),
    dl := false, hops := 32, epoch := 0#32, tag := 0#16, crcOk := true, payload := strmPayload (spMatch p) (pairFailComp + 256 * e) 0 0 0 0 [] }

/-- The destination bytes, from and to, that a packet's wire bytes decide: whole rows under MX-FP8. -/
def packetSpan (w : Nat) (p : PanelPkt) : Nat × Nat :=
  let n := (spData p).length
  if eComp w = 2 then
    let row := max 1 (wireLen w / max 1 (eN1 w * eN2 w))
    (spPos p / row * eRowBytes w, (spPos p + n + row - 1) / row * eRowBytes w)
  else (spPos p, spPos p + n)

/-- Send a span of a receive stream's bytes into the basin again, outside the stream's own count: the packets name no stream. -/
def againPieces (s : State) (e : Nat) (t : Strm) (bs : List Byte) : Nat → Nat → Nat → State
  | 0, _, _ => s
  | n + 1, pos, hi =>
    if hi ≤ pos then s
    else
      let len := min (hi - pos) (chunkLen t.entry pos 0 false)
      let q := basinPiece s e { t with issue := { t.issue with index := 0 } } pos ((bs.drop pos).take len)
      againPieces q.1 e t bs n (pos + max 64 q.2) hi

/-- A repeated packet writes the same bytes to the same places again, as far as they have been written (R375). -/
def writeAgain (s : State) (e : Nat) (t : Strm) (p : PanelPkt) : State :=
  let sp := packetSpan t.entry p
  let hi := min sp.2 t.moved
  againPieces s e t (unwire t.entry (gatheredBytes t.buf (wireLen t.entry))) (hi - sp.1) sp.1 hi

/-- A packet meets its receive stream: a repeated one is counted once and writes again (R375); a disagreement fails the pair at both ends (R330). -/
def takeData (s : State) (e : Nat) (t : Strm) (p : PanelPkt) : State :=
  if (edge s e).seen.contains (tagKey p) then writeAgain (pairData s e t p) e t p
  else
    let s := noteTag (pairData s e t p) e p
    if pairBad t p then sourcePacket s e (pairFailPacket s e p) else s

/-- The send stream that a partner reports: one still held, or one with packets unacknowledged. -/
def sendOf (x : EdgeX) (p : PanelPkt) : Option IssueRec :=
  match x.strms.find? (fun t => eDst t.entry == 3 && ePanel t.entry == p.src.toNat && eMatch t.entry == spMatch p) with
  | some t => some t.issue
  | Option.none => (x.unacked.find? (fun u => u.pkt.dst == p.src && spMatch u.pkt == spMatch p)).map (fun u => u.issue)

/-- A packet from a partner panel at the head of the engine: the partner's report of a disagreement; data with its stream; a repeated packet
of a stream that is over, which writes again (R375); or data whose stream is not accepted yet, which waits in the rendezvous buffer. -/
def takeArrived (s : State) (e : Nat) (p : PanelPkt) (rest : List PanelPkt) : State :=
  let x := edge s e
  let s' := modEdge s e (fun x => { x with arrived := rest })
  if spComp p = pairFailComp then
    match sendOf x p with
    | some i => failStream (modEdge s' e (fun x => { x with unacked := x.unacked.filter (fun u => u.issue != i) })) e i 2 0
    | Option.none => s'
  else
    match pairOf x.strms p with
    | some t => takeData s' e t p
    | Option.none =>
      if x.seen.contains (tagKey p) then
        match pairOf x.past p with
        | some t => writeAgain s' e t p
        | Option.none => s'
      else modEdge s' e (fun x => { x with rend := x.rend ++ [p] })

/-- `REMOTE_PAIRING` (R330, R375): the oldest packet in the rendezvous buffer whose stream has been accepted goes to it, else the oldest
arrived packet is taken. -/
def execRemotePairing (e : Edge) (s : State) : Host.Outcome State Fault Refusal :=
  let e := e.val
  let x := edge s e
  match x.rend.find? (fun p => (pairOf x.strms p).isSome) with
  | some p =>
    match pairOf x.strms p with
    | some t => ok (takeData (modEdge s e (fun x => { x with rend := x.rend.erase p })) e t p)
    | Option.none => ok s
  | Option.none =>
    match x.arrived with
    | [] => ok s
    | p :: rest => ok (takeArrived s e p rest)

/-! Fences (R337). -/

/-- Whether stack `h` serves a stream (R310, R311). -/
def usesStack (s : State) (t : Strm) (h : Nat) : Bool :=
  if isSpread s t.issue t.entry then stackEnabled s h && partOfEdge s (h / 2) == ePart t.entry
  else (hbmSides t.entry).any (fun d =>
    let r := bounds t.issue t.entry d
    stackOfAddr s r.1.toNat == some h || stackOfAddr s (r.2.toNat - 1) == some h)

/-- Every stream that a fence meets while it runs stops and fails with cause 5; `hit` says which, by engine. -/
def failFenced (s : State) (hit : Nat → Strm → Bool) : State :=
  (List.range 16).foldl (fun r e => ((edge s e).strms.filter (hit e)).foldl (fun r t => failStream r e t.issue 5 0) r) s

/-! The issue table (R321, R322, R332). -/

/-- Key of an issue-table row: word 0 + 2^64 * word 1. -/
def sitKey (k row : Nat) : Nat := tk 10 + k * 256 + row
def sitRow (s : State) (k row : Nat) : Nat := tab s (sitKey k row)

/-- The armed record of a row. -/
def armOf (s : State) (k row : Nat) : Option SitArm := (site s k).arms.find? (fun a => a.row == row)

/-- The usable path to an edge die through its front site `j` (R322): the site and the unit code there. -/
def pathTo (s : State) (e j : Nat) : Option (Nat × Nat) :=
  let k := frontSite e j
  let b := if (edgePorts k)[0]? = some (e, j) then 0 else 1
  if siteState s k != 2 && edgePortUsable s k b && edgeInService s e then some (k, 3 + b) else Option.none

/-- The front site of a participant: j = 1, or the lowest that is not a hole (R323). -/
def partFront (s : State) (e : Nat) : Nat :=
  if siteState s (frontSite e 1) != 2 then 1 else if siteState s (frontSite e 0) != 2 then 0 else 2

/-- Destinations of a stream issue: (engine, front site j). -/
def issueTargets (s : State) (k row : Nat) : List (Nat × Nat) :=
  if bf row 29 1 = 1 then (participants s (partOfSite s k)).map (fun e => (e, partFront s e)) else [(bf row 23 4, bf row 27 2)]

/-- Record a stream fault (R322). -/
def streamFault (s : State) (k cause row core sc : Nat) : State :=
  let fresh := rf s (SITE_STRM_SFAULT k) Fd.SITE_STRM_SFAULT_VALID == 0
  let s := rise s (SITE_STRM_SFAULT k) Fd.SITE_STRM_SFAULT_VALID 1
  let s :=
    if rf s (SITE_STRM_SFAULT k) Fd.SITE_STRM_SFAULT_VALID = 1 then s
    else wr (wr s (SITE_STRM_SFAULT k) (fset Fd.SITE_STRM_SFAULT_VALID 1 (fset Fd.SITE_STRM_SFAULT_CORE core
      (fset Fd.SITE_STRM_SFAULT_ROW row (fset Fd.SITE_STRM_SFAULT_CAUSE cause 0#64))))) (SITE_STRM_SFAULT_SC k) (BitVec.ofNat 64 sc)
  siteScheduleFault s k fresh (mkEvent s 1 1 3 k cause sc (rd s (SITE_STRM_SFAULT k)) (BitVec.ofNat 64 sc) 0#64 (some (k, hFault)) Option.none)

/-- The cause of R322 that applies, 0 if none. -/
def issueCause (s : State) (k : Nat) (q : StrmReq) : Nat :=
  let row := sitRow s k q.row
  if bf row 20 1 = 0 ∨ bf row 0 20 ≠ q.index then 1
  else if (armOf s k q.row).isSome then 2
  else if (site s k).arms.any (fun a => a.stream == q.index) then 3
  else
    let ts := issueTargets s k row
    if ts.isEmpty ∨ ts.any (fun t => (pathTo s t.1 t.2).isNone) then 4 else 0

/-- One STRM at t + 1 (R322, R323). -/
def processStrm (s : State) (k : Nat) (q : StrmReq) : State :=
  let row := sitRow s k q.row
  let c := issueCause s k q
  if c ≠ 0 then streamFault s k c q.row q.core q.sc
  else
    let d := q.sc - 1 + bf row 32 32
    let s := if bf row 21 2 = 0 then s else modSite s k (fun x => { x with arms := x.arms ++ [⟨q.row, q.index, bf row 21 2, d, 0, 0, false, false⟩] })
    let pay := bytesOf 8 q.ofsS.toNat ++ bytesOf 8 q.ofsD.toNat ++ bytesOf 8 d ++ bytesOf 8 q.row
    let s := (issueTargets s k row).foldl (fun s t =>
      match pathTo s t.1 t.2 with
      | Option.none => s
      | some p =>
        let pkt : DynPkt :=
          { kind := 3#4, dstUnit := BitVec.ofNat 4 p.2, dstSite := p.1, srcUnit := 0#4, srcSite := k, part := Fin.ofNat 4 (partOfSite s k),
            tag := 0#16, addr := 0#48, stream := BitVec.ofNat 20 q.index, via := 0xFF#8, leg := false, crcOk := true, payload := pay }
        modSite s k (fun x => { x with outQ := x.outQ ++ [pkt] })) s
    bump s (SITE_STRM_ISSUED k) 1

/-- Requests by SC, then in increasing core index. -/
def insCore (q : StrmReq) : List StrmReq → List StrmReq
  | [] => [q]
  | x :: xs => if q.sc < x.sc ∨ (q.sc = x.sc ∧ q.core < x.core) then q :: x :: xs else x :: insCore q xs

/-- `STREAM_ISSUE_PROCESS` (R322, R323). -/
def execStreamIssueProcess (k : Site) (s : State) : Host.Outcome State Fault Refusal :=
  let k := k.val
  if held s k then ok s
  else
    let due := (site s k).strmQ.filter (fun q => Nat.ble q.sc (scOf s k))
    let s := modSite s k (fun x => { x with strmQ := x.strmQ.filter (fun q => !Nat.ble q.sc (scOf s k)) })
    ok ((due.foldr insCore []).foldl (fun s q => processStrm s k q) s)

/-- `STREAM_ISSUE_RESEND` (R323). -/
def execStreamIssueResend (k : Site) (s : State) : Host.Outcome State Fault Refusal :=
  match (site s k.val).dropped with
  | [] => ok s
  | p :: rest => ok (modSite s k.val (fun x => { x with dropped := rest, outQ := x.outQ ++ [p] }))

/-- Whether a row has what completes it (R332). -/
def armComplete (s : State) (k : Nat) (a : SitArm) : Bool :=
  let row := sitRow s k a.row
  !a.failed && (if a.check = 1 then decide (bf row 64 40 ≤ a.bytes) else decide (bf row 104 5 ≤ a.notices))

/-- Change the armed row of a stream, and mark it complete when it is. -/
def modArm (s : State) (k stream : Nat) (f : SitArm → SitArm) : State :=
  modSite s k (fun x => { x with arms := x.arms.map (fun (a : SitArm) =>
    if a.stream = stream then let b := f a; { b with complete := armComplete s k b } else a) })

/-- Bytes of a stream land at the site (R332, R340). -/
def landed (s : State) (k stream n : Nat) : State :=
  bump (modArm s k stream (fun a => if a.check = 1 then { a with bytes := a.bytes + n } else a)) (SITE_STRM_LANDED k) n

/-- `SITE_SIT_NOTIFY` (R332, R337): the engine's next notice reaches the issuing site. -/
def execSiteSitNotify (e : Edge) (s : State) : Host.Outcome State Fault Refusal :=
  match (edge s e.val).notices with
  | [] => ok s
  | (k, i, fail) :: rest =>
    let s := modEdge s e.val (fun x => { x with notices := rest })
    ok (modArm s k i (fun a => if fail then { a with failed := true } else if a.check = 2 then { a with notices := a.notices + 1 } else a))

/-- `DEADLINE_CHECK` (R332): at the edge of SC D a complete row retires; one that is not raises a DEADLINE hold. -/
def execDeadlineCheck (k : Site) (s : State) : Host.Outcome State Fault Refusal :=
  let k := k.val
  let sc := scOf s k
  if held s k then ok s
  else
    let s := modSite s k (fun x => { x with arms := x.arms.filter (fun (a : SitArm) => !(a.complete && Nat.ble a.deadline sc)) })
    match (site s k).arms.find? (fun a => Nat.ble a.deadline sc) with
    | Option.none => ok s
    | some a =>
      let s := rise (wr s (SITE_STRM_DL k) (fset Fd.SITE_STRM_DL_VALID 1 (fset Fd.SITE_STRM_DL_ROW a.row 0#64)))
        (SITE_STRM_DL k) Fd.SITE_STRM_DL_VALID 1
      ok (raiseHold (bump s (SITE_STRM_DL_HOLDS k) 1) k hDeadline 0)

/-- `STREAM_COMPLETE` (R332): a stream that held the site is complete: its row retires, and the DEADLINE cause clears once none is overdue. -/
def execStreamComplete (k : Site) (row : Fin 256) (s : State) : Host.Outcome State Fault Refusal :=
  let k := k.val
  let sc := scOf s k
  match armOf s k row.val with
  | Option.none => ok s
  | some a =>
    if a.complete ∧ a.deadline ≤ sc ∧ (dom s k).causes.contains hDeadline then
      let s := modSite s k (fun x => { x with arms := x.arms.erase a })
      ok (if (site s k).arms.any (fun b => Nat.ble b.deadline sc && !b.complete) then s else clearCause s k hDeadline)
    else ok s

/-- `STREAM_FAIL` (R337): the engine records the failure, sends a notice with FAIL, raises FAULT or ERROR and reports. -/
def execStreamFail (e : Edge) (s : State) : Host.Outcome State Fault Refusal :=
  let e := e.val
  match (edge s e).failQ with
  | [] => ok s
  | (i, cause, check) :: rest =>
    let s := modEdge s e (fun x => { x with
      failQ := rest
      notices := if i.host.isSome then x.notices else x.notices ++ [(i.site, i.index, true)] })
    let d := 144 + e
    let sc := scOf s d
    let s := rise s (STM_SERR e) Fd.STM_SERR_VALID 1
    let s :=
      if rf s (STM_SERR e) Fd.STM_SERR_VALID = 1 then s
      else wr (wr s (STM_SERR e) (fset Fd.STM_SERR_VALID 1 (fset Fd.STM_SERR_SITE i.site (fset Fd.STM_SERR_INDEX i.index
        (fset Fd.STM_SERR_CHECK check (fset Fd.STM_SERR_CAUSE cause 0#64)))))) (STM_SERR_SC e) (BitVec.ofNat 64 sc)
    let s := match i.host with | some h => hostDone s h.1 h.2 false | Option.none => s
    let soft := decide (cause ≤ 2)
    let h := if soft then hFault else hError
    let s := raiseHold (settle s e) d h 0
    let ev := mkEvent s (if soft then 1 else 2) 1 5 e cause sc (rd s (STM_SERR e)) (rd s (STM_SERR_SC e)) 0#64 (some (d, h)) Option.none
    ok (report s { ev with part := some i.part })

/-! Landing (R230). -/

/-- The bytes of a STREAM_DATA packet by basin line: LEN = 0 is a run of zero blocks (R334). -/
def landingOf (p : DynPkt) : Landing :=
  let bs := if p.payload.isEmpty then List.replicate (256 * (p.tag.toNat % 4096 + 1)) 0#8 else p.payload
  ⟨p, (List.range ((bs.length + 63) / 64)).map (fun i => (p.addr.toNat + 16 * i, (bs.drop (64 * i)).take 64)), false⟩

/-- Whether a landing may write a line now: the schedule leaves its bank idle, and nothing has used it in this cycle (R180, R230). -/
def lineFree (s : State) (k : Nat) (p : Nat × List Byte) : Bool :=
  let bank := bankOfLine (p.1 / 16)
  let row := rowOfLine (p.1 / 16)
  bankIdle s k bank row && !banksMeet (rowBanks s k bank row) (site s k).mused

/-- Write up to `n` lines whose banks are free, one access per bank, and say which are left and how many bytes went. -/
def landLines (s : State) (k : Nat) : Nat → List (Nat × List Byte) → State × List (Nat × List Byte) × Nat
  | 0, ls => (s, ls, 0)
  | _, [] => (s, [], 0)
  | n + 1, p :: ls =>
    if lineFree s k p then
      let r := landLines (memWrites (useBanks s k (bankOfLine (p.1 / 16)) (rowOfLine (p.1 / 16))) (wordAddr k p.1) p.2) k n ls
      (r.1, r.2.1, r.2.2 + p.2.length)
    else
      let r := landLines s k (n + 1) ls
      (r.1, p :: r.2.1, r.2.2)

/-- `STREAM_DATA_LAND` (R230, R332): an open BW port moves up to 256 bytes of the oldest landing that no port has served in this cycle, into lines
whose banks the schedule leaves idle. -/
def execStreamDataLand (k : Site) (s : State) : Host.Outcome State Fault Refusal :=
  let k := k.val
  match (site s k).landQ.find? (fun l => !l.busy) with
  | Option.none => ok s
  | some l =>
    if !bwOpen s k then ok s
    else
      let r := landLines s k 4 l.lines
      if r.2.2 = 0 then ok s
      else
      let s := landed r.1 k l.pkt.stream.toNat r.2.2
      ok (modSite s k (fun x => { x with
        bwUsed := x.bwUsed + 1
        landQ := if r.2.1.isEmpty then x.landQ.erase l else x.landQ.map (fun y => if y = l then ⟨l.pkt, r.2.1, true⟩ else y) }))

/-! Registers (R324, R327, R319, R340, R343). -/

/-- The engines that a host issue of an entry goes to: every participant of a spread stream (R324). -/
def hostTargets (s : State) (e : Nat) (i : IssueRec) (w : Nat) : List Nat :=
  if isSpread s i w && eSrc w != 0 then participants s (ePart w) else [e]

/-- A write of STM_ISSUE: one stream, no row, no deadline (R324). -/
def writeStmIssue (s : State) (e : Nat) (v : W64) : State :=
  let i : IssueRec :=
    { index := fget Fd.STM_ISSUE_INDEX v, ofsS := 0#64, ofsD := 0#64, deadline := Option.none, row := Option.none, site := frontSite e 0,
      part := partOfEdge s e, host := some (e, (edge s e).hostNext) }
  let w := hbmLine s 0 (tableBase s + 64 * i.index)
  let ts := hostTargets s e i w
  let s := modEdge (wf s (STM_ISSUE_STATUS e) Fd.STM_ISSUE_STATUS_BUSY 1) e (fun x => { x with
    hostNext := x.hostNext + 1
    hostJobs := x.hostJobs ++ [(x.hostNext, max 1 ts.length, false)] })
  if ts.isEmpty then failStream s e i 1 8 else ts.foldl (fun s t => takeIssue s t i) s

/-- `STM_ISSUE` (R324, R342). -/
def execStmIssue (req : Requester) (e : Edge) (v : W64) (s : State) : Host.Outcome State Fault Refusal :=
  ok (guardCsr s req (STM_ISSUE e.val) true (fun s => writeStmIssue s e.val v))

/-- A write of STM_CACHE_CTRL (R327, R342). -/
def writeCacheCtrl (s : State) (req : Requester) (e : Nat) (v : W64) : State :=
  let a := STM_CACHE_CTRL e
  let first := fget Fd.STM_CACHE_CTRL_FIRST v
  let count := fget Fd.STM_CACHE_CTRL_COUNT v
  let s := wf (wf s a Fd.STM_CACHE_CTRL_FIRST first) a Fd.STM_CACHE_CTRL_COUNT count
  let s := if fget Fd.STM_CACHE_CTRL_INV_ALL v = 1 then modEdge s e (fun x => { x with cache := [] }) else s
  if fget Fd.STM_CACHE_CTRL_PREFETCH v = 0 then s
  else if count = 0 ∨ 1024 < count then csrError s req true a
  else settle (modEdge s e (fun x => { x with prefetch := some (first, count) })) e

/-- `STM_CACHE_INV_ALL` (R342). -/
def execStmCacheInvAll (req : Requester) (e : Edge) (v : W64) (s : State) : Host.Outcome State Fault Refusal :=
  ok (guardCsr s req (STM_CACHE_CTRL e.val) true (fun s => writeCacheCtrl s req e.val v))

/-- `STM_CACHE_PREFETCH` (R327, R342). -/
def execStmCachePrefetch (req : Requester) (e : Edge) (v : W64) (s : State) : Host.Outcome State Fault Refusal :=
  ok (guardCsr s req (STM_CACHE_CTRL e.val) true (fun s => writeCacheCtrl s req e.val v))

/-- The staged entry of a requester (R343). -/
def stagedEntry (s : State) (req : Requester) : Nat :=
  (List.range 8).foldl (fun acc n => acc + staged s req (STM_TBL_WDATAn n) % 2 ^ 64 * 2 ^ (64 * n)) 0

/-- Entry 0 holds only band-map bits: bit 0 of each byte (R309). -/
def bandMapClean (w : Nat) : Bool := (List.range 64).all (fun q => decide (bf w (8 * q) 8 < 2))

/-- Write a stream-table entry (R319): HBM under slot 0, and every cached copy and walk. A changed band map leaves the band's bytes undefined
(R312). -/
def writeEntry (s : State) (i w : Nat) : State :=
  let a := tableBase s + 64 * i
  let t := hbmWrites (countHbm s a 64 true) 0 a (bytesOf 64 w)
  let s := if i = 0 then changedBands s t else t
  (List.range 16).foldl (fun s e => modEdge s e (fun x => { x with
    cache := x.cache.filter (fun p => p.1 != i)
    walks := x.walks.map (fun y => if y.index = i then { y with redo := true } else y) })) s

/-- A write of STM_TBL_WCTRL (R312, R319, R343). -/
def writeTblCtrl (s : State) (req : Requester) (v : W64) : State :=
  let a := STM_TBL_WCTRL
  let s := clear1 s a Fd.STM_TBL_WCTRL_ERR v
  if fget Fd.STM_TBL_WCTRL_GO v = 0 then s
  else
    let i := staged s req STM_TBL_WIDX % 2 ^ 20
    let w := stagedEntry s req
    let cur := hbmLine s 0 (tableBase s + 64 * i)
    let tenant := match clsOf s req with | .tenant p => some p | _ => Option.none
    let refused := match tenant with
      | some p => decide (ePart w ≠ p ∨ i = 0 ∨ (eSrc cur ≠ 0 ∧ ePart cur ≠ p))
      | Option.none => false
    let badMap := i == 0 && (!bandMapClean w || (bandsHeld s (fun _ => true) && w != cur))
    if refused || badMap then csrError (wf s a Fd.STM_TBL_WCTRL_ERR 1) req true a
    else writeEntry s i w

/-- `STM_TBL_WRITE` (R319, R343). -/
def execStmTblWrite (req : Requester) (v : W64) (s : State) : Host.Outcome State Fault Refusal :=
  ok (guardCsr s req STM_TBL_WCTRL true (fun s => writeTblCtrl s req v))

/-- A write of SITE_SIT_LOAD_CTRL (R339, R340). -/
def writeSitLoad (s : State) (req : Requester) (k : Nat) (v : W64) : State :=
  let a := SITE_SIT_LOAD_CTRL k
  if siteBusy s k then csrError s req true a
  else
    let s := clear1 s a Fd.SITE_SIT_LOAD_CTRL_ERR v
    let first := fget Fd.SITE_SIT_LOAD_CTRL_FIRST v
    let count := fget Fd.SITE_SIT_LOAD_CTRL_COUNT v
    let s := wf (wf s a Fd.SITE_SIT_LOAD_CTRL_FIRST first) a Fd.SITE_SIT_LOAD_CTRL_COUNT count
    if fget Fd.SITE_SIT_LOAD_CTRL_GO v = 0 ∨ rf s a Fd.SITE_SIT_LOAD_CTRL_BUSY = 1 then s
    else
      match loadJob ⟨a, 256, 16⟩ 0 first count (rf s (SITE_SIT_LOAD_SRC k) Fd.SITE_SIT_LOAD_SRC_LINE) with
      | Option.none => loadStop s a 1
      | some j => modSite (wf s a Fd.SITE_SIT_LOAD_CTRL_BUSY 1) k (fun x => { x with sitJob := some j })

/-- `SITE_SIT_LOAD_GO` (R340). -/
def execSiteSitLoadGo (req : Requester) (k : Site) (v : W64) (s : State) : Host.Outcome State Fault Refusal :=
  ok (guardCsr s req (SITE_SIT_LOAD_CTRL k.val) true (fun s => writeSitLoad s req k.val v))

/-- Check of an issue-table row (R321). -/
def sitCheck (w : Nat) : Nat :=
  if bf w 21 2 = 3 ∨ bf w 27 2 = 3 ∨ bf w 30 2 ≠ 0 ∨ bf w 109 19 ≠ 0 ∨ (bf w 20 1 = 1 ∧ bf w 21 2 = 2 ∧ ¬(1 ≤ bf w 104 5 ∧ bf w 104 5 ≤ 16)) then 2 else 0

/-- `SITE_SIT_LOAD_ROW` (R219, R340). -/
def execSiteSitLoadRow (k : Site) (ue : Bool) (s : State) : Host.Outcome State Fault Refusal :=
  let k := k.val
  let a := SITE_SIT_LOAD_CTRL k
  match (site s k).sitJob with
  | Option.none => ok s
  | some j =>
    let stop := fun (code : Nat) => loadStop (modSite s k (fun x => { x with sitJob := Option.none })) a code
    if loadWaits s k j 16 then ok s
    else if loadBlocked s k then ok (stop 6)
    else if ue then ok (stop 7)
    else
      let w := loadSource s k j 16
      if sitCheck w ≠ 0 then ok (stop (sitCheck w))
      else
        let s := setTab s (sitKey k (j.first + j.next)) w
        let s := loadRead s k j 16
        let s := modSite s k (fun x => { x with sitJob := loadNext j })
        ok (if (loadNext j).isNone then wf s a ldBusy 0 else s)

end Sys2Proof.Machine
end

