-- ==== Sys2Proof/Machine/Choice.lean ====
section
/-!
DEFINITION. The choice of a schedule variant at a phase boundary (R421, R438 to R440, R445), and the boundary table's walk (R281).
-/
namespace Sys2Proof.Machine

/-! Lockstep domains. -/

/-- Whether a domain is a lockstep domain (R260): a site that is not a hole, or an edge die in service. -/
def isDomain (s : State) (d : Nat) : Bool := if d < 144 then siteState s d != 2 else edgeInService s (d - 144)

/-- The lockstep domains. -/
def domains (s : State) : List Nat := (List.range 160).filter (isDomain s)

/-- The domains in lockstep. -/
def lockstep (s : State) : List Nat := (domains s).filter (aligned s)

/-! The boundary table. -/

/-- Key of a boundary-table row (R281). -/
def bndKey (d row : Nat) : Nat := tk 8 + d * 1024 + row

/-- Fields of a row. -/
def bndLength (w : Nat) : Nat := bf w 0 20
def bndPhase (w : Nat) : Nat := bf w 20 16
def bndLast (w : Nat) : Bool := bf w 36 1 == 1

/-- Whether a domain's boundary table is in use. -/
def bndValid (s : State) (d : Nat) : Bool := rf s (CLK_BND_CFG d) Fd.CLK_BND_CFG_VALID == 1

/-- Place the phase of a row that starts at SC `start`: CLK_BND_NEXT and CLK_BND_NEXT_SC (R281). A row never loaded places no boundary. -/
def placePhase (s : State) (d row start : Nat) : State :=
  let w := tab s (bndKey d row)
  let s := modDom s d (fun x => { x with bndStart := start })
  let s := wr s (CLK_BND_NEXT d) (fset Fd.CLK_BND_NEXT_PHASE_ID (bndPhase w) (fset Fd.CLK_BND_NEXT_ROW row 0#64))
  wr s (CLK_BND_NEXT_SC d) (if bndLength w = 0 then BitVec.allOnes 64 else BitVec.ofNat 64 (start + bndLength w - 1))

/-- The row that follows a domain's phase in force. -/
def nextRow (s : State) (d : Nat) : Nat :=
  let r := rf s (CLK_BND_NEXT d) Fd.CLK_BND_NEXT_ROW
  if bndLast (tab s (bndKey d r)) then rf s (CLK_BND_CFG d) Fd.CLK_BND_CFG_LOOP else (r + 1) % 1024

/-! The power table. -/

/-- Key of word `w` of a record of the power table (R438, R449). -/
def pwrKey (r v w : Nat) : Nat := tk 17 + (r * 4 + v) * 21 + w

/-- Byte `i` of a record. -/
def pwrByte (s : State) (r v i : Nat) : Nat := bf (tab s (pwrKey r v (i / 8))) (8 * (i % 8)) 8

/-- OPPT and PRESENT of a record. -/
def pwrOppt (s : State) (r v : Nat) : Nat := pwrByte s r v 0 % 4
def pwrPresent (s : State) (r v : Nat) : Bool := pwrByte s r v 0 / 4 % 2 == 1

/-- Working phases of a quadrant's converter (R420, R421): none once it has failed as a whole. -/
def phasesOf (s : State) (q : Nat) : Nat :=
  if rf s (PWR_IBCq q) Fd.PWR_IBCq_FAILED = 1 then 0
  else ((List.range 8).filter (fun i => (rd s (PWR_IBCq q)).getLsbD i)).length

/-- The effective cap in W (R421): 1.12 × 800 W is 896 W a phase. -/
def capEff (s : State) : Nat :=
  min (rf s PWR_CAP Fd.PWR_CAP_CAP) (896 * ((List.range 4).foldl (fun acc q => acc + min (phasesOf s q) 7) 0) + 50)

/-- Measured draw of a site over the last 1 ms, in 0.1 W (R439). -/
def siteDraw (s : State) (k : Nat) : Nat :=
  rf s (PWR_SITE_POWER k) Fd.PWR_SITE_POWER_C_PWR + rf s (PWR_SITE_POWER k) Fd.PWR_SITE_POWER_N_PWR
    + rf s (PWR_SITE_POWER k) Fd.PWR_SITE_POWER_S_PWR

/-- Measured draw of an edge position, in 0.1 W. -/
def edgeDraw (s : State) (e : Nat) : Nat := sget (fun _ => 0) s.pnl.pwr.edgePwr e

/-- What a site counts in the estimate of record (r, v), in 0.1 W (R439). -/
def siteShare (s : State) (r v k : Nat) : Nat :=
  if siteState s k = 2 then 0 else if imageLoaded s (partOfSite s k) then 10 * pwrByte s r v (8 + k) else siteDraw s k

/-- What an edge position counts. -/
def edgeShare (s : State) (r v e : Nat) : Nat :=
  if !edgeInService s e then 0 else if imageLoaded s (partOfEdge s e) then 10 * pwrByte s r v (152 + e) else edgeDraw s e

/-- The estimate e(v) in mW (R439). -/
def estimate (s : State) (r v : Nat) : Nat :=
  112 * ((List.range 144).foldl (fun acc k => acc + siteShare s r v k) 0 + (List.range 16).foldl (fun acc e => acc + edgeShare s r v e) 0)
    + 50_000

/-- Whether a node's declared power exceeds its headroom (R432, R433, R440). -/
def tooHot (s : State) (r v : Nat) : Bool :=
  (List.range 144).any (fun k => Nat.blt (rf s (THM_SITE_HEAD k) Fd.THM_SITE_HEAD_HEAD) (pwrByte s r v (8 + k)))
    || (List.range 16).any (fun e => Nat.blt (sget (fun _ => 0) s.pnl.pwr.edgeHead e) (pwrByte s r v (152 + e)))

/-- Frequency of an operating point in MHz (R261). -/
def opptMhz (c : Nat) : Nat := match c with | 0 => 1600 | 1 => 1400 | 2 => 1200 | _ => 1000

/-- The measured draw d in W (R439). -/
def draw (s : State) : Nat := rf s PWR_STATUS Fd.PWR_STATUS_DRAW

/-- The outcome of R440: variant, operating point, fallback, the rejections as bits, ramp_only. -/
structure Choice where
  variant : Nat
  oppt : Nat
  fallback : Bool
  rejCap : Nat
  rejRamp : Nat
  rejHeat : Nat
  rampOnly : Bool
deriving DecidableEq, Repr

/-- The present variants of row `r`. -/
def presentVariants (s : State) (r : Nat) : List Nat := (List.range 4).filter (pwrPresent s r)

/-- The present variant with the smallest estimate, the lowest of several. -/
def cheapest (s : State) (r : Nat) (vs : List Nat) (v : Nat) : Nat :=
  vs.foldl (fun m x => if estimate s r x < estimate s r m then x else m) v

/-- The loop of R440 over the present variants. A ramp bound compares e(v) with d + ramp_up × t, with t = length / MHz in µs. -/
def chooseLoop (s : State) (r len : Nat) : List Nat → Choice → Option Choice × Choice
  | [], c => (Option.none, c)
  | v :: vs, c =>
    let e := estimate s r v
    let mhz := opptMhz (pwrOppt s r v)
    let ramp := rf s PWR_RAMP_UP Fd.PWR_RAMP_UP_RATE
    if 1000 * capEff s < e then chooseLoop s r len vs { c with rejCap := c.rejCap + 2 ^ v }
    else if ramp ≠ 0 ∧ (1000 * draw s) * mhz + ramp * len < e * mhz then
      chooseLoop s r len vs { c with rejRamp := c.rejRamp + 2 ^ v, rampOnly := true }
    else if tooHot s r v then chooseLoop s r len vs { c with rejHeat := c.rejHeat + 2 ^ v }
    else (some { c with variant := v, oppt := pwrOppt s r v }, c)

/-- The choice for the phase of boundary row `r` (R440, R445). With no present record the variant and point in force stay. -/
def chooseVariant (s : State) (d r : Nat) : Choice :=
  let none_ : Choice := ⟨0, 0, false, 0, 0, 0, false⟩
  match presentVariants s r with
  | [] => { none_ with variant := rf s CLK_PANEL Fd.CLK_PANEL_VARIANT, oppt := rf s CLK_PANEL Fd.CLK_PANEL_OPPT, fallback := true }
  | v :: vs =>
    let fall := fun (c : Choice) => { c with variant := cheapest s r vs v, oppt := pwrOppt s r (cheapest s r vs v), fallback := true }
    if rf s PWR_STATUS Fd.PWR_STATUS_EMERG = 1 ∨ !s.pnl.pwr.trig.isEmpty then fall none_
    else
      match chooseLoop s r (bndLength (tab s (bndKey d r))) (v :: vs) none_ with
      | (some c, _) => c
      | (Option.none, c) => fall c

/-- Record a choice in PWR_VSEL, with the FALLBACK event and what R441 keeps of it. -/
def recordChoice (s : State) (d r phase : Nat) (c : Choice) : State :=
  let s := wr s PWR_VSEL (fset Fd.PWR_VSEL_VARIANT c.variant (fset Fd.PWR_VSEL_OPPT c.oppt (fset Fd.PWR_VSEL_FALLBACK (b2n c.fallback)
    (fset Fd.PWR_VSEL_REJ_CAP c.rejCap (fset Fd.PWR_VSEL_REJ_RAMP c.rejRamp (fset Fd.PWR_VSEL_REJ_HEAT c.rejHeat
      (fset Fd.PWR_VSEL_PHASE_ID phase 0#64)))))))
  let s := wfb s PWR_STATUS Fd.PWR_STATUS_CAPPED (c.rejCap != 0)
  let s := if c.fallback then bump (warnBit s PWR_EVENTS 7) PWR_FALLBACKS 1 else s
  let len := bndLength (tab s (bndKey d r))
  modPnl s (fun p => { p with
    choice := some (c.variant, c.oppt)
    pwr := { p.pwr with db := draw s, rampOnly := c.rampOnly, phaseNs := len * 1000 / opptMhz c.oppt, tau := 0 } })

end Sys2Proof.Machine
end

