-- ==== Sys2Proof/Machine/Scalar.lean ====
section
/-!
DEFINITION. The miscellaneous unit: scalar operations (R79), the index match unit and its hash fallback (R169 to R175), and the plan of
an MX slot.
-/
namespace Sys2Proof.Machine

/-- Sign extension of the 15-bit immediate. -/
def sext15 (imm : Nat) : W64 := (BitVec.ofNat 15 imm).signExtend 64

/-- The result of a scalar opcode (R79); `sc` and `variant` are those of SCRD and VARRD. -/
def mxResult (op : Nat) (a b : W64) (imm sc variant : Nat) : W64 :=
  match op with
  | 0x01 => a + sext15 imm
  | 0x02 => a + b
  | 0x03 => a - b
  | 0x04 => a &&& b
  | 0x05 => a ||| b
  | 0x06 => a ^^^ b
  | 0x07 => a <<< (imm % 64)
  | 0x08 => a >>> (imm % 64)
  | 0x09 => (a <<< 15) ||| BitVec.ofNat 64 imm
  | 0x0B => BitVec.ofNat 64 sc
  | _ => BitVec.ofNat 64 variant

/-- The comparison of SETP (R79). -/
def setpHolds (cond : Nat) (a b : W64) : Bool :=
  condHolds cond (if a.toInt < b.toInt then -1 else if a.toInt = b.toInt then 0 else 1)

/-- The checks on the bits of an MX slot (R67, R68, R79, R170). -/
def mxFormat (w : Nat) : Bool :=
  let rd := bf w 25 5
  let ra := bf w 20 5
  let rb := bf w 15 5
  let imm := bf w 0 15
  match bf w 34 6 with
  | 0x00 => w == 0
  | 0x01 => true
  | 0x02 => true
  | 0x03 => true
  | 0x04 => true
  | 0x05 => true
  | 0x06 => true
  | 0x07 => true
  | 0x08 => true
  | 0x09 => true
  | 0x0A => decide (rd < 8) && rd != 0 && decide (imm % 8 < 6)
  | 0x0B => true
  | 0x0C => true
  | 0x10 => rd == 0 && ra == 0 && rb == 0 && imm == 0
  | 0x11 => rd == 0 && bf imm 3 5 == 0 && bf imm 10 5 == 0
  | 0x12 => bf imm 3 6 == 0 && bf imm 10 5 == 0
  | 0x13 => rb == 0 && bf imm 3 12 == 0
  | 0x14 => rd == 0 && ra == 0 && rb == 0 && imm == 0
  | 0x15 => rd == 0 && bf imm 3 5 == 0 && bf imm 9 6 == 0
  | 0x16 => bf imm 3 12 == 0
  | 0x17 => ra == 0 && rb == 0 && bf imm 1 14 == 0
  | _ => false

/-! Index match. -/

/-- The reserved key (R169). -/
def noKey : Nat := 0xFFFF_FFFF

/-- The 16 lanes of a lane group (R170). -/
def laneGroup (v : VReg) (grp : Nat) : List Nat := (List.range 16).map (fun i => lane 32 v (16 * grp + i))

/-- 16 lanes as one value. -/
def packGroup (xs : List Nat) : BitVec 512 := BitVec.ofNat 512 (xs.foldr (fun x acc => x % 2 ^ 32 + 2 ^ 32 * acc) 0)

/-- First core-local byte of the hash table (R173). -/
def hashBase (s : State) (g : Nat) : Nat := if rf s (CORE_IM_CFG g) Fd.CORE_IM_CFG_HHALF = 1 then 0x2_0000 else 0

/-- Candidate bucket of a key in way `j` (R173). -/
def hashOf (j k : Nat) : Nat :=
  let mult := match j with | 0 => 0x9E3779B1 | 1 => 0x85EBCA77 | 2 => 0xC2B2AE3D | _ => 0x27D4EB2F
  k * mult % 2 ^ 32 / 2 ^ 20

/-- The hash table as an operation works on it: the changes it has made so far by entry number, over the stored bytes. -/
structure HashView where
  changed : List (Nat × (Nat × Nat))
  count : Nat
  hovf : Bool
  dropped : Nat
deriving DecidableEq, Repr

/-- Entry number `i` (4b + j): key and payload (R173). -/
def hashEntry (s : State) (g : Nat) (h : HashView) (i : Nat) : Nat × Nat :=
  match h.changed.find? (fun e => e.1 == i) with
  | some e => e.2
  | Option.none =>
    let a := hashBase s g + 8 * i
    (natOf (creads s g a 4), natOf (creads s g (a + 4) 4))

/-- Candidate entry numbers of a key, way 0 first (R173). -/
def candidates (k : Nat) : List Nat := (List.range 4).map (fun j => 4 * hashOf j k + j)

/-- The entry that holds a key (R174). -/
def hashFind (s : State) (g : Nat) (h : HashView) (k : Nat) : Option Nat :=
  (candidates k).find? (fun i => (hashEntry s g h i).1 == k)

/-- HINS on one lane (R174). -/
def hashInsert (s : State) (g : Nat) (add : Bool) (h : HashView) (k p : Nat) : HashView :=
  if k = noKey then h
  else
    match hashFind s g h k with
    | some i =>
      let old := (hashEntry s g h i).2
      { h with changed := (i, (k, if add then (old + p) % 2 ^ 32 else p)) :: h.changed }
    | Option.none =>
      match (candidates k).find? (fun i => (hashEntry s g h i).1 == noKey) with
      | some i => { h with changed := (i, (k, p)) :: h.changed, count := h.count + 1 }
      | Option.none => { h with hovf := true, dropped := h.dropped + 1 }

/-- The bytes an operation's changes write, core-local address first; the newest change of an entry stands. -/
def hashWrites (s : State) (g : Nat) (h : HashView) : List (Nat × Byte) :=
  h.changed.reverse.flatMap (fun e =>
    let a := hashBase s g + 8 * e.1
    let bs := bytesOf 4 e.2.1 ++ bytesOf 4 e.2.2
    (List.range 8).map (fun i => (a + i, bs.getD i 0#8)))

/-- The associative memory as an insert works on it. -/
structure ImView where
  entries : List (Nat × Nat)
  imovf : Bool
  dropped : Nat
  hash : HashView
deriving DecidableEq, Repr

/-- IMINS on one lane (R171). -/
def imInsert (s : State) (g : Nat) (add spill : Bool) (v : ImView) (k p : Nat) : ImView :=
  if k = noKey then v
  else if v.entries.any (fun e => e.1 == k) then
    { v with entries := v.entries.map (fun e => if e.1 = k then (k, if add then (e.2 + p) % 2 ^ 32 else p) else e) }
  else if v.entries.length < 1024 then { v with entries := v.entries ++ [(k, p)] }
  else if spill then { v with hash := hashInsert s g add v.hash k p }
  else { v with imovf := true, dropped := v.dropped + 1 }

/-- Payload of a key in the associative memory. -/
def imFind (es : List (Nat × Nat)) (k : Nat) : Option Nat :=
  if k = noKey then Option.none else (es.find? (fun e => e.1 == k)).map (fun e => e.2)

/-- Index of a key in the associative memory. -/
def imIndex (es : List (Nat × Nat)) (k : Nat) : Option Nat :=
  if k = noKey then Option.none else es.findIdx? (fun e => e.1 == k)

/-- Payload of a key in the hash table. -/
def hashPayload (s : State) (g : Nat) (k : Nat) : Option Nat :=
  if k = noKey then Option.none
  else (hashFind s g ⟨[], 0, false, 0⟩ k).map (fun i => (hashEntry s g ⟨[], 0, false, 0⟩ i).2)

/-- Latency of an MX opcode (R79, R170). -/
def mxLatency (op imm : Nat) : Nat :=
  match op with
  | 0x11 => if bf imm 9 1 = 1 then 5 else 1
  | 0x12 => if bf imm 9 1 = 1 then 5 else 1
  | 0x14 => 2048
  | 0x15 => 4
  | 0x16 => 4
  | _ => 1

/-- Whether an MX operation works on the hash table (R175). -/
def usesHash (op imm : Nat) : Bool :=
  op == 0x14 || op == 0x15 || op == 0x16 || ((op == 0x11 || op == 0x12) && bf imm 9 1 == 1)

/-- The plan of an executing index match operation (R169 to R175). -/
def planIm (s : State) (g sc w : Nat) : Plan :=
  let op := bf w 34 6
  let rd := bf w 25 5
  let imm := bf w 0 15
  let grp := imm % 8
  let keys := laneGroup (vreg s g (bf w 20 5)) grp
  let pays := laneGroup (vreg s g (bf w 15 5)) grp
  let miss := (areg s g (bf w 15 5)).toNat % 2 ^ 32
  let lat := mxLatency op imm
  let x := core s g
  let busy := if op = 0x17 then [] else chk cPort (decide (x.imBusy ≤ sc))
  let accs := if usesHash op imm then [⟨0, 1, true, sc + 1, sc + lat, hashBase s g, hashBase s g + 0x2_0000⟩,
    (⟨loadLanding, 1, true, sc + 1, sc + lat, hashBase s g, hashBase s g + 0x2_0000⟩ : StoreAcc)] else []
  let base : Plan := { Plan.idle with exec := true, lat := lat, faults := busy, accs := accs }
  let hv : HashView := ⟨[], rf s (CORE_IM_STATUS g) Fd.CORE_IM_STATUS_HCOUNT, false, 0⟩
  let keyed := (keys.filter (fun k => k != noKey)).length
  let at_ := fun (a : LandAct) => (⟨sc, sc + lat, 3, a⟩ : Flight)
  match op with
  | 0x10 => { base with flights := [at_ (.im [] hv.count false false [])] }
  | 0x11 =>
    let v := (keys.zip pays).foldl (fun v p => imInsert s g (bf imm 8 1 == 1) (bf imm 9 1 == 1) v p.1 p.2) ⟨x.imEntries, false, 0, hv⟩
    let spilled := if bf imm 9 1 = 1 then (keys.filter (fun k => k != noKey && !(v.entries.any (fun e => e.1 == k)))).length else 0
    { base with flights := [at_ (.im v.entries v.hash.count v.imovf v.hash.hovf (hashWrites s g v.hash))],
                events := [(0x0A, spilled), (0x0B, v.dropped + v.hash.dropped)] }
  | 0x12 =>
    let res := keys.map (fun k =>
      match imFind x.imEntries k with
      | some p => (p, false)
      | Option.none => if bf imm 9 1 = 1 then (match hashPayload s g k with | some p => (p, false) | Option.none => (miss, true)) else (miss, true))
    { base with flights := [at_ (.lanes rd grp (packGroup (res.map (fun r => r.1))))],
                events := [(0x08, 16), (0x09, (res.filter (fun r => r.2)).length)]
                  ++ (if bf imm 9 1 = 1 then [(0x0A, (keys.filter (fun k => k != noKey && (imFind x.imEntries k).isNone)).length)] else []) }
  | 0x13 =>
    let res := keys.map (fun k => (imIndex x.imEntries k).getD noKey)
    { base with flights := [at_ (.lanes rd grp (packGroup res))],
                events := [(0x08, 16), (0x09, (keys.filter (fun k => (imIndex x.imEntries k).isNone)).length)] }
  | 0x14 => { base with flights := [at_ (.hclr (hashBase s g))] }
  | 0x15 =>
    let h := (keys.zip pays).foldl (fun h p => hashInsert s g (bf imm 8 1 == 1) h p.1 p.2) hv
    { base with flights := [at_ (.im x.imEntries h.count false h.hovf (hashWrites s g h))], events := [(0x0A, keyed), (0x0B, h.dropped)] }
  | 0x16 =>
    let res := keys.map (fun k => match hashPayload s g k with | some p => (p, false) | Option.none => (miss, true))
    { base with flights := [at_ (.lanes rd grp (packGroup (res.map (fun r => r.1))))],
                events := [(0x08, 16), (0x09, (res.filter (fun r => r.2)).length), (0x0A, keyed)] }
  | _ =>
    let flights := [at_ (.areg rd (Sys2Proof.Machine.rd s (CORE_IM_STATUS g)))] ++ (if bf imm 0 1 = 1 then [at_ .imClr] else [])
    { base with flights := flights }

/-- The plan of an MX slot (R67, R79). -/
def planMx (s : State) (g sc w : Nat) : Plan :=
  if !mxFormat w then Plan.fail [cFormat]
  else if !executes s g (mxHead w) then Plan.idle
  else
    let op := bf w 34 6
    let imm := bf w 0 15
    let a := areg s g (bf w 20 5)
    let b := areg s g (bf w 15 5)
    if 0x10 ≤ op then planIm s g sc w
    else if op = 0x0A then
      { Plan.idle with exec := true, lat := 1, flights := [⟨sc, sc + 1, 3, .pred (bf w 25 3) (setpHolds (imm % 8) a b)⟩] }
    else
      { Plan.idle with exec := true, lat := 1,
                       flights := [⟨sc, sc + 1, 3, .areg (bf w 25 5) (mxResult op a b imm sc (dom s (g / 64)).variant)⟩] }

end Sys2Proof.Machine
end

