-- ==== Sys2Proof/Machine/Tensor.lean ====
section
/-!
DEFINITION. The tensor unit: descriptors and regions (R147 to R158), transposable 2:4 operands (R159 to R168), the sums of R134 to R141,
and the plan of a TU slot.
-/
namespace Sys2Proof.Machine

/-- A descriptor's fields (R153). -/
structure Desc where
  a : Elem
  b : Elem
  scheme : Scheme
  acc : Nat
  m : Nat
  n : Nat
  k : Nat
  asoff : Nat
  bsoff : Nat
  moff : Nat
deriving DecidableEq, Repr

/-- Formats of the tensor unit: every one but FP32 and INT32 (R155). -/
def tuElem (c : Nat) : Option Elem :=
  match elemOfCode c with
  | some .fp32 => Option.none
  | some .int32 => Option.none
  | x => x

/-- Decode a descriptor; `none` for a reserved field value or bit (R155). ACCZ ignores the formats, the scheme and KU (R158). -/
def descOf (accz : Bool) (d : Nat) : Option Desc :=
  let ea := if accz then some .e4m3 else tuElem (bf d 0 4)
  let eb := if accz then some .e4m3 else tuElem (bf d 4 4)
  let sc := if accz then some .unscaled else schemeOfCode (bf d 8 2)
  match ea, eb, sc with
  | some a, some b, some s =>
    if bf d 24 4 ≠ 0 ∨ bf d 10 2 = 3 then Option.none
    else some ⟨a, b, s, bf d 10 2, 32 * (bf d 12 2 + 1), 32 * (bf d 14 2 + 1), 16 * (bf d 16 8 + 1), bf d 28 12, bf d 40 12, bf d 52 12⟩
  | _, _, _ => Option.none

/-- Whether either format is 16 bits wide: the dot product then uses the tree (R134, R148). -/
def Desc.wide (d : Desc) : Bool := d.a.width == 16 || d.b.width == 16

/-- K positions per engine per cycle by width class (R148). -/
def Desc.kpc (d : Desc) : Nat :=
  if d.wide then 2 else if d.a.width = 8 ∨ d.b.width = 8 then 4 else 8

/-- Bytes of an accumulator element (R157). -/
def Desc.eltBytes (d : Desc) : Nat := if d.acc = 1 then 8 else 4

/-- Block length along K (R156). -/
def Desc.bl (d : Desc) : Nat := if d.scheme = .mx then 32 else 16

/-- The TU opcodes (R70). -/
def opMma : Nat := 1
def opMmas : Nat := 2
def opMmawg : Nat := 3
def opAccz : Nat := 4
def opDload : Nat := 5

/-- Bytes of the accumulator tile (R157, R158, R167). -/
def tileBytes (op flags : Nat) (d : Desc) : Nat :=
  if op = opMmawg ∨ (op = opAccz ∧ flags % 2 = 1) then d.m * d.n / 2 * d.eltBytes else d.m * d.n * d.eltBytes

/-- Occupancy (R149). -/
def occupancy (op flags : Nat) (d : Desc) : Nat :=
  if op = opAccz then (tileBytes op flags d + 1023) / 1024
  else
    let full := (d.m / 32) * (d.n / 32) * d.k / d.kpc * (if d.acc = 1 then 2 else 1)
    if op = opMma then full else full / 2

/-- The region of operand A (R156, R166). -/
def aBytes (op : Nat) (d : Desc) : Nat :=
  if op = opMmas then d.m * d.k / 16 * d.a.width else d.m * d.k * d.a.width / 8

/-- The region of operand B (R156). -/
def bBytes (d : Desc) : Nat := d.n * d.k * d.b.width / 8

/-- The region of A's scales (R156, R165). -/
def asBytes (op : Nat) (d : Desc) : Nat :=
  if d.scheme = .unscaled then 0
  else if op = opMmas then (d.m / d.bl) * (d.k / d.bl) else d.m * (d.k / d.bl)

/-- The region of B's scales (R156). -/
def bsBytes (d : Desc) : Nat := if d.scheme = .unscaled then 0 else d.n * (d.k / d.bl)

/-- The metadata region (R166, R167). -/
def metaBytesOf (op : Nat) (d : Desc) : Nat :=
  if op = opMmas then d.m * d.k / 16 else if op = opMmawg then d.m * d.n / 16 else 0

/-- The FORMAT checks on a compute operation's descriptor (R118, R135, R138, R155, R158, R168). -/
def descFormat (op : Nat) (d : Desc) : Bool :=
  if op = opAccz then d.asoff == 0 && d.bsoff == 0 && d.moff == 0
  else
    schemeOk d.scheme d.a && schemeOk d.scheme d.b && d.a.isInt == d.b.isInt
      && (d.acc != 2 || (d.scheme == .unscaled && d.a.isInt))
      && (d.scheme != .unscaled || (d.asoff == 0 && d.bsoff == 0)) && (op != opMma || d.moff == 0)
      && (d.scheme == .unscaled || d.k % 32 == 0) && (op == opMma || (d.a != .int4 && d.b != .int4))

/-- Operand-buffer regions a compute operation reads: start and length in bytes from 0x4_0000 (R156, R166, R167). -/
def readRegions (op aoff boff : Nat) (d : Desc) : List (Nat × Nat) :=
  if op = opAccz then []
  else
    ([(aoff * 64, aBytes op d), (boff * 64, bBytes d), (d.asoff * 64, asBytes op d), (d.bsoff * 64, bsBytes d),
      (d.moff * 64, metaBytesOf op d)]).filter (fun r => r.2 != 0)

/-- Whether every region lies in its store (R155). -/
def regionsOk (op aoff boff coff flags : Nat) (d : Desc) : Bool :=
  (readRegions op aoff boff d).all (fun r => decide (r.1 + r.2 ≤ 0x3_0000)) && decide (coff * 64 + tileBytes op flags d ≤ 0x2_0000)

/-! The 2:4 pattern space. -/

/-- Row nibbles with two bits set, ascending (R159). -/
def rowNibbles : List Nat := [3, 5, 6, 9, 10, 12]

/-- Whether each column of four row nibbles has exactly two bits set. -/
def columnsOk (r0 r1 r2 r3 : Nat) : Bool :=
  [0, 1, 2, 3].all (fun j => r0 / 2 ^ j % 2 + r1 / 2 ^ j % 2 + r2 / 2 ^ j % 2 + r3 / 2 ^ j % 2 == 2)

/-- The 90 mask words in index order (R160, R162). -/
def patterns : List Nat :=
  rowNibbles.flatMap (fun r0 => rowNibbles.flatMap (fun r1 => rowNibbles.flatMap (fun r2 =>
    (rowNibbles.filter (fun r3 => columnsOk r0 r1 r2 r3)).map (fun r3 => r0 * 4096 + r1 * 256 + r2 * 16 + r3))))

/-- Whether the element at row `i`, column `j` of a block is kept (R160). -/
def kept (mask i j : Nat) : Bool := mask / 2 ^ (15 - 4 * i - j) % 2 == 1

/-- How many kept positions come before row `i`, column `j` in row-major order: its index among the kept values (R163). -/
def keptRank (mask i j : Nat) : Nat :=
  ((List.range (4 * i + j)).filter (fun p => kept mask (p / 4) (p % 4))).length

/-- Element `i` of width `w` packed in bytes (R111). -/
def packed (w : Nat) (bs : List Byte) (i : Nat) : Nat :=
  let lo := w * i
  natOf ((bs.drop (lo / 8)).take 5) / 2 ^ (lo % 8) % 2 ^ w

/-- The mask word of block `q` of an operand (R163). -/
def maskOf (metaB : List Byte) (q : Nat) : Nat := patterns.getD (metaB.getD q 0#8).toNat 0

/-- Element (r, c) of a 2:4 operand of `cols` columns: `none` where it is pruned (R141, R163). -/
def sparseElem (t : Elem) (cols : Nat) (vals metaB : List Byte) (r c : Nat) : Option Nat :=
  let q := r / 4 * (cols / 4) + c / 4
  let mask := maskOf metaB q
  if kept mask (r % 4) (c % 4) then some (packed t.width vals (q * 8 + keptRank mask (r % 4) (c % 4))) else Option.none

/-! The sums. -/

/-- Element (m, k) of A: `none` at a pruned position. -/
def aElem (f : TuFlight) (d : Desc) (m k : Nat) : Option Nat :=
  if f.op = opMmas then
    if f.flags / 2 % 2 = 1 then sparseElem d.a d.m f.a f.metaBytes k m else sparseElem d.a d.k f.a f.metaBytes m k
  else some (packed d.a.width f.a (m * d.k + k))

/-- Scale byte of A at (m, k) (R156, R165). -/
def aScale (f : TuFlight) (d : Desc) (m k : Nat) : Nat :=
  if f.op = opMmas then
    let r := if f.flags / 2 % 2 = 1 then k else m
    let c := if f.flags / 2 % 2 = 1 then m else k
    let cols := if f.flags / 2 % 2 = 1 then d.m else d.k
    (f.sa.getD (r / d.bl * (cols / d.bl) + c / d.bl) 0#8).toNat
  else (f.sa.getD (m * (d.k / d.bl) + k / d.bl) 0#8).toNat

/-- Scale byte of B at (n, k). -/
def bScale (f : TuFlight) (d : Desc) (n k : Nat) : Nat := (f.sb.getD (n * (d.k / d.bl) + k / d.bl) 0#8).toNat

/-- The exact term of position k: scaled product, +0 at a pruned position whatever the other operand holds (R135, R136, R141). DESIGN CHOICE (log
entry 129): under a block scale of zero the sign of an exact zero sum is that of these scaled products. -/
def term (f : TuFlight) (d : Desc) (m n k : Nat) : Num :=
  let sc := if d.scheme = .unscaled then .fin false 1 0
    else Num.mul (decodeScale d.scheme (aScale f d m k)) (decodeScale d.scheme (bScale f d n k))
  match aElem f d m k with
  | Option.none => if sc.isNan then .nan else .fin false 0 0
  | some a => Num.mul sc (Num.mul (elemValue d.scheme d.a a) (elemValue d.scheme d.b (packed d.b.width f.b (n * d.k + k))))

/-- Chunk length along K (R134). -/
def Desc.chunk (d : Desc) : Nat := if d.wide then 16 else if d.scheme = .unscaled then 64 else 32

/-- Chunk `c` of element (m, n): the exact sum S, or the tree T of a 16-bit chunk (R135, R139). The padding products are +0 (R134). -/
def chunkSum (f : TuFlight) (d : Desc) (m n c : Nat) : Num :=
  let ks := (List.range d.chunk).map (fun i => c * d.chunk + i)
  let ts := ks.map (fun k => if k < d.k then term f d m n k else .fin false 0 0)
  if d.wide then fp32 (tree16 ts) else sumNum ts

/-- The signed integer a finite value of exponent 0 or above is. -/
def intOf : Num → Int
  | .fin neg m e => signedAt neg m e 0
  | _ => 0

/-- One update of an accumulator element by a chunk sum (R137, R138, R140). -/
def accUpdate (acc : Nat) (v : Nat) (s : Num) : Nat :=
  match acc with
  | 0 => rne32 (Num.add (fp32 v) s)
  | 1 => let p := pairAdd ⟨v % 2 ^ 32, v / 2 ^ 32⟩ s; p.h + p.l * 2 ^ 32
  | _ => (((v : Int) + intOf s) % (2 ^ 32 : Int)).toNat

/-- Element (m, n) after the operation: chunks in increasing K order (R137). -/
def elemAfter (f : TuFlight) (d : Desc) (v m n : Nat) : Nat :=
  (List.range ((d.k + d.chunk - 1) / d.chunk)).foldl (fun acc c => accUpdate d.acc acc (chunkSum f d m n c)) v

/-- The tile's positions in storage order: (m, n) of each element (R157, R167). -/
def tilePositions (f : TuFlight) (d : Desc) : List (Nat × Nat) :=
  if f.op = opMmawg then
    (List.range (d.m * d.n / 16)).flatMap (fun q =>
      let mask := maskOf f.metaBytes q
      ((List.range 16).filter (fun p => kept mask (p / 4) (p % 4))).map (fun p =>
        (q / (d.n / 4) * 4 + p / 4, q % (d.n / 4) * 4 + p % 4)))
  else (List.range (d.m * d.n)).map (fun i => (i / d.n, i % d.n))

/-- The bytes of the tile at landing, from its bytes before (R152, R157, R158). -/
def tileAfter (f : TuFlight) (d : Desc) (old : List Byte) : List Byte :=
  if f.op = opAccz then old.map (fun _ => 0#8)
  else
    let e := d.eltBytes
    let za := f.flags % 2 = 1
    (tilePositions f d).zipIdx.flatMap (fun p =>
      let v := if za then 0 else natOf ((old.drop (p.2 * e)).take e)
      bytesOf e (elemAfter f d v p.1.1 p.1.2))

/-! Issue. -/

/-- The checks on the bits of a TU slot (R68, R147, R154, R158). -/
def tuFormat (w : Nat) : Bool :=
  let op := bf w 50 6
  let flags := bf w 0 5
  match op with
  | 0 => w == 0
  | 1 => decide (flags < 2)
  | 2 => decide (flags < 4)
  | 3 => decide (flags < 2)
  | 4 => decide (flags < 2) && bf w 28 12 == 0 && bf w 16 12 == 0
  | 5 => bf w 40 6 % 8 == 0 && bf w 16 12 == 0 && bf w 5 11 == 0 && flags == 0
  | _ => false

/-- The plan of an executing DLOAD (R154). -/
def planDload (s : State) (g sc w : Nat) : Plan :=
  let a := bf w 28 12 * 64
  let bs := creads s g a 64
  let vs := (List.range 8).map (fun j => BitVec.ofNat 64 (natOf ((bs.drop (8 * j)).take 8)))
  { Plan.idle with exec := true, lat := 2, flights := [⟨sc, sc + 2, 0, .desc (bf w 40 6) vs⟩],
                   accs := [⟨0, 1, false, sc, sc, a, a + 64⟩] }

/-- The plan of an executing compute operation (R149 to R152, R155). A region beyond its store is an ADDRESS breach; the operation's regions still count
under R82 (R101). -/
def planCompute (s : State) (g sc pc : Nat) (bundle : BitVec 256) (w : Nat) : Plan :=
  let op := bf w 50 6
  let dw := rd s (CORE_TUDESCn g (bf w 40 6))
  let aoff := bf w 28 12
  let boff := bf w 16 12
  let coff := bf w 5 11
  let flags := bf w 0 5
  match descOf (op == opAccz) dw.toNat with
  | Option.none => Plan.fail [cFormat]
  | some d =>
    if !descFormat op d then Plan.fail [cFormat]
    else
      let occ := occupancy op flags d
      let get := fun (off n : Nat) => if op = opAccz then [] else creads s g (0x4_0000 + off * 64) n
      let fl : TuFlight :=
        { issue := sc, occ := occ, op := op, desc := dw, coff := coff, flags := flags, a := get aoff (aBytes op d),
          b := get boff (bBytes d), sa := get d.asoff (asBytes op d), sb := get d.bsoff (bsBytes d),
          metaBytes := get d.moff (metaBytesOf op d), pc := pc, bundle := bundle, dead := false }
      let reads := (readRegions op aoff boff d).map (fun r =>
        (⟨sc + 1, sc + occ, 0x4_0000 + r.1, 0x4_0000 + r.1 + r.2, false⟩ : TuRegion))
      let upd : TuRegion := ⟨sc + 1, sc + occ + 7, 0x8_0000 + coff * 64, 0x8_0000 + coff * 64 + tileBytes op flags d, true⟩
      { Plan.idle with exec := true, lat := occ + 8,
                       faults := chk cAddress (regionsOk op aoff boff coff flags d) ++ chk cPort (decide ((core s g).tuFree ≤ sc)), tu := [fl],
                       regions := upd :: reads, tuFree := some (sc + occ), events := [(0x01, 1), (0x02, occ)] }

/-- The plan of a TU slot (R67, R70). -/
def planTu (s : State) (g sc pc : Nat) (bundle : BitVec 256) (w : Nat) : Plan :=
  if !tuFormat w then Plan.fail [cFormat]
  else if !executes s g (tuHead w) then Plan.idle
  else if bf w 50 6 = opDload then planDload s g sc w
  else planCompute s g sc pc bundle w

/-! Metadata checks and landing. -/

/-- The SC at which metadata byte `q` is read (R161). -/
def metaSc (f : TuFlight) (q : Nat) : Nat := f.issue + 1 + q * f.occ / f.metaBytes.length

/-- The first reserved metadata byte of an operation, if any (R161). -/
def badMeta (f : TuFlight) : Option Nat :=
  (List.range f.metaBytes.length).find? (fun q => decide (90 ≤ (f.metaBytes.getD q 0#8).toNat))

/-- Whether an operation's reserved metadata byte has been read by SC `sc`. -/
def metaFaultDue (f : TuFlight) (sc : Nat) : Bool :=
  match badMeta f with
  | Option.none => false
  | some q => !f.dead && decide (metaSc f q ≤ sc)

/-- Land one compute operation: the whole tile takes its new value (R151, R152). A dead one does not land (R161). -/
def landTu (s : State) (g : Nat) (f : TuFlight) : State :=
  if f.dead then s
  else
    match descOf (f.op == opAccz) f.desc.toNat with
    | Option.none => s
    | some d =>
      let a := 0x8_0000 + f.coff * 64
      cwrites s g a (tileAfter f d (creads s g a (tileBytes f.op f.flags d)))

end Sys2Proof.Machine
end

