-- ==== Sys2Proof/Machine/Vector.lean ====
section
/-!
DEFINITION. The vector unit: what each VU opcode computes (R72 to R74, R119 to R133) and the plan of a VU slot.
-/
namespace Sys2Proof.Machine

/-- The lane format of FMT (R71); INT32 under 3. -/
def laneElem (fmt : Nat) : Elem :=
  match fmt with
  | 0 => .fp32
  | 1 => .bf16
  | 2 => .fp16
  | _ => .int32

/-- Lane count under FMT (R72). -/
def laneCount (fmt : Nat) : Nat := if fmt = 1 ∨ fmt = 2 then 256 else 128

/-- Lane width under FMT. -/
def laneWidth (fmt : Nat) : Nat := if fmt = 1 ∨ fmt = 2 then 16 else 32

/-- One lane of ADD, SUB and MUL: exact, rounded once (R131); wrapping under INT32 (R73). -/
def addLane (fmt a b : Nat) : Nat :=
  if fmt = 3 then (a + b) % 2 ^ 32 else let t := laneElem fmt; roundLane t (Num.add (decodeElem t a) (decodeElem t b))
def subLane (fmt a b : Nat) : Nat :=
  if fmt = 3 then (a + (2 ^ 32 - b)) % 2 ^ 32
  else let t := laneElem fmt; roundLane t (Num.add (decodeElem t a) (Num.neg (decodeElem t b)))
def mulLane (fmt a b : Nat) : Nat :=
  if fmt = 3 then (a * b) % 2 ^ 32 else let t := laneElem fmt; roundLane t (Num.mul (decodeElem t a) (decodeElem t b))

/-- One lane of FMA: one rounding of the exact product plus addend (R131). -/
def fmaLane (fmt a b c : Nat) : Nat :=
  let t := laneElem fmt
  roundLane t (Num.add (Num.mul (decodeElem t a) (decodeElem t b)) (decodeElem t c))

/-- One lane of MAX and MIN (R132). -/
def maxLane (fmt a b : Nat) : Nat := pickLane (laneElem fmt) true a b
def minLane (fmt a b : Nat) : Nat := pickLane (laneElem fmt) false a b

/-- One lane of ABS (R73, R132). -/
def absLane (fmt a : Nat) : Nat :=
  let t := laneElem fmt
  if fmt = 3 then (if 2 ^ 31 ≤ a then (2 ^ 32 - a) % 2 ^ 32 else a)
  else if (decodeElem t a).isNan then t.nanBits else a % 2 ^ (t.width - 1)

/-- One lane of CMP: all ones or 0 (R72, R132). -/
def cmpLaneBits (fmt cond a b : Nat) : Nat :=
  if cmpLane (laneElem fmt) cond a b then 2 ^ laneWidth fmt - 1 else 0

/-- One lane of SEL (R72); bits are copied. -/
def selLane (a b c : Nat) : Nat := if c ≠ 0 then a else b

/-- One lane of EXP2, RCP and RSQRT (R133). -/
def fnLane (op fmt a : Nat) : Nat :=
  let t := laneElem fmt
  let x := decodeElem t a
  match op with
  | 0x0C => exp2Lane t x
  | 0x0D => rcpLane t x
  | _ => rsqrtLane t x

/-- One lane of an elementwise opcode. -/
def vuLane (op fmt cond a b c : Nat) : Nat :=
  match op with
  | 0x01 => addLane fmt a b
  | 0x02 => subLane fmt a b
  | 0x03 => mulLane fmt a b
  | 0x04 => fmaLane fmt a b c
  | 0x05 => maxLane fmt a b
  | 0x06 => minLane fmt a b
  | 0x07 => absLane fmt a
  | 0x08 => cmpLaneBits fmt cond a b
  | 0x09 => selLane a b c
  | 0x0A => b
  | _ => fnLane op fmt a

/-- Whole-register result of an elementwise opcode. -/
def vuLanes (op fmt cond : Nat) (va vb vc : VReg) : VReg :=
  let w := laneWidth fmt
  ofLanes w ((List.range (laneCount fmt)).map (fun i => vuLane op fmt cond (lane w va i) (lane w vb i) (lane w vc i)))

/-- The register with element `i` of width `w` and value `x` in every lane: the broadcast of SB (R71). -/
def broadcast (fmt : Nat) (a : W64) : VReg :=
  let w := laneWidth fmt
  ofLanes w ((List.range (laneCount fmt)).map (fun _ => a.toNat % 2 ^ w))

/-- The decoded CVT modifier and immediate (R119). -/
structure Cvt where
  tgt : Elem
  rnd : Rnd
  widen : Bool
  sat : Bool
  pos : Nat
  scheme : Scheme
deriving DecidableEq, Repr

/-- Decode MOD and IMM of a CVT, `none` for a reserved value (R119, R121). -/
def cvtOf (mod imm : Nat) : Option Cvt :=
  match elemOfCode (bf mod 4 4), rndOfCode (bf mod 2 2), schemeOfCode (bf imm 3 2) with
  | some t, some r, some sc => some ⟨t, r, bf mod 1 1 == 1, bf mod 0 1 == 1, bf imm 0 3, sc⟩
  | _, _, _ => Option.none

/-- Bytes of a CVT chunk (R120). -/
def cvtChunk (fmt : Nat) (t : Elem) : Nat := laneCount fmt * t.width / 8

/-- Whether a CVT is well formed (R121). -/
def cvtOk (fmt vc : Nat) (sb : Bool) (mod imm : Nat) : Bool :=
  match cvtOf mod imm with
  | Option.none => false
  | some c =>
    fmt != 3 && c.tgt != .fp32 && (fmt == 0 || decide (3 ≤ bf mod 4 4 ∧ bf mod 4 4 ≤ 9))
      && decide ((c.pos + 1) * cvtChunk fmt c.tgt ≤ 512) && bf imm 5 11 == 0 && (c.rnd == .stoch || vc == 0)
      && (c.scheme == .unscaled || (fmt == 0 && !sb && schemeOk c.scheme c.tgt))

/-- Generator word of lane `l` of a CVT: 0 unless it rounds stochastically (R145). -/
def cvtWord (seed : Nat) (c : Cvt) (ctx : W64) (l : Nat) : Nat :=
  if c.rnd = .stoch then genWord seed (bf ctx.toNat 40 24) ((bf ctx.toNat 0 40 + l) % 2 ^ 40) else 0

/-- Replace `n` elements of width `w` from element `first` (R120). -/
def putElems (w first : Nat) (v : VReg) (xs : List Nat) : VReg :=
  let n := xs.length
  let lo := w * first
  let below := v.toNat % 2 ^ lo
  let above := v.toNat / 2 ^ (lo + w * n)
  let mid := xs.foldr (fun x acc => x % 2 ^ w + 2 ^ w * acc) 0
  BitVec.ofNat 4096 (below + mid * 2 ^ lo + above * 2 ^ (lo + w * n))

/-- The unscaled CVT (R120, R122 to R124). A widened value is exact, so SAT, which R124 gives to narrowed results, does not act on it (R123). -/
def cvtPlain (fmt : Nat) (c : Cvt) (va vd : VReg) (word : Nat → Nat) : VReg :=
  let n := laneCount fmt
  let lw := laneWidth fmt
  let w := c.tgt.width
  if c.widen then
    ofLanes lw ((List.range n).map (fun l => narrow (laneElem fmt) c.rnd false (word l) (decodeElem c.tgt (lane w va (c.pos * n + l)))))
  else
    putElems w (c.pos * n) vd
      ((List.range n).map (fun l => narrow c.tgt c.rnd c.sat (word l) (decodeElem (laneElem fmt) (lane lw va l))))

/-- Block length of a scheme (R115, R117). -/
def blockLen (sc : Scheme) : Nat := if sc = .mx then 32 else 16

/-- A quantising CVT (R126, R127, R129): the register and the scale word for A[AS]. -/
def cvtQuant (c : Cvt) (va vb vd : VReg) (word : Nat → Nat) : VReg × W64 :=
  let bl := blockLen c.scheme
  let z := lane 32 vb 0 % 256
  let blocks := (List.range (128 / bl)).map (fun b =>
    let ls := (List.range bl).map (fun i => b * bl + i)
    let vs := ls.map (fun l => decodeElem .fp32 (lane 32 va l))
    let rs := ls.map word
    if c.scheme = .mx then quantMx c.tgt c.rnd vs rs else quantKb c.tgt c.rnd z vs rs)
  (putElems c.tgt.width (c.pos * 128) vd (blocks.flatMap (fun p => p.2)),
   BitVec.ofNat 64 (blocks.foldr (fun p acc => p.1 + 256 * acc) 0))

/-- A dequantising CVT (R128). -/
def cvtDequant (c : Cvt) (va vb : VReg) (scales : W64) (word : Nat → Nat) : VReg :=
  let bl := blockLen c.scheme
  let z := lane 32 vb 0 % 256
  ofLanes 32 ((List.range 128).map (fun l =>
    dequant c.scheme c.tgt c.rnd c.sat (word l) (bf scales.toNat (8 * (l / bl)) 8) z (lane c.tgt.width va (c.pos * 128 + l))))

/-- Latency of a VU opcode (R72), 0 for a reserved one. -/
def vuLatency (op : Nat) : Nat :=
  match op with
  | 0x04 => 4
  | 0x0B => 3
  | 0x0C | 0x0D | 0x0E => 8
  | 0x10 => 3
  | 0x01 | 0x02 | 0x03 | 0x05 | 0x06 | 0x07 | 0x08 | 0x09 | 0x0A | 0x11 => 2
  | _ => 0

/-- Opcodes valid under FMT = 3 (R73). -/
def vuIntOk (op : Nat) : Bool := op != 0x04 && op != 0x0B && op != 0x0C && op != 0x0D && op != 0x0E

/-- The checks on the bits of a VU slot (R67, R68, R71 to R73, R121). -/
def vuFormat (w : Nat) : Bool :=
  let op := bf w 56 8
  let fmt := bf w 50 2
  if op = 0 then w == 0
  else
    vuLatency op != 0 && (op == 0x0B || bf w 16 8 == 0) && (fmt != 3 || vuIntOk op)
      && (op != 0x08 || decide (bf w 0 3 < 6)) && (op != 0x0B || cvtOk fmt (bf w 30 5) (bf w 29 1 == 1) (bf w 16 8) (bf w 0 16))

/-- Source B of a VU slot: VB, or the broadcast of A[AS] (R71). -/
def vuSrcB (s : State) (g w : Nat) : VReg :=
  if bf w 29 1 = 1 then broadcast (bf w 50 2) (areg s g (bf w 24 5)) else vreg s g (bf w 35 5)

/-- The core-local address of LD and ST (R74). DESIGN CHOICE (log entry 127): a sum beyond 2^64 wraps, as 64-bit arithmetic does. -/
def vuAddr (s : State) (g w : Nat) : Nat := (areg s g (bf w 24 5) + BitVec.ofNat 64 (bf w 0 16 * 64)).toNat

/-- The accesses of an LD or ST (R82): none where the address lies in no store. A load of the local store counts under R175 at its landing too. -/
def vuAccs (a sc : Nat) (isLd : Bool) : List StoreAcc :=
  match storeOf a 512 with
  | Option.none => []
  | some st =>
    if isLd then ⟨st, 1, false, sc, sc, a, a + 512⟩ :: (if st = 0 then [⟨loadLanding, 1, false, sc + 3, sc + 3, a, a + 512⟩] else [])
    else [⟨st, 1, true, sc + 2, sc + 2, a, a + 512⟩]

/-- The plan of an executing LD or ST (R74, R82). A breach of R74 leaves the writes and accesses that R81 and R82 look at (R101). -/
def planVuMem (s : State) (g sc w : Nat) : Plan :=
  let a := vuAddr s g w
  let isLd := bf w 56 8 == 0x10
  let bad := chk cAddress (match storeOf a 512 with | some st => st != 3 | Option.none => false)
  if isLd then
    let v := BitVec.ofNat 4096 (natOf (creads s g a 512))
    { Plan.idle with faults := bad, exec := true, lat := 3, flights := [⟨sc, sc + 3, 1, .vreg (bf w 45 5) v⟩], accs := vuAccs a sc true }
  else
    let bs := bytesOf 512 (vreg s g (bf w 30 5)).toNat
    { Plan.idle with faults := bad, exec := true, lat := 2, flights := [⟨sc, sc + 2, 1, .bytes a bs⟩], accs := vuAccs a sc false }

/-- The plan of an executing CVT (R119 to R129, R145). -/
def planVuCvt (s : State) (g sc w : Nat) : Plan :=
  match cvtOf (bf w 16 8) (bf w 0 16) with
  | Option.none => Plan.fail [cFormat]
  | some c =>
    let fmt := bf w 50 2
    let va := vreg s g (bf w 40 5)
    let vd := vreg s g (bf w 45 5)
    let vb := vreg s g (bf w 35 5)
    let as := bf w 24 5
    let word := cvtWord (rd s (CORE_SR_SEED g)).toNat c (areg s g (bf w 30 5))
    let ev := if c.rnd = .stoch then [(0x0C, laneCount fmt)] else []
    if c.scheme = .unscaled then
      { Plan.idle with exec := true, lat := 3, events := ev,
                       flights := [⟨sc, sc + 3, 1, .vreg (bf w 45 5) (cvtPlain fmt c va vd word)⟩] }
    else if c.widen then
      { Plan.idle with exec := true, lat := 3, events := ev,
                       flights := [⟨sc, sc + 3, 1, .vreg (bf w 45 5) (cvtDequant c va vb (areg s g as) word)⟩] }
    else
      let r := cvtQuant c va vb vd word
      { Plan.idle with exec := true, lat := 3, events := ev,
                       flights := [⟨sc, sc + 3, 1, .vreg (bf w 45 5) r.1⟩, ⟨sc, sc + 3, 1, .areg as r.2⟩] }

/-- The plan of a VU slot (R67, R72). -/
def planVu (s : State) (g sc w : Nat) : Plan :=
  if !vuFormat w then Plan.fail [cFormat]
  else if !executes s g (vuHead w) then Plan.idle
  else
    let op := bf w 56 8
    match op with
    | 0x10 => planVuMem s g sc w
    | 0x11 => planVuMem s g sc w
    | 0x0B => planVuCvt s g sc w
    | _ =>
      let r := vuLanes op (bf w 50 2) (bf w 0 3) (vreg s g (bf w 40 5)) (vuSrcB s g w) (vreg s g (bf w 30 5))
      { Plan.idle with exec := true, lat := vuLatency op, flights := [⟨sc, sc + vuLatency op, 1, .vreg (bf w 45 5) r⟩] }

end Sys2Proof.Machine
end

