-- ==== Sys2Proof/Machine/Issue.lean ====
section
/-!
DEFINITION. Issue and landing at a core: landings (R64, R152), the conflicts of R81 to R83 and R95, schedule faults (R99 to R101), control
operations (R84 to R96), cycle accounting (R106) and precise samples (R555, R556).
-/
namespace Sys2Proof.Machine

/-! Landing. -/

/-- Store an index-match result: entries, counts, sticky flags, table bytes (R169 to R174). -/
def landIm (s : State) (g : Nat) (entries : List (Nat × Nat)) (hcount : Nat) (imovf hovf : Bool) (table : List (Nat × Byte)) : State :=
  let s := modCore s g (fun x => { x with imEntries := entries })
  let s := table.foldl (fun s p => cwrite s g p.1 p.2) s
  let a := CORE_IM_STATUS g
  let s := wf s a Fd.CORE_IM_STATUS_COUNT entries.length
  let s := wf s a Fd.CORE_IM_STATUS_HCOUNT hcount
  let s := if imovf then wf s a Fd.CORE_IM_STATUS_IMOVF 1 else s
  if hovf then wf s a Fd.CORE_IM_STATUS_HOVF 1 else s

/-- The bytes of an empty hash table: key 0xFFFF_FFFF, payload 0, in each entry (R173, R174). -/
def emptyTable (base : Nat) : List Host.Cell :=
  (List.range 16384).flatMap (fun i => (List.range 4).map (fun j => (base + 8 * i + j, 0xFF#8)))

/-- Land one effect. -/
def landAct (s : State) (g : Nat) (a : LandAct) : State :=
  match a with
  | .vreg d v => setVreg s g d v
  | .lanes d grp v => setVreg s g d (putElems 512 grp (vreg s g d) [v.toNat])
  | .areg d v => setAreg s g d v
  | .pred d b => setPred s g d b
  | .bytes a bs => cwrites s g a bs
  | .brd _ => s
  | .desc d vs => (vs.zipIdx).foldl (fun s p => wr s (CORE_TUDESCn g (d + p.2)) p.1) s
  | .im es hc io ho tb => landIm s g es hc io ho tb
  | .imClr => wf (wf s (CORE_IM_STATUS g) Fd.CORE_IM_STATUS_IMOVF 0) (CORE_IM_STATUS g) Fd.CORE_IM_STATUS_HOVF 0
  | .hclr base =>
    let s := s.setCmem (sreplace (ckey g base) (ckey g (base + 0x2_0000)) (emptyTable (ckey g base)) s.cmem)
    wf s (CORE_IM_STATUS g) Fd.CORE_IM_STATUS_HCOUNT 0
  | .none => s

/-- Whether an effect is a flag clear: at one SC it comes before the landings that set the flags (as R14). -/
def isClear : LandAct → Bool
  | .imClr => true
  | _ => false

/-- The landing SC of a compute operation (R150). -/
def tuLand (f : TuFlight) : Nat := f.issue + f.occ + 8

/-- The lowest SC, at most `now`, at which something of a core lands. -/
def nextLand (x : CoreX) (now : Nat) : Option Nat :=
  match (x.flights.map (fun f => f.land) ++ x.tu.map tuLand).filter (fun t => decide (t ≤ now)) with
  | [] => Option.none
  | t :: ts => some (minimum t ts)

/-- Land the flights of SC `t`, in issue order. -/
def landFlights (s : State) (g t : Nat) : State :=
  let due := (core s g).flights.filter (fun f => decide (f.land = t))
  let s := modCore s g (fun x => { x with flights := x.flights.filter (fun f => !decide (f.land = t)) })
  let s := (due.filter (fun f => isClear f.act)).foldl (fun s f => landAct s g f.act) s
  (due.filter (fun f => !isClear f.act)).foldl (fun s f => landAct s g f.act) s

/-- Land the compute operations of SC `t` (R150 to R152). -/
def landCompute (s : State) (g t : Nat) : State :=
  let due := (core s g).tu.filter (fun f => decide (tuLand f = t))
  let s := modCore s g (fun x => { x with tu := x.tu.filter (fun f => !decide (tuLand f = t)) })
  due.foldl (fun s f => landTu s g f) s

/-- Land what lands at SC `t`. DESIGN CHOICE (log entry 126): a tile lands after the flights of its SC, over what they write. -/
def landAt (s : State) (g t : Nat) : State := landCompute (landFlights s g t) g t

/-- Land everything that lands by SC `now`, SC by SC, so that a tile accumulates over every earlier landing (R152). -/
def landTo (s : State) (g now : Nat) : Nat → State
  | 0 => s
  | n + 1 =>
    match nextLand (core s g) now with
    | Option.none => s
    | some t => landTo (landAt s g t) g now n

/-- Landings that a core can still make. -/
def landings (s : State) (g : Nat) : Nat := (core s g).flights.length + (core s g).tu.length

/-- Land everything of a core whose SC has come. The basin's accesses of earlier SCs come first (R181). -/
def landAll (s : State) (g now : Nat) : State :=
  let s := bankCatchUp s (g / 64) now
  landTo s g now (landings s g)

/-- Land everything of SCs before `now`. -/
def landPast (s : State) (g now : Nat) : State :=
  match now with
  | 0 => s
  | n + 1 => landTo s g n (landings s g)

/-! Schedule faults. -/

/-- Record a schedule fault, stop the core, raise the site's hold and report (R99, R104). -/
def coreFault (s : State) (g code slot pc sc : Nat) (bundle : BitVec 256) : State :=
  let fresh := rf s (CORE_SFAULT g) Fd.CORE_SFAULT_VALID == 0
  let s := rise s (CORE_SFAULT g) Fd.CORE_SFAULT_VALID 1
  let s :=
    if rf s (CORE_SFAULT g) Fd.CORE_SFAULT_VALID = 1 then s
    else
      let s := wr s (CORE_SFAULT g) (fset Fd.CORE_SFAULT_VALID 1 (fset Fd.CORE_SFAULT_PC pc (fset Fd.CORE_SFAULT_SLOT slot
        (fset Fd.CORE_SFAULT_CAUSE code 0#64))))
      let s := wr s (CORE_SFAULT_SC g) (BitVec.ofNat 64 sc)
      (List.range 4).foldl (fun s i => wr s (CORE_SFAULT_BUNDLEn g i) (BitVec.ofNat 64 (bf bundle.toNat (64 * i) 64))) s
  let s := setCoreState s g 6
  let k := g / 64
  siteScheduleFault s k fresh (mkEvent s 1 1 1 g code sc (rd s (CORE_SFAULT g)) (rd s (CORE_SFAULT_SC g)) (rd s (CORE_SFAULT_BUNDLEn g 0))
    (some (k, hFault)) Option.none)

/-- Raise the FORMAT fault of a reserved metadata byte read by now (R161): it names the operation's own bundle, and the operation dies. -/
def metaCheck (s : State) (g now : Nat) : State :=
  match (core s g).tu.find? (fun f => metaFaultDue f now) with
  | Option.none => s
  | some f =>
    let s := modCore s g (fun x => { x with tu := x.tu.map (fun y => if y = f then { y with dead := true } else y) })
    coreFault s g cFormat 0 f.pc f.issue f.bundle

/-! Conflicts. -/

/-- The register or predicate a flight writes: 1 vector, 2 address, 3 predicate. A0 and P0 take no write. -/
def target (f : Flight) : Option (Nat × Nat) :=
  match f.act with
  | .vreg d _ => some (1, d)
  | .lanes d _ _ => some (1, d)
  | .areg d _ => if d = 0 then Option.none else some (2, d)
  | .pred d _ => if d = 0 then Option.none else some (3, d)
  | _ => Option.none

/-- Whether two flights land in the same register at the same SC (R81). -/
def sameTarget (a b : Flight) : Bool :=
  a.land == b.land && (match target a, target b with | some x, some y => x == y | _, _ => false)

/-- WRITE_CONFLICT faults of a bundle's flights, against those in flight and among themselves (R81): (code, slot). -/
def writeConflicts (old new : List Flight) : List (Nat × Nat) :=
  match new with
  | [] => []
  | f :: fs =>
    (if old.any (sameTarget f) then [(cWrite, f.slot)] else [])
      ++ ((fs.filter (sameTarget f)).map (fun x => (cWrite, max x.slot f.slot))) ++ writeConflicts old fs

/-- Whether two accesses to one store cannot both be made (R82): the local store takes one per unit, and no shared line when one writes;
the other stores take one. The accesses of a hash operation last over SCs (R175). -/
def portClash (a b : StoreAcc) : Bool :=
  a.store == b.store && decide (a.first ≤ b.last ∧ b.first ≤ a.last) &&
    (if a.store = 0 then a.unit == b.unit || ((a.wr || b.wr) && decide (a.lo / 64 ≤ (b.hi - 1) / 64 ∧ b.lo / 64 ≤ (a.hi - 1) / 64))
     else true)

/-- Whether an access falls in a region that a tensor operation reads (writes only) or updates (R82). -/
def regionClash (a : StoreAcc) (r : TuRegion) : Bool :=
  decide (a.first ≤ r.last ∧ r.first ≤ a.last) && decide (a.lo < r.hi ∧ r.lo < a.hi)
    && (if r.upd then a.store == 2 else a.store == 1 && a.wr)

/-- PORT_CONFLICT faults of a bundle's accesses (slot first) and regions (R82, R175). DESIGN CHOICE (log entry 126): of two operations of one
bundle that exceed a limit together, the record names the higher slot, as R81 has it for WRITE_CONFLICT. -/
def portConflicts (oldA : List StoreAcc) (oldR : List TuRegion) (newA : List (Nat × StoreAcc)) (newR : List TuRegion) : List (Nat × Nat) :=
  match newA with
  | [] => if oldA.any (fun a => newR.any (regionClash a)) then [(cPort, 0)] else []
  | (slot, a) :: rest =>
    (if oldA.any (portClash a) || oldR.any (regionClash a) || newR.any (regionClash a) then [(cPort, slot)] else [])
      ++ ((rest.filter (fun b => portClash a b.2)).map (fun b => (cPort, max slot b.1))) ++ portConflicts oldA oldR rest newR

/-- Whether an address was refilled 1 to 7 SCs ago (R83). -/
def ifetchRace (x : CoreX) (sc pc : Nat) : Bool :=
  x.refills.any (fun r => decide (r.1 < sc ∧ sc ≤ r.1 + 7 ∧ r.2.1 ≤ pc ∧ pc < r.2.1 + r.2.2))

/-! Control. -/

/-- An open repeat block: start, end, iterations left (R59, R104). -/
structure Loop where
  start : Nat
  stop : Nat
  remain : Nat
deriving DecidableEq, Repr

/-- The open blocks, outermost first (R104). -/
def loops (s : State) (g : Nat) : List Loop :=
  (List.range 4).filterMap (fun i =>
    let w := rd s (CORE_LOOPn g i)
    if fget Fd.CORE_LOOPn_VALID w = 1 then
      some ⟨fget Fd.CORE_LOOPn_START w, fget Fd.CORE_LOOPn_END w, fget Fd.CORE_LOOPn_REMAIN w⟩
    else Option.none)

/-- Write the loop stack and DEPTH. -/
def setLoops (s : State) (g : Nat) (ls : List Loop) : State :=
  let s := (List.range 4).foldl (fun s i =>
    wr s (CORE_LOOPn g i) (match ls[i]? with
      | some l => fset Fd.CORE_LOOPn_VALID 1 (fset Fd.CORE_LOOPn_REMAIN l.remain (fset Fd.CORE_LOOPn_END l.stop
          (fset Fd.CORE_LOOPn_START l.start 0#64)))
      | Option.none => 0#64)) s
  wf s (CORE_STATUS g) Fd.CORE_STATUS_DEPTH ls.length

/-- R86 at an address: the innermost block that ends there repeats or closes, then the next. The stack is given innermost first. -/
def closeAt (pc : Nat) : List Loop → List Loop × Nat
  | [] => ([], (pc + 1) % 4096)
  | l :: ls =>
    if l.stop = pc then
      if 0 < l.remain then ({ l with remain := l.remain - 1 } :: ls, l.start) else closeAt pc ls
    else (l :: ls, (pc + 1) % 4096)

/-- What the control field does: faults, next loop stack (outermost first), next PC. -/
structure CtlPlan where
  faults : List Nat
  loops : List Loop
  pc : Nat
deriving DecidableEq, Repr

/-- Checks on the bits of the control field (R68, R69, R91). -/
def ctlFormat (c : Nat) : Bool :=
  let arg := bf c 0 29
  match bf c 29 3 with
  | 0 => arg == 0
  | 1 => bf arg 17 12 != 0 && (if bf arg 16 1 = 1 then bf arg 5 11 == 0 else bf arg 0 16 != 0)
  | 2 => true
  | 3 => bf arg 27 2 != 0 && decide (128 ≤ bf arg 0 27)
  | 4 => bf arg 20 7 == 0
  | 5 => arg == 0
  | _ => false

/-- Iterations of a LOOP (R84). -/
def loopCount (s : State) (g arg : Nat) : Nat :=
  if bf arg 16 1 = 1 then (areg s g (bf arg 0 5)).toNat % 2 ^ 32 else bf arg 0 16

/-- Whether a LOOP nests (R85): at most 4 levels, inside the enclosing block. -/
def loopNests (ls : List Loop) (pc len : Nat) : Bool :=
  decide (ls.length < 4) && (match ls.getLast? with
    | Option.none => true
    | some l => decide (len ≤ (l.stop + 4096 - pc) % 4096))

/-- The plan of the control field of the bundle at `pc` (R84 to R96). -/
def planCtl (s : State) (g pc c : Nat) : CtlPlan :=
  let ls := loops s g
  let arg := bf c 0 29
  let after := fun (a : Nat) => let r := closeAt a ls.reverse; (r.1.reverse, r.2)
  if !ctlFormat c then ⟨[cFormat], ls, pc⟩
  else
    match bf c 29 3 with
    | 1 =>
      let len := bf arg 17 12
      let n := loopCount s g arg
      let last := (pc + len) % 4096
      if !loopNests ls pc len then ⟨[cNest], ls, pc⟩
      else if n = 0 then let r := after last; ⟨[], r.1, r.2⟩
      else ⟨[], ls ++ [⟨(pc + 1) % 4096, last, n - 1⟩], (pc + 1) % 4096⟩
    | 2 => ⟨chk cPhase ls.isEmpty, ls, (pc + 1) % 4096⟩
    | 5 => ⟨[], [], (pc + 1) % 4096⟩
    | _ => let r := after pc; ⟨[], r.1, r.2⟩

/-- The boundary check of R88: at SC B the PHASE bundle with its PHASE_ID issues, and PHASE nowhere else. -/
def phaseFaults (s : State) (g sc c : Nat) : List Nat :=
  let k := g / 64
  let isPhase := bf c 29 3 == 2
  let valid := rf s (CLK_BND_CFG k) Fd.CLK_BND_CFG_VALID == 1
  let here := valid && (rd s (CLK_BND_NEXT_SC k)).toNat == sc
  let idOk := bf c 0 16 == rf s (CLK_BND_NEXT k) Fd.CLK_BND_NEXT_PHASE_ID
  chk cPhase (if isPhase then here && idOk else !here)

/-! Issue. -/

/-- Whether a unit's gate covers an SC (R95). -/
def gated (gate : Option (Nat × Nat)) (sc : Nat) : Bool :=
  match gate with | some (a, b) => decide (a ≤ sc ∧ sc ≤ b) | Option.none => false

/-- The four slot plans of a bundle. -/
def slotPlans (s : State) (g sc pc : Nat) (bundle : BitVec 256) : List (Nat × Plan) :=
  let b := bundle.toNat
  [(0, planTu s g sc pc bundle (tuSlot b)), (1, planVu s g sc (vuSlot b)), (2, planXu s g sc (xuSlot b)), (3, planMx s g sc (mxSlot b))]

/-- Every fault of a bundle: (code, slot), slot 4 for the control field and the fetch (R100, R104). -/
def bundleFaults (s : State) (g sc pc : Nat) (bundle : BitVec 256) (plans : List (Nat × Plan)) (ctl : CtlPlan) : List (Nat × Nat) :=
  let x := core s g
  let c := ctlField bundle.toNat
  plans.flatMap (fun p => p.2.faults.map (fun f => (f, p.1)))
    ++ writeConflicts x.flights (plans.flatMap (fun p => p.2.flights))
    ++ portConflicts x.accs x.regions (plans.flatMap (fun p => p.2.accs.map (fun a => (p.1, a)))) (plans.flatMap (fun p => p.2.regions))
    ++ (if executes s g (tuHead (tuSlot bundle.toNat)) && gated x.tuGate sc then [(cGated, 0)] else [])
    ++ (if executes s g (vuHead (vuSlot bundle.toNat)) && gated x.vuGate sc then [(cGated, 1)] else [])
    ++ ctl.faults.map (fun f => (f, 4)) ++ (phaseFaults s g sc c).map (fun f => (f, 4))
    ++ (if ifetchRace x sc pc then [(cIfetch, 4)] else [])

/-- The fault recorded: the lowest code (R101), at the lowest slot that raised it. -/
def firstFault (fs : List (Nat × Nat)) : Option (Nat × Nat) :=
  match fs with
  | [] => Option.none
  | f :: rest => some (rest.foldl (fun m x => if x.1 < m.1 ∨ (x.1 = m.1 ∧ x.2 < m.2) then x else m) f)

/-- Count a cycle for one slot and class (R106, R553). -/
def countCycle (s : State) (g slot cls n : Nat) : State := bump s (CORE_CYC_s_k g (4 * slot + cls)) n

/-- Count an event on the event counters that select it (R553). -/
def countEvent (s : State) (g code n : Nat) : State :=
  (List.range 4).foldl (fun s i => if bf (core s g).evtSel.toNat (8 * i) 8 = code ∧ n ≠ 0 then bump s (CORE_EVTn g i) n else s) s

/-- The slot a sample takes: 0 to 3, or rotating by sample number (R555). -/
def sampleSlot (x : CoreX) : Option Nat :=
  let sel := bf x.sampCfg.toNat 48 3
  if sel < 4 then some sel else if sel = 4 then some (x.sampNext % 4) else Option.none

/-- Take a sample of the bundle that issues, when one is due (R555, R556). -/
def takeSample (s : State) (g sc pc : Nat) (bundle : BitVec 256) (plans : List (Nat × Plan)) : State :=
  let x := core s g
  let period := bf x.sampCfg.toNat 0 24
  let ofs := bf x.sampCfg.toNat 24 24
  match sampleSlot x with
  | Option.none => s
  | some slot =>
    if 64 ≤ period ∧ ofs < period ∧ sc % period = ofs then
      let p := ((plans.find? (fun p => p.1 == slot)).map (fun p => p.2)).getD Plan.idle
      let smp : PendSample :=
        { due := sc + (if p.exec then p.lat else 1), issue := sc, pc := pc, slot := slot, exec := p.exec,
          variant := (dom s (g / 64)).variant, phase := rf s (CORE_STATUS g) Fd.CORE_STATUS_PHASE_ID,
          held0 := (live s (CLK_HELD (g / 64))).toNat % 2 ^ 48, bundle := bundle }
      modCore s g (fun x => { x with samples := x.samples ++ [smp], sampNext := x.sampNext + 1 })
    else s

/-- The plans' entries enter the pipelines and queues. -/
def commitPlans (s : State) (g sc : Nat) (plans : List (Nat × Plan)) : State :=
  let ps := plans.map (fun p => p.2)
  let imLand := (ps.flatMap (fun p => p.flights)).filterMap (fun f => match f.act with
    | .im _ _ _ _ _ => some f.land
    | .hclr _ => some f.land
    | .lanes _ _ _ => some f.land
    | _ => Option.none)
  let s := modCore s g (fun x => { x with
    flights := x.flights ++ ps.flatMap (fun p => p.flights)
    tu := x.tu ++ ps.flatMap (fun p => p.tu)
    tuFree := (ps.filterMap (fun p => p.tuFree)).foldl (fun _ n => n) x.tuFree
    accs := x.accs.filter (fun a => decide (sc ≤ a.last)) ++ ps.flatMap (fun p => p.accs)
    regions := x.regions.filter (fun r => decide (sc ≤ r.last)) ++ ps.flatMap (fun p => p.regions)
    refills := x.refills.filter (fun r => decide (sc ≤ r.1 + 7)) ++ ps.flatMap (fun p => p.refill)
    imBusy := imLand.foldl (fun _ n => n) x.imBusy })
  let k := g / 64
  modSite s k (fun y => { y with
    bankQ := y.bankQ ++ ps.flatMap (fun p => p.bank)
    chanQ := y.chanQ ++ ps.flatMap (fun p => p.chanw)
    strmQ := y.strmQ ++ ps.flatMap (fun p => p.strm) })

/-- Widen a gate to a new end (R95). -/
def gateTo (old : Option (Nat × Nat)) (sc dur : Nat) : Option (Nat × Nat) :=
  match old with
  | some (a, b) => if sc ≤ b then some (a, max b (sc + dur - 1)) else some (sc + 1, sc + dur - 1)
  | Option.none => some (sc + 1, sc + dur - 1)

/-- The deepest level the site may enter when the last of its cores has gone to sleep at `sc` (R93). DESIGN CHOICE (log entry 127): the number of SCs
from S + 1 to the resume SC does not count the resume SC itself. -/
def siteLevel (s : State) (k sc : Nat) : Nat :=
  let cs := enabledCores s k
  let permit := cs.foldl (fun m g => min m (core s g).sleepLevel) 3
  let first := match cs.map (fun g => (core s g).resume) with | [] => 0 | x :: xs => minimum x xs
  let room := first - (sc + 1)
  if 3 ≤ permit ∧ 2 * wakeCycles s 3 ≤ room then 3
  else if 2 ≤ permit ∧ 2 * wakeCycles s 2 ≤ room then 2
  else 1

/-- SLEEP takes effect (R91 to R93). -/
def beginSleep (s : State) (g sc arg : Nat) : State :=
  let s := modCore s g (fun x => { x with
    resume := sc + bf arg 0 27, sleepLevel := bf arg 27 2, thawing := false, awake := false })
  let s := setCoreState s g 4
  let k := g / 64
  let s := if (enabledCores s k).all (fun h => coreState s h == 4) then 
      modSite s k (fun x => { x with
        sleep := siteLevel s k sc
        wake := if (enabledCores s k).all (fun h => !(core s h).thawing && !(core s h).awake) then 1 else x.wake }) else s
  showSleep s k

/-- After a HALT the core enters HALTED once the operations issued have landed (R96). -/
def settleHalt (s : State) (g now : Nat) : State :=
  let x := core s g
  match x.haltAt with
  | Option.none => s
  | some n =>
    if coreState s g = 3 ∧ n ≤ now ∧ x.flights.isEmpty ∧ x.tu.isEmpty then
      setCoreState (modCore s g (fun x => { x with haltAt := Option.none })) g 5
    else s

/-- The SC by which everything that a core has issued has landed: flights, tensor operations, basin accesses, and the bundle's own slots. -/
def landedBy (s : State) (g sc : Nat) (plans : List (Nat × Plan)) : Nat :=
  let x := core s g
  let lands : List Nat := x.flights.map (fun f => f.land) ++ x.tu.map tuLand
    ++ ((site s (g / 64)).bankQ.filter (fun r => r.port == g % 64)).map (fun r => r.sc)
    ++ (plans.filter (fun p => p.2.exec)).map (fun p => sc + p.2.lat)
  lands.foldl max sc

/-- What the control field does at issue besides the PC (R88, R89, R91, R95, R96); `by_` is the SC by which what the core issued has landed. -/
def commitCtl (s : State) (g sc c by_ : Nat) : State :=
  let arg := bf c 0 29
  match bf c 29 3 with
  | 2 =>
    let s := wf s (CORE_STATUS g) Fd.CORE_STATUS_PHASE_ID (bf arg 0 16)
    modCore s g (fun x => { x with vsel := if bf arg 28 1 = 1 then some (bf arg 16 12) else Option.none })
  | 3 => beginSleep s g sc arg
  | 4 =>
    let dur := bf arg 0 20
    if dur < 32 then s
    else modCore s g (fun x => { x with
      tuGate := if bf arg 28 1 = 1 then gateTo x.tuGate sc dur else x.tuGate
      tuOff := x.tuOff || bf arg 28 1 == 1
      vuOff := x.vuOff || bf arg 27 1 == 1
      vuGate := if bf arg 27 1 = 1 then gateTo x.vuGate sc dur else x.vuGate })
  | 5 => settleHalt (modCore s g (fun x => { x with haltAt := some by_ })) g sc
  | _ => s

/-- Keep what an issue at SC `sc` would be taken back to (R275). -/
def keepUndo (s : State) (g sc : Nat) (plans : List (Nat × Plan)) : State :=
  let x := site s (g / 64)
  s.setUndo (sput (fun _ => CoreUndo.init) g
    { sc := sc, x := core s g, csr := s.csr, live := s.live, chanw := plans.flatMap (fun p => p.2.chanw), sleep := x.sleep, wake := x.wake } s.undo)

/-- Issue the bundle at `pc` at SC `sc`: all of it, or none of it with a fault (R63, R68, R80, R99). -/
def issueBundle (s : State) (g sc pc : Nat) (bundle : BitVec 256) : State :=
  let plans := slotPlans s g sc pc bundle
  let c := ctlField bundle.toNat
  let ctl := planCtl s g pc c
  let fault := firstFault (bundleFaults s g sc pc bundle plans ctl)
  let kept := keepUndo s g sc plans
  let mark := fun (s : State) => modCore s g (fun x => { x with issued := some sc })
  match fault with
  | some f =>
    let s := mark s
    let s := (List.range 4).foldl (fun s i => countCycle s g i 3 1) s
    coreFault s g f.1 f.2 pc sc bundle
  | Option.none =>
    let s := commitPlans (mark kept) g sc plans
    let s := setLoops s g ctl.loops
    let s := wf s (CORE_STATUS g) Fd.CORE_STATUS_PC ctl.pc
    let s := commitCtl s g sc c (landedBy s g sc plans)
    let s := bump s (CORE_BUNDLES g) 1
    let s := plans.foldl (fun s p => countCycle s g p.1 (if p.2.exec then 0 else 1) 1) s
    let s := plans.foldl (fun s p => p.2.events.foldl (fun s e => countEvent s g e.1 e.2) s) s
    noteChanReads (takeSample s g sc pc bundle plans) (g / 64) (plans.flatMap (fun p => p.2.chanr))

/-- Address of the next bundle: after a PHASE with VSEL, the variant in force selects it (R89). -/
def fetchPc (s : State) (g : Nat) : Nat :=
  let pc := rf s (CORE_STATUS g) Fd.CORE_STATUS_PC
  match (core s g).vsel with
  | some stride => (pc + (dom s (g / 64)).variant * stride) % 4096
  | Option.none => pc

/-- Whether a core may issue now: RUN, no hold, no HALT issued, and nothing issued yet at this SC (R63, R96). -/
def mayIssue (s : State) (g : Nat) : Bool :=
  coreState s g == 3 && (core s g).haltAt.isNone && !held s (g / 64) && (core s g).issued != some (scOf s (g / 64))

/-- The bundle stored at an instruction-memory address (R66). -/
def storedBundle (s : State) (g pc : Nat) : BitVec 256 := BitVec.ofNat 256 (natOf (creads s g (0xA_0000 + 32 * pc) 32))

/-- The state at which a core's bundle issues: what is due at the SC now has landed, and the metadata bytes read by now are checked. -/
def ready (s : State) (g : Nat) : State :=
  let sc := scOf s (g / 64)
  metaCheck (landAll (landChannels (advanceProgram s (g / 64) sc) (g / 64) (sc - 1)) g sc) g sc

/-- Whether the site has raised a FAULT hold at the SC now and this core has yet to meet the SC: it issues nothing (R275), but a bundle of its
own that faults at the same SC is recorded (R101). -/
def faultWindow (s : State) (g : Nat) : Bool :=
  let k := g / 64
  coreState s g == 3 && (core s g).haltAt.isNone && held s k && (core s g).issued != some (scOf s k)
    && (dom s k).causes.contains hFault && (rd s (CLK_HOLD_SC k)).toNat == scOf s k

/-- A core at the SC of its site's FAULT hold: the fault of its bundle, if it has one, is recorded, and nothing else happens (R101). -/
def faultOnly (s : State) (g : Nat) (pick : State → Nat → BitVec 256) : State :=
  let sc := scOf s (g / 64)
  let m := metaCheck s g sc
  if coreState m g != 3 then m
  else
    let r := ready s g
    let pc := fetchPc r g
    let bundle := pick r pc
    match firstFault (bundleFaults r g sc pc bundle (slotPlans r g sc pc bundle) (planCtl r g pc (ctlField bundle.toNat))) with
    | some f =>
      let s := modCore s g (fun x => { x with issued := some sc })
      coreFault ((List.range 4).foldl (fun s i => countCycle s g i 3 1) s) g f.1 f.2 pc sc bundle
    | Option.none => s

/-- Issue at the SC now the bundle that `pick` gives for the PC. Landings and metadata reads of this SC come first. -/
def issueWith (s : State) (g : Nat) (pick : State → Nat → BitVec 256) : State :=
  if !mayIssue s g then (if faultWindow s g then faultOnly s g pick else s)
  else
    let r := ready s g
    if !mayIssue r g then r
    else
      let pc := fetchPc r g
      issueBundle (modCore r g (fun x => { x with vsel := Option.none })) g (scOf s (g / 64)) pc (pick r pc)

/-- Fetch and issue. -/
def fetchIssue (s : State) (g : Nat) : State := issueWith s g (fun s pc => storedBundle s g pc)

/-- Issue a bundle that carries one slot or control operation alone. -/
def issueAlone (s : State) (g : Nat) (bundle : BitVec 256) : State := issueWith s g (fun _ _ => bundle)

end Sys2Proof.Machine
end

