-- ==== Sys2Proof/Machine/CoreOps.lean ====
section
/-!
DEFINITION. The meanings of the core's commands: fetching and issuing a bundle, each control operation and each slot operation issued by
itself, landings, arming, starting, sleeping and waking. A slot or control row is the issue of the bundle that carries it alone.
-/
namespace Sys2Proof.Machine

/-- `BUNDLE_FETCH` (R63, R66, R80, R86, R99). -/
def execBundleFetch (g : Gid) (s : State) : Host.Outcome State Fault Refusal := ok (fetchIssue s g.val)

/-- `CTL_LOOP` (R84, R85, R86). -/
def execCtlLoop (g : Gid) (arg : BitVec 29) (s : State) : Host.Outcome State Fault Refusal :=
  ok (issueAlone s g.val (bundleOf 0 0 0 0 (ctlWord 1 arg)))

/-- `CTL_PHASE` (R87, R88, R89). -/
def execCtlPhase (g : Gid) (arg : BitVec 29) (s : State) : Host.Outcome State Fault Refusal :=
  ok (issueAlone s g.val (bundleOf 0 0 0 0 (ctlWord 2 arg)))

/-- `CTL_SLEEP` (R91 to R93). -/
def execCtlSleep (g : Gid) (arg : BitVec 29) (s : State) : Host.Outcome State Fault Refusal :=
  ok (issueAlone s g.val (bundleOf 0 0 0 0 (ctlWord 3 arg)))

/-- `CTL_IDLE` (R95). -/
def execCtlIdle (g : Gid) (arg : BitVec 29) (s : State) : Host.Outcome State Fault Refusal :=
  ok (issueAlone s g.val (bundleOf 0 0 0 0 (ctlWord 4 arg)))

/-- `CTL_HALT` (R96). -/
def execCtlHalt (g : Gid) (s : State) : Host.Outcome State Fault Refusal :=
  ok (issueAlone s g.val (bundleOf 0 0 0 0 (ctlWord 5 0#29)))

/-- `TU_MMA` (R147, R149 to R152). -/
def execTuMma (g : Gid) (f : TuF) (s : State) : Host.Outcome State Fault Refusal :=
  ok (issueAlone s g.val (bundleOf (tuWord 0x01 f) 0 0 0 0))

/-- `TU_MMAS` (R166, R149 to R152). -/
def execTuMmas (g : Gid) (f : TuF) (s : State) : Host.Outcome State Fault Refusal :=
  ok (issueAlone s g.val (bundleOf (tuWord 0x02 f) 0 0 0 0))

/-- `TU_MMAWG` (R167, R149 to R152). -/
def execTuMmawg (g : Gid) (f : TuF) (s : State) : Host.Outcome State Fault Refusal :=
  ok (issueAlone s g.val (bundleOf (tuWord 0x03 f) 0 0 0 0))

/-- `TU_ACCZ` (R158). -/
def execTuAccz (g : Gid) (f : TuF) (s : State) : Host.Outcome State Fault Refusal :=
  ok (issueAlone s g.val (bundleOf (tuWord 0x04 f) 0 0 0 0))

/-- `TU_DLOAD` (R154). -/
def execTuDload (g : Gid) (f : TuF) (s : State) : Host.Outcome State Fault Refusal :=
  ok (issueAlone s g.val (bundleOf (tuWord 0x05 f) 0 0 0 0))

/-- `VU_ADD` (R72, R131). -/
def execVuAdd (g : Gid) (f : VuF) (s : State) : Host.Outcome State Fault Refusal :=
  ok (issueAlone s g.val (bundleOf 0 (vuWord 0x01 f) 0 0 0))

/-- `VU_SUB` (R72, R131). -/
def execVuSub (g : Gid) (f : VuF) (s : State) : Host.Outcome State Fault Refusal :=
  ok (issueAlone s g.val (bundleOf 0 (vuWord 0x02 f) 0 0 0))

/-- `VU_MUL` (R72, R131). -/
def execVuMul (g : Gid) (f : VuF) (s : State) : Host.Outcome State Fault Refusal :=
  ok (issueAlone s g.val (bundleOf 0 (vuWord 0x03 f) 0 0 0))

/-- `VU_FMA` (R72, R131). -/
def execVuFma (g : Gid) (f : VuF) (s : State) : Host.Outcome State Fault Refusal :=
  ok (issueAlone s g.val (bundleOf 0 (vuWord 0x04 f) 0 0 0))

/-- `VU_MAX` (R72, R132). -/
def execVuMax (g : Gid) (f : VuF) (s : State) : Host.Outcome State Fault Refusal :=
  ok (issueAlone s g.val (bundleOf 0 (vuWord 0x05 f) 0 0 0))

/-- `VU_MIN` (R72, R132). -/
def execVuMin (g : Gid) (f : VuF) (s : State) : Host.Outcome State Fault Refusal :=
  ok (issueAlone s g.val (bundleOf 0 (vuWord 0x06 f) 0 0 0))

/-- `VU_ABS` (R72, R132). -/
def execVuAbs (g : Gid) (f : VuF) (s : State) : Host.Outcome State Fault Refusal :=
  ok (issueAlone s g.val (bundleOf 0 (vuWord 0x07 f) 0 0 0))

/-- `VU_CMP` (R72, R132). -/
def execVuCmp (g : Gid) (f : VuF) (s : State) : Host.Outcome State Fault Refusal :=
  ok (issueAlone s g.val (bundleOf 0 (vuWord 0x08 f) 0 0 0))

/-- `VU_SEL` (R72). -/
def execVuSel (g : Gid) (f : VuF) (s : State) : Host.Outcome State Fault Refusal :=
  ok (issueAlone s g.val (bundleOf 0 (vuWord 0x09 f) 0 0 0))

/-- `VU_MOV` (R72). -/
def execVuMov (g : Gid) (f : VuF) (s : State) : Host.Outcome State Fault Refusal :=
  ok (issueAlone s g.val (bundleOf 0 (vuWord 0x0A f) 0 0 0))

/-- `VU_CVT` (R72, R120 to R130). -/
def execVuCvt (g : Gid) (f : VuF) (s : State) : Host.Outcome State Fault Refusal :=
  ok (issueAlone s g.val (bundleOf 0 (vuWord 0x0B f) 0 0 0))

/-- `VU_EXP2` (R72, R133). -/
def execVuExp2 (g : Gid) (f : VuF) (s : State) : Host.Outcome State Fault Refusal :=
  ok (issueAlone s g.val (bundleOf 0 (vuWord 0x0C f) 0 0 0))

/-- `VU_RCP` (R72, R133). -/
def execVuRcp (g : Gid) (f : VuF) (s : State) : Host.Outcome State Fault Refusal :=
  ok (issueAlone s g.val (bundleOf 0 (vuWord 0x0D f) 0 0 0))

/-- `VU_RSQRT` (R72, R133). -/
def execVuRsqrt (g : Gid) (f : VuF) (s : State) : Host.Outcome State Fault Refusal :=
  ok (issueAlone s g.val (bundleOf 0 (vuWord 0x0E f) 0 0 0))

/-- `VU_LD` (R72, R74). -/
def execVuLd (g : Gid) (f : VuF) (s : State) : Host.Outcome State Fault Refusal :=
  ok (issueAlone s g.val (bundleOf 0 (vuWord 0x10 f) 0 0 0))

/-- `VU_ST` (R72, R74). -/
def execVuSt (g : Gid) (f : VuF) (s : State) : Host.Outcome State Fault Refusal :=
  ok (issueAlone s g.val (bundleOf 0 (vuWord 0x11 f) 0 0 0))

/-- `XU_BRD` (R76, R181, R182, R184). -/
def execXuBrd (g : Gid) (f : XuF) (s : State) : Host.Outcome State Fault Refusal :=
  ok (issueAlone s g.val (bundleOf 0 0 (xuWord 0x01 f) 0 0))

/-- `XU_BWR` (R76, R181, R182). -/
def execXuBwr (g : Gid) (f : XuF) (s : State) : Host.Outcome State Fault Refusal :=
  ok (issueAlone s g.val (bundleOf 0 0 (xuWord 0x02 f) 0 0))

/-- `XU_RSEND` (R76, R207, R208). -/
def execXuRsend (g : Gid) (f : XuF) (s : State) : Host.Outcome State Fault Refusal :=
  ok (issueAlone s g.val (bundleOf 0 0 (xuWord 0x03 f) 0 0))

/-- `XU_RRECV` (R76, R207, R208). -/
def execXuRrecv (g : Gid) (f : XuF) (s : State) : Host.Outcome State Fault Refusal :=
  ok (issueAlone s g.val (bundleOf 0 0 (xuWord 0x04 f) 0 0))

/-- `XU_CSEND` (R76, R253). -/
def execXuCsend (g : Gid) (f : XuF) (s : State) : Host.Outcome State Fault Refusal :=
  ok (issueAlone s g.val (bundleOf 0 0 (xuWord 0x05 f) 0 0))

/-- `XU_STRM` (R76, R320). -/
def execXuStrm (g : Gid) (f : XuF) (s : State) : Host.Outcome State Fault Refusal :=
  ok (issueAlone s g.val (bundleOf 0 0 (xuWord 0x06 f) 0 0))

/-- `MX_ADDI` (R79). -/
def execMxAddi (g : Gid) (f : MxF) (s : State) : Host.Outcome State Fault Refusal :=
  ok (issueAlone s g.val (bundleOf 0 0 0 (mxWord 0x01 f) 0))

/-- `MX_ADD` (R79). -/
def execMxAdd (g : Gid) (f : MxF) (s : State) : Host.Outcome State Fault Refusal :=
  ok (issueAlone s g.val (bundleOf 0 0 0 (mxWord 0x02 f) 0))

/-- `MX_SUB` (R79). -/
def execMxSub (g : Gid) (f : MxF) (s : State) : Host.Outcome State Fault Refusal :=
  ok (issueAlone s g.val (bundleOf 0 0 0 (mxWord 0x03 f) 0))

/-- `MX_AND` (R79). -/
def execMxAnd (g : Gid) (f : MxF) (s : State) : Host.Outcome State Fault Refusal :=
  ok (issueAlone s g.val (bundleOf 0 0 0 (mxWord 0x04 f) 0))

/-- `MX_OR` (R79). -/
def execMxOr (g : Gid) (f : MxF) (s : State) : Host.Outcome State Fault Refusal :=
  ok (issueAlone s g.val (bundleOf 0 0 0 (mxWord 0x05 f) 0))

/-- `MX_XOR` (R79). -/
def execMxXor (g : Gid) (f : MxF) (s : State) : Host.Outcome State Fault Refusal :=
  ok (issueAlone s g.val (bundleOf 0 0 0 (mxWord 0x06 f) 0))

/-- `MX_SHLI` (R79). -/
def execMxShli (g : Gid) (f : MxF) (s : State) : Host.Outcome State Fault Refusal :=
  ok (issueAlone s g.val (bundleOf 0 0 0 (mxWord 0x07 f) 0))

/-- `MX_SHRI` (R79). -/
def execMxShri (g : Gid) (f : MxF) (s : State) : Host.Outcome State Fault Refusal :=
  ok (issueAlone s g.val (bundleOf 0 0 0 (mxWord 0x08 f) 0))

/-- `MX_LIH` (R79). -/
def execMxLih (g : Gid) (f : MxF) (s : State) : Host.Outcome State Fault Refusal :=
  ok (issueAlone s g.val (bundleOf 0 0 0 (mxWord 0x09 f) 0))

/-- `MX_SETP` (R79). -/
def execMxSetp (g : Gid) (f : MxF) (s : State) : Host.Outcome State Fault Refusal :=
  ok (issueAlone s g.val (bundleOf 0 0 0 (mxWord 0x0A f) 0))

/-- `MX_SCRD` (R79). -/
def execMxScrd (g : Gid) (f : MxF) (s : State) : Host.Outcome State Fault Refusal :=
  ok (issueAlone s g.val (bundleOf 0 0 0 (mxWord 0x0B f) 0))

/-- `MX_VARRD` (R79). -/
def execMxVarrd (g : Gid) (f : MxF) (s : State) : Host.Outcome State Fault Refusal :=
  ok (issueAlone s g.val (bundleOf 0 0 0 (mxWord 0x0C f) 0))

/-- `IMCLR` (R170). -/
def execImclr (g : Gid) (f : MxF) (s : State) : Host.Outcome State Fault Refusal :=
  ok (issueAlone s g.val (bundleOf 0 0 0 (mxWord 0x10 f) 0))

/-- `IMINS` (R171). -/
def execImins (g : Gid) (f : MxF) (s : State) : Host.Outcome State Fault Refusal :=
  ok (issueAlone s g.val (bundleOf 0 0 0 (mxWord 0x11 f) 0))

/-- `IMLKP` (R172). -/
def execImlkp (g : Gid) (f : MxF) (s : State) : Host.Outcome State Fault Refusal :=
  ok (issueAlone s g.val (bundleOf 0 0 0 (mxWord 0x12 f) 0))

/-- `IMIDX` (R172). -/
def execImidx (g : Gid) (f : MxF) (s : State) : Host.Outcome State Fault Refusal :=
  ok (issueAlone s g.val (bundleOf 0 0 0 (mxWord 0x13 f) 0))

/-- `HCLR` (R174). -/
def execHclr (g : Gid) (f : MxF) (s : State) : Host.Outcome State Fault Refusal :=
  ok (issueAlone s g.val (bundleOf 0 0 0 (mxWord 0x14 f) 0))

/-- `HINS` (R174). -/
def execHins (g : Gid) (f : MxF) (s : State) : Host.Outcome State Fault Refusal :=
  ok (issueAlone s g.val (bundleOf 0 0 0 (mxWord 0x15 f) 0))

/-- `HLKP` (R174). -/
def execHlkp (g : Gid) (f : MxF) (s : State) : Host.Outcome State Fault Refusal :=
  ok (issueAlone s g.val (bundleOf 0 0 0 (mxWord 0x16 f) 0))

/-- `IMSTAT` (R170). -/
def execImstat (g : Gid) (f : MxF) (s : State) : Host.Outcome State Fault Refusal :=
  ok (issueAlone s g.val (bundleOf 0 0 0 (mxWord 0x17 f) 0))

/-- `OPERATION_LAND` (R64, R81): what is due at the SC now lands; a core that issued HALT then enters HALTED when nothing is left (R96). Nothing
lands under a hold (R97). -/
def execOperationLand (g : Gid) (s : State) : Host.Outcome State Fault Refusal :=
  if held s (g.val / 64) then ok s
  else
    let now := scOf s (g.val / 64)
    ok (settleHalt (landFlights (landPast (bankCatchUp s (g.val / 64) now) g.val now) g.val now) g.val now)

/-- `TU_METADATA_READ` (R161). -/
def execTuMetadataRead (g : Gid) (s : State) : Host.Outcome State Fault Refusal :=
  if held s (g.val / 64) then ok s else ok (metaCheck s g.val (scOf s (g.val / 64)))

/-- `TU_LAND` (R150 to R152, R96). -/
def execTuLand (g : Gid) (s : State) : Host.Outcome State Fault Refusal :=
  if held s (g.val / 64) then ok s
  else
    let now := scOf s (g.val / 64)
    ok (settleHalt (landCompute (landPast (bankCatchUp s (g.val / 64) now) g.val now) g.val now) g.val now)

/-! Arming and starting. -/

/-- A write of CORE_CTRL (R103, R105). -/
def writeCoreCtrl (s : State) (req : Requester) (g : Nat) (v : W64) : State :=
  let a := CORE_CTRL g
  let st := coreState s g
  let entry := fget Fd.CORE_CTRL_ENTRY v
  let arm := fget Fd.CORE_CTRL_ARM v
  let clear := fget Fd.CORE_CTRL_CLEAR v
  if st = 1 then
    let s := wf s a Fd.CORE_CTRL_ENTRY entry
    let s := if clear = 1 then csrError s req true a else s
    if arm = 0 then s
    else if scOf s (g / 64) < (rd s (CORE_START_SC g)).toNat then setCoreState (wf s a Fd.CORE_CTRL_ARM 1) g 2
    else csrError s req true a
  else
    let s := if entry ≠ rf s a Fd.CORE_CTRL_ENTRY ∨ arm = 1 ∨ (clear = 1 ∧ st ≠ 5 ∧ st ≠ 6) then csrError s req true a else s
    if clear = 1 ∧ (st = 5 ∨ st = 6) then setCoreState s g 1 else s

/-- `CORE_ARM` (R103, R105). -/
def execCoreArm (req : Requester) (g : Gid) (v : W64) (s : State) : Host.Outcome State Fault Refusal :=
  ok (guardCsr s req (CORE_CTRL g.val) true (fun s => writeCoreCtrl s req g.val v))

/-- `CORE_CLEAR` (R103, R105). -/
def execCoreClear (req : Requester) (g : Gid) (v : W64) (s : State) : Host.Outcome State Fault Refusal :=
  ok (guardCsr s req (CORE_CTRL g.val) true (fun s => writeCoreCtrl s req g.val v))

/-- An image that is STARTING is RUNNING from the start of its first core (R477). DEDUCED (log entry 16). -/
def showRunning (s : State) (p : Nat) : State :=
  let a := BOOT_LOAD_STATUSp p
  if rf s a Fd.BOOT_LOAD_STATUSp_STATE = 3 then wf s a Fd.BOOT_LOAD_STATUSp_STATE 4 else s

/-- An armed core enters RUN at its start SC (R103). -/
def startCore (s : State) (g : Nat) : State :=
  let s := showRunning s (partOfSite s (g / 64))
  let s := setLoops s g []
  let s := wf s (CORE_STATUS g) Fd.CORE_STATUS_PC (rf s (CORE_CTRL g) Fd.CORE_CTRL_ENTRY)
  let s := wf s (CORE_CTRL g) Fd.CORE_CTRL_ARM 0
  let s := modCore s g (fun x => { x with vsel := Option.none, haltAt := Option.none })
  setCoreState s g 3

/-- A core that goes into RUN at the SC now fetches and issues. Where its site has raised a FAULT hold at this SC already, the core stays as it was,
but a bundle of its own that faults at the SC is recorded (R101). -/
def enterRun (s u : State) (g : Nat) : State :=
  if held s (g / 64) then (if faultWindow u g && coreState (fetchIssue u g) g == 6 then fetchIssue u g else s) else fetchIssue u g

/-- `CORE_START` (R103): at SC = CORE_START_SC the core starts and issues its first bundle. -/
def execCoreStart (g : Gid) (s : State) : Host.Outcome State Fault Refusal :=
  if coreState s g.val = 2 ∧ scOf s (g.val / 64) = (rd s (CORE_START_SC g.val)).toNat then ok (enterRun s (startCore s g.val) g.val) else ok s

/-! Sleep and wake. -/

/-- Request the wake of a site's compute die from the wake governor (R446). A wake under way is joined (R294). -/
def requestWake (s : State) (k : Nat) : State :=
  if (site s k).wake = 1 then
    modPnl (modSite s k (fun x => { x with wake := 2 })) (fun p => { p with wakeQ := p.wakeQ ++ [k + 256 * p.wall] })
  else s

/-- Cores of a site have left SLEEP without a resume: the registers show the level (R93), and a site in S2 or S3 wakes (R446). -/
def leaveSleep (s : State) (k : Nat) : State :=
  let s := showSleep s k
  if 2 ≤ (site s k).sleep ∧ (enabledCores s k).any (fun g => coreState s g != 4) then requestWake s k else s

/-- `SLEEP_THAW_START` (R91, R294): 64 SCs before its resume SC a sleeping core's thaw starts. The first of a site with every core stopped
is a site wake (R446). -/
def execSleepThawStart (g : Gid) (s : State) : Host.Outcome State Fault Refusal :=
  let x := core s g.val
  if coreState s g.val = 4 ∧ x.resume ≤ scOf s (g.val / 64) + 64 ∧ !x.awake then
    ok (requestWake (modCore s g.val (fun x => { x with thawing := true })) (g.val / 64))
  else ok s

/-- `SITE_WAKE_START` (R93, R446): a site in S2 or S3 starts its wake at the earliest resume SC minus the wake time of its level. -/
def execSiteWakeStart (k : Site) (s : State) : Host.Outcome State Fault Refusal :=
  let x := site s k.val
  let first := match ((enabledCores s k.val).filter (fun g => coreState s g == 4)).map (fun g => (core s g).resume) with
    | [] => 0
    | r :: rs => minimum r rs
  if 2 ≤ x.sleep ∧ first ≤ scOf s k.val + wakeCycles s x.sleep then ok (requestWake s k.val) else ok s

/-- Whether a core in SLEEP can issue: its own clock runs and its site's compute die is awake (R94, R295). -/
def coreReady (s : State) (g : Nat) : Bool := (core s g).awake && (site s (g / 64)).wake == 0

/-- Clear a WAKE cause when every core whose resume SC has come is ready (R94, R276). -/
def wakeSettled (s : State) (k : Nat) : State :=
  let sc := scOf s k
  if (dom s k).causes.contains hWake &&
      (enabledCores s k).all (fun g => coreState s g != 4 || Nat.blt sc (core s g).resume || coreReady s g)
  then clearCause s k hWake else s

/-- `SLEEP_RESUME` (R91, R94): the core issues its next bundle, or its site raises a WAKE hold when it is not ready. -/
def execSleepResume (g : Gid) (s : State) : Host.Outcome State Fault Refusal :=
  let k := g.val / 64
  if coreState s g.val = 4 ∧ (core s g.val).resume = scOf s k then
    if coreReady s g.val then
      let u := modCore (setCoreState s g.val 3) g.val (fun x => { x with vsel := Option.none })
      ok (enterRun s (showSleep u k) g.val)
    else if held s k then ok s
    else ok (raiseHold s k hWake 0)
  else ok s

/-- `THAW_ACK` (R294, R295): the clock is stable and WAKE drops. A core's thaw ends once its site's compute die is awake. -/
def execThawAck (t : ThawTarget) (s : State) : Host.Outcome State Fault Refusal :=
  match t with
  | .core g =>
    if (core s g.val).thawing ∧ (site s (g.val / 64)).wake = 0 then
      ok (wakeSettled (modCore s g.val (fun x => { x with thawing := false, awake := true })) (g.val / 64))
    else ok s
  | .site k =>
    if (site s k.val).wake = 3 then ok (wakeSettled (showSleep (modSite s k.val (fun x => { x with wake := 0, sleep := 0 })) k.val) k.val)
    else ok s

/-- `IDLE_UNIT_RESTART` (R95): the gated unit runs again; bundles may use it from the end of the gate. -/
def execIdleUnitRestart (g : Gid) (vu : Bool) (s : State) : Host.Outcome State Fault Refusal :=
  let x := core s g.val
  let gate := if vu then x.vuGate else x.tuGate
  match gate with
  | Option.none => ok s
  | some (_, b) =>
    if b + 1 ≤ scOf s (g.val / 64) + 16 then
      ok (modCore s g.val (fun x => if vu then { x with vuOff := false } else { x with tuOff := false }))
    else ok s

end Sys2Proof.Machine
end

