-- ==== Sys2Proof/Machine/EdgeProg.lean ====
section
/-!
DEFINITION. The edge program (R354, R355): its tables, the program in force, its sources and the outputs towards the front sites.
-/
namespace Sys2Proof.Machine

/-- Keys of an edge die's tables: hop entries, configurations in 8-byte words, phase rows in two words. -/
def edgeHopKey (e row : Nat) : Nat := tk 11 + e * 8192 + row
def edgeCfgKey (e row w : Nat) : Nat := tk 12 + (e * 512 + row) * 32 + w
def edgePhaseKey (e row w : Nat) : Nat := tk 13 + (e * 256 + row) * 2 + w

/-- The entry in force. -/
def edgeEntry (s : State) (e : Nat) : Nat := tab s (edgeHopKey e (edge s e).progEntry)

/-- Byte `i` of the configuration in force; 0 under the empty program. -/
def edgeByte (s : State) (e i : Nat) : Nat :=
  if (edge s e).progEmpty then 0 else bf (tab s (edgeCfgKey e (hopConfig (edgeEntry s e)) (i / 8))) (8 * (i % 8)) 8

/-- Put an entry in force from SC `sc`; DURATION 0 is the empty program (R213). -/
def edgeStart (s : State) (e entry sc : Nat) : State :=
  if hopDuration (tab s (edgeHopKey e entry)) = 0 then modEdge s e (fun x => { x with progEmpty := true })
  else modEdge s e (fun x => { x with progEmpty := false, progEntry := entry, progStart := sc })

/-- Bring the program to SC `sc` (R213); each entry lasts at least one SC. -/
def edgeAdvance (s : State) (e sc : Nat) : Nat → State
  | 0 => s
  | n + 1 =>
    let w := edgeEntry s e
    let due := (edge s e).progStart + hopDuration w
    if (edge s e).progEmpty || Nat.blt sc due then s
    else if hopLast w then
      edgeAdvance (edgeStart (modEdge s e (fun x => { x with progRep := x.progRep + 1 })) e (edge s e).progLoop due) e sc n
    else edgeAdvance (edgeStart s e (((edge s e).progEntry + 1) % 8192) due) e sc n

/-- At a phase boundary the edge die looks up its phase table (R211, R354). -/
def startEdge (s : State) (e phaseId variant sc : Nat) : State :=
  match (List.range 256).find? (fun i => phaseMatches (tab s (edgePhaseKey e i 0)) phaseId variant) with
  | Option.none => modEdge s e (fun x => { x with progEmpty := true })
  | some i =>
    let row := tab s (edgePhaseKey e i 0)
    edgeStart (modEdge s e (fun x => { x with progLoop := bf row 48 13, progRep := 0 })) e (bf row 32 13) sc

/-- What a source code carries at SC `sc` (R354): an inbound slice, or the chunk a receive weir presents. -/
def edgeSource (s : State) (e sc code : Nat) : Option Slice :=
  if 0x10 ≤ code ∧ code < 0x28 then
    let j := (code - 0x10) / 8
    ((dom s (144 + e)).ring.filter (fun r => r.sc == sc && r.weir == j && weirOn s (144 + e) j)).findSome? (fun r =>
      (r.slices.find? (fun p => p.1 == code % 8)).map (fun p => p.2))
  else ((edge s e).latch.find? (fun l => l.1 == code && l.2.1 == sc)).map (fun l => l.2.2)

/-- Send the outputs towards front site `j` whose source code satisfies `pick`, at SC `sc` (R215, R354). -/
def edgeOutput (s : State) (e sc j : Nat) (pick : Nat → Bool) : State :=
  let sl := (List.range 8).filterMap (fun k =>
    let c := edgeByte s e (8 * j + k)
    if pick c then (edgeSource s e sc c).map (fun v => (k, v)) else Option.none)
  let k := frontSite e j
  let b := edgeSide e j
  if sl.isEmpty ∨ !edgePortUsable s k b then s else sendTo s k (8 + b) (sc + 3) sl

/-- Front-to-front forwarding of the SC: outputs whose source is an inbound slice, once per SC. -/
def edgeForward (s : State) (e sc : Nat) : State :=
  if (edge s e).fwd = some sc then s
  else
    let s := modEdge (edgeAdvance s e sc (sc + 1)) e (fun x => { x with fwd := some sc, latch := x.latch.filter (fun l => l.2.1 == sc) })
    let s := (List.range 3).foldl (fun s j => edgeOutput s e sc j (fun c => Nat.ble 0x10 c && Nat.blt c 0x28)) s
    modDom s (144 + e) (fun x => { x with ring := x.ring.filter (fun r => Nat.ble sc r.sc) })

/-- Whether an edge program source code is one of R354. -/
def edgeCode (c : Nat) : Bool := c == 0 || (Nat.ble 0x10 c && Nat.blt c 0x28) || (Nat.ble 0x30 c && Nat.blt c 0x38)

/-- Whether a source code's port is enabled and its front site is no hole (R355, code 0x3). -/
def edgeCodeUp (s : State) (e c : Nat) : Bool :=
  if c = 0 then true
  else if c < 0x28 then siteState s (frontSite e ((c - 0x10) / 8)) != 2
  else portEnabled s (8 * e + (c - 0x30))

/-- Check of a written word (R355): 8 bytes of a configuration row from byte `at_`. -/
def edgeCfgCheck (s : State) (e at_ w : Nat) : Nat :=
  let bytes := (List.range 8).map (fun i => (at_ + i, bf w (8 * i) 8))
  if bytes.any (fun b => (Nat.blt b.1 32 && !edgeCode b.2) || (Nat.ble 40 b.1 && b.2 != 0)) then 2
  else if bytes.any (fun b => b.2 != 0 && ((Nat.blt b.1 32 && !edgeCodeUp s e b.2)
      || (Nat.blt b.1 24 && siteState s (frontSite e (b.1 / 8)) == 2) || (Nat.ble 24 b.1 && Nat.blt b.1 40 && !portEnabled s (8 * e + b.1 % 8)))) then 3
  else 0

/-- Check of a hop entry, and of a phase word. -/
def edgeHopCheck (w : Nat) : Nat := if hopDuration w = 0 ∨ bf w 27 5 ≠ 0 then 2 else 0
def edgePhaseCheck (word w : Nat) : Nat :=
  if word = 1 then (if w ≠ 0 then 2 else 0) else if bf w 19 13 ≠ 0 ∨ bf w 45 3 ≠ 0 ∨ bf w 61 3 ≠ 0 then 2 else 0

/-- Record a refused row. -/
def progErr (s : State) (e code : Nat) : State :=
  wf (wf s (SUO_PROG_ERR e) Fd.SUO_PROG_ERR_ERR 1) (SUO_PROG_ERR e) Fd.SUO_PROG_ERR_ERR_CODE code

/-- A write of a word at offset `o` of an edge die's SUO block that falls in the program tables (R355, R386); of a hop word, `half` 1 and 2 write only
the lower and the higher entry. -/
def writeEdgeProg (s : State) (req : Requester) (e o half : Nat) (v : W64) : State :=
  let w := v.toNat
  if rf s (SUO_PROG_ERR e) Fd.SUO_PROG_ERR_LOCK = 1 then csrError s req true (baseSuo e + o)
  else if 0x8_0000 ≤ o ∧ o < 0x8_8000 then
    let row := (o - 0x8_0000) / 4
    ((if half = 2 then [] else [(row, bf w 0 32)]) ++ (if half = 1 then [] else [(row + 1, bf w 32 32)])).foldl (fun s r =>
      if edgeHopCheck r.2 = 0 then setTab s (edgeHopKey e r.1) r.2 else progErr s e (edgeHopCheck r.2)) s
  else if 0x10_0000 ≤ o ∧ o < 0x12_0000 then
    let row := (o - 0x10_0000) / 256
    let at_ := o % 256
    let c := edgeCfgCheck s e at_ w
    if c = 0 then setTab s (edgeCfgKey e row (at_ / 8)) w else progErr s e c
  else if 0x12_0000 ≤ o ∧ o < 0x12_1000 then
    let row := (o - 0x12_0000) / 16
    let word := o % 16 / 8
    let c := edgePhaseCheck word w
    if c = 0 then setTab s (edgePhaseKey e row word) w else progErr s e c
  else progErr s e 1

/-- `SUO_PROG_ROW_WRITE` (R355, R386): `off` is the 8-byte word's offset in the die's SUO block. -/
def execSuoProgRowWrite (req : Requester) (e : Edge) (off : Fin 0x4_0000) (v : W64) (s : State) : Host.Outcome State Fault Refusal :=
  let o := 8 * off.val
  let a := baseSuo e.val + o
  if rejected s a then ok (csrError s req true a)
  else if !permitted s (clsOf s req) true .suo e.val 0x3000 then ok (csrError (countRefusal s) req true a)
  else ok (writeEdgeProg s req e.val o 0 v)

end Sys2Proof.Machine
end

