-- ==== Sys2Proof/Machine/Fences.lean ====
section
/-!
DEFINITION. The readiness bitmaps (R465, R466) and the fence of a unit with what goes out of service with it (R34 to R38, R234, R488). A unit
keeps the cause of its own fence; one that is out of use only because of another keeps none and shows 0x05 or 0x07 (R46).
-/
namespace Sys2Proof.Machine

/-! Readiness. -/

/-- Number of set bits among the words of a bitmap. -/
def bitCount (s : State) (addr : Nat → Nat) (n : Nat) : Nat :=
  (List.range n).foldl (fun acc i => if (rd s (addr (i / 64))).getLsbD (i % 64) then acc + 1 else acc) 0

/-- The other generator. -/
def otherGen (g : Nat) : Nat := 1 - g % 2

/-- The standby steward (R290). -/
def standby (s : State) : Nat := otherGen (rf s FLT_STEWARD Fd.FLT_STEWARD_ACTIVE)

/-- The services that the enabled stewards give: LOCKSTEP needs a standby that is not fenced (R465, R496). -/
def servicesDue (s : State) : Nat := if unitCause s 10 (standby s) = 0 then 0x7FF else 0x7FB

/-- Every function enabled in the FPR is ready (R465, R477). -/
def allReady (s : State) : Bool :=
  (List.range 144).all (fun k => siteState s k == 2 || ((rd s (BOOT_READY_NETn (k / 64))).getLsbD (k % 64)
      && (siteState s k == 1 || (rd s (BOOT_READY_SITEn (k / 64))).getLsbD (k % 64))))
    && (List.range 32).all (fun h => !stackEnabled s h || (List.range 32).all (fun c => (rd s (BOOT_READY_HBMn (h / 2))).getLsbD (h % 2 * 32 + c)))
    && (List.range 128).all (fun p => !portEnabled s p || (rd s (BOOT_READY_PORTn (p / 64))).getLsbD (p % 64))
    && Nat.land (rf s BOOT_READY_SVC Fd.BOOT_READY_SVC_BITS) (servicesDue s) == servicesDue s

/-- Refresh BOOT_READY. -/
def showReady (s : State) : State :=
  let s := wf s BOOT_READY Fd.BOOT_READY_SITE (bitCount s BOOT_READY_SITEn 144)
  let s := wf s BOOT_READY Fd.BOOT_READY_NET (bitCount s BOOT_READY_NETn 144)
  let s := wf s BOOT_READY Fd.BOOT_READY_HBM (bitCount s BOOT_READY_HBMn 1024)
  let s := wf s BOOT_READY Fd.BOOT_READY_PORT (bitCount s BOOT_READY_PORTn 128)
  wfb s BOOT_READY Fd.BOOT_READY_ALL (allReady s)

/-- Set or clear bit `i` of the bitmap word at `a`; a change is told to sessions and functions (R466, R532, R537). -/
def setReady (s : State) (a i : Nat) (b : Bool) : State :=
  if (rd s a).getLsbD i == b then s
  else
    let s := showReady (wfb s a ⟨i, 1, .ro⟩ b)
    hostCauseAll (mgtEvent s 3 (bytesOf 8 (rd s a).toNat)) 2

/-- Bits of a bitmap that belong to domain `d`: a change sends the attention event of R466 from it. -/
def setBits (s : State) (d a lo n : Nat) (b : Bool) : State :=
  if (List.range n).all (fun i => (rd s a).getLsbD (lo + i) == b) then s
  else attention ((List.range n).foldl (fun s i => setReady s a (lo + i) b) s) d

def readyNet (s : State) (k : Nat) (b : Bool) : State := setBits s k (BOOT_READY_NETn (k / 64)) (k % 64) 1 b
def readySite (s : State) (k : Nat) (b : Bool) : State := setBits s k (BOOT_READY_SITEn (k / 64)) (k % 64) 1 b
/-- A port's bit follows its state, whose change sends an attention event of its own (R378). -/
def readyPort (s : State) (p : Nat) (b : Bool) : State := setReady s (BOOT_READY_PORTn (p / 64)) (p % 64) b
/-- The bit of a service of the stewards, which are no lockstep domain: no crossing lies between. -/
def readySvc (s : State) (i : Nat) (b : Bool) : State := setReady s BOOT_READY_SVC i b
def readyStack (s : State) (h : Nat) (b : Bool) : State :=
  setBits s (144 + h / 2) (BOOT_READY_HBMn (h / 2)) (h % 2 * 32) 32 b

/-! Fence scopes. -/

/-- A fence starts a publication, and abandons one in progress (R50). DESIGN CHOICE (log entry 124): a publication of a start that has not begun
yet takes the fence's REASON, 3, since one record then holds both changes. -/
def wantPub (s : State) (reason : Nat) : State :=
  wf (modPnl s (fun p => { p with pub := Option.none, pubWant := some reason })) BOOT_FPR_GEN Fd.BOOT_FPR_GEN_PUB_BUSY 0

/-- A port goes DOWN and loses what it holds, its link keys and its queues (R378); nothing is sent. -/
def portDown (s : State) (p : Nat) : State :=
  let a := SUO_PORTp_STATUS (p / 8) (p % 8)
  let s := modPort s p (fun x => { PortX.init with faults := x.faults })
  let s := [Fd.SUO_PORTp_STATUS_STATE, Fd.SUO_PORTp_STATUS_KEYED, Fd.SUO_PORTp_STATUS_CREDIT, Fd.SUO_PORTp_STATUS_TXQ,
    Fd.SUO_PORTp_STATUS_RXW].foldl (fun s f => wf s a f 0) s
  readyPort (wfb s (SUO_ENG_STATUS (p / 8)) ⟨Fd.SUO_ENG_STATUS_TX_ON.lo + p % 8, 1, .ro⟩ false) p false

/-- A domain leaves lockstep (R264). -/
def leaveLockstep (s : State) (d : Nat) : State :=
  modDom (wf (wf s (CLK_STATUS d) Fd.CLK_STATUS_ALIGNED 0) (CLK_STATUS d) Fd.CLK_STATUS_HELD 0) d (fun x => { x with
    stopped := false, ring := [], wire := [] })

/-- A stack goes out of use; the streams that it serves fail (R337). `r` is the state in which it was in use. -/
def stackOut (r s : State) (h : Nat) : State := readyStack (failFenced s (fun _ t => usesStack r t h)) h false

/-- Fence an optical port. -/
def fencePort (s : State) (p cause : Nat) : State := portDown (markUnit s 8 p cause) p

/-- Fence a stack. -/
def fenceStack (s : State) (h cause : Nat) : State := stackOut s (markUnit s 6 h cause) h

/-- The front sites of an edge die that lose a usable edge port as it goes out of service change by dependence (R38, R42, R46). -/
def edgePortsOut (r s : State) (e : Nat) : State :=
  (List.range 144).foldl (fun s k => ((edgePorts k).zipIdx).foldl (fun s p =>
    if p.1.1 = e ∧ edgePortUsable r k p.2 ∧ siteState s k ≠ 2 ∧ unitCause s 4 (1152 + 2 * k + p.2) = 0 then dependCause s k else s) s) s

/-- An edge die goes out of service with its stacks, ports and engine (R38, R488); the streams that it executes or takes part in fail (R337).
`r` is the state in which it was in service. -/
def edgeOut (r s : State) (e : Nat) : State :=
  let s := failFenced s (fun x t => x == e || (isSpread r t.issue t.entry && (participants r (ePart t.entry)).contains e))
  let s := [2 * e, 2 * e + 1].foldl (fun s h => stackOut r s h) s
  let s := (List.range 8).foldl (fun s i => portDown s (8 * e + i)) s
  leaveLockstep (edgePortsOut r s e) (144 + e)

/-- The edge dies that a change takes out of service: fenced, or left without a usable front site (R38). -/
def edgesLost (r s : State) : List Nat := (List.range 16).filter (fun e => edgeInService r e && !edgeInService s e)

/-- Core ports go off: the bank accesses that their operations still had to make do not take place (R199, R235). -/
def dropCoreReqs (s : State) (k : Nat) (p : Nat → Bool) : State := modSite s k (fun x => { x with bankQ := x.bankQ.filter (fun r => !p r.port) })

/-- The contents of a hole's basin are lost (R199): they read as bytes that nothing has written. Its engines stop. -/
def loseBasin (s : State) (k : Nat) : State :=
  let s := s.setMem (sreplace (basinBase k) (basinBase (k + 1)) [] s.mem)
  let s := wf (wf s (BSN_STATUS k) Fd.BSN_STATUS_ZF_BUSY 0) (BSN_STATUS k) Fd.BSN_STATUS_DIG_BUSY 0
  modSite s k (fun x => { x with bankQ := [], rewriteQ := [], zfLeft := [], digRange := Option.none, landQ := [] })

/-- Fence a site's compute die. -/
def fenceCompute (s : State) (k cause : Nat) : State := dropCoreReqs (readySite (markUnit s 2 k cause) k false) k (fun _ => true)

/-- A site with fewer than 52 enabled cores is dark (R36): its compute die depends on them, and the entry's cause is theirs. -/
def darkSite (s : State) (k cause : Nat) : State :=
  dropCoreReqs (readySite (setTab (setTab s (unitKey 2 k) 7) (siteCauseKey k) cause) k false) k (fun _ => true)

/-- The fence of one unit in hardware (R488), with the ports that face a hole (R234) and a site left with too few cores (R36). -/
def fenceOne (s : State) (kind i cause : Nat) : State :=
  match kind with
  | 1 =>
    let k := i / 64
    let s := dropCoreReqs (markUnit s 1 i cause) k (fun c => c == i % 64)
    if siteState s k = 0 ∧ (enabledCores s k).length < 52 then darkSite s k cause else s
  | 2 => fenceCompute s i cause
  | 3 => leaveLockstep (loseBasin (readyNet (readySite (fenceHole s (markUnit s 3 i cause) i) i false) i false) i) i
  | 4 => if i < 1152 then fenceLink s (i / 8) (i % 8) cause else markUnit s 4 i cause
  | 5 => markUnit s 5 i cause
  | 6 => fenceStack s i cause
  | 7 => fenceStack s (i / 32) cause
  | 8 => fencePort s i cause
  | 9 => (List.range 8).foldl (fun s j => portDown s (8 * i + j)) (markUnit s 9 i cause)
  | 10 => readySvc (wf (wf (markUnit s 10 i cause) FLT_STEWARD Fd.FLT_STEWARD_STANDBY_OK 0) FLT_STEWARD Fd.FLT_STEWARD_LOCKSTEP 0) 2 false
  | _ => s

/-- Fence a unit in hardware (R488), with the edge dies that go out of service with it (R38). -/
def fenceUnit (s : State) (kind i cause : Nat) : State :=
  let t := fenceOne s kind i cause
  (edgesLost s t).foldl (edgeOut s) t

end Sys2Proof.Machine
end

