-- ==== Sys2Proof/Machine/Clock.lean ====
section
/-!
DEFINITION. Lockstep and clocking: alignment (R263), stretching, debt and weir waits (R265 to R271), holds and their release (R274 to R280),
phase boundaries and operating-point steps (R281 to R286), the reference (R287 to R290), control crossings and time marks (R291 to R293,
R544), and the site reservoir's boosts (R424).
-/
namespace Sys2Proof.Machine

/-! Weirs and debt. Debt is counted in 412ths of a cycle. -/

/-- One cycle of debt, and the 16 cycles of R269. -/
def cycle412 : Nat := 412
def debtLimit : Nat := 16 * cycle412

/-- The gauge of a weir (R271): 16 + d_r − d_s, truncated toward 16. -/
def gauge (s : State) (d w : Nat) : Nat :=
  match weirSender d w with
  | some f => (16 + Int.tdiv (((dom s d).debt : Int) - ((dom s f).debt : Nat)) 412).toNat
  | Option.none => 16

/-- A weir's status word: FILL and ENABLED now; MIN and MAX are of the last snapshot (R300, R301). -/
def weirWord (s : State) (d w : Nat) : W64 :=
  let x := rd s (WEIRn_STATUS d w)
  if Nat.ble 144 d && Nat.ble 3 w then 0#64
  else fset Fd.WEIRn_STATUS_FILL (gauge s d w) (fset Fd.WEIRn_STATUS_ENABLED (b2n (aligned s d && weirOn s d w)) x)

/-- A gauge as it stands among a weir's extremes since the last snapshot, where 0 stands for the 16 of a weir that has not moved. -/
def gaugeCode (g : Nat) : Nat := (g + 48) % 64
def gaugeOf (code : Nat) : Nat := (code + 16) % 64

/-- Note a weir's gauge: its lowest and highest since the last snapshot. -/
def noteGauge (s : State) (d w : Nat) : State :=
  if !weirOn s d w then s
  else
    let g := gauge s d w
    let a := WEIRn_STATUS d w
    let old := (live s a).toNat
    let low := gaugeCode (min (gaugeOf (old % 64)) g)
    let high := gaugeCode (max (gaugeOf (old / 64 % 64)) g)
    let s := s.setLive (sput (fun _ => 0#64) a (BitVec.ofNat 64 (low + 64 * high)) s.live)
    if g = 0 ∨ 32 ≤ g then wf s a Fd.WEIRn_STATUS_LIMIT 1 else s

/-- The weirs that a domain feeds: receiver and weir. -/
def feeds (s : State) (d : Nat) : List (Nat × Nat) :=
  (List.range 160).flatMap (fun r => (weirsOf r).filterMap (fun w =>
    if weirSender r w = some d ∧ weirOn s r w then some (r, w) else Option.none))

/-- Show a domain's debt and note the gauges it enters into. -/
def showDebt (s : State) (d : Nat) : State :=
  let s := wf s (CLK_STATUS d) Fd.CLK_STATUS_DEBT ((dom s d).debt * 16 / 412)
  let s := (weirsOf d).foldl (fun s w => noteGauge s d w) s
  (feeds s d).foldl (fun s p => noteGauge s p.1 p.2) s

/-- A WEIR hold of a domain on a weir (R269, R489): a second within 4,096 SCs on one input reports a link fault that fences the link. -/
def weirHold (s : State) (d w : Nat) : State :=
  let sc := scOf s d
  let again := (dom s d).weirHolds.any (fun p => p.1 == w && Nat.blt sc (p.2 + 4096))
  let s := bump s (CLK_WEIR_HOLDS d) 1
  let s := modDom s d (fun x => { x with
    weirHolds := x.weirHolds.filter (fun p => p.1 != w) ++ [(w, sc)], repeatWeir := x.repeatWeir || again })
  let s := raiseHold s d hWeir w
  if again then
    report s (mkEvent s 3 2 4 (linkIndex d w) hWeir sc (rd s (CLK_HOLD d)) (rd s (CLK_HOLD_SC d)) 0#64 (some (d, hWeir)) (some (4, linkIndex d w)))
  else s

/-- Raise the WEIR holds that the debts call for (R269): debt 16, or a gauge at 0 or 32. `w` is the weir concerned when debt reaches 16. -/
def weirLimits (s : State) (d w : Nat) : State :=
  let s := if debtLimit ≤ (dom s d).debt ∧ !held s d then weirHold s d w else s
  let at_ := fun (s : State) (r v : Nat) => !held s r && aligned s r && (gauge s r v == 0 || Nat.ble 32 (gauge s r v))
  let own := (weirsOf d).filter (fun v => weirOn s d v)
  let s := own.foldl (fun s v => if at_ s d v then weirHold s d v else s) s
  (feeds s d).foldl (fun s p => if at_ s p.1 p.2 then weirHold s p.1 p.2 else s) s

/-- The cycle in progress of a domain is stretched by `n` 412ths: its debt grows by as much, up to 16 cycles (R265, R266). -/
def addDebt (s : State) (d n w : Nat) : State :=
  let s := modDom s d (fun x => { x with debt := min debtLimit (x.debt + n), extra := x.extra + n })
  weirLimits (showDebt s d) d w

/-- A weir wait stretches the cycle in progress by `n` 412ths (R268). It counts once per cycle. -/
def weirWait (s : State) (d n w : Nat) : State :=
  let s := if (dom s d).waited then s else bump s (CLK_WAIT d) 1
  addDebt (modDom s d (fun x => { x with waited := true })) d n w

/-- `DROOP_STRETCH` (R265, R424): the cycle in progress is stretched by `n` 412ths, at most 0.25; a charged reservoir boosts the C-rail.
The manual names no weir for a debt that a droop brings to 16: that value is free. -/
def execDroopStretch (d : Dom) (n : Fin 104) (s : State) : Host.Outcome State Fault Refusal :=
  let d := d.val
  if !aligned s d ∨ held s d ∨ (dom s d).droop then ok s
  else
    let s := modDom s d (fun x => { x with droop := true })
    let s := bump s (CLK_STRETCHED d) 1
    let s :=
      if 144 ≤ d ∨ s.pnl.pwr.drained.contains d then s
      else bump (modPnl s (fun p => { p with pwr := { p.pwr with drained := p.pwr.drained ++ [d] } })) (PWR_SITE_BOOSTS d) 1
    let f := takeFree 4 s
    ok (addDebt f.2 d n.val f.1.toNat)

/-- `RESERVOIR_RECHARGED` (R424). -/
def execReservoirRecharged (k : Site) (s : State) : Host.Outcome State Fault Refusal :=
  ok (modPnl s (fun p => { p with pwr := { p.pwr with drained := p.pwr.drained.filter (fun x => x != k.val) } }))

/-- `WEIR_WAIT` (R268): the entry for the next SC is missing on an input; the cycle is stretched by 0.25. -/
def execWeirWait (d : Dom) (s : State) : Host.Outcome State Fault Refusal :=
  let d := d.val
  match missingAt s d (scOf s d + 1) with
  | [] => ok s
  | w :: _ => if !aligned s d ∨ held s d then ok s else ok (weirWait s d 103 w)

/-! Alignment. -/

/-- Measure a domain's hold-tree trim at a cold start (R263). What loopback measures the manual does not state: the trim is a free value. -/
def measureTrim (s : State) (d : Nat) : State :=
  if s.pnl.boot.warm then s
  else
    let f := takeFree 16 s
    modPnl f.2 (fun p => { p with boot := { p.boot with trims := sput (fun _ => 0) d f.1.toNat p.boot.trims } })

/-- One domain aligned: SC 0 at the edge that its trim gives, no debt, empty weirs, no hold. -/
def alignDomain (s : State) (d : Nat) (bad : Bool) : State :=
  let s := modDom (measureTrim s d) d (fun x => { x with
    sc := 0, stopped := false, stop := 0, causes := [], debt := 0, droop := false, spent := 0, extra := 0, waited := false, weirHolds := [],
    repeatWeir := false, ring := [], wire := [] })
  let s := wfb (wf (wf (wf s (CLK_STATUS d) Fd.CLK_STATUS_DEBT 0) (CLK_STATUS d) Fd.CLK_STATUS_HELD 0) (CLK_STATUS d) Fd.CLK_STATUS_RAISING 0)
    (CLK_STATUS d) Fd.CLK_STATUS_ALIGNED (!bad)
  if d < 144 then modSite s d (fun x => { x with routed := Option.none, routeSc := Option.none, cscSc := Option.none }) else s

/-- A weir that did not prime is a failed link (R263): a lane-test failure of the record. -/
def failWeir (s : State) (d w : Nat) : State :=
  fenceUnit s 4 (linkIndex d w) 2

/-- `ALIGN` (R263, R264): during bring-up, before step 9 completes, every lockstep domain starts at SC 0 once every PLL has locked. `bad` are the weirs
whose gauge differs from 16 by more than 1 after priming. -/
def execAlign (bad : List (Dom × Fin 10)) (s : State) : Host.Outcome State Fault Refusal :=
  let ds := domains s
  if !s.pnl.boot.running ∨ 9 ≤ s.pnl.boot.step ∨ ds.any (fun d => rf s (CLK_STATUS d) Fd.CLK_STATUS_LOCKED == 0) then ok s
  else
    let s := ds.foldl (fun s d => alignDomain s d (bad.any (fun b => b.1.val == d && weirOn s d b.2.val))) s
    ok (bad.foldl (fun s b => if weirOn s b.1.val b.2.val then failWeir s b.1.val b.2.val else s) s)

/-! Holds. -/

/-- `HOLD_RAISE` (R275, R276): a domain raises a hold with a cause of its own. -/
def execHoldRaise (d : Dom) (cause : Fin 16) (w : Fin 10) (s : State) : Host.Outcome State Fault Refusal :=
  let c := cause.val
  if !aligned s d.val then ok s
  else if c = hWeir then (if weirOn s d.val w.val then ok (weirHold s d.val w.val) else ok s)
  else if c ∈ [hFault, hError, hDeadline, hWake, hBoundary, hOptical] then ok (raiseHold s d.val c 0)
  else ok s

/-- `HOLD_ARRIVE` (R275): the hold in force reaches a domain, which stops at this cycle boundary. -/
def execHoldArrive (d : Dom) (s : State) : Host.Outcome State Fault Refusal :=
  if rf s CLK_HOLD_STATUS Fd.CLK_HOLD_STATUS_IN_FORCE = 1 ∧ rf s CLK_HOLD_STATUS Fd.CLK_HOLD_STATUS_RELEASING = 0 ∧ aligned s d.val then
    ok (stopDomain s d.val)
  else ok s

/-- Whether what raised a cause of a domain is over (R276), for the causes that clear without a procedure of their own. -/
def causeOver (s : State) (d c : Nat) : Bool :=
  match c with
  | 3 => !(dom s d).repeatWeir
  | 4 => Nat.blt d 144 && !(site s d).arms.any (fun a => Nat.ble a.deadline (scOf s d) && !a.complete)
  | 5 => Nat.blt d 144 && (enabledCores s d).all (fun g => coreState s g != 4 || Nat.blt (scOf s d) (core s g).resume || coreReady s g)
  | 9 => Nat.ble 144 d && (List.range 8).all (fun i => !(port s (8 * (d - 144) + i)).txWait && !(port s (8 * (d - 144) + i)).rxWait)
  | _ => false

/-- Whether a cause that the steward raised is over. -/
def stewardCauseOver (s : State) (c : Nat) : Bool :=
  match c with
  | 7 => rf s PWR_STATUS Fd.PWR_STATUS_EMERG == 0 && s.pnl.pwr.trig.isEmpty
  | 8 => rf s CLK_REF_STATUS Fd.CLK_REF_STATUS_SEL != 2 || rf s CLK_REF_STATUS Fd.CLK_REF_STATUS_HOLDOVER == 1
  | 10 => rf s CLK_HOLD_CTRL Fd.CLK_HOLD_CTRL_SOFT == 0
  | _ => false

/-- `HOLD_CAUSE_CLEAR` (R276, R277): a cause clears once its release condition holds; FAULT, ERROR and a repeated WEIR never clear here, nor
does BOUNDARY. Domain 160 is the steward. -/
def execHoldCauseClear (d : Fin 161) (cause : Fin 16) (s : State) : Host.Outcome State Fault Refusal :=
  if d.val = 160 then (if stewardCauseOver s cause.val then ok (stewardClear s cause.val) else ok s)
  else if causeOver s d.val cause.val then ok (clearCause s d.val cause.val)
  else ok s

/-- The largest stop SC (R278). -/
def largestStop (s : State) : Nat := (lockstep s).foldl (fun m d => max m (dom s d).stop) 0

/-- Whether every domain in lockstep has stopped. -/
def allStopped (s : State) : Bool := (lockstep s).all (held s)

/-- Whether BOUNDARY is active at a domain or at the steward. -/
def boundaryActive (s : State) : Bool :=
  s.pnl.causes.contains hBoundary || (lockstep s).any (fun d => (dom s d).causes.contains hBoundary)

/-- Broadcast a release with H (R278, R302). -/
def sendRelease (s : State) (h : Nat) : State :=
  wf (modPnl s (fun p => { p with release := some h })) CLK_HOLD_STATUS Fd.CLK_HOLD_STATUS_RELEASING 1

/-- `HOLD_RELEASE` (R278, R279): after the last cause has cleared the steward broadcasts H. A release at a boundary is BOUNDARY_RELEASE. -/
def execHoldRelease (s : State) : Host.Outcome State Fault Refusal :=
  if rf s CLK_HOLD_STATUS Fd.CLK_HOLD_STATUS_IN_FORCE = 1 ∧ s.pnl.release = Option.none ∧ allStopped s ∧ !anyCause s then
    ok (sendRelease s (largestStop s))
  else ok s

/-- The release edge: every domain has resumed and holds SC H, and the hold ends (R278, R302). -/
def releaseEdge (s : State) : State :=
  match s.pnl.release with
  | Option.none => s
  | some h =>
    if (lockstep s).all (fun d => !held s d && scOf s d == h) then
      let s := modPnl s (fun p => { p with release := Option.none, crossing := Option.none })
      let s := (lockstep s).foldl (fun s d => showDebt (modDom s d (fun x => { x with debt := 0, spent := 0, extra := 0, waited := false })) d) s
      let s := wf (wf s CLK_HOLD_STATUS Fd.CLK_HOLD_STATUS_IN_FORCE 0) CLK_HOLD_STATUS Fd.CLK_HOLD_STATUS_RELEASING 0
      bump (wr s CLK_HOLD_LAST_REL (BitVec.ofNat 64 h)) CLK_HOLDS 1
    else s

/-- `DOMAIN_RESUME` (R278): a domain runs from its stop SC. -/
def execDomainResume (d : Dom) (s : State) : Host.Outcome State Fault Refusal :=
  if s.pnl.release.isSome ∧ held s d.val then
    let s := modDom s d.val (fun x => { x with stopped := false, debt := 0, spent := 0, extra := 0, waited := false })
    ok (releaseEdge (wf s (CLK_STATUS d.val) Fd.CLK_STATUS_HELD 0))
  else ok s

/-- `SOFT_HOLD_WRITE` (R276, R302): a write of CLK_HOLD_CTRL. -/
def writeHoldCtrl (s : State) (v : W64) : State :=
  let soft := fget Fd.CLK_HOLD_CTRL_SOFT v
  let s := wf s CLK_HOLD_CTRL Fd.CLK_HOLD_CTRL_SOFT soft
  if soft = 1 then (if s.pnl.causes.contains hSoftware then s else stewardHold s hSoftware)
  else stewardClear s hSoftware

/-- `SOFT_HOLD_WRITE` (R276). -/
def execSoftHoldWrite (req : Requester) (v : W64) (s : State) : Host.Outcome State Fault Refusal :=
  ok (guardCsr s req CLK_HOLD_CTRL true (fun s => writeHoldCtrl s v))

/-! Phase boundaries. -/

/-- The selection of a PHASE with VSEL is made: the next bundle is at PC + 1 + variant × VSTRIDE (R89). -/
def selectVariant (s : State) (g variant : Nat) : State :=
  match (core s g).vsel with
  | some stride =>
    wf (modCore s g (fun x => { x with vsel := Option.none })) (CORE_STATUS g) Fd.CORE_STATUS_PC
      ((rf s (CORE_STATUS g) Fd.CORE_STATUS_PC + variant * stride) % 4096)
  | Option.none => s

/-- A domain crosses into the phase after boundary SC `b`: the next row's phase, the router's program, the variant of its cores (R89, R92,
R211, R281). -/
def crossBoundary (s : State) (d b variant : Nat) : State :=
  let phase := rf s (CLK_BND_NEXT d) Fd.CLK_BND_NEXT_PHASE_ID
  let s := modDom (placePhase s d (nextRow s d) (b + 1)) d (fun x => { x with variant := variant })
  if 144 ≤ d then startEdge s (d - 144) phase variant (b + 1)
  else
    let s := startProgram s d phase variant (b + 1)
    (enabledCores s d).foldl (fun s g =>
      let st := coreState s g
      let s := if st = 3 ∨ st = 4 then wf s (CORE_STATUS g) Fd.CORE_STATUS_VARIANT variant else s
      let s := selectVariant s g variant
      if st = 4 then wf s (CORE_STATUS g) Fd.CORE_STATUS_PHASE_ID phase else s) s

/-- Whether a domain stands at the SC B of its next boundary. -/
def atBoundary (s : State) (d : Nat) : Bool := bndValid s d && (rd s (CLK_BND_NEXT_SC d)).toNat == scOf s d

/-- The work of SC `sc` that a domain does without a command (R62): an edge die forwards between its front sites (R354). -/
def endSc (s : State) (d sc : Nat) : State := if d < 144 then s else edgeForward s (d - 144) sc

/-- After SC B a domain stops on its own with stop SC B + 1 (R249, R282). -/
def boundaryStop (s : State) (d b : Nat) : State :=
  let s := modDom (endSc s d b) d (fun x => { x with sc := b + 1, droop := false, waited := false, spent := 0, extra := 0 })
  let s := raiseHold s d hBoundary 0
  if d < 144 then unfinished s d b else s

/-- `BOUNDARY_STOP` (R249, R282): a domain that has done the work of SC B, its router's included, stops. -/
def execBoundaryStop (d : Dom) (s : State) : Host.Outcome State Fault Refusal :=
  let d := d.val
  let b := scOf s d
  if aligned s d ∧ atBoundary s d ∧ !held s d ∧ b + 1 < 2 ^ 64 ∧ s.pnl.crossing ≠ some (b + 1)
      ∧ (144 ≤ d ∨ emptyProgram s d ∨ (site s d).routed = some b) then ok (boundaryStop s d b)
  else ok s

/-- The first domain that stands at a boundary. -/
def boundaryDomain (s : State) : Option Nat := (lockstep s).find? (fun d => (dom s d).causes.contains hBoundary)

/-- Fix the choice once the last domain has stopped (R440). The start step of R286 has its choice already. -/
def fixChoice (s : State) : State :=
  match s.pnl.choice, boundaryDomain s with
  | Option.none, some d =>
    recordChoice s d (nextRow s d) (rf s (CLK_BND_NEXT d) Fd.CLK_BND_NEXT_PHASE_ID) (chooseVariant s d (nextRow s d))
  | _, _ => s

/-- `BOUNDARY_STEP` (R283): the step command; the PLLs relock when the point changes. -/
def execBoundaryStep (s : State) : Host.Outcome State Fault Refusal :=
  if allStopped s ∧ boundaryActive s ∧ s.pnl.release = Option.none ∧ s.pnl.stepTo = Option.none then
    let s := fixChoice s
    match s.pnl.choice with
    | some (_, o) =>
      if o = rf s CLK_PANEL Fd.CLK_PANEL_OPPT then ok s
      else
        let s := modPnl s (fun p => { p with stepTo := some o })
        ok ((domains s).foldl (fun s d => wf s (CLK_STATUS d) Fd.CLK_STATUS_LOCKED 0) s)
    | Option.none => ok s
  else ok s

/-- C-rail setting of a site at an operating point (R423, R478). -/
def railSetting (s : State) (k o : Nat) : Nat := bf (rd s (FUSE_VSETn k)).toNat (16 * o) 10

/-- `PLL_RELOCK_DONE` (R283): the new point is in force; the C-rails stand at its settings. -/
def execPllRelockDone (s : State) : Host.Outcome State Fault Refusal :=
  match s.pnl.stepTo with
  | Option.none => ok s
  | some o =>
    let s := modPnl s (fun p => { p with stepTo := Option.none })
    let s := wf s CLK_PANEL Fd.CLK_PANEL_OPPT o
    ok ((domains s).foldl (fun s d =>
      let s := wf (wf s (CLK_STATUS d) Fd.CLK_STATUS_LOCKED 1) (CLK_STATUS d) Fd.CLK_STATUS_OPPT o
      if d < 144 ∧ rf s (PWR_SITE_STATUS d) Fd.PWR_SITE_STATUS_C_ON = 1 then
        wf s (PWR_SITE_STATUS d) Fd.PWR_SITE_STATUS_C_SET (railSetting s d o)
      else s) s)

/-- Whether a cause other than BOUNDARY is active. -/
def otherCause (s : State) : Bool :=
  s.pnl.causes.any (fun c => c != hBoundary) || (lockstep s).any (fun d => (dom s d).causes.any (fun c => c != hBoundary))

/-- Clear BOUNDARY everywhere. -/
def clearBoundary (s : State) : State :=
  stewardClear ((lockstep s).foldl (fun s d => if (dom s d).causes.contains hBoundary then clearCause s d hBoundary else s) s) hBoundary

/-- `BOUNDARY_RELEASE` (R89, R211, R278, R279, R283, R284, R286): with the step complete and no other cause active, the release carries H and
the variant. A domain that already stands at B + 1 crosses now, one behind it when it gets there. The hold of a start step that has nothing to choose
is released with the variant and point in force. -/
def execBoundaryRelease (s : State) : Host.Outcome State Fault Refusal :=
  if allStopped s ∧ boundaryActive s ∧ s.pnl.release = Option.none ∧ s.pnl.stepTo = Option.none ∧ !otherCause s then
    let s := fixChoice s
    match s.pnl.choice with
    | Option.none => ok (sendRelease (clearBoundary s) (largestStop s))
    | some (v, o) =>
      if o ≠ rf s CLK_PANEL Fd.CLK_PANEL_OPPT then ok s
      else
        let h := largestStop s
        let at_ := boundaryDomain s
        let s := modPnl (clearBoundary s) (fun p => { p with choice := Option.none })
        let s := wf s CLK_PANEL Fd.CLK_PANEL_VARIANT v
        match at_ with
        | Option.none => ok (sendRelease ((lockstep s).foldl (fun s x => modDom s x (fun y => { y with variant := v })) s) h)
        | some d =>
          let s := wf s CLK_PANEL Fd.CLK_PANEL_PHASE_ID (rf s (CLK_BND_NEXT d) Fd.CLK_BND_NEXT_PHASE_ID)
          let s := modPnl s (fun p => { p with crossing := some h })
          let s := (lockstep s).foldl (fun s x => if bndValid s x && (dom s x).stop == h then crossBoundary s x (h - 1) v else s) s
          ok (sendRelease s h)
  else ok s

/-! The boundary table. -/

/-- Geometry of a boundary table. -/
def bndLoader (d : Nat) : Loader := ⟨CLK_BND_LOAD_CTRL d, 1024, 8⟩

/-- The site whose basin a boundary-table load reads: the domain's own, or an edge die's front site 1. DESIGN CHOICE (log entry 7). -/
def bndBasin (d : Nat) : Nat := if d < 144 then d else frontSite (d - 144) 1

/-- Whether loads and writes of a domain's boundary registers are shut out (R300): a core of the site is ARMED, RUN or SLEEP. -/
def bndBusy (s : State) (d : Nat) : Bool := Nat.blt d 144 && siteBusy s d

/-- Check of a row (R281, R285). -/
def bndCheck (w : Nat) : Nat := if bndLength w = 0 ∨ 800_000 < bndLength w ∨ bf w 37 27 ≠ 0 then 2 else 0

/-- A write of CLK_BND_LOAD_CTRL (R300). -/
def writeBndLoad (s : State) (d : Nat) (v : W64) : State :=
  let a := CLK_BND_LOAD_CTRL d
  let s := clear1 s a Fd.CLK_BND_LOAD_CTRL_ERR v
  let first := fget Fd.CLK_BND_LOAD_CTRL_FIRST v
  let count := fget Fd.CLK_BND_LOAD_CTRL_COUNT v
  let s := wf (wf s a Fd.CLK_BND_LOAD_CTRL_FIRST first) a Fd.CLK_BND_LOAD_CTRL_COUNT count
  if fget Fd.CLK_BND_LOAD_CTRL_GO v = 0 ∨ rf s a Fd.CLK_BND_LOAD_CTRL_BUSY = 1 then s
  else
    match loadJob (bndLoader d) 0 first count (rf s (CLK_BND_LOAD_SRC d) Fd.CLK_BND_LOAD_SRC_LINE) with
    | Option.none => loadStop s a 1
    | some j => if bndBusy s d then loadStop s a 6 else modDom (wf s a Fd.CLK_BND_LOAD_CTRL_BUSY 1) d (fun x => { x with bndJob := some j })

/-- `CLK_BND_LOAD_GO` (R281, R300). -/
def execClkBndLoadGo (req : Requester) (d : Dom) (v : W64) (s : State) : Host.Outcome State Fault Refusal :=
  ok (guardCsr s req (CLK_BND_LOAD_CTRL d.val) true (fun s => writeBndLoad s d.val v))

/-- `CLK_BND_LOAD_ROW` (R281, R285, R300). The walk starts anew once a table in use has been loaded. -/
def execClkBndLoadRow (d : Dom) (ue : Bool) (s : State) : Host.Outcome State Fault Refusal :=
  let d := d.val
  match (dom s d).bndJob with
  | Option.none => ok s
  | some j =>
    let l := bndLoader d
    let k := bndBasin d
    let stop := fun (code : Nat) => loadStop (modDom s d (fun x => { x with bndJob := Option.none })) l.ctrl code
    if loadWaits s k j l.bytes then ok s
    else if bndBusy s d then ok (stop 6)
    else if ue then ok (stop 7)
    else
      let w := loadSource s k j l.bytes
      if bndCheck w ≠ 0 then ok (stop (bndCheck w))
      else
        let s := setTab s (bndKey d (j.first + j.next)) w
        let s := loadRead s k j l.bytes
        let s := modDom s d (fun x => { x with bndJob := loadNext j })
        if (loadNext j).isNone then
          let s := wf s l.ctrl ldBusy 0
          ok (if bndValid s d then placePhase s d 0 (rd s (CLK_BND_BASE d)).toNat else s)
        else ok s

/-- A write of CLK_BND_CFG or CLK_BND_BASE (R281, R300): refused while a core is busy; a table in use is walked from row 0. -/
def writeBnd (s : State) (req : Requester) (d a : Nat) (v : W64) : State :=
  if bndBusy s d then csrError s req true a
  else
    let s :=
      if a = CLK_BND_BASE d then wr s a v
      else wf (wf s a Fd.CLK_BND_CFG_LOOP (fget Fd.CLK_BND_CFG_LOOP v)) a Fd.CLK_BND_CFG_VALID (fget Fd.CLK_BND_CFG_VALID v)
    if bndValid s d then placePhase s d 0 (rd s (CLK_BND_BASE d)).toNat else s

/-! The reference. -/

/-- Magnitude and sign of a signed offset in 0.01 ppm. -/
def ppmAbs (e : BitVec 32) : Nat := e.toInt.natAbs

/-- A change of the reference reported as a REDUNDANCY record (R479). -/
def refEvent (s : State) (g : Nat) : State :=
  report s (mkEvent s 5 0 12 g 0 (scOf s 0) (rd s CLK_REF_STATUS) (rd s CLK_REF_OFFSET) 0#64 Option.none Option.none)

/-- Switch to the other generator (R288, R289). -/
def refSwitch (s : State) : State :=
  let g := otherGen s.pnl.refSel
  let s := modPnl s (fun p => { p with refSel := g, refGood := 0 })
  refEvent (wf (wf s CLK_REF_STATUS Fd.CLK_REF_STATUS_SEL g) CLK_REF_STATUS Fd.CLK_REF_STATUS_SWITCHED 1) g

/-- Enter holdover on the active steward's OCXO. -/
def refHoldover (s : State) : State :=
  if rf s CLK_REF_STATUS Fd.CLK_REF_STATUS_HOLDOVER = 1 then s
  else
    let s := modPnl s (fun p => { p with refGood := 0 })
    refEvent (wf (wf s CLK_REF_STATUS Fd.CLK_REF_STATUS_SEL 2) CLK_REF_STATUS Fd.CLK_REF_STATUS_HOLDOVER 1) s.pnl.refSel

/-- REF_DEGRADED, with its WARNING record when it is newly set (R479). -/
def refDegraded (s : State) : State :=
  if rf s CLK_REF_STATUS Fd.CLK_REF_STATUS_DEGRADED = 1 then s
  else
    let s := wf s CLK_REF_STATUS Fd.CLK_REF_STATUS_DEGRADED 1
    report s (mkEvent s 7 0 12 s.pnl.refSel 0 (scOf s 0) (rd s CLK_REF_STATUS) (rd s CLK_REF_OFFSET) 0#64 Option.none Option.none)

/-- Whether the generator that is not selected is present and locked; E_OTHER reads 0 while it is not (R289, R302). -/
def otherValid (s : State) (b : Bool) : State :=
  let s := wfb s CLK_REF_STATUS Fd.CLK_REF_STATUS_OTHER_VALID b
  if b then s else wf s CLK_REF_OFFSET Fd.CLK_REF_OFFSET_E_OTHER 0

/-- `REF_MEASURE` (R288, R289): `eOther` and `eOsc` are the averages measured, in 0.01 ppm. -/
def execRefMeasure (eOther eOsc : BitVec 32) (s : State) : Host.Outcome State Fault Refusal :=
  let other := rf s CLK_REF_STATUS Fd.CLK_REF_STATUS_OTHER_VALID = 1
  let s := wr s CLK_REF_OFFSET (fset Fd.CLK_REF_OFFSET_E_OTHER (if other then eOther.toNat else 0) (fset Fd.CLK_REF_OFFSET_E_OSC eOsc.toNat 0#64))
  let a := if other then ppmAbs eOther else 0
  let b := ppmAbs eOsc
  let sameSign := eOther.msb == eOsc.msb
  let s := if 1000 ≤ a ∨ 1000 ≤ b then refDegraded s else s
  let hold := rf s CLK_REF_STATUS Fd.CLK_REF_STATUS_HOLDOVER = 1
  let good := other ∧ a < 1000 ∧ b < 1000
  let s := modPnl s (fun p => { p with refGood := if good then p.refGood + 1 else 0 })
  let s :=
    if other ∧ 2000 ≤ a ∧ 2000 ≤ b ∧ sameSign then (if hold then s else refSwitch s)
    else if 2000 ≤ a ∨ 2000 ≤ b then wf s CLK_REF_STATUS Fd.CLK_REF_STATUS_DISAGREE 1
    else s
  ok (if rf s CLK_REF_STATUS Fd.CLK_REF_STATUS_DISAGREE = 1 ∧ 5000 ≤ b then refHoldover s else s)

/-- `HOLDOVER_LEAVE` (R288, R289): 10 s, 100 measurements, within 10 ppm of both comparators with DISAGREE clear. -/
def execHoldoverLeave (s : State) : Host.Outcome State Fault Refusal :=
  if rf s CLK_REF_STATUS Fd.CLK_REF_STATUS_HOLDOVER = 1 ∧ rf s CLK_REF_STATUS Fd.CLK_REF_STATUS_DISAGREE = 0
      ∧ rf s CLK_REF_STATUS Fd.CLK_REF_STATUS_OTHER_VALID = 1 ∧ 100 ≤ s.pnl.refGood then
    ok (wf (wf s CLK_REF_STATUS Fd.CLK_REF_STATUS_HOLDOVER 0) CLK_REF_STATUS Fd.CLK_REF_STATUS_SEL s.pnl.refSel)
  else ok s

/-- `REF_GENERATOR_LOSS` (R289): the selected generator stops being present and locked; it is then the one that is not valid. -/
def execRefGeneratorLoss (s : State) : Host.Outcome State Fault Refusal :=
  if rf s CLK_REF_STATUS Fd.CLK_REF_STATUS_HOLDOVER = 1 then ok s
  else if rf s CLK_REF_STATUS Fd.CLK_REF_STATUS_OTHER_VALID = 1 then ok (otherValid (refSwitch s) false)
  else ok (refHoldover s)

/-- `EXT_REF_VALIDITY_CHANGE` (R287, R577, R578): the external reference of a steward becomes valid or invalid; its generator follows it or
its OCXO, and slews. DESIGN CHOICE (log entry 125): the manual names no event for the return of a generator that was lost; the model has one that is
not selected locked again when its steward's external reference becomes valid. -/
def execExtRefValidityChange (st : Fin 2) (valid : Bool) (s : State) : Host.Outcome State Fault Refusal :=
  let s := modPnl s (fun p => { p with
    extValid := if valid then (if p.extValid.contains st.val then p.extValid else p.extValid ++ [st.val])
      else p.extValid.filter (fun x => x != st.val) })
  ok (if valid ∧ st.val ≠ s.pnl.refSel ∧ unitCause s 10 st.val = 0 then otherValid s true else s)

/-! Stewards. -/

/-- The NVM range of an image slot (R451). -/
def slotBase (i : Nat) : Nat := i * 0x600_0000

/-- An update in progress ends as a failure (R538): the first 64 KiB of its slot are erased, and the slot does not verify. -/
def failUpdate (s : State) : State :=
  if s.pnl.boot.update.isNone then s
  else
    let i := 1 - rf s BOOT_STATUS Fd.BOOT_STATUS_SLOT
    let base := slotBase i
    let s := wf s BOOT_STATUS ⟨7 + i, 1, .ro⟩ 0
    modPnl s (fun p => { p with boot := { p.boot with
      update := Option.none
      nvm := sdrop (fun a => Nat.ble base a && Nat.blt a (base + 0x1_0000)) p.boot.nvm
      slotA := if i = 0 then Option.none else p.boot.slotA
      slotB := if i = 0 then p.boot.slotB else Option.none } })

/-- Every session ends (R508, R535); an update that one had open fails. -/
def endSessions (s : State) : State :=
  let s := modPnl (failUpdate s) (fun p => { p with sessions := [] })
  wf (wf s (MGT_PORTn_STATUS 0) Fd.MGT_PORTn_STATUS_SESSIONS 0) (MGT_PORTn_STATUS 1) Fd.MGT_PORTn_STATUS_SESSIONS 0

/-- A takeover keeps the state of every placement of a load; those still landing start again from their first block (R404). -/
def restartLanding (l : LoadX) : LoadX :=
  let later := fun (i j : Nat) => match l.plcs[i]?, l.plcs[j]? with | some x, some y => Nat.blt y.pl.index x.pl.index | _, _ => false
  { l with
    plcs := l.plcs.map (fun x => if x.state = 1 then { x with blocks := 0, out := 0 } else x)
    slots := []
    sets := l.sets.zipIdx.map (fun t =>
      let mine := (l.plcs.zipIdx.filter (fun x => x.1.pl.set == t.2 && x.1.state == 1)).map (fun x => x.2)
      ⟨mine.foldl (fun acc i => acc.filter (fun j => !later j i) ++ [i] ++ acc.filter (fun j => later j i)) [], 0⟩) }

/-- Every load that lands blocks at a takeover. -/
def restartLoads (s : State) : State :=
  (List.range 4).foldl (fun r p => match (part s p).load with
    | some l => if l.recover ∨ (s.pnl.ld = some p ∧ rf s STM_LD_STATUS Fd.STM_LD_STATUS_STATE = 2) then
        modPart r p (fun x => { x with load := some (restartLanding l) }) else r
    | Option.none => r) s

/-- The standby steward takes over (R290, R496): a STEWARD hold, the hold-tree root, and the reference on its own generator. The old active
steward is fenced, with a REDUNDANCY record; its generator is present no more. -/
def takeover (s : State) : State :=
  let old := rf s FLT_STEWARD Fd.FLT_STEWARD_ACTIVE
  let new := otherGen old
  let s := stewardHold s hSteward
  let s := wf (wf (wf (wf s FLT_STEWARD Fd.FLT_STEWARD_ACTIVE new) FLT_STEWARD Fd.FLT_STEWARD_STANDBY_OK 0) FLT_STEWARD Fd.FLT_STEWARD_LOCKSTEP 0)
    FLT_STEWARD Fd.FLT_STEWARD_TAKEOVER 1
  let s := bump s FLT_TAKEOVERS 1
  let s := modPnl s (fun p => { p with refSel := new, refGood := 0 })
  let s := otherValid (restartLoads (endSessions s)) false
  let s := wf (wf s CLK_REF_STATUS Fd.CLK_REF_STATUS_SEL new) CLK_REF_STATUS Fd.CLK_REF_STATUS_HOLDOVER 0
  report s (mkEvent s 5 0 10 old 4 (scOf s 0) (rd s FLT_STEWARD) 0#64 0#64 (some (stewardDom, hSteward)) (some (10, old)))

/-- Whether a standby stands ready. -/
def standbyOk (s : State) : Bool := rf s FLT_STEWARD Fd.FLT_STEWARD_STANDBY_OK == 1


/-- `LOCKSTEP_MISMATCH` (R496): the standby is disabled with cause 0x04, without a hold. -/
def execLockstepMismatch (s : State) : Host.Outcome State Fault Refusal :=
  if standbyOk s then
    let by_ := otherGen (rf s FLT_STEWARD Fd.FLT_STEWARD_ACTIVE)
    let s := wf (wf (wf s FLT_STEWARD Fd.FLT_STEWARD_STANDBY_OK 0) FLT_STEWARD Fd.FLT_STEWARD_LOCKSTEP 0) FLT_STEWARD Fd.FLT_STEWARD_MISMATCH 1
    ok (report s (mkEvent s 5 0 10 by_ 4 (scOf s 0) (rd s FLT_STEWARD) 0#64 0#64 Option.none (some (10, by_))))
  else ok s

/-! Crossings and time marks. -/

/-- A domain latches its SC, or its stop SC in a hold, with the sequence number of the latest mark (R544). -/
def latchMark (s : State) (d : Nat) : State :=
  wr (wr s (CLK_MARK_SC d) (BitVec.ofNat 64 (scOf s d))) (CLK_MARK d) (BitVec.ofNat 64 (rf s TIME_MARK_SEQ Fd.TIME_MARK_SEQ_SEQ))

/-- A time mark starts across, or merges into the pending one (R292, R293). -/
def markDomain (s : State) (d : Nat) : State :=
  if (dom s d).markBusy then modDom s d (fun x => { x with markPending := true })
  else latchMark (modDom s d (fun x => { x with markBusy := true })) d

/-- `CONTROL_CROSSING_EVENT` (R291, R292): a crossing is free again; a pending event is delivered and its MERGED flag set. -/
def execControlCrossingEvent (c : Crossing) (d : Dom) (s : State) : Host.Outcome State Fault Refusal :=
  let d := d.val
  let x := dom s d
  match c with
  | .attention =>
    let s := modDom s d (fun x => { x with attnBusy := x.attnPending, attnPending := false })
    ok (if x.attnPending then wf s (CLK_ATTN_MERGEDn (d / 64)) ⟨d % 64, 1, .rw1c⟩ 1 else s)
  | .thermalAlarm => ok (modDom s d (fun x => { x with alarmBusy := x.alarmPending, alarmPending := false }))
  | .timeMark =>
    let s := modDom s d (fun x => { x with markBusy := x.markPending, markPending := false })
    ok (if x.markPending then wf (latchMark s d) (CLK_STATUS d) Fd.CLK_STATUS_MARK_MERGED 1 else s)

/-- The reference domain (R544): the lowest-indexed site with NET set. -/
def referenceDomain (s : State) : Nat :=
  ((List.range 144).find? (fun k => (rd s (BOOT_READY_NETn (k / 64))).getLsbD (k % 64))).getD 0

/-- `TIME_MARK` (R293, R544): the steward records the mark's number, TIME and the reference domain's SC; every lockstep domain latches. -/
def execTimeMark (s : State) : Host.Outcome State Fault Refusal :=
  if timeNs s % 1_000_000 = 0 then
    let r := referenceDomain s
    let s := wf s TIME_MARK_SEQ Fd.TIME_MARK_SEQ_SEQ ((rf s TIME_MARK_SEQ Fd.TIME_MARK_SEQ_SEQ + 1) % 2 ^ 32)
    let s := wr s TIME_MARK_SC (BitVec.ofNat 64 (scOf s r))
    let s := wf s TIME_MARK_SEC Fd.TIME_MARK_SEC_SEC (timeSec s)
    let s := wr s TIME_MARK_NS (fset Fd.TIME_MARK_NS_DOMAIN r (fset Fd.TIME_MARK_NS_NS (timeNs s) 0#64))
    ok ((lockstep s).foldl markDomain s)
  else ok s

end Sys2Proof.Machine
end

