-- ==== Sys2Proof/Machine/Faults.lean ====
section
/-!
DEFINITION. Faults and recovery: retirement (R485, R486), fault records (R481 to R484, R492), release of FAULT and ERROR holds (R487),
fences in service and on request (R489, R490), the lease (R493, R494); with the events that go to management sessions and host functions
(R532, R537).
-/
namespace Sys2Proof.Machine

/-! Telling sessions and functions. -/

/-- A host function's page, by host port and function. -/
def fnUnit (pt f : Nat) : Nat := pt * 5 + f

/-- Whether a function takes fault records (0), the FPR (1) or snapshots (2) (R532). -/
def fnTakes (s : State) (u kind : Nat) : Bool :=
  !stewardLost s (u / 5) && match kind with
  | 0 => rf s (MGT_FN_FR_CTL u) Fd.MGT_FN_FR_CTL_EN == 1
  | 1 => rf s (MGT_FN_FPR_ADDR u) Fd.MGT_FN_FPR_ADDR_EN == 1
  | _ => rf s (MGT_FN_PS_CTL u) Fd.MGT_FN_PS_CTL_EN == 1

/-- Queue bytes for every function that takes them. -/
def hostSend (s : State) (kind : Nat) (bs : List Byte) : State :=
  modPnl s (fun p => { p with hostQ := p.hostQ ++
    ((List.range 10).filter (fun u => fnTakes s u kind)).map (fun u => (u / 5, u % 5, kind, bs)) })

/-! Retirement. -/

/-- State of a partition's image. -/
def loadState (s : State) (p : Nat) : Nat := rf s (BOOT_LOAD_STATUSp p) Fd.BOOT_LOAD_STATUSp_STATE
def setLoadState (s : State) (p v : Nat) : State := wf s (BOOT_LOAD_STATUSp p) Fd.BOOT_LOAD_STATUSp_STATE v

/-- Whether a partition is in service: LOADING, LOADED, STARTING or RUNNING. -/
def inService (s : State) (p : Nat) : Bool := let st := loadState s p; Nat.ble 1 st && Nat.ble st 4

/-- Sites and edge dies of a partition. -/
def sitesOf (s : State) (p : Nat) : List Nat := (List.range 144).filter (fun k => partOfSite s k == p)
def edgesOf (s : State) (p : Nat) : List Nat := (List.range 16).filter (fun e => partOfEdge s e == p)

/-- Halt the cores of a site that are ARMED, RUN or SLEEP. -/
def haltSite (s : State) (k : Nat) : State :=
  leaveSleep ((enabledCores s k).foldl (fun s g =>
    let st := coreState s g
    if Nat.ble 2 st && Nat.ble st 4 then wf (setCoreState s g 5) (CORE_CTRL g) Fd.CORE_CTRL_ARM 0 else s) s) k

/-- Clear the causes of a site that nothing of a halted image can still clear. -/
def settleCauses (s : State) (k : Nat) : State :=
  [hDeadline, hWake].foldl (fun s c => if (dom s k).causes.contains c then clearCause s k c else s) s

/-- An engine abandons a partition's streams, cache entries and rendezvous buffers (R338, R485): no issue of the partition waits any more, and no
STM_ISSUE stream runs. -/
def abandonStreams (s : State) (e p : Nat) : State :=
  modEdge (if (edge s e).hostJobs.isEmpty then s else wf s (STM_ISSUE_STATUS e) Fd.STM_ISSUE_STATUS_BUSY 0) e (fun x => { x with
    strms := x.strms.filter (fun t => t.issue.part != p)
    past := x.past.filter (fun t => t.issue.part != p)
    waitQ := x.waitQ.filter (fun i => i.part != p)
    lateQ := x.lateQ.filter (fun i => i.part != p)
    inbox := x.inbox.filter (fun k => k.kind != 3#4 || k.part.val != p)
    arrived := x.arrived.filter (fun k => k.part.val != p)
    failQ := x.failQ.filter (fun f => f.1.part != p)
    unacked := x.unacked.filter (fun u => u.issue.part != p)
    rend := x.rend.filter (fun k => k.part.val != p)
    hostJobs := []
    cache := [] })

/-- Retire a partition (R485). Its routers, links and edge programs go on forwarding (R499). -/
def retire (s : State) (p : Nat) : State :=
  let s := (sitesOf s p).foldl (fun s k =>
    settleCauses (modSite (haltSite s k) k (fun x => { x with retired := true, out := true, arms := [] })) k) s
  let s := (edgesOf s p).foldl (fun s e => abandonStreams s e p) s
  let s := (edgesOf s p).foldl (fun s e => if (dom s (144 + e)).causes.contains hOptical then clearCause s (144 + e) hOptical else s) s
  bump (setLoadState s p 6) FLT_RETIREMENTS 1

/-- The partition that owns a unit (R486). -/
def ownerOf (s : State) (kind i : Nat) : List Nat :=
  match kind with
  | 1 => [partOfSite s (i / 64)]
  | 2 => [partOfSite s i]
  | 3 => [partOfSite s i]
  | 4 => [partOfSite s (if i < 1152 then i / 8 else (i - 1152) / 2)]
  | 5 => [partOfEdge s i]
  | 6 => [partOfEdge s (i / 2)]
  | 7 => [partOfEdge s (i / 64)]
  | 8 => [partOfEdge s (i / 8)]
  | 9 => [partOfEdge s i]
  | 13 => [i]
  | _ => []

/-- Number of units of a kind that can be fenced (R482, R500). -/
def unitCount (kind : Nat) : Nat :=
  match kind with
  | 1 => 9216 | 2 => 144 | 3 => 144 | 4 => 1440 | 5 => 16 | 6 => 32 | 7 => 1024 | 8 => 128 | 9 => 16 | 10 => 2 | _ => 0

/-- Whether the eFuse map has a unit. -/
def unitFused (s : State) (kind i : Nat) : Bool :=
  match kind with
  | 1 => fuseSite s (i / 64) == 0 && (rd s (FUSE_CORE_MASKn (i / 64))).getLsbD (i % 64)
  | 2 => fuseSite s i == 0
  | 3 => fuseSite s i != 2
  | 4 => if i < 1152 then (linkFar (i / 8) (i % 8)).isSome else ((edgePorts ((i - 1152) / 2))[i % 2]?).isSome
  | 5 => true
  | 6 => (rd s FUSE_STACK_MASK).getLsbD i
  | 7 => (rd s FUSE_STACK_MASK).getLsbD (i / 32)
  | 8 => (rd s (FUSE_PORT_MASKn (i / 64))).getLsbD (i % 64)
  | 9 => true
  | _ => true

/-- Whether a unit is enabled (R34 to R38). -/
def unitEnabled (s : State) (kind i : Nat) : Bool :=
  match kind with
  | 1 => coreEnabled s i
  | 2 => siteState s i == 0
  | 3 => siteState s i != 2
  | 4 => if i < 1152 then linkUsable s (i / 8) (i % 8) else edgePortUsable s ((i - 1152) / 2) (i % 2)
  | 5 => edgeInService s i
  | 6 => stackEnabled s i
  | 7 => stackEnabled s (i / 32)
  | 8 => portEnabled s i
  | 9 => unitCause s 9 i == 0 && edgeInService s i
  | 10 => standbyOk s && i == otherGen (rf s FLT_STEWARD Fd.FLT_STEWARD_ACTIVE)
  | _ => false

/-- Whether a stack's loss concerns partition `p`: its owner, and those whose slices would move (R28, R486). -/
def stackConcerns (s : State) (h p : Nat) : Bool :=
  partOfEdge s (h / 2) == p || (List.range 32).any (fun t => Nat.blt h t && stackEnabled s t && partOfEdge s (t / 2) == p)

/-- The partitions with an image loaded that a unit's fence concerns: those whose image uses the unit or one that goes out of use with it (R37,
R38, R57, R234, R486); for a stack its owner and those whose slices its fence would move. -/
def usersOf (s : State) (kind i : Nat) : List Nat :=
  let t := fenceUnit s kind i 4
  let lost := (List.range 32).filter (fun h => stackEnabled s h && !stackEnabled t h)
  (List.range 4).filter (fun p => imageLoaded s p &&
    (((part s p).uses.any (fun u => u == (kind, i) || (unitEnabled s u.1 u.2 && !unitEnabled t u.1 u.2)))
      || lost.any (fun h => stackConcerns s h p)))

/-- The partitions an event concerns (R486). A fence on request concerns those whose image uses the unit, and no other (R490). A fence that
hardware has carried out already names its users in the event. -/
def concerned (s : State) (ev : FaultEv) : List Nat :=
  let own := match ev.part with | some p => [p] | Option.none => if ev.cls = 3 ∧ ev.cause = 6 then [] else ownerOf s ev.kind ev.index
  let use := ev.users ++ (match ev.fence with | some (k, i) => if unitCause s k i = 0 then usersOf s k i else [] | Option.none => [])
  (List.range 4).filter (fun p => Nat.ble 3 ev.sev || own.contains p || use.contains p)

/-! Fault records. -/

/-- The eight words of a record (R481). -/
def recordWords (r : FltRec) : List Nat :=
  let e := r.ev
  [r.seq % 2 ^ 32 + e.cls * 2 ^ 32 + e.sev * 2 ^ 40 + e.kind * 2 ^ 48 + e.cause % 256 * 2 ^ 56,
   e.index % 65536 + r.parts * 2 ^ 16 + r.action * 2 ^ 24 + r.gen % 2 ^ 32 * 2 ^ 32, e.sc % 2 ^ 64, e.sec % 2 ^ 48,
   e.ns % 2 ^ 30 + r.merged * 2 ^ 32, e.d0.toNat, e.d1.toNat, e.d2.toNat]

/-- The 64 bytes of a record. -/
def recordBytes (r : FltRec) : List Byte := (recordWords r).flatMap (bytesOf 8)

/-- Records up to SEQ are acknowledged. -/
def ackSeq (s : State) : Nat := rf s FLT_LOG_ACK Fd.FLT_LOG_ACK_SEQ

/-- Highest severity among unacknowledged records. -/
def showOpen (s : State) : State :=
  wf s FLT_STATUS Fd.FLT_STATUS_OPEN_SEV ((s.pnl.log.filter (fun r => Nat.blt (ackSeq s) r.seq)).foldl (fun m r => max m r.ev.sev) 0)

/-- Whether two events make one record while the first is unacknowledged (R483). -/
def sameFault (a b : FaultEv) : Bool := a.cls == b.cls && a.kind == b.kind && a.index == b.index && a.cause == b.cause

/-- ACTION bits of a record: hold, retirement, fence, publication, power-down, takeover, self-fence. -/
def actionOf (ev : FaultEv) (parts : List Nat) : Nat :=
  b2n ev.hold.isSome + 2 * b2n (!parts.isEmpty) + 4 * b2n ev.fence.isSome + 8 * b2n ev.fence.isSome + 16 * b2n (ev.sev == 4)
    + 32 * b2n (ev.cls == 5 && ev.kind == 10 && ev.hold.isSome) + 64 * b2n (ev.cls == 6)

/-- Write an event's record, or merge it (R481, R483, R484). -/
def writeRecord (s : State) (ev : FaultEv) (parts : List Nat) : State :=
  let mask := parts.foldl (fun acc p => acc + 2 ^ p) 0
  match s.pnl.log.find? (fun r => Nat.blt (ackSeq s) r.seq && sameFault r.ev ev) with
  | some r =>
    let q := { r with merged := min (r.merged + 1) 0xFFFF, parts := Nat.lor r.parts mask, action := Nat.lor r.action (actionOf ev parts),
                      ev := { r.ev with sev := max r.ev.sev ev.sev }, wait := r.wait || ev.fence.isSome }
    showOpen (modPnl s (fun p => { p with log := p.log.map (fun x => if x.seq = r.seq then q else x) }))
  | Option.none =>
    let seq := (rf s FLT_STATUS Fd.FLT_STATUS_SEQ + 1) % 2 ^ 32
    let r : FltRec := ⟨ev, seq, mask, actionOf ev parts, 0, 0, ev.fence.isSome⟩
    let lost := match s.pnl.log with | o :: _ => decide (1024 ≤ s.pnl.log.length) && Nat.blt (ackSeq s) o.seq | [] => false
    let s := modPnl s (fun p => { p with log := (p.log ++ [r]).drop (p.log.length + 1 - 1024) })
    let s := wf s FLT_STATUS Fd.FLT_STATUS_SEQ seq
    let s := if lost then wf s FLT_STATUS Fd.FLT_STATUS_LOST 1 else s
    let s := if Nat.ble 2 ev.sev then raiseIbi s else s
    showOpen (hostSend (mgtEvent (bump s FLT_RECORDS 1) 1 (recordBytes r)) 0 (recordBytes r))

/-- Whether an event raised a hold that only R487 releases. -/
def needsRelease (ev : FaultEv) : Bool := match ev.hold with | some (_, c) => c == hFault || c == hError || c == hWeir | Option.none => false

/-- Order of R492: detection SC, then KIND, then INDEX. -/
def evBefore (a b : FaultEv) : Bool :=
  Nat.blt a.sc b.sc || (a.sc == b.sc && (Nat.blt a.kind b.kind || (a.kind == b.kind && Nat.blt a.index b.index)))

/-- The event that the steward handles next. -/
def nextEvent (s : State) : Option FaultEv :=
  match s.pnl.events with
  | [] => Option.none
  | e :: es => some (es.foldl (fun m x => if evBefore x m then x else m) e)

/-- The steward handles one event: it retires the partitions concerned, carries out the fence, writes the record (R487, R492). -/
def handleEvent (s : State) (ev : FaultEv) : State :=
  let parts := if ev.sev = 0 then [] else (concerned s ev).filter (inService s)
  let s := modPnl s (fun p => { p with events := p.events.erase ev })
  let s := parts.foldl retire s
  let s := match ev.fence with
    | some (k, i) => if unitCause s k i = 0 then wantPub (fenceUnit s k i 4) 3 else s
    | Option.none => s
  let s := writeRecord s ev parts
  match ev.hold with
  | some h => if needsRelease ev then modPnl s (fun p => { p with toClear := p.toClear ++ [h] }) else s
  | Option.none => s

/-- `FAULT_RECORD` (R481, R483, R492): the next event is handled and recorded. -/
def execFaultRecord (s : State) : Host.Outcome State Fault Refusal :=
  match nextEvent s with
  | some ev => ok (handleEvent s ev)
  | Option.none => ok s

/-- Clear a hold whose event is handled. -/
def clearHandled (s : State) (h : Nat × Nat) : State :=
  clearCause (if h.2 = hWeir then modDom s h.1 (fun x => { x with repeatWeir := false }) else s) h.1 h.2

/-- `FAULT_HOLD_RELEASE` (R487, R492): retire, fence, record; once every event that raised such a hold is handled its cause clears. -/
def execFaultHoldRelease (s : State) : Host.Outcome State Fault Refusal :=
  let s := match (s.pnl.events.filter needsRelease) with
    | [] => s
    | e :: es => handleEvent s (es.foldl (fun m x => if evBefore x m then x else m) e)
  if s.pnl.events.any needsRelease then ok (wf s FLT_STATUS Fd.FLT_STATUS_RETIRING 1)
  else
    let s := s.pnl.toClear.foldl clearHandled s
    ok (modPnl (wf s FLT_STATUS Fd.FLT_STATUS_RETIRING 0) (fun p => { p with toClear := [] }))

/-- `FAULT_LOG_NVM_COPY` (R484): every record not yet there is copied to the NVM ring of 65,536, in SEQ order. -/
def nvmCopy (s : State) : State :=
  modPnl s (fun p =>
    let last := match p.nvmLog.getLast? with | some r => r.seq | Option.none => 0
    let all := p.nvmLog ++ p.log.filter (fun r => Nat.blt last r.seq)
    { p with nvmLog := all.drop (all.length - 65536) })

/-- `FAULT_LOG_NVM_COPY` (R484). -/
def execFaultLogNvmCopy (s : State) : Host.Outcome State Fault Refusal := ok (nvmCopy s)

/-- A write of FLT_LOG_ACK (R483, R500). -/
def writeLogAck (s : State) (v : W64) : State := showOpen (wf s FLT_LOG_ACK Fd.FLT_LOG_ACK_SEQ (fget Fd.FLT_LOG_ACK_SEQ v))

/-- `FLT_LOG_ACK` (R483). -/
def execFltLogAck (req : Requester) (v : W64) (s : State) : Host.Outcome State Fault Refusal :=
  ok (guardCsr s req FLT_LOG_ACK true (fun s => writeLogAck s v))

/-! Fences in service and on request. -/

/-- The domain in which a unit's fence raises its hold. -/
def unitDomain (kind i : Nat) : Option Nat :=
  match kind with
  | 1 => some (i / 64)
  | 2 => some i
  | 3 => some i
  | 4 => some (if i < 1152 then i / 8 else (i - 1152) / 2)
  | 5 => some (144 + i)
  | 6 => some (144 + i / 2)
  | 7 => some (144 + i / 64)
  | 8 => some (144 + i / 8)
  | 9 => some (144 + i)
  | _ => Option.none

/-- Fence a unit with its ERROR hold and its HARDWARE event (R479, R488 to R490): of severity FENCE on request, PANEL_COMPUTE for an edge die that
fails. The hold is raised before a domain leaves lockstep. -/
def fenceWithHold (s : State) (kind i cause : Nat) (hold : Bool) : State :=
  let d := unitDomain kind i
  let raised := hold && d.isSome
  let users := usersOf s kind i
  let s := if raised then raiseHold s (d.getD 0) hError 0 else s
  let ev := mkEvent s 3 (if kind = 5 ∧ cause ≠ 6 then 3 else 2) kind i (if cause = 6 then 6 else 0) (scOf s (d.getD 0)) 0#64 0#64 0#64
    (if raised then some (d.getD 0, hError) else Option.none) (some (if kind = 7 then (6, i / 32) else (kind, i)))
  report (wantPub (fenceUnit s kind i cause) 3) { ev with users := users }

/-- `FENCE` (R488, R489): a unit found failed in service is fenced in hardware, with an ERROR hold (a steward's fence raises none). -/
def execFence (u : UnitRef) (s : State) : Host.Outcome State Fault Refusal :=
  if u.index < unitCount u.kind.val ∧ unitEnabled s u.kind.val u.index then ok (fenceWithHold s u.kind.val u.index 4 true) else ok s

/-- Refuse FLT_FENCE_CMD with a code. -/
def fenceErr (s : State) (code : Nat) : State :=
  wf (wf s FLT_FENCE_CMD Fd.FLT_FENCE_CMD_ERR 1) FLT_FENCE_CMD Fd.FLT_FENCE_CMD_ERR_CODE code

/-- Whether a reset is in progress. -/
def resetBusy (s : State) : Bool := rf s BOOT_RESET Fd.BOOT_RESET_BUSY == 1

/-- A write of FLT_FENCE_CMD (R490, R500). -/
def writeFenceCmd (s : State) (v : W64) : State :=
  let s := clear1 s FLT_FENCE_CMD Fd.FLT_FENCE_CMD_ERR v
  let op := fget Fd.FLT_FENCE_CMD_OP v
  let kind := fget Fd.FLT_FENCE_CMD_KIND v
  let i := fget Fd.FLT_FENCE_CMD_INDEX v
  if op = 0 ∨ op = 3 then s
  else if kind = 7 ∨ unitCount kind ≤ i then fenceErr s 1
  else if resetBusy s then fenceErr s 4
  else if op = 1 then
    if !unitEnabled s kind i then fenceErr s 2
    else fenceWithHold s kind i 6 (!(usersOf s kind i).isEmpty)
  else if !unitFused s kind i then fenceErr s 3
  else if unitCause s kind i ≠ 4 ∧ unitCause s kind i ≠ 6 then fenceErr s 2
  else modPnl s (fun p => { p with relReq := if p.relReq.contains (kind, i) then p.relReq else p.relReq ++ [(kind, i)] })

/-- `FLT_FENCE` (R490). -/
def execFltFence (req : Requester) (v : W64) (s : State) : Host.Outcome State Fault Refusal :=
  ok (guardCsr s req FLT_FENCE_CMD true (fun s => writeFenceCmd s v))

/-- `FLT_RELEASE` (R490). -/
def execFltRelease (req : Requester) (v : W64) (s : State) : Host.Outcome State Fault Refusal :=
  ok (guardCsr s req FLT_FENCE_CMD true (fun s => writeFenceCmd s v))

/-! The lease. -/

/-- TIME in milliseconds. -/
def timeMs (s : State) : Nat := timeSec s * 1000 + timeNs s / 1_000_000

/-- PERIOD_MS; values below 500 act as 500. -/
def leasePeriod (s : State) : Nat := max 500 (rf s FLT_LEASE Fd.FLT_LEASE_PERIOD_MS)

/-- Expiry in force. -/
def leaseExpiry (s : State) : Nat := rf s FLT_LEASE_EXPIRY Fd.FLT_LEASE_EXPIRY_EXPIRY_MS

/-- Tell sessions of the lease (R537). -/
def leaseEvent (s : State) : State := mgtEvent s 6 (bytesOf 8 (rd s FLT_LEASE).toNat)

/-- LOADER rises again once the self-fence ends, but not before step 14 of bring-up (R461, R494). -/
def loaderBack (s : State) : State := if rf s BOOT_LOCK Fd.BOOT_LOCK_LOCK = 1 then readySvc s 4 true else s

/-- A renewal with UNTIL (R493): never earlier, never beyond TIME + PERIOD_MS; EXPIRED and FENCED clear (R494). -/
def renewLease (s : State) (untilMs : Nat) : State :=
  let e := max (leaseExpiry s) (min untilMs (timeMs s + leasePeriod s))
  let s := wf s FLT_LEASE_EXPIRY Fd.FLT_LEASE_EXPIRY_EXPIRY_MS e
  let was := rf s FLT_LEASE Fd.FLT_LEASE_FENCED
  let s := wf (wf s FLT_LEASE Fd.FLT_LEASE_EXPIRED 0) FLT_LEASE Fd.FLT_LEASE_FENCED 0
  leaseEvent (if was = 1 then loaderBack s else s)

/-- `LEASE_RENEW` (R493): a write of FLT_LEASE_RENEW. -/
def execLeaseRenew (req : Requester) (v : W64) (s : State) : Host.Outcome State Fault Refusal :=
  ok (guardCsr s req FLT_LEASE_RENEW true (fun s => renewLease s (fget Fd.FLT_LEASE_RENEW_UNTIL_MS v)))

/-- A write of FLT_LEASE (R493). -/
def writeLease (s : State) (req : Requester) (v : W64) : State :=
  let en := fget Fd.FLT_LEASE_EN v
  let was := rf s FLT_LEASE Fd.FLT_LEASE_EN
  if en = 1 ∧ was = 0 ∧ rf s TIME_STATUS Fd.TIME_STATUS_VALID = 0 then csrError s req true FLT_LEASE
  else
    let s := wf (wf s FLT_LEASE Fd.FLT_LEASE_PERIOD_MS (fget Fd.FLT_LEASE_PERIOD_MS v)) FLT_LEASE Fd.FLT_LEASE_EN en
    if en = 1 ∧ was = 0 then leaseEvent (wf s FLT_LEASE_EXPIRY Fd.FLT_LEASE_EXPIRY_EXPIRY_MS (timeMs s + leasePeriod s))
    else if en = 0 then
      let f := rf s FLT_LEASE Fd.FLT_LEASE_FENCED
      let s := wf (wf s FLT_LEASE Fd.FLT_LEASE_EXPIRED 0) FLT_LEASE Fd.FLT_LEASE_FENCED 0
      leaseEvent (if f = 1 then loaderBack s else s)
    else leaseEvent s

/-- `LEASE_ENABLE` (R493). -/
def execLeaseEnable (req : Requester) (v : W64) (s : State) : Host.Outcome State Fault Refusal :=
  ok (guardCsr s req FLT_LEASE true (fun s => writeLease s req v))

/-- `LEASE_EXPIRY` (R493, R494): the panel fences itself: every partition is retired, FENCED is set, a LIVENESS record follows. An expiry
during a reset waits for its end. -/
def execLeaseExpiry (s : State) : Host.Outcome State Fault Refusal :=
  if rf s FLT_LEASE Fd.FLT_LEASE_EN = 1 ∧ rf s FLT_LEASE Fd.FLT_LEASE_EXPIRED = 0 ∧ leaseExpiry s ≤ timeMs s ∧ !resetBusy s then
    let ev := mkEvent s 6 3 0 0 0 (scOf s (referenceDomain s)) (rd s FLT_LEASE) (rd s FLT_LEASE_EXPIRY) 0#64 Option.none Option.none
    let s := wf (wf s FLT_LEASE Fd.FLT_LEASE_EXPIRED 1) FLT_LEASE Fd.FLT_LEASE_FENCED 1
    let s := ((List.range 4).filter (inService s)).foldl retire s
    let s := bump (readySvc s 4 false) FLT_SELF_FENCES 1
    ok (leaseEvent (report s ev))
  else ok s

end Sys2Proof.Machine
end

