-- ==== Sys2Proof/Machine/Power.lean ====
section
/-!
DEFINITION. Power and heat: the input, converters and rails (R419 to R428), minimum-voltage and resistance records (R429, R430), sensors,
throttling and thermal limits (R431 to R437), floor work, duty holds and the emergency throttle (R441 to R445), the wake governor (R446),
power caps (R449), and the sideband pins (R568, R570, R571).
-/
namespace Sys2Proof.Machine

/-- Change the power controller. -/
def modPwr (s : State) (f : PowerX → PowerX) : State := modPnl s (fun p => { p with pwr := f p.pwr })

/-- Whether the panel is DEPLOYED (R501). -/
def deployed (s : State) : Bool := rf s SEC_LIFECYCLE Fd.SEC_LIFECYCLE_STATE == 2

/-- Set a bit of PWR_EVENTS or of THM_EVENTS. -/
def pwrEvent (s : State) (i : Nat) : State := warnBit s PWR_EVENTS i
def thmEvent (s : State) (i : Nat) : State := warnBit s THM_EVENTS i

/-- Refresh CAP_EFF (R421). -/
def showCap (s : State) : State := wf s PWR_STATUS Fd.PWR_STATUS_CAP_EFF (capEff s)

/-! Triggers of the emergency throttle (R444): 0 POWER, 1 INPUT, 2 THERMAL, 3 SUPPLY, 4 INPUT_RANGE. -/

/-- A trigger is present. -/
def addTrig (s : State) (c : Nat) : State := modPwr s (fun p => { p with trig := if p.trig.contains c then p.trig else p.trig ++ [c] })

/-- A trigger has gone. -/
def dropTrig (s : State) (c : Nat) : State := modPwr s (fun p => { p with trig := p.trig.filter (fun x => x != c) })

/-! Dies (R431, R436). -/

/-- Unit kind and index of a die of R436 (R482). -/
def dieUnit (i : Nat) : Nat × Nat :=
  if i < 144 then (2, i) else if i < 288 then (3, i - 144) else if i < 304 then (5, i - 288) else if i < 306 then (10, i - 304)
  else if i < 338 then (6, i - 306) else (9, i - 338)

/-- Trip and critical temperatures of R431; a steward has none. -/
def dieLimits (i : Nat) : Option (Nat × Nat) :=
  match (dieUnit i).1 with
  | 2 => some (100, 110)
  | 3 => some (105, 115)
  | 5 => some (105, 115)
  | 6 => some (95, 105)
  | 9 => some (80, 90)
  | _ => Option.none

/-- Power budget in W (R437). -/
def dieBudget (i : Nat) : Nat :=
  match (dieUnit i).1 with | 2 => 92 | 3 => 26 | 5 => 60 | 10 => 25 | 6 => 32 | _ => 70

/-- A die's temperature. -/
def dieTemp (s : State) (i : Nat) : Nat := sget (fun _ => 0) s.pnl.pwr.dieT i

/-- Whether a die stands at trip. -/
def atTrip (s : State) (i : Nat) : Bool := match dieLimits i with | some (t, _) => Nat.ble t (dieTemp s i) | Option.none => false

/-- Whether the THERMAL trigger lasts (R434): until every die is 5 °C below trip and every forecast is below trip. -/
def thermalLasts (s : State) : Bool :=
  (List.range 354).any (fun i => match dieLimits i with | some (t, _) => Nat.blt t (dieTemp s i + 5) | Option.none => false)
    || (List.range 144).any (fun k => Nat.ble 100 (rf s (THM_SITE k) Fd.THM_SITE_C_FCST) || Nat.ble 105 (rf s (THM_SITE k) Fd.THM_SITE_B_FCST))

/-! Power-on and power-off (R425 to R427). -/

/-- Rails of a site off. -/
def siteOff (s : State) (k : Nat) : State :=
  let a := PWR_SITE_STATUS k
  wf (wf (wf s a Fd.PWR_SITE_STATUS_C_ON 0) a Fd.PWR_SITE_STATUS_N_ON 0) a Fd.PWR_SITE_STATUS_S_ON 0

/-- Keep the half-cycle counts in NVM (R436). -/
def saveCycles (s : State) : State :=
  let now := (s.tables.filter (fun e => Nat.ble (tk 18) e.1 && Nat.blt e.1 (tk 19))).map (fun e => (e.1 + tk 1, e.2))
  s.setTables (sreplace (tk 19) (tk 20) now s.tables)

/-- Copy every record of the log that is not there to the NVM ring of 65,536 (R484). -/
def saveLog (s : State) : State :=
  modPnl s (fun p =>
    let all := p.nvmLog ++ p.log.filter (fun r => !p.nvmLog.any (fun q => q.seq == r.seq))
    { p with nvmLog := all.drop (all.length - 65536) })

/-- Everything but the always-on domain off (R419, R427): sites in reverse wave order, then optical engines, edge dies and HBM, the
reference and the converters; what the hold-up time writes to NVM is written. -/
def powerOff (s : State) : State :=
  let sites := (List.range 8).reverse.flatMap (fun w => (List.range 144).filter (fun k => k % 8 == w))
  let s := sites.foldl siteOff s
  let s := sites.foldl (fun s k => readyNet (readySite (leaveLockstep s k) k false) k false) s
  let s := (List.range 128).foldl (fun s p => if portState s p = 0 then s else portDown s p) s
  let s := (List.range 16).foldl (fun s e => leaveLockstep s (144 + e)) s
  let s := (List.range 32).foldl (fun s h => readyStack s h false) s
  let s := (List.range 4).foldl (fun s q => wf s (PWR_IBCq q) Fd.PWR_IBCq_PHASES 0) s
  modPwr (saveCycles (saveLog s)) (fun p => { p with step := 1, wave := 0, down := true })

/-- The power-down begins: the panel holds (R427). The hold carries cause THROTTLE. DESIGN CHOICE (log entry 9). -/
def startDown (s : State) : State := if s.pnl.pwr.down then s else modPwr (stewardHold s hThrottle) (fun p => { p with down := true })

/-- Whether ROM recovery or a fuse halt keeps the next step from starting (R457, R464). -/
def powerBarred (s : State) : Bool :=
  let st := rf s BOOT_STATUS Fd.BOOT_STATUS_STAGE
  (st == 7 && Nat.ble 2 s.pnl.pwr.step) || (st == 8 && Nat.ble 4 s.pnl.pwr.step)

/-- `POWER_ON_STEP` (R425): the next step starts. Step 3 starts the converters. -/
def execPowerOnStep (s : State) : Host.Outcome State Fault Refusal :=
  if s.pnl.pwr.down ∨ 7 ≤ s.pnl.pwr.step ∨ powerBarred s then ok s
  else
    let n := s.pnl.pwr.step + 1
    let s := modPwr s (fun p => { p with step := n })
    if n = 3 then
      ok (showCap ((List.range 4).foldl (fun s q => wf s (PWR_IBCq q) Fd.PWR_IBCq_PHASES 0xFF) s))
    else ok s

/-- `SITE_POWER_WAVE` (R423, R426): the next wave's sites: N-rail, S-rail, then C-rail. Holes are never powered, dark sites get no C-rail. -/
def execSitePowerWave (s : State) : Host.Outcome State Fault Refusal :=
  let w := s.pnl.pwr.wave
  if s.pnl.pwr.down ∨ s.pnl.pwr.step < 7 ∨ 8 ≤ w then ok s
  else
    let s := modPwr s (fun p => { p with wave := w + 1 })
    ok (((List.range 144).filter (fun k => k % 8 == w && siteState s k != 2)).foldl (fun s k =>
      let a := PWR_SITE_STATUS k
      let s := wf (wf s a Fd.PWR_SITE_STATUS_N_ON 1) a Fd.PWR_SITE_STATUS_S_ON 1
      if siteState s k = 0 then
        wf (wf s a Fd.PWR_SITE_STATUS_C_ON 1) a Fd.PWR_SITE_STATUS_C_SET (bf (rd s (FUSE_VSETn k)).toNat (16 * rf s CLK_PANEL Fd.CLK_PANEL_OPPT) 10)
      else s) s)

/-- `POWER_DOWN` (R427): the ordered sequence, once it has begun. -/
def execPowerDown (s : State) : Host.Outcome State Fault Refusal := if s.pnl.pwr.down then ok (powerOff s) else ok s

/-- An ENVIRONMENT event (R479, R587). -/
def envEvent (s : State) (sev kind i cause : Nat) (sc : Nat) (hold fence : Option (Nat × Nat)) : State :=
  report s (mkEvent s 4 sev kind i cause sc (rd s PWR_INPUT) (rd s PWR_EVENTS) 0#64 hold fence)

/-- `INPUT_RANGE` (R419, R566, R583): the input in millivolts. Beyond ±60 V the manual promises nothing. -/
def execInputRange (mv : Int) (s : State) : Host.Outcome State Fault Refusal :=
  if mv < -60_000 ∨ 60_000 < mv then .fault .beyondAbsoluteRating
  else
    let s := wf s PWR_INPUT Fd.PWR_INPUT_VIN (mv.toNat / 10)
    if mv < 38_000 ∨ 58_000 < mv then
      ok (powerOff (envEvent s 4 14 0 0 (scOf s 0) (some (stewardDom, hThrottle)) Option.none))
    else if mv < 42_000 ∨ 56_000 < mv then
      let s := pwrEvent s 4
      ok (startDown (envEvent (addTrig s 4) 4 14 0 0 (scOf s 0) (some (stewardDom, hThrottle)) Option.none))
    else ok (dropTrig s 4)

/-- `THROTTLE_L` (R570, R571): one sample. During a power-down it has no further effect. -/
def execThrottleL (low : Bool) (s : State) : Host.Outcome State Fault Refusal :=
  if s.pnl.pwr.down then ok s
  else if low then
    let s := modPwr s (fun p => { p with lows := p.lows + 1 })
    ok (if 2 ≤ s.pnl.pwr.lows then addTrig s 1 else s)
  else ok (dropTrig (modPwr s (fun p => { p with lows := 0 })) 1)

/-- `INPUT_SENSE_OPEN` (R568): the sense pair opens or reconnects; `vin` is what is read then. -/
def execInputSenseOpen (isOpen : Bool) (vin : BitVec 16) (s : State) : Host.Outcome State Fault Refusal :=
  ok (wf (modPwr s (fun p => { p with senseOpen := isOpen })) PWR_INPUT Fd.PWR_INPUT_VIN vin.toNat)

/-- Whether the sideband output PWR_OK is high (R570). -/
def pwrOk (s : State) : Bool := Nat.ble 6 s.pnl.pwr.step && !s.pnl.pwr.down

/-- Whether the sideband output FAULT_L is low (R570). -/
def faultLow (s : State) : Bool := Nat.ble 2 (rf s FLT_STATUS Fd.FLT_STATUS_OPEN_SEV)

/-! Converters and rails. -/

/-- Whether a quadrant has lost capacity. -/
def capacityLost (s : State) : Bool := (List.range 4).any (fun q => Nat.blt (phasesOf s q) 7)

/-- The SUPPLY trigger (R421, R444): d exceeds cap_eff after a loss of capacity. -/
def supplyCheck (s : State) : State := if capacityLost s && Nat.blt (capEff s) (draw s) then addTrig s 3 else dropTrig s 3

/-- `IBC_PHASE_LOSS` (R420, R421): a phase fails, or, with none named, the converter as a whole. -/
def execIbcPhaseLoss (q : Fin 4) (phase : Option (Fin 8)) (s : State) : Host.Outcome State Fault Refusal :=
  let a := PWR_IBCq q.val
  let s := match phase with
    | some i => wf s a ⟨i.val, 1, .ro⟩ 0
    | Option.none => wf (wf (wf s a Fd.PWR_IBCq_FAILED 1) a Fd.PWR_IBCq_PHASES 0) a Fd.PWR_IBCq_TIED 1
  let s := if phase.isSome then pwrEvent s 8 else s
  let s := if phasesOf s q.val < 7 then pwrEvent s 9 else s
  let s := supplyCheck (showCap s)
  ok (report s (mkEvent s 5 0 11 q.val 0 (scOf s 0) (rd s a) 0#64 0#64 Option.none Option.none))

/-- `RAIL_TRIP` (R422, R428, R587): rails 0 C, 1 N, 2 S, 3 the feed's eFuse. -/
def execRailTrip (d : Dom) (rail : Fin 4) (s : State) : Host.Outcome State Fault Refusal :=
  let d := d.val
  if 144 ≤ d then
    let e := d - 144
    if unitCause s 5 e ≠ 0 then ok s
    else
      let s := pwrEvent s (if rail.val = 3 then 11 else 10)
      let sc := scOf s d
      ok (envEvent (raiseHold s d hError 0) 3 5 e 0 sc (some (d, hError)) (some (5, e)))
  else
    let a := PWR_SITE_STATUS d
    if rf s a Fd.PWR_SITE_STATUS_N_ON = 0 ∨ (rail.val = 0 ∧ rf s a Fd.PWR_SITE_STATUS_C_ON = 0) then ok s
    else
      let sc := scOf s d
      let s := if rail.val = 3 then pwrEvent (wf s a Fd.PWR_SITE_STATUS_EFUSE_OPEN 1) 11 else pwrEvent (wf s a ⟨4 + rail.val, 1, .ro⟩ 1) 10
      let s := if rail.val = 0 then wf s a Fd.PWR_SITE_STATUS_C_ON 0 else siteOff s d
      let kind := if rail.val = 0 then 2 else 3
      ok (envEvent (raiseHold s d hError 0) 2 kind d 0 sc (some (d, hError)) (some (kind, d)))

/-! Minimum-voltage and resistance records. -/

/-- Take a sample into a record: only a lower one replaces it (R429). -/
def minSample (s : State) (a : Nat) (sc : Nat) (x : RailSample) : State :=
  if x.volts % 0x1_0000 < rf s a Fd.PWR_MINVr_MINV then
    let s := wr s a (fset Fd.PWR_MINVr_AMPS x.amps (fset Fd.PWR_MINVr_MINV x.volts 0#64))
    let s := wr s (a + 8) (BitVec.ofNat 64 sc)
    wr s (a + 16) (fset Fd.PWR_MINVr_TIME_SEC (timeSec s) (fset Fd.PWR_MINVr_TIME_NS (timeNs s) 0#64))
  else s

/-- `MINV_SAMPLE` (R429): a rail of a site, or the 48 V input, whose voltage and current PWR_INPUT also shows. -/
def execMinvSample (r : Option (Site × Fin 3)) (x : RailSample) (s : State) : Host.Outcome State Fault Refusal :=
  match r with
  | some (k, i) => ok (minSample s (PWR_MINVr k.val i.val) (scOf s k.val) x)
  | Option.none => ok (minSample (wf (wf s PWR_INPUT Fd.PWR_INPUT_VIN x.volts) PWR_INPUT Fd.PWR_INPUT_IIN x.amps) PWR_MINV_IN (scOf s 0) x)

/-- The address of a record. -/
def minvReg (r : Option (Site × Fin 3)) : Nat := match r with | some (k, i) => PWR_MINVr k.val i.val | Option.none => PWR_MINV_IN

/-- A write of a record's register (R429). -/
def writeMinv (s : State) (a : Nat) (v : W64) : State := if fget Fd.PWR_MINVr_REARM v = 1 then wr s a 0xFFFF#64 else s

/-- `MINV_REARM` (R429). -/
def execMinvRearm (req : Requester) (r : Option (Site × Fin 3)) (v : W64) (s : State) : Host.Outcome State Fault Refusal :=
  ok (guardCsr s req (minvReg r) true (fun s => writeMinv s (minvReg r) v))

/-- `RDYN_UPDATE` (R430): the estimate of 60 s. The baseline is the mean of the first 24 h in DEPLOYED, 1,440 estimates; 10 minutes at or
above 1.30 times it set CRACK. -/
def execRdynUpdate (k : Site) (r : Fin 3) (est : BitVec 16) (s : State) : Host.Outcome State Fault Refusal :=
  let a := PWR_RDYNr k.val r.val
  let key := k.val * 3 + r.val
  let x := sget (fun _ => RunAvg.init) s.pnl.pwr.rdyn key
  let learn := deployed s && Nat.blt x.cnt 1440
  let sum := if learn then x.sum + est.toNat else x.sum
  let cnt := if learn then x.cnt + 1 else x.cnt
  let s := wf s a Fd.PWR_RDYNr_EST est.toNat
  let s := if learn && cnt == 1440 then wf (wf s a Fd.PWR_RDYNr_BASE (sum / 1440)) a Fd.PWR_RDYNr_BASE_VALID 1 else s
  let high := rf s a Fd.PWR_RDYNr_BASE_VALID == 1 && Nat.ble (130 * rf s a Fd.PWR_RDYNr_BASE) (100 * est.toNat)
  let run := if high then x.run + 1 else 0
  let s := modPwr s (fun p => { p with rdyn := sput (fun _ => RunAvg.init) key { x with sum := sum, cnt := cnt, run := run } p.rdyn })
  if 10 ≤ run ∧ rf s a Fd.PWR_RDYNr_CRACK = 0 then
    let s := pwrEvent (wf s a Fd.PWR_RDYNr_CRACK 1) 12
    ok (report s (mkEvent s 7 0 3 k.val 0 (scOf s k.val) (rd s a) 0#64 0#64 Option.none Option.none))
  else ok s

/-! Sensors and thermal limits. -/

/-- Show a die's temperature in its block; above 85 degrees a stack is refreshed at twice the rate (R304, R341). -/
def showTemp (s : State) (i t : Nat) : State :=
  match dieUnit i with
  | (2, k) => wf s (THM_SITE k) Fd.THM_SITE_C_DEGC t
  | (3, k) => wf s (THM_SITE k) Fd.THM_SITE_B_DEGC t
  | (6, h) => wfb (wf s (HBM_TEMP h) Fd.HBM_TEMP_DEGC t) (HBM_TEMP h) Fd.HBM_TEMP_HOT_REFRESH (Nat.blt 85 t)
  | (9, e) => wf s (SUO_ENG_STATUS e) Fd.SUO_ENG_STATUS_DEGC t
  | _ => s

/-- A thermal alarm starts across, or merges into the pending one (R293). -/
def thermalAlarm (s : State) (k : Nat) : State :=
  modDom s k (fun x => if x.alarmBusy then { x with alarmPending := true } else { x with alarmBusy := true })

/-- THROTTLE of a base die at temperature `t` (R433): set above THR_B, and the samples below THR_B − 2 counted. -/
def throttleCheck (s : State) (k t : Nat) : State :=
  let thr := rf s THM_CFG Fd.THM_CFG_THR_B
  let s := modPwr s (fun p => { p with thrLow := smod (fun _ => 0) k (fun n => if t + 2 < thr then n + 1 else 0) p.thrLow })
  if thr < t ∧ rf s (THM_SITE k) Fd.THM_SITE_THROTTLE = 0 then
    let s := thmEvent (wf s (THM_SITE k) Fd.THM_SITE_THROTTLE 1) 0
    let s := wf s (THM_SITE_HEAD k) Fd.THM_SITE_HEAD_HEAD (siteDraw s k * 9 / 100)
    thermalAlarm (wf (wf s THM_STATUS Fd.THM_STATUS_THROTTLE 1) PWR_STATUS Fd.PWR_STATUS_THERMAL 1) k
  else s

/-- A die newly at trip starts the emergency throttle, with its record (R434, R587). -/
def tripCheck (s : State) (i : Nat) (was : Bool) : State :=
  let now := atTrip s i
  let s := modPwr s (fun p => { p with tripRun := smod (fun _ => 0) i (fun n => if now then n + 1 else 0) p.tripRun })
  if now && !was then
    let u := dieUnit i
    let s := addTrig (thmEvent (raiseIbi s) 1) 2
    report s (mkEvent s 4 0 u.1 u.2 0 (scOf s 0) (BitVec.ofNat 64 (dieTemp s i)) 0#64 0#64 (some (stewardDom, hThrottle)) Option.none)
  else s

/-- One die's sample. -/
def dieSample (s : State) (i t : Nat) : State :=
  let was := atTrip s i
  let s := modPwr (showTemp s i t) (fun p => { p with dieT := sput (fun _ => 0) i t p.dieT })
  let s := tripCheck s i was
  match dieUnit i with
  | (3, k) => throttleCheck s k t
  | _ => s

/-- THM_SITE.TRIP and THM_STATUS.TRIP. -/
def showTrip (s : State) : State :=
  let s := (List.range 144).foldl (fun s k => wfb s (THM_SITE k) Fd.THM_SITE_TRIP (atTrip s k || atTrip s (144 + k))) s
  let any := (List.range 354).any (atTrip s)
  let s := wfb s THM_STATUS Fd.THM_STATUS_TRIP any
  if thermalLasts s then s else dropTrig s 2

/-- The derived flow in 0.1 L/min (R435): P × 2 / (13 × ΔT). Without a rise of temperature the manual gives no value: it is free. -/
def showFlow (s : State) (inlet outlet : Nat) : State :=
  if draw s ≤ 5000 then wf s THM_STATUS Fd.THM_STATUS_FLOW 0
  else if outlet ≤ inlet then
    let r := takeFree 16 s
    wf r.2 THM_STATUS Fd.THM_STATUS_FLOW r.1.toNat
  else wf s THM_STATUS Fd.THM_STATUS_FLOW (draw s * 2 / (13 * (outlet - inlet)))

/-- `SENSOR_SAMPLE` (R431, R433 to R435): the dies' temperatures and the coolant's. -/
def execSensorSample (dies : List (Fin 354 × BitVec 8)) (inlet outlet : BitVec 8) (s : State) : Host.Outcome State Fault Refusal :=
  let s := dies.foldl (fun s p => dieSample s p.1.val p.2.toNat) s
  let s := wf (wf s THM_STATUS Fd.THM_STATUS_INLET inlet.toNat) THM_STATUS Fd.THM_STATUS_OUTLET outlet.toNat
  let s := showFlow (showTrip s) inlet.toNat outlet.toNat
  let low := decide (5000 < draw s) && Nat.blt (rf s THM_STATUS Fd.THM_STATUS_FLOW) 300
  ok (modPwr s (fun p => { p with
    inletRun := if 40 < inlet.toNat then p.inletRun + 1 else 0
    flowRun := if low then p.flowRun + 1 else 0 }))

/-- `THROTTLE_CLEAR` (R433): 100 samples, 1 ms, below THR_B − 2. -/
def execThrottleClear (k : Site) (s : State) : Host.Outcome State Fault Refusal :=
  if rf s (THM_SITE k.val) Fd.THM_SITE_THROTTLE = 1 ∧ 100 ≤ sget (fun _ => 0) s.pnl.pwr.thrLow k.val then
    let s := wf s (THM_SITE k.val) Fd.THM_SITE_THROTTLE 0
    let any := (List.range 144).any (fun j => rf s (THM_SITE j) Fd.THM_SITE_THROTTLE == 1)
    ok (wfb (wfb s THM_STATUS Fd.THM_STATUS_THROTTLE any) PWR_STATUS Fd.PWR_STATUS_THERMAL any)
  else ok s

/-- `THERMAL_CRITICAL` (R434, R587): a critical temperature, or a trip of 100 ms (10,000 samples), starts the power-down. -/
def execThermalCritical (i : Fin 354) (s : State) : Host.Outcome State Fault Refusal :=
  let crit := match dieLimits i.val with | some (_, c) => Nat.ble c (dieTemp s i.val) | Option.none => false
  if (crit || Nat.ble 10_000 (sget (fun _ => 0) s.pnl.pwr.tripRun i.val)) && !s.pnl.pwr.down then
    let u := dieUnit i.val
    ok (startDown (envEvent (thmEvent s 2) 4 u.1 u.2 2 (scOf s 0) (some (stewardDom, hThrottle)) Option.none))
  else ok s

/-- `INLET_HIGH` (R435): above 40 °C for 1 s, 100,000 samples. -/
def execInletHigh (s : State) : Host.Outcome State Fault Refusal := if 100_000 ≤ s.pnl.pwr.inletRun then ok (thmEvent s 3) else ok s

/-- `FLOW_LOW` (R435): below 30 L/min for 10 s, 1,000,000 samples. -/
def execFlowLow (s : State) : Host.Outcome State Fault Refusal := if 1_000_000 ≤ s.pnl.pwr.flowRun then ok (thmEvent s 4) else ok s

/-- Add energy to a counter that counts whole units, keeping the remainder. -/
def addEnergy (s : State) (key a amount unit : Nat) : State :=
  let t := sget (fun _ => 0) s.pnl.pwr.mjPart key + amount
  bump (modPwr s (fun p => { p with mjPart := sput (fun _ => 0) key (t % unit) p.mjPart })) a (t / unit)

/-- A site's forecasts and headroom: the RC network's parameters are not given, so the values are free; a throttled site's headroom is
0.9 times its draw (R432, R433). -/
def siteModel (s : State) (k : Nat) : State :=
  let f := takeFree 8 s
  let g := takeFree 8 f.2
  let h := takeFree 16 g.2
  let s := wf (wf h.2 (THM_SITE k) Fd.THM_SITE_C_FCST f.1.toNat) (THM_SITE k) Fd.THM_SITE_B_FCST g.1.toNat
  let thr := rf s (THM_SITE k) Fd.THM_SITE_THROTTLE == 1
  let s := wf s (THM_SITE_HEAD k) Fd.THM_SITE_HEAD_HEAD (if thr then siteDraw s k * 9 / 100 else h.1.toNat)
  let s := addEnergy s k (PWR_SITE_MJ k) (siteDraw s k) 10
  if thr then bump s (THM_SITE_THR_MS k) 1 else s

/-- Highest forecast of a site. -/
def forecast (s : State) (k : Nat) : Nat := max (rf s (THM_SITE k) Fd.THM_SITE_C_FCST) (rf s (THM_SITE k) Fd.THM_SITE_B_FCST)

/-- `THERMAL_MODEL_UPDATE` (R432, R439): each site's measured C, N and S power in 0.1 W as PWR_SITE_POWER packs them, and each edge
position's. -/
def execThermalModelUpdate (siteP : List (Site × BitVec 48)) (edgeP : List (Edge × BitVec 16)) (s : State) : Host.Outcome State Fault Refusal :=
  let s := siteP.foldl (fun s p => wr s (PWR_SITE_POWER p.1.val) (p.2.setWidth 64)) s
  let s := edgeP.foldl (fun s p => modPwr s (fun x => { x with edgePwr := sput (fun _ => 0) p.1.val p.2.toNat x.edgePwr })) s
  let ks := (List.range 144).filter (fun k => siteState s k != 2)
  let s := ks.foldl siteModel s
  let s := (List.range 16).foldl (fun s e =>
    let r := takeFree 16 s
    modPwr r.2 (fun x => { x with edgeHead := sput (fun _ => 0) e r.1.toNat x.edgeHead })) s
  let hot := ks.foldl (fun m k => if forecast s m < forecast s k then k else m) (ks.headD 0)
  ok (wf (wf s THM_STATUS Fd.THM_STATUS_HOT_SITE hot) THM_STATUS Fd.THM_STATUS_HOT_FCST (forecast s hot))

/-! Cycle counting (R436). -/

/-- Key of a die's half-cycle count in a bin. -/
def cycKey (i bin : Nat) : Nat := tk 18 + i * 16 + bin

/-- Bin of a range in K; none below 2 K. -/
def cycBin (r : Nat) : Option Nat := if r < 2 then Option.none else some (min 15 (r / 5))

/-- Add half cycles of a range, saturating at 32 bits. -/
def addCycles (s : State) (i r n : Nat) : State :=
  match cycBin r with
  | some b => setTab s (cycKey i b) (min 0xFFFF_FFFF (tab s (cycKey i b) + n))
  | Option.none => s

/-- Distance of two temperatures. -/
def rangeOf (a b : Nat) : Nat := max a b - min a b

/-- Count the ranges that the newest reversal closes, newest first (ASTM E1049): the range before the newest counts once it is no larger, as
a half cycle when it contains the start, else as a cycle. -/
def rainflow (s : State) (i : Nat) : Nat → List Nat → State × List Nat
  | 0, ps => (s, ps)
  | n + 1, x :: y :: z :: rest =>
    if rangeOf x y < rangeOf y z then (s, x :: y :: z :: rest)
    else if rest.isEmpty then (addCycles s i (rangeOf y z) 1, [x, y])
    else rainflow (addCycles s i (rangeOf y z) 2) i n (x :: rest)
  | _, ps => (s, ps)

/-- A temperature joins a die's turning points: it extends the range under way, or makes the last point a reversal. -/
def rainPoint (s : State) (i t : Nat) : State :=
  let ps := sget (fun _ => []) s.pnl.pwr.rain i
  let keep := fun (s : State) (ps : List Nat) => modPwr s (fun p => { p with rain := sput (fun _ => []) i ps p.rain })
  match ps with
  | [] => keep s [t]
  | [a] => if t = a then s else keep s [t, a]
  | a :: b :: rest =>
    if t = a then s
    else if Nat.blt b a == Nat.blt a t then keep s (t :: b :: rest)
    else
      let r := rainflow s i ps.length ps
      keep r.1 (t :: r.2)

/-- `RAINFLOW_SAMPLE` (R436). -/
def execRainflowSample (s : State) : Host.Outcome State Fault Refusal :=
  ok (s.pnl.pwr.dieT.foldl (fun s p => rainPoint s p.1 p.2) s)

/-- `CYCLE_COUNT_SAVE` (R436). -/
def execCycleCountSave (s : State) : Host.Outcome State Fault Refusal := ok (saveCycles s)

/-! Thermal resistance (R437). -/

/-- Key of a die's THM_DIE_RTH word. -/
def rthKey (i : Nat) : Nat := tk 21 + i

/-- One die: temperature and inlet in mK, power in mW, means of 1 s. -/
def rthSample (s : State) (i t p inlet : Nat) : State :=
  if 1000 * dieBudget i ≤ 2 * p ∧ p ≠ 0 then
    let r := min 0xFFFF ((t - inlet) * 1000 / p)
    let x := sget (fun _ => RunAvg.init) s.pnl.pwr.rth i
    let learn := deployed s && Nat.blt x.cnt 360_000
    let x := if learn then { x with sum := x.sum + r, cnt := x.cnt + 1 } else x
    let x := { x with wsum := x.wsum + r, wcnt := x.wcnt + 1 }
    let full := x.wcnt == 600
    let w0 := BitVec.ofNat 64 (tab s (rthKey i))
    let w := fset Fd.THM_DIE_RTH_RTH r w0
    let w := if learn && x.cnt == 360_000 then fset Fd.THM_DIE_RTH_BASE_VALID 1 (fset Fd.THM_DIE_RTH_BASE (x.sum / 360_000) w) else w
    let warn := full && fget Fd.THM_DIE_RTH_BASE_VALID w == 1 && Nat.blt (115 * fget Fd.THM_DIE_RTH_BASE w * 600) (100 * x.wsum)
    let new := warn && fget Fd.THM_DIE_RTH_WARN w == 0
    let w := if warn then fset Fd.THM_DIE_RTH_WARN 1 w else w
    let x := if full then { x with wsum := 0, wcnt := 0 } else x
    let s := setTab (modPwr s (fun p => { p with rth := sput (fun _ => RunAvg.init) i x p.rth })) (rthKey i) w.toNat
    if new then
      let u := dieUnit i
      let s := wf (thmEvent s 5) THM_STATUS Fd.THM_STATUS_COOL_WARN 1
      report s (mkEvent s 7 0 u.1 u.2 0 (scOf s 0) w 0#64 0#64 Option.none Option.none)
    else s
  else s

/-- `RTH_UPDATE` (R437): dies with mean temperature in mK and power in mW, and the inlet's mean in mK. -/
def execRthUpdate (dies : List (Fin 354 × Nat × Nat)) (inlet : Nat) (s : State) : Host.Outcome State Fault Refusal :=
  ok (dies.foldl (fun s p => rthSample s p.1.val p.2.1 p.2.2 inlet) s)

/-! Floor work, duty holds, emergencies. -/

/-- f(τ) of R441 in W: τ in steps of 10 µs; fractions of a watt are dropped. -/
def floorW (s : State) : Nat :=
  let p := s.pnl.pwr
  let down := rf s PWR_RAMP_DOWN Fd.PWR_RAMP_DOWN_RATE
  let up := rf s PWR_RAMP_UP Fd.PWR_RAMP_UP_RATE
  let fall := if down = 0 then 0 else p.db - down * p.tau / 100
  let climb := if p.rampOnly then min (p.db + up * p.tau / 100) (p.db + up * p.phaseNs / 1_000_000) else 0
  min (capEff s) (max (rf s PWR_FLOOR Fd.PWR_FLOOR_FLOOR) (max fall climb))

/-- `FLOOR_WORK_UPDATE` (R441 to R443): `able` is whether the awake sites can supply what is missing. Floor work is suspended under duty holds
and in an emergency. -/
def execFloorWorkUpdate (able : Bool) (s : State) : Host.Outcome State Fault Refusal :=
  let s := modPwr s (fun p => { p with tau := p.tau + 1 })
  let f := floorW s
  let s := wfb (wf s PWR_STATUS Fd.PWR_STATUS_FLOOR_W f) PWR_STATUS Fd.PWR_STATUS_RAMPING s.pnl.pwr.rampOnly
  let wanted := decide (draw s < f) && rf s PWR_STATUS Fd.PWR_STATUS_DUTY_PCT == 0 && rf s PWR_STATUS Fd.PWR_STATUS_EMERG == 0
  let s := wfb s PWR_STATUS Fd.PWR_STATUS_FLOOR_ON wanted
  let s := if wanted then addEnergy s 1000 PWR_FLOOR_ENERGY ((f - draw s) * 10) 1_000_000 else s
  ok (if wanted && !able then pwrEvent s 6 else s)

/-- Whether a throttled site draws more than its target (R443). -/
def siteOver (s : State) (k : Nat) : Bool :=
  rf s (THM_SITE k) Fd.THM_SITE_THROTTLE == 1 && Nat.blt (10 * rf s (THM_SITE_HEAD k) Fd.THM_SITE_HEAD_HEAD) (siteDraw s k)

/-- Set h, and with it DUTY; floor work stops above 0. -/
def setDuty (s : State) (h : Nat) : State :=
  let s := wfb (wf s PWR_STATUS Fd.PWR_STATUS_DUTY_PCT h) PWR_STATUS Fd.PWR_STATUS_DUTY (h != 0)
  if h = 0 then s else wf s PWR_STATUS Fd.PWR_STATUS_FLOOR_ON 0

/-- `DUTY_UPDATE` (R439, R443): d, the input power of the last 100 µs, is compared with the targets; every tenth update, 100 µs, moves h. -/
def execDutyUpdate (d : BitVec 16) (s : State) : Host.Outcome State Fault Refusal :=
  let s := wf (wf s PWR_STATUS Fd.PWR_STATUS_DRAW d.toNat) PWR_INPUT Fd.PWR_INPUT_PIN d.toNat
  let s := supplyCheck (addEnergy (showCap s) 999 PWR_ENERGY (d.toNat * 10) 1_000_000)
  let siteHot := (List.range 144).any (siteOver s)
  let isHot := decide (capEff s < d.toNat) || siteHot
  let s := modPwr s (fun p => { p with hot := if isHot then p.hot + 1 else 0, dutyN := (p.dutyN + 1) % 10 })
  let h := rf s PWR_STATUS Fd.PWR_STATUS_DUTY_PCT
  if s.pnl.pwr.dutyN ≠ 0 then ok s
  else if 2 ≤ s.pnl.pwr.hot then ok (setDuty s (min 90 (h + 5)))
  else if 100 * d.toNat < 95 * capEff s ∧ !siteHot then ok (setDuty s (h - 5))
  else ok s

/-- `DUTY_HOLD` (R276, R443): a hold of 2 µs while h is above 0. -/
def execDutyHold (s : State) : Host.Outcome State Fault Refusal :=
  if rf s PWR_STATUS Fd.PWR_STATUS_DUTY_PCT = 0 then ok s else ok (bump (stewardHold s hThrottle) PWR_DUTY_NS 2000)

/-- `EMERGENCY_THROTTLE` (R444): `pin` is the input power of the last 5 µs in W, `breach` whether the fall in draw exceeds RAMP_DOWN. -/
def execEmergencyThrottle (pin : BitVec 16) (breach : Bool) (s : State) : Host.Outcome State Fault Refusal :=
  let s := if rf s PWR_CAP Fd.PWR_CAP_TRIP < pin.toNat then addTrig s 0 else s
  if s.pnl.pwr.trig.isEmpty then ok s
  else
    let s := s.pnl.pwr.trig.foldl pwrEvent s
    let s := if breach ∧ rf s PWR_RAMP_DOWN Fd.PWR_RAMP_DOWN_RATE ≠ 0 then pwrEvent s 5 else s
    if rf s PWR_STATUS Fd.PWR_STATUS_EMERG = 1 then ok s
    else
      let s := bump (wf (wf (raiseIbi s) PWR_STATUS Fd.PWR_STATUS_EMERG 1) PWR_STATUS Fd.PWR_STATUS_FLOOR_ON 0) PWR_EMERGS 1
      ok (stewardHold s hThrottle)

/-- `EMERGENCY_CLEAR` (R444): 100 µs after the last trigger has gone. `pin` is the input power. -/
def execEmergencyClear (pin : BitVec 16) (s : State) : Host.Outcome State Fault Refusal :=
  let s := if pin.toNat ≤ rf s PWR_CAP Fd.PWR_CAP_TRIP then dropTrig s 0 else s
  let s := if thermalLasts s then s else dropTrig s 2
  let s := supplyCheck s
  if s.pnl.pwr.trig.isEmpty ∧ rf s PWR_STATUS Fd.PWR_STATUS_EMERG = 1 then
    ok (setDuty (stewardClear (wf s PWR_STATUS Fd.PWR_STATUS_EMERG 0) hThrottle) 90)
  else ok s

/-- `SITE_WAKE_GRANT` (R446): at most 18 grants in any 64 wall cycles, in order of arrival, ties to the lower site; a request that cannot be
granted counts as deferred once. -/
def execSiteWakeGrant (s : State) : Host.Outcome State Fault Refusal :=
  match s.pnl.wakeQ with
  | [] => ok s
  | q :: qs =>
    let best := qs.foldl (fun m x => if x < m then x else m) q
    let k := best % 256
    let recent := s.pnl.wakeAt.filter (fun t => Nat.blt s.pnl.wall (t + 64))
    if recent.length < 18 then
      let s := modPnl s (fun p => { p with wakeQ := p.wakeQ.erase best, wakeAt := recent ++ [p.wall] })
      let s := modPwr s (fun p => { p with wakeDef := p.wakeDef.filter (fun x => x != k) })
      ok (modSite s k (fun x => { x with wake := 3 }))
    else if s.pnl.pwr.wakeDef.contains k then ok s
    else ok (bump (modPwr s (fun p => { p with wakeDef := p.wakeDef ++ [k] })) PWR_WAKE_DEFER 1)

/-- A write of PWR_CAP (R449). -/
def writePwrCap (s : State) (req : Requester) (v : W64) : State :=
  let cap := fget Fd.PWR_CAP_CAP v
  let trip := fget Fd.PWR_CAP_TRIP v
  if trip < cap ∨ 24_000 < cap ∨ 24_000 < trip then csrError s req true PWR_CAP
  else showCap (wf (wf s PWR_CAP Fd.PWR_CAP_CAP cap) PWR_CAP Fd.PWR_CAP_TRIP trip)

/-- `PWR_CAP_WRITE` (R449). -/
def execPwrCapWrite (req : Requester) (v : W64) (s : State) : Host.Outcome State Fault Refusal :=
  ok (guardCsr s req PWR_CAP true (fun s => writePwrCap s req v))

end Sys2Proof.Machine
end

