-- ==== Sys2Proof/Machine/Dynamic.lean ====
section
/-!
DEFINITION. The dynamic class (R223 to R231, R515): input queues, credits, round-robin forwarding on open slices, and delivery.
-/
namespace Sys2Proof.Machine

/-- Flits of a packet (R225). -/
def flitsOf (p : DynPkt) : Nat := (32 + p.payload.length + 255) / 256

/-- Open slices of a mesh output at the SC now (R223). -/
def openSlices (s : State) (k d : Nat) : Nat :=
  if held s k then 16
  else
    match cfgInForce s k with
    | Option.none => 16
    | some cfg => if hopOpen (entryWord s k) then ((List.range 16).filter (fun n => cfgByte cfg (16 * d + n) == 0)).length else 0

/-- Open slices of edge port `b` of a site towards its edge die (R223). -/
def openEdge (s : State) (k b : Nat) : Nat :=
  if held s k then 8
  else
    match cfgInForce s k with
    | Option.none => 8
    | some cfg => if hopOpen (entryWord s k) then ((List.range 8).filter (fun n => cfgByte cfg (112 + 8 * b + n) == 0)).length else 0

/-- Open slices of an edge die's output towards front site `j` (R223, R354). -/
def edgeOpens (s : State) (e j : Nat) : Nat :=
  if held s (144 + e) || (edge s e).progEmpty then 8
  else if hopOpen (edgeEntry s e) then ((List.range 8).filter (fun n => edgeByte s e (8 * j + n) == 0)).length
  else 0

/-- The site a packet makes for: its intermediate site on leg 0, else its destination (R227). -/
def dynTarget (p : DynPkt) : Nat := if p.via != 0xFF#8 && !p.leg then p.via.toNat else p.dstSite

/-- A packet at its intermediate site turns to its second leg (R227). -/
def dynTurn (k : Nat) (p : DynPkt) : DynPkt := if p.via != 0xFF#8 && !p.leg && p.via.toNat == k then { p with leg := true } else p

/-- Mesh direction X-then-Y towards a site; none at the site itself (R227). -/
def dirTo (k t : Nat) : Option Nat :=
  if t % 12 > k % 12 then some 1
  else if t % 12 < k % 12 then some 3
  else if t / 12 > k / 12 then some 0
  else if t / 12 < k / 12 then some 2
  else Option.none

/-- Where a packet at a router goes next. -/
def dynOut (k : Nat) (p : DynPkt) : Option Nat := dirTo k (dynTarget (dynTurn k p))

/-- Virtual channel of a packet beyond a router (R227). -/
def dynVc (k : Nat) (p : DynPkt) : Nat := if (dynTurn k p).leg then 1 else 0

/-- Head packet of a queue, if the first of its flits stands there. -/
def headOf (x : SiteX) (inp vc : Nat) : Option QFlit :=
  match x.dynQ.find? (fun f => f.inp == inp && f.vc == vc) with
  | some f => if f.idx = 0 then some f else Option.none
  | Option.none => Option.none

/-- Flits in a queue. -/
def queued (x : SiteX) (inp vc : Nat) : Nat := (x.dynQ.filter (fun f => f.inp == inp && f.vc == vc)).length

/-- Key of a downstream queue's credit: mesh output and virtual channel. -/
def credKey (out vc : Nat) : Nat := out * 2 + vc

/-- Flits of the downstream queue in use or not yet credited (R228). -/
def credUsed (x : SiteX) (out vc : Nat) : Nat := sget (fun _ => 0) x.used (credKey out vc)

/-- A flit has left queue (inp, vc) of a router: its upstream neighbour gets a credit in time (R228). -/
def freeFlit (s : State) (k inp vc : Nat) : State :=
  if inp < 4 then
    match siteAt k inp 1 with
    | some u => modSite s u (fun x => { x with credBack := x.credBack ++ [credKey ((inp + 2) % 4) vc] })
    | Option.none => s
  else s

/-- A stream packet dropped under R229 is reported to the engine that sent it, or for a fetch answer to the engine that asked (R229, R331); a
STREAM_ISSUE to its site (R323). -/
def reportDrop (s : State) (p : DynPkt) : State :=
  if p.kind = 3#4 then modSite s p.srcSite (fun x => { x with dropped := x.dropped ++ [{ p with leg := false }] })
  else if p.kind = 1#4 ∨ p.kind = 2#4 then
    let seat := fun (k u : Nat) => ((edgePorts k)[u - 3]?).map (fun q => q.1)
    if p.srcUnit.toNat = 3 ∨ p.srcUnit.toNat = 4 then
      if p.dstUnit = 3#4 ∨ p.dstUnit = 4#4 then s
      else
        match seat p.srcSite p.srcUnit.toNat with
        | some e => modEdge s e (fun x => { x with dropped := x.dropped ++ [{ p with leg := false }] })
        | Option.none => s
    else
      match seat p.dstSite p.dstUnit.toNat with
      | some e =>
        (match fetchOwner (edge s e) p with
         | some t => modEdge s e (fun x => { x with dropped := x.dropped ++ [fetchPacket s e t p.addr.toNat (answerLen p)] })
         | Option.none => s)
      | Option.none => s
  else s

/-- Drop a packet at a router with a flag of RIL_DYN_ERR (R229). -/
def dropPacket (s : State) (k : Nat) (flag : Fld) (p : DynPkt) : State := reportDrop (wf s (RIL_DYN_ERR k) flag 1) p

/-- Whether a packet names a partition other than its destination's, which R515 refuses unless the steward sent it. -/
def foreign (s : State) (k : Nat) (p : DynPkt) : Bool := p.part.val != partOfSite s k && p.srcUnit != 5#4

/-! Entering a router. -/

/-- The site at which the active steward attaches to the Rill network: A at (0, 0), B at (11, 11) (R17, R206). -/
def stewardSite (s : State) : Nat := if rf s FLT_STEWARD Fd.FLT_STEWARD_ACTIVE = 0 then 0 else 143

/-- Whether an edge die is wired to the active steward: 0 and 15 to A, 7 and 8 to B (R17). -/
def stewardWired (s : State) (e : Nat) : Bool :=
  if rf s FLT_STEWARD Fd.FLT_STEWARD_ACTIVE = 0 then e == 0 || e == 15 else e == 7 || e == 8

/-- The packet that the edge die at edge port `b` of a site offers, through an open slice (R223, R228). -/
def offeredEdge (s : State) (k b : Nat) : Option DynPkt :=
  match (edgePorts k)[b]? with
  | some q =>
    if edgePortUsable s k b && edgeOpens s q.1 q.2 != 0 then (edge s q.1).outQ.find? (fun p => p.srcSite == k) else Option.none
  | Option.none => Option.none

/-- The packet that an injecting input offers: local, edge A, edge B, steward (R228). -/
def offered (s : State) (k inp : Nat) : Option DynPkt :=
  match inp with
  | 4 => (site s k).outQ.head?
  | 5 => offeredEdge s k 0
  | 6 => offeredEdge s k 1
  | _ => if k = stewardSite s then s.pnl.stOut.head? else Option.none

/-- Take the offered packet away. -/
def takeOffered (s : State) (k inp : Nat) (p : DynPkt) : State :=
  match inp with
  | 4 => modSite s k (fun x => { x with outQ := x.outQ.erase p })
  | 5 => (match (edgePorts k)[0]? with | some q => modEdge s q.1 (fun x => { x with outQ := x.outQ.erase p }) | Option.none => s)
  | 6 => (match (edgePorts k)[1]? with | some q => modEdge s q.1 (fun x => { x with outQ := x.outQ.erase p }) | Option.none => s)
  | _ => modPnl s (fun x => { x with stOut := x.stOut.erase p })

/-- Whether every mesh link of the X-then-Y path from a site to another is usable in the current record (R227): at most `n` hops. -/
def legOk (s : State) (k t : Nat) : Nat → Bool
  | 0 => k == t
  | n + 1 =>
    match dirTo k t with
    | Option.none => true
    | some d => fprLink s k d && (match siteAt k d 1 with | some m => legOk s m t n | Option.none => false)

/-- RIL_VIAn of a site for destination `n`: VIA and REACH, as the steward writes them at each publication (R227, R236), so a function of the current
record; before the first one they are at their reset values. DESIGN CHOICE (log entry 134): of several intermediate sites that give two usable legs,
the one of the lowest number. -/
def viaOf (s : State) (k n : Nat) : Nat × Bool :=
  if rf s BOOT_FPR_GEN Fd.BOOT_FPR_GEN_GEN = 0 then (0xFF, false)
  else if legOk s k n 22 then (0xFF, true)
  else
    match (List.range 144).find? (fun m => m != k && m != n && legOk s k m 22 && legOk s m n 22) with
    | some m => (m, true)
    | Option.none => (0xFF, false)

/-- The word of RIL_VIAn (R236). -/
def viaWord (s : State) (k n : Nat) : W64 := BitVec.ofNat 64 ((viaOf s k n).1 + 256 * b2n (viaOf s k n).2)

/-- The source router fills VIA, and PART for its local port (R227, R515). -/
def sourceStamp (s : State) (k inp : Nat) (p : DynPkt) : DynPkt :=
  { p with via := if p.dstSite = k then 0xFF#8 else BitVec.ofNat 8 (viaOf s k p.dstSite).1, leg := false,
           part := if inp = 4 then Fin.ofNat 4 (rf s (RIL_PART k) Fd.RIL_PART_PARTITION) else p.part }

/-- Note the depth of an input's queues for the largest since the last snapshot: virtual channel 0 in bits 0 to 7, 1 above (R237). -/
def noteDepth (s : State) (k inp : Nat) : State :=
  let a := RIL_DPORTp_DEPTH k inp
  let old := (live s a).toNat
  let x := site s k
  let v := max (old % 256) (queued x inp 0) + 256 * max (old / 256 % 256) (queued x inp 1)
  s.setLive (sput (fun _ => 0#64) a (BitVec.ofNat 64 v) s.live)

/-- Key of the next flit index of an injecting input. -/
def injKey (k inp : Nat) : Nat := tk 16 + k * 8 + inp

/-- One flit of the offered packet enters the input's queue of virtual channel 0, which holds 32 (R228, R233). A parity error on an edge port marks
the packet bad (R205, R236). -/
def injectFlit (s : State) (k inp : Nat) (parity : Bool) : State :=
  match offered s k inp with
  | Option.none => s
  | some p =>
    let idx := tab s (injKey k inp)
    let bad := parity && (inp == 5 || inp == 6)
    if 32 ≤ queued (site s k) inp 0 then s
    else if idx = 0 ∧ p.dstSite ≠ k ∧ (viaOf s k p.dstSite).2 = false then
      dropPacket (takeOffered s k inp p) k Fd.RIL_DYN_ERR_UNREACHABLE p
    else
      let q := sourceStamp s k inp p
      let s := if bad then wf s (RIL_LINK_ERR k) ⟨16 + (inp - 5), 1, .rw1c⟩ 1 else s
      let s := noteDepth (modSite s k (fun x => { x with dynQ := x.dynQ ++ [⟨inp, 0, q, idx, bad⟩] })) k inp
      if idx + 1 = flitsOf p then setTab (takeOffered s k inp p) (injKey k inp) 0 else setTab s (injKey k inp) (idx + 1)

/-- The packet of a queue of which flits are still to come, and the index of the next one. -/
def partialOf (x : SiteX) (inp vc : Nat) : Option (DynPkt × Nat) :=
  match (x.dynQ.filter (fun f => f.inp == inp && f.vc == vc)).getLast? with
  | some f => if f.idx + 1 < flitsOf f.pkt then some (f.pkt, f.idx + 1) else Option.none
  | Option.none =>
    match x.moves.find? (fun m => m.inp == inp && m.vc == vc) with
    | some m => if 0 < m.left then some (m.pkt, flitsOf m.pkt - m.left) else Option.none
    | Option.none => Option.none

/-- Arrivals from a link that has gone out of use cease (R234): a packet of which only a part has come in is ended with flits that count as bad, so that
its destination drops it (log entry 134). -/
def endPartial (s : State) (k inp vc : Nat) : State :=
  match partialOf (site s k) inp vc with
  | some (p, i) => modSite s k (fun x => { x with dynQ := x.dynQ ++ [⟨inp, vc, p, i, true⟩] })
  | Option.none => s

/-- One flit of a moving packet crosses a mesh link into router `k` (R228). A parity error marks the packet bad (R205). -/
def crossFlit (s : State) (k inp vc : Nat) (parity : Bool) : State :=
  if !linkUsable s k inp then endPartial s k inp vc
  else
    match siteAt k inp 1 with
    | Option.none => s
    | some u =>
      let out := (inp + 2) % 4
      if openSlices s u out = 0 then s
      else
        match (site s u).moves.find? (fun m => m.out == out && m.ovc == vc) with
        | Option.none => s
        | some m =>
          match (site s u).dynQ.find? (fun f => f.inp == m.inp && f.vc == m.vc) with
          | Option.none => s
          | some f =>
            let m' := { m with left := m.left - 1 }
            let s := modSite s u (fun x => { x with
              dynQ := x.dynQ.erase f
              moves := if m'.left = 0 then x.moves.erase m else x.moves.map (fun y => if y = m then m' else y) })
            let s := bump s (RIL_DPORTp_FLITS u m.inp) 1
            let s := freeFlit s u m.inp m.vc
            let s := if parity then wf s (RIL_LINK_ERR k) ⟨8 + inp, 1, .rw1c⟩ 1 else s
            noteDepth (modSite s k (fun x => { x with dynQ := x.dynQ ++ [⟨inp, vc, dynTurn u f.pkt, f.idx, f.bad || parity⟩] })) k inp

/-- `DYN_FLIT_RECEIVE` (R205, R227, R228, R234): a flit enters a router input's queue: from the neighbour's moving packet at a mesh input, from the
unit's next packet at the local, edge and steward inputs, which use virtual channel 0. -/
def execDynFlitReceive (k : Site) (inp : Fin 8) (vc : Fin 2) (parity : Bool) (s : State) : Host.Outcome State Fault Refusal :=
  if siteState s k.val = 2 then ok s
  else if inp.val < 4 then ok (crossFlit s k.val inp.val vc.val parity)
  else if vc.val = 0 then ok (injectFlit s k.val inp.val parity)
  else ok s

/-! Forwarding. -/

/-- Whether the head of queue `q` (input * 2 + virtual channel) may start towards output `d` (R228): not yet moving, with credit for all
its flits. -/
def mayStart (x : SiteX) (k d q : Nat) : Bool :=
  match headOf x (q / 2) (q % 2) with
  | Option.none => false
  | some f =>
    dynOut k f.pkt == some d && !x.moves.any (fun m => m.inp == q / 2 && m.vc == q % 2)
      && decide (credUsed x d (dynVc k f.pkt) + flitsOf f.pkt ≤ 32)

/-- The queue that round-robin serves next for output `d`. -/
def rrNext (x : SiteX) (k d : Nat) : Option Nat :=
  let last := sget (fun _ => 0) x.rr d
  ((List.range 16).map (fun i => (last + i) % 16)).find? (mayStart x k d)

/-- Take the first `n` flits out of a queue, with their credits. -/
def takeFlits (s : State) (k inp vc n : Nat) : State :=
  let s := (List.range n).foldl (fun s _ =>
    match (site s k).dynQ.find? (fun g => g.inp == inp && g.vc == vc) with
    | some g => modSite s k (fun x => { x with dynQ := x.dynQ.erase g })
    | Option.none => s) s
  (List.range n).foldl (fun s _ => freeFlit s k inp vc) s

/-- Flits of the head packet that stand in its queue. -/
def headFlits (x : SiteX) (inp vc : Nat) (f : QFlit) : List QFlit :=
  (x.dynQ.filter (fun g => g.inp == inp && g.vc == vc)).take (flitsOf f.pkt)

/-- The packet that a queue is sending, if any. -/
def moveOf (x : SiteX) (inp vc : Nat) : Option Move := x.moves.find? (fun m => m.inp == inp && m.vc == vc)

/-- A packet that was on its way over a link that has gone out of use (R234): once the flits that remain of it stand in the queue they are discarded.
If none has crossed, or they crossed into a hole, the packet is dropped here; else its first flits are dropped where they go. -/
def dropMove (s : State) (k : Nat) (m : Move) : State :=
  if queued (site s k) m.inp m.vc < m.left then s
  else
    let s := takeFlits s k m.inp m.vc m.left
    let s := modSite s k (fun x => { x with
      moves := x.moves.erase m
      used := sput (fun _ => 0) (credKey m.out m.ovc) (credUsed x m.out m.ovc - m.left) x.used })
    let lost : Bool := match siteAt k m.out 1 with | some f => siteState s f == 2 | Option.none => true
    if m.left = flitsOf m.pkt ∨ lost = true then dropPacket s k Fd.RIL_DYN_ERR_UNREACHABLE m.pkt
    else wf s (RIL_DYN_ERR k) Fd.RIL_DYN_ERR_UNREACHABLE 1

/-- The head of an input queue starts towards mesh output `d` (R228). -/
def startMove (s : State) (k inp vc d : Nat) (p : DynPkt) : State :=
  let n := flitsOf p
  let ovc := dynVc k p
  let s := modSite s k (fun x => { x with
    moves := x.moves ++ [⟨inp, vc, d, ovc, n, p⟩]
    used := sput (fun _ => 0) (credKey d ovc) (credUsed x d ovc + n) x.used
    rr := sput (fun _ => 0) d ((inp * 2 + vc + 1) % 16) x.rr })
  bump s (RIL_DPORTp_PKTS k inp) 1

/-- `DYN_PACKET_FORWARD` (R227, R228, R234): the head of an input queue starts through an open slice of its mesh output, when round-robin
has reached it. A packet whose route crosses an unusable link is dropped once it is whole. -/
def execDynPacketForward (k : Site) (inp : Fin 8) (vc : Fin 2) (s : State) : Host.Outcome State Fault Refusal :=
  let k := k.val
  let x := site s k
  match moveOf x inp.val vc.val with
  | some m => ok (if m.out < 4 ∧ !linkUsable s k m.out then dropMove s k m else s)
  | Option.none =>
    match headOf x inp.val vc.val with
    | Option.none => ok s
    | some f =>
      match dynOut k f.pkt with
      | Option.none => ok s
      | some d =>
        if !linkUsable s k d then
          if (headFlits x inp.val vc.val f).length = flitsOf f.pkt then
            ok (dropPacket (takeFlits s k inp.val vc.val (flitsOf f.pkt)) k Fd.RIL_DYN_ERR_UNREACHABLE f.pkt)
          else ok s
        else if openSlices s k d ≤ (x.moves.filter (fun m => m.out == d)).length ∨ rrNext x k d ≠ some (inp.val * 2 + vc.val) then ok s
        else ok (startMove s k inp.val vc.val d f.pkt)

/-- `DYN_CREDIT_RETURN` (R228): the oldest credit on its way reaches the router. -/
def execDynCreditReturn (k : Site) (s : State) : Host.Outcome State Fault Refusal :=
  match (site s k.val).credBack with
  | [] => ok s
  | c :: rest => ok (modSite s k.val (fun x => { x with credBack := rest, used := sput (fun _ => 0) c (sget (fun _ => 0) x.used c - 1) x.used }))

/-! Delivery. -/

/-- Whether a site has a destination unit (R225): basin, SCP, CSR window, edge A, edge B, steward. -/
def hasUnit (s : State) (k u : Nat) : Bool :=
  match u with
  | 0 | 1 | 2 => true
  | 3 => edgePortUsable s k 0
  | 4 => edgePortUsable s k 1
  | 5 => k == 0 || k == 143
  | _ => false

/-- Whether a landing meets a region that scheduled writes may not write (R230), or the partition's landings are off after a zeroise (R338). -/
def landingRefused (s : State) (k : Nat) (p : DynPkt) : Bool :=
  let ls := (landingOf p).lines
  ls.any (fun l => !regionSchedWr s k (regionOf l.1)) || decide (0x300_0000 < p.addr.toNat + 16 * ls.length) || (part s p.part.val).landsOff

/-- Since when a packet that has crossed the panel in pieces has been in it, by the engine that sent the pieces (R371, R373). -/
def crossedSince (s : State) (p : DynPkt) : Nat :=
  match (edgePorts p.srcSite)[p.srcUnit.toNat - 3]? with
  | some q => ((edge s q.1).crossed.find? (fun c => c.1 == p.tag.toNat)).elim (nowNs s) (fun c => c.2)
  | Option.none => nowNs s

/-- Hand a packet to the unit that it names. -/
def handOver (s : State) (k : Nat) (p : DynPkt) : State :=
  match p.dstUnit.toNat with
  | 0 => if p.kind = 1#4 then modSite s k (fun x => { x with landQ := x.landQ ++ [landingOf p] })
         else modSite s k (fun x => { x with inbox := x.inbox ++ [p] })
  | 3 | 4 =>
    (match (edgePorts k)[p.dstUnit.toNat - 3]? with
     | Option.none => s
     | some q =>
       let e := q.1
       if p.srcUnit = 3#4 ∨ p.srcUnit = 4#4 then
         let mine0 := fun (y : DynPkt) => y.srcSite == p.srcSite && y.srcUnit == p.srcUnit && y.tag == p.tag
         let stale := (edge s e).pieces.any (fun y => mine0 y && y.addr == p.addr)
         let s := modEdge s e (fun x => { x with pieces := (if stale then x.pieces.filter (fun y => !mine0 y) else x.pieces) ++ [p] })
         let mine := (edge s e).pieces.filter (fun y => y.srcSite == p.srcSite && y.srcUnit == p.srcUnit && y.tag == p.tag)
         (match reassemble mine with
          | Option.none => s
          | some bs => modEdge s e (fun x => { x with
              pieces := x.pieces.filter (fun y => !(y.srcSite == p.srcSite && y.srcUnit == p.srcUnit && y.tag == p.tag))
              transit := x.transit ++ [⟨panelOf bs, crossedSince s p, Option.none⟩] }))
       else if p.kind = 1#4 then engineData s e p
       else modEdge s e (fun x => { x with inbox := x.inbox ++ [p] }))
  | 5 => modPnl s (fun x => { x with stIn := x.stIn ++ [p] })
  | _ => modSite s k (fun x => { x with inbox := x.inbox ++ [p] })

/-- Output that a packet at its destination leaves by: edge port A or B, the steward port, the local port (R206, R228). -/
def outClass (p : DynPkt) : Nat := match p.dstUnit.toNat with | 3 => 8 | 4 => 9 | 5 => 10 | _ => 11

/-- Whether the head of queue `q` is a whole packet that waits for output `o` of its destination. -/
def mayLeave (x : SiteX) (k o q : Nat) : Bool :=
  match headOf x (q / 2) (q % 2) with
  | Option.none => false
  | some f =>
    (dynOut k f.pkt).isNone && outClass f.pkt == o && (moveOf x (q / 2) (q % 2)).isNone
      && (headFlits x (q / 2) (q % 2) f).length == flitsOf f.pkt

/-- The queue that round-robin serves next for an output of the destination (R228). -/
def rrLeave (x : SiteX) (k o : Nat) : Option Nat :=
  let last := sget (fun _ => 0) x.rr o
  ((List.range 16).map (fun i => (last + i) % 16)).find? (mayLeave x k o)

/-- The flag of RIL_DYN_ERR that the destination router drops a packet with (R229, R230, R515), if it drops it. -/
def dropFlag (s : State) (k : Nat) (p : DynPkt) (bad : Bool) : Option Fld :=
  if !p.crcOk || bad then some Fd.RIL_DYN_ERR_CRC
  else if p.kind.toNat = 0 ∨ 7 < p.kind.toNat ∨ !hasUnit s k p.dstUnit.toNat then some Fd.RIL_DYN_ERR_NO_UNIT
  else if foreign s k p ∨ (p.dstUnit = 0#4 ∧ p.kind = 1#4 ∧ landingRefused s k p) then
    some Fd.RIL_DYN_ERR_REFUSED
  else Option.none

/-- One flit of a packet goes to the edge die through an open slice of its edge port. -/
def sendFlit (s : State) (k inp vc : Nat) : State := bump (takeFlits s k inp vc 1) (RIL_DPORTp_FLITS k inp) 1

end Sys2Proof.Machine
end

