-- ==== Sys2Proof/Machine/Suoth.lean ====
section
/-!
DEFINITION. The optical ports: states (R344, R345, R378 to R381), the slot calendar and its roles (R349 to R353), transmit queues and
receive weirs (R356 to R361), repair (R362 to R364) and link keys (R365, R366, R517, R518). Slots are numbered from the alignment made in
IDENT; header fields carry that number modulo 65,536.
-/
namespace Sys2Proof.Machine

/-! Registers of a port. -/

/-- Edge die and place of a port. -/
def pE (p : Nat) : Nat := p / 8
def pI (p : Nat) : Nat := p % 8

/-- Count at a port's counter. -/
def pcount (s : State) (p : Nat) (reg : Nat → Nat → Nat) : State := bump s (reg (pE p) (pI p)) 1

/-- STATUS of a port (R386). -/
def portStat (p : Nat) : Nat := SUO_PORTp_STATUS (pE p) (pI p)

/-- Frames in a transmit queue, the open one counted (R356). -/
def txLen (x : PortX) : Nat := x.txq.length + (if x.opn.isEmpty then 0 else 1)

/-- Refresh CREDIT, TXQ and RXW. -/
def showPort (s : State) (p : Nat) : State :=
  let x := port s p
  let a := portStat p
  wf (wf (wf s a Fd.SUO_PORTp_STATUS_CREDIT x.credits) a Fd.SUO_PORTp_STATUS_TXQ (txLen x)) a Fd.SUO_PORTp_STATUS_RXW x.rxw.length

/-- Whether a gateway port runs Ethernet (R384). -/
def ethernet (s : State) (p : Nat) : Bool := isGateway s p && rf s (SUO_PORTp_CFG (pE p) (pI p)) Fd.SUO_PORTp_CFG_MODE == 1

/-- Whether the partition that owns a port is retired (R485). -/
def portRetired (s : State) (p : Nat) : Bool := loadState s (partOfEdge s (pE p)) == 6

/-- A port changes state: an attention event, and its ready bit (R378, R465). -/
def enterPort (s : State) (p v : Nat) : State :=
  if portState s p = v then s
  else readyPort (attention (setPortStateField s p v) (144 + pE p)) p (v == 4 || v == 5)

/-- Set or clear the port's bit of a field of SUO_ENG_STATUS. -/
def engBit (s : State) (p : Nat) (f : Fld) (b : Bool) : State := wfb s (SUO_ENG_STATUS (pE p)) ⟨f.lo + pI p, 1, .ro⟩ b

/-- A port goes DOWN with an attention event (R378). -/
def dropPort (s : State) (p : Nat) : State := if portState s p = 0 then s else portDown (attention s (144 + pE p)) p

/-- Whether the laser power of a port is in range (R345). -/
def laserOk (s : State) (p : Nat) : Bool := (rd s (SUO_ENG_STATUS (pE p))).getLsbD (pI p)

/-- One hour of TIME. -/
def hourNs : Nat := 3_600_000_000_000

/-- A port enters FAULT (R363, R366, R381). A MAPPED port raises ERROR with a DATA record; the third FAULT within an hour is a HARDWARE
event that fences the port (R489). `count` is false for a loss of laser power. -/
def portFault (s : State) (p cause : Nat) (count : Bool) : State :=
  if portState s p = 6 then s
  else
    let mapped := portState s p == 5
    let s := enterPort s p 6
    let recent := ((port s p).faults.filter (fun t => Nat.blt (nowNs s) (t + hourNs)))
    let faults := if count then recent ++ [nowNs s] else recent
    let s := modPort s p (fun x => { x with faults := faults })
    let third := count && Nat.ble 3 faults.length
    if !mapped && !third then s
    else
      let d := 144 + pE p
      let sc := scOf s d
      let s := raiseHold s d hError 0
      report s (mkEvent s (if third then 3 else 2) (if third then 2 else 1) 8 p cause sc (rd s (portStat p)) 0#64 0#64 (some (d, hError))
        (if third then some (8, p) else Option.none))

/-! States (R378). -/

/-- `PORT_TRAIN_START` (R345, R378): laser power is in range, which LASER_OK shows; a DOWN port with ENABLE = 1 trains. -/
def execPortTrainStart (p : Port) (s : State) : Host.Outcome State Fault Refusal :=
  let p := p.val
  let s := engBit s p Fd.SUO_ENG_STATUS_LASER_OK true
  if portState s p = 0 ∧ portEnabled s p ∧ rf s (SUO_PORTp_CFG (pE p) (pI p)) Fd.SUO_PORTp_CFG_ENABLE = 1 then
    ok (enterPort (wf (engBit s p Fd.SUO_ENG_STATUS_TX_ON true) (SUO_PORTp_LAT (pE p) (pI p)) Fd.SUO_PORTp_LAT_VALID 0) p 1)
  else ok (if portState s p = 6 then engBit s p Fd.SUO_ENG_STATUS_TX_ON true else s)

/-- `PORT_TRAIN_LOCK` (R349, R378): the calendars align in IDENT. -/
def execPortTrainLock (p : Port) (s : State) : Host.Outcome State Fault Refusal :=
  if portState s p.val = 1 then
    ok (enterPort (modPort s p.val (fun x => { PortX.init with faults := x.faults })) p.val 2)
  else ok s

/-- `PORT_TRAIN_TIMEOUT` (R378). -/
def execPortTrainTimeout (p : Port) (s : State) : Host.Outcome State Fault Refusal :=
  if portState s p.val = 1 then ok (dropPort s p.val) else ok s

/-- `PORT_IDENTIFIED` (R378). -/
def execPortIdentified (p : Port) (s : State) : Host.Outcome State Fault Refusal :=
  if portState s p.val = 2 ∧ 3 ≤ (port s p.val).identRun then ok (enterPort s p.val 3) else ok s

/-- Whether an identity record is the partner a link-map entry names (R380, R381). -/
def partnerMatches (e : LinkMapEntry) (i : Identity) : Bool := e.serial == i.serial && e.panel == i.panel && e.partnerPort == i.port

/-- A port's link-map entry among the loaded images (R380, R468). -/
def linkMapOf (s : State) (p : Nat) : Option LinkMapEntry :=
  (List.range 4).findSome? (fun q =>
    if imageLoaded s q then (match (part s q).image with | some im => im.linkMap.find? (fun e => e.port.val == p) | Option.none => Option.none)
    else Option.none)

/-- A READY port becomes MAPPED when a loaded image's link map names it and the partner matches (R378). -/
def mapPort (s : State) (p : Nat) : State :=
  match linkMapOf s p, (port s p).ident with
  | some e, some i =>
    if portState s p = 4 ∧ partnerMatches e i then enterPort (modPort s p (fun x => { x with mapped := some e })) p 5 else s
  | _, _ => s

/-- A MAPPED port becomes READY when its image is unloaded (R378). -/
def unmapPort (s : State) (p : Nat) : State :=
  if portState s p = 5 then enterPort (modPort s p (fun x => { x with mapped := Option.none })) p 4 else s

/-- The repair allowance of R364 in ns from f in quarter ns; `none` above 1,000 ns, where the manual gives no value. -/
def allowanceOf (f4 : Nat) : Option Nat :=
  if f4 ≤ 600 then some 600 else if f4 ≤ 4000 then some ((600 + f4 + 39) / 40 * 20) else Option.none

/-- `PORT_MEASURED` (R378, R379, R517): 64 timing records have been exchanged, and the key exchange has ended; `keysOk` is whether it succeeded.
The one-way latency is half the mean round trip. The link keys are installed with key epoch 0, and tag records begin. -/
def execPortMeasured (p : Port) (keysOk : Bool) (s : State) : Host.Outcome State Fault Refusal :=
  let p := p.val
  let x := port s p
  if portState s p ≠ 3 then ok s
  else if !keysOk then ok (portFault s p 0 true)
  else if x.rtCount < 64 then ok s
  else
    let oneway := x.rtSum / (2 * x.rtCount) % 0x1_0000
    let f4 := oneway - 424
    let r := takeFree 12 s
    let s := if (allowanceOf f4).isNone then r.2 else s
    let allow := (allowanceOf f4).getD r.1.toNat
    let s := wr s (SUO_PORTp_LAT (pE p) (pI p)) (fset Fd.SUO_PORTp_LAT_VALID 1 (fset Fd.SUO_PORTp_LAT_ALLOW allow
      (fset Fd.SUO_PORTp_LAT_FIBRE f4 (fset Fd.SUO_PORTp_LAT_ONEWAY oneway 0#64))))
    let s := wf s (portStat p) Fd.SUO_PORTp_STATUS_KEYED 1
    let s := modPort s p (fun x => { x with
      keyEpoch := 0, rxEpoch := 0, cntS := 0, cntD := 0, txRec := 0, txCover := [], rxCover := [], rtSum := 0, rtCount := 0 })
    ok (mapPort (enterPort s p 4) p)

/-- `PORT_FAULT_TIMEOUT` (R378): after 1 s in FAULT, or on request. -/
def execPortFaultTimeout (p : Port) (s : State) : Host.Outcome State Fault Refusal :=
  if portState s p.val = 6 then ok (dropPort s p.val) else ok s

/-- A port goes DOWN; a MAPPED one enters FAULT (R381). -/
def losePort (s : State) (p : Nat) (count : Bool) : State := if portState s p = 5 then portFault s p 0 count else dropPort s p

/-- `LASER_LOSS` (R345, R489). -/
def execLaserLoss (p : Port) (s : State) : Host.Outcome State Fault Refusal :=
  ok (engBit (engBit (losePort s p.val false) p.val Fd.SUO_ENG_STATUS_LASER_OK false) p.val Fd.SUO_ENG_STATUS_TX_ON false)

/-- `OPTICAL_LANE_LOSS` (R344, R381). -/
def execOpticalLaneLoss (p : Port) (s : State) : Host.Outcome State Fault Refusal := ok (losePort s p.val true)

/-- Slots between two ratchets: 2^22 calendars (R518). -/
def ratchetSlots : Nat := 0x1_0000_0000

/-- `LINK_KEY_RATCHET` (R518): each direction's key is ratcheted at a calendar of its sender whose number is a multiple of 2^22, and the frame
counts start again. -/
def execLinkKeyRatchet (p : Port) (s : State) : Host.Outcome State Fault Refusal :=
  let x := port s p.val
  if rf s (portStat p.val) Fd.SUO_PORTp_STATUS_KEYED = 1 then
    let tx := x.slot != 0 && x.slot % ratchetSlots == 0
    let rx := x.rxSlot != 0 && x.rxSlot % ratchetSlots == 0
    let s := if tx then modPort s p.val (fun x => { x with keyEpoch := (x.keyEpoch + 1) % 2 ^ 32, cntS := 0, cntD := 0 }) else s
    ok (if rx then modPort s p.val (fun x => { x with rxEpoch := (x.rxEpoch + 1) % 2 ^ 32 }) else s)
  else ok s

/-! Slots (R350, R351). -/

/-- Repair positions, and the fixed open ones. -/
def isRepair (slot : Nat) : Bool := slot % 64 == 63
def isFixedOpen (slot : Nat) : Bool := slot % 32 == 15

/-- Whether a slot is open: the map counts only while the port is MAPPED. -/
def isOpen (s : State) (p slot : Nat) : Bool :=
  let pos := slot % 1024
  if isRepair slot then false
  else if portState s p ≠ 5 ∨ isFixedOpen slot then true
  else (rd s (SUO_PORTp_SMAPn (pE p) (pI p) (pos / 64))).getLsbD (pos % 64)

/-- Whether a slot is scheduled. -/
def isSched (s : State) (p slot : Nat) : Bool := !isRepair slot && !isOpen s p slot

/-- The first scheduled slot at or after `n` (R358). -/
def nextSched (s : State) (p n : Nat) : Option Nat := ((List.range 1024).find? (fun i => isSched s p (n + i))).map (fun i => n + i)


/-- The whole slot number that a header field names: the latest one up to `now` (R352). -/
def absSlot (now field : Nat) : Nat := now - (now + 0x1_0000 - field % 0x1_0000) % 0x1_0000

/-! The transmit queue (R354, R356, R358). -/

/-- OPTICAL clears once no port of the edge die waits (R356, R359). -/
def optClear (s : State) (e : Nat) : State :=
  if (List.range 8).all (fun i => !(port s (8 * e + i)).txWait && !(port s (8 * e + i)).rxWait) && (dom s (144 + e)).causes.contains hOptical then
    clearCause s (144 + e) hOptical
  else s

/-- An OPTICAL hold for a port. -/
def optHold (s : State) (p : Nat) : State := raiseHold (pcount s p SUO_PORTp_OPTHOLD) (144 + pE p) hOptical 0

/-- The open frame with its chunks closes. -/
def closeFrame (x : PortX) : PortX := if x.opn.isEmpty then x else { x with opn := [], txq := x.txq ++ [⟨x.opn, Option.none, 0⟩] }

/-- Whether a source code names a receive weir of the die that has not presented at SC `sc` (R359). -/
def weirWaits (s : State) (e sc code : Nat) : Bool :=
  Nat.ble 0x30 code && Nat.blt code 0x38 && (port s (8 * e + (code - 0x30))).presented != some sc

/-- `TX_QUEUE_APPEND` (R354, R356): at the SC, once, after the weirs present. A retired partition's slice that finds no room is dropped (R485). -/
def execTxQueueAppend (p : Port) (s : State) : Host.Outcome State Fault Refusal :=
  let p := p.val
  let e := pE p
  let sc := scOf s (144 + e)
  if held s (144 + e) ∨ (port s p).appended = some sc then ok s
  else
    let s := edgeAdvance s e sc (sc + 1)
    let v := edgeSource s e sc (edgeByte s e (24 + pI p))
    let close := edgeByte s e (32 + pI p) != 0
    let full := Nat.ble 64 (port s p).txq.length
    if v.isNone && weirWaits s e sc (edgeByte s e (24 + pI p)) then ok s
    else if v.isSome && full && !portRetired s p then ok (optHold (modPort s p (fun x => { x with txWait := true })) p)
    else
      ok (showPort (modPort s p (fun x =>
        let x := { x with appended := some sc }
        let x := match v with | some c => if full then x else { x with opn := x.opn ++ [c] } | Option.none => x
        if close || Nat.ble 16 x.opn.length then closeFrame x else x)) p)

/-- `FRAME_ELIGIBLE` (R357, R358): the oldest closed frame that is not eligible has a credit at this slot boundary. -/
def execFrameEligible (p : Port) (s : State) : Host.Outcome State Fault Refusal :=
  let p := p.val
  let x := port s p
  let ready := x.txq.takeWhile (fun f => f.elig.isSome)
  let rest := x.txq.dropWhile (fun f => f.elig.isSome)
  match rest with
  | [] => ok s
  | f :: fs =>
    let from_ := match x.lastDue with | some d => max x.slot (d + 1) | Option.none => x.slot
    if portState s p = 5 ∧ ready.length < x.credits then
      match nextSched s p from_ with
      | some d => ok (modPort s p (fun x => { x with txq := ready ++ { f with elig := some x.slot, due := d } :: fs, lastDue := some d }))
      | Option.none => ok s
    else ok s

/-! Headers (R352). -/

/-- One byte of CRC-8 with polynomial 0x07. -/
def crc8Byte (crc b : Nat) : Nat :=
  (List.range 8).foldl (fun c _ => if 0x80 ≤ c then Nat.xor (c * 2 % 0x100) 0x07 else c * 2) (Nat.xor crc b)

/-- CRC-8, initial value 0. -/
def crc8 (bs : List Byte) : Nat := bs.foldl (fun c b => crc8Byte c b.toNat) 0

/-- KIND, CHUNKS, VC and EPOCH of a frame: 0 where the body has none. -/
def bodyKind : FrameBody → Nat | .idle => 0 | .scheduled _ _ _ => 1 | .dynamic _ _ _ _ => 2 | .control _ _ => 3
def bodyChunks : FrameBody → Nat | .scheduled _ _ cs => (cs.length - 1) % 16 | _ => 0
def bodyVc : FrameBody → Nat | .dynamic vc _ _ _ => vc.val | _ => 0
def bodyEpoch : FrameBody → Nat | .scheduled e _ _ => e.toNat | _ => 0

/-- A slot in the header: position, then calendar modulo 64. -/
def slotField (n : Nat) : Nat := n % 0x1_0000

/-- Header bytes 0 to 14. -/
def headerBytes (f : Frame) : List Byte :=
  let nak := match f.nak with | some (m, two) => 2 ^ 40 + b2n two * 2 ^ 41 + slotField m * 2 ^ 42 | Option.none => 0
  let w0 := bodyKind f.body + b2n f.resend * 2 ^ 2 + bodyChunks f.body * 2 ^ 4 + f.seq.toNat * 2 ^ 8 + slotField f.due * 2 ^ 24 + nak + bodyVc f.body * 2 ^ 58
  let w1 := bodyEpoch f.body + f.credit.toNat * 2 ^ 32 + f.dcvc.val * 2 ^ 48 + f.dcredit.toNat * 2 ^ 50
  bytesOf 8 w0 ++ bytesOf 7 w1

/-- HCRC as it should be. -/
def hcrcOf (f : Frame) : BitVec 8 := BitVec.ofNat 8 (crc8 (headerBytes f))

/-- A frame with its HCRC. -/
def sealHeader (f : Frame) : Frame := { f with hcrc := hcrcOf f }

/-- A whole header. -/
def headerOf (f : Frame) : BitVec 128 := BitVec.ofNat 128 (natOf (headerBytes f) + f.hcrc.toNat * 2 ^ 120)

/-- What a tag covers of a frame (R366). -/
def coverOf (f : Frame) : Cover := ⟨headerOf f, match f.body with | .scheduled _ iv cs => some (iv, cs) | _ => Option.none⟩

/-- A frame without acknowledgement fields. -/
def bareFrame (seq : BitVec 16) (due : Nat) (b : FrameBody) : Frame := ⟨false, seq, due % 0x1_0000, 0#16, 0, 0#6, Option.none, 0#8, b⟩

/-! Sending a slot (R349, R353, R358, R362, R363, R365, R366). -/

/-- Bytes a packet takes in a stream (R368). -/
def streamBytes (p : PanelPkt) : Nat := 16 + (p.payload.length + 15) / 16 * 16

/-- `n` bytes of a list, zeros beyond its end. -/
def padTo (n : Nat) (bs : List Byte) : List Byte := bs.take n ++ List.replicate (n - bs.length) 0#8

/-- A packet in a stream: header and payload, padded to a multiple of 16 bytes. -/
def packetStream (p : PanelPkt) : List Byte := padTo (streamBytes p) (panelBytes p)

/-- Fill a dynamic frame of one virtual channel: the packets that end in it, what remains, and the bytes sent of the next packet. -/
def fillDyn : Nat → Nat → List PanelPkt → List PanelPkt × List PanelPkt × Nat
  | _, done, [] => ([], [], done)
  | room, done, p :: ps =>
    let need := streamBytes p - done
    if need ≤ room then
      let r := fillDyn (room - need) 0 ps
      (p :: r.1, r.2.1, r.2.2)
    else ([], p :: ps, done + room)

/-- Whether a virtual channel has buffer space at the partner (R370). -/
def vcRoom (x : PortX) (vc : Nat) : Bool := Nat.blt (sget (fun _ => 0) x.dynUsed vc) (sget (fun _ => 0) x.dynKnown vc + 16)

/-- The channel of the next dynamic frame: that of the oldest packet whose channel has room, else, for padding, the lowest with room, else the
lowest: a frame that carries only padding goes in every open slot (R353). DESIGN CHOICE (log entry 8). -/
def pickVc (x : PortX) : Nat × Bool :=
  match x.dynOut.find? (fun q => vcRoom x q.1) with
  | some q => (q.1, true)
  | Option.none => (((List.range 4).find? (vcRoom x)).getD 0, false)

/-- A dynamic frame with its tag record, which covers the slots since the record before (R353, R366, R368). -/
def dynBody (x : PortX) : PortX × Frame :=
  let vc := (pickVc x).1
  let mine := if (pickVc x).2 then x.dynOut.filter (fun q => q.1 == vc) else []
  let done := if (pickVc x).2 then sget (fun _ => 0) x.dynPart vc else 0
  let r := fillDyn 4064 done (mine.map (fun q => q.2.2))
  let stream := padTo 4064 ((mine.flatMap (fun q => packetStream q.2.2)).drop done)
  let tag : TagRec := ⟨x.txRec, x.txCover.length, x.keyEpoch, x.txCover⟩
  ({ x with
    dynOut := if (pickVc x).2 then x.dynOut.filter (fun q => q.1 != vc) ++ mine.drop r.1.length else x.dynOut
    dynPart := if (pickVc x).2 then sput (fun _ => 0) vc r.2.2 x.dynPart else x.dynPart
    dynSeq := (x.dynSeq + 1) % 0x1_0000
    cntD := x.cntD + 1
    txRec := (x.txRec + 1) % 2 ^ 64
    dynUsed := smod (fun _ => 0) vc (fun n => n + 1) x.dynUsed },
   bareFrame (BitVec.ofNat 16 x.dynSeq) x.slot (.dynamic (Fin.ofNat 4 vc) tag ⟨x.keyEpoch, 2, x.cntD⟩ stream))

/-- The frame of a NAKed slot that goes again now, the others that wait, and how often it has been resent: in no fixed open position (R362). -/
def nextResend (x : PortX) (may : Kept → Bool) : PortX × Option Kept :=
  let x := { x with resendQ := x.resendQ.filter (fun m => x.kept.any (fun k => k.slot == m && may k)) }
  match x.resendQ with
  | [] => (x, Option.none)
  | m :: rest =>
    if isFixedOpen x.slot then (x, Option.none)
    else ({ x with resendQ := rest }, x.kept.find? (fun k => k.slot == m))

/-- A kept frame goes again with RESEND = 1 and an unchanged header otherwise (R362); it is kept as resent once more. -/
def resendBody (x : PortX) (k : Kept) : PortX × Frame :=
  let f := sealHeader { k.frame with resend := true }
  ({ x with kept := x.kept ++ [⟨x.slot, f, k.resends + 1⟩], calResends := x.calResends + 1 }, f)

/-- What a slot carries in READY and MAPPED, and the port after it; `none` for an idle frame, and whether the frame is a resend. -/
def slotBody (s : State) (p : Nat) (x : PortX) : PortX × Option Frame × Bool :=
  let r := nextResend x (fun _ => true)
  let x := r.1
  let n := x.slot
  match r.2 with
  | some k =>
    let b := resendBody x k
    (b.1, some b.2, true)
  | Option.none =>
    let other : PortX × Option Frame × Bool :=
      if isOpen s p n then
        let b := dynBody x
        (b.1, some b.2, false)
      else (x, Option.none, false)
    match x.txq with
    | f :: fs =>
      if portState s p == 5 && (match f.elig with | some g => Nat.ble g n | Option.none => false)
          && ((isSched s p n && Nat.ble f.due n) || (isRepair n && Nat.blt f.due n)) && x.lastOut != some n then
        let fr := bareFrame (BitVec.ofNat 16 x.txSeq) f.due
          (.scheduled (BitVec.ofNat 32 (rf s (SUO_PORTp_EPOCH (pE p) (pI p)) Fd.SUO_PORTp_EPOCH_TX)) ⟨x.keyEpoch, 1, x.cntS⟩ f.chunks)
        ({ x with
          txq := fs, txSeq := (x.txSeq + 1) % 0x1_0000, txCount := x.txCount + 1, credits := x.credits - 1, cntS := x.cntS + 1
          lastOut := some n }, some fr, false)
      else other
    | [] => other

/-- What a slot carries outside READY and MAPPED (R353, R362, R378): the resend of a control frame, else a control frame. -/
def controlBody (x : PortX) (control : Frame) : PortX × Option Frame × Bool :=
  let r := nextResend x (fun k => bodyKind k.frame.body == 3)
  match r.2 with
  | some k =>
    let b := resendBody r.1 k
    (b.1, some b.2, true)
  | Option.none => (r.1, some control, false)

/-- This panel's identity record for a port (R378). -/
def identityOf (s : State) (p : Nat) : Identity :=
  { serial := BitVec.ofNat 128 ((rd s (FUSE_SERIALn 0)).toNat + 2 ^ 64 * (rd s (FUSE_SERIALn 1)).toNat), panel := BitVec.ofNat 10 (panelId s),
    port := Fin.ofNat 128 p, variant := BitVec.ofNat 2 (rf s FUSE_INFO Fd.FUSE_INFO_VARIANT), role := isGateway s p,
    fprGen := BitVec.ofNat 32 (rf s BOOT_FPR_GEN Fd.BOOT_FPR_GEN_GEN) }

/-- The send time of a slot on the engine's clock, in 0.25 ns (R349, R378). -/
def slotTime (n : Nat) : Nat := n * 2048 / 25

/-- The timing record of a control frame sent in slot `n` (R378). -/
def timingOf (x : PortX) (n : Nat) : Timing :=
  ⟨slotTime n % 2 ^ 64, x.ctlStamp, if x.ctlStamp = 0 ∧ x.ctlAt = 0 then 0 else (slotTime n + 2 ^ 64 - x.ctlAt % 2 ^ 64) % 2 ^ 64⟩

/-- The end of a calendar: DEGRADED after 8 with more than 16 resends (R363), with a WARNING record (R479). -/
def endCalendar (s : State) (p : Nat) : State :=
  let x := port s p
  let hot := if 16 < x.calResends then x.hotCals + 1 else 0
  let s := modPort s p (fun x => { x with hotCals := hot, calResends := 0 })
  if 8 ≤ hot ∧ rf s (portStat p) Fd.SUO_PORTp_STATUS_DEGRADED = 0 then
    let s := wf s (portStat p) Fd.SUO_PORTp_STATUS_DEGRADED 1
    report s (mkEvent s 7 0 8 p 0 (scOf s (144 + pE p)) (rd s (portStat p)) 0#64 0#64 Option.none Option.none)
  else s

/-- A frame's acknowledgement fields: CREDIT, DCREDIT of the channel in turn, and the first NAK that waits (R352, R362). -/
def withAcks (x : PortX) (f : Frame) : Frame :=
  sealHeader { f with
    credit := BitVec.ofNat 16 x.freed
    dcvc := Fin.ofNat 4 x.dcvc
    dcredit := BitVec.ofNat 6 (sget (fun _ => 0) x.dynFreed x.dcvc)
    nak := match x.naks with | [] => Option.none | q :: _ => some (q.1 % 0x1_0000, q.2) }

/-- What a slot sends is covered by the next tag record; after a record of its own the cover begins anew (R366). -/
def coverSent (x : PortX) (g : Frame) (resend : Bool) : List Cover :=
  if bodyKind g.body = 2 ∧ !resend then [coverOf g] else x.txCover ++ [coverOf g]

/-- A slot goes out: a frame other than a resend gets its acknowledgement fields, and is kept for 128 slots unless it is idle (R352, R362,
R363). -/
def sendSlot (s : State) (p : Nat) : State :=
  let x := port s p
  let st := portState s p
  let n := x.slot
  let r := if st = 4 ∨ st = 5 then slotBody s p x else controlBody x (bareFrame 0#16 n (.control (identityOf s p) (timingOf x n)))
  let y := r.1
  let resend := r.2.2
  let f : Frame := (r.2.1).getD (bareFrame 0#16 n .idle)
  let g : Frame := if resend then f else withAcks y f
  let sent := match x.naks with | [] => [] | q :: _ => (q.1, n) :: (if q.2 then [(q.1 + 1, n)] else [])
  let kept := (if r.2.1.isSome && !resend then y.kept ++ [⟨n, g, 0⟩] else y.kept).filter (fun k => Nat.ble n (k.slot + 128))
  let left := decide (y.txq.length < x.txq.length)
  let s := modPort s p (fun _ => { y with
    slot := n + 1
    kept := kept
    naks := if resend then y.naks else y.naks.drop 1
    nakSent := if resend then y.nakSent else y.nakSent ++ sent
    dcvc := if resend then y.dcvc else (y.dcvc + 1) % 4
    txCover := coverSent y g resend
    sent := some g
    txWait := y.txWait && !left })
  let s := if r.2.1.isSome then pcount s p SUO_PORTp_TXF else s
  let s := if resend then pcount s p SUO_PORTp_RESENDS else s
  let s := if left then optClear s (pE p) else s
  showPort (if n % 1024 = 1023 then endCalendar s p else s) p

/-- `SLOT_SEND` (R345, R349, R353, R358): without laser power in range the slot passes and nothing is sent. -/
def execSlotSend (p : Port) (s : State) : Host.Outcome State Fault Refusal :=
  if 2 ≤ portState s p.val ∧ !ethernet s p.val then
    ok (if laserOk s p.val then sendSlot s p.val else modPort s p.val (fun x => { x with slot := x.slot + 1, sent := Option.none }))
  else ok s

/-! Receiving a slot. -/

/-- The partner reports a bad slot (R362, R363). -/
def takeNak (s : State) (p slot : Nat) : State :=
  let x := port s p
  if 128 + slot < x.slot then portFault s p 1 true
  else
    match x.kept.find? (fun k => k.slot == slot) with
    | Option.none => s
    | some k => if 3 ≤ k.resends then portFault s p 1 true else modPort s p (fun x => { x with resendQ := x.resendQ ++ [slot] })

/-- Header acknowledgements: NAKs and credits (R357, R362, R370). A resend repeats the fields of its first sending, so a count that falls behind what
is known is an old one. -/
def takeAcks (s : State) (p : Nat) (f : Frame) : State :=
  let s := match f.nak with
    | Option.none => s
    | some (m, two) =>
      let a := absSlot (port s p).slot m
      if two then takeNak (takeNak s p a) p (a + 1) else takeNak s p a
  modPort s p (fun x => { x with
    credits := max x.credits (256 - min 256 ((x.txCount + 0x1_0000 - f.credit.toNat % 0x1_0000) % 0x1_0000))
    dynKnown := smod (fun _ => 0) f.dcvc.val (fun n =>
      let m := n + (64 + f.dcredit.toNat - n % 64) % 64
      if m ≤ sget (fun _ => 0) x.dynUsed f.dcvc.val then m else n) x.dynKnown })

/-- Put a frame into the weir in SEQ order, `base` the SEQ presented next. -/
def insFrame (base : Nat) (f : RxFrame) : List RxFrame → List RxFrame
  | [] => [f]
  | x :: xs =>
    let d := fun (n : Nat) => (n + 0x1_0000 - base) % 0x1_0000
    if f.seq = x.seq then x :: xs else if d f.seq < d x.seq then f :: x :: xs else x :: insFrame base f xs

/-- Whether a payload decrypts: it is under the key in force, or for 128 slots after a ratchet under the one before (R365, R518). -/
def ivHolds (x : PortX) (iv : LinkIv) : Bool :=
  iv.epoch == x.rxEpoch || (iv.epoch + 1 == x.rxEpoch && Nat.blt (x.rxSlot % ratchetSlots) 128)

/-- Chunks as they decrypt; under another key the manual does not give the result: free values (log entry 137). -/
def openChunks (s : State) : List Slice → State × List Slice
  | [] => (s, [])
  | _ :: cs =>
    let f := takeFree 2048 s
    let r := openChunks f.2 cs
    (r.1, f.1 :: r.2)

/-- Bytes as they decrypt under another key: free values. -/
def openBytes (s : State) : Nat → State × List Byte
  | 0 => (s, [])
  | n + 1 =>
    let f := takeFree 8 s
    let r := openBytes f.2 n
    (r.1, f.1 :: r.2)

/-- A scheduled frame arrives (R359, R360, R365). -/
def takeSched (s : State) (p : Nat) (f : Frame) (epoch : BitVec 32) (iv : LinkIv) (cipher : List Slice) : State :=
  if rf s (SUO_PORTp_EPOCH (pE p) (pI p)) Fd.SUO_PORTp_EPOCH_RX ≠ epoch.toNat then pcount s p SUO_PORTp_EPDROP
  else
    let r := if ivHolds (port s p) iv then (s, cipher) else openChunks s cipher
    let s := r.1
    let chunks := r.2
    modPort s p (fun x =>
      if 0x8000 ≤ (f.seq.toNat + 0x1_0000 - x.rxSeq) % 0x1_0000 then x
      else { x with rxw := insFrame x.rxSeq ⟨f.seq.toNat, chunks, absSlot (x.rxSlot - 1) f.due, 0, false⟩ x.rxw })

/-- A packet enters the panel (R371): HOPS counts down; a packet without hops is dropped. -/
def packetIn (s : State) (p : Nat) (q : PanelPkt) : State :=
  if q.hops = 0 then pcount s p SUO_DYN_DROP
  else modEdge s (pE p) (fun x => { x with transit := x.transit ++ [⟨{ q with hops := q.hops - 1 }, nowNs s, some p⟩] })

/-- The packets that a channel's bytes hold, and the bytes of one still to be completed (R368). A header with DKIND 0 marks the rest as padding. -/
def parsePackets : Nat → List Byte → List PanelPkt × List Byte
  | 0, bs => ([], bs)
  | n + 1, bs =>
    let w0 := natOf (bs.take 8)
    if bs.isEmpty || bf w0 46 2 == 0 then ([], [])
    else
      let len := 16 + (bf w0 32 14 + 15) / 16 * 16
      if bs.length < len then ([], bs)
      else
        let r := parsePackets n (bs.drop len)
        (panelOf (bs.take len) :: r.1, r.2)

/-- Take dynamic frames in SEQ order as far as they have come (R368). -/
def takeDyn (s : State) (p : Nat) : Nat → State
  | 0 => s
  | n + 1 =>
    let x := port s p
    match x.dynWait.find? (fun w => w.1 == x.dynRx) with
    | some (q, f) =>
      let s := modPort s p (fun x => { x with dynWait := x.dynWait.filter (fun w => w.1 != q), dynRx := (x.dynRx + 1) % 0x1_0000 })
      match f.body with
      | .dynamic vc _ iv cipher =>
        let o := if ivHolds (port s p) iv then (s, cipher) else openBytes s cipher.length
        let r := parsePackets 512 (sget (fun _ => []) (port s p).rxPart vc.val ++ o.2)
        let s := modPort o.1 p (fun x => { x with
          dynFreed := smod (fun _ => 0) vc.val (fun n => n + 1) x.dynFreed
          rxPart := sput (fun _ => []) vc.val r.2 x.rxPart })
        takeDyn (r.1.foldl (fun s q => packetIn s p q) s) p n
      | _ => takeDyn s p n
    | Option.none => s

/-- A tag that fails: ERROR and FAULT (R366). -/
def tagFail (s : State) (p : Nat) : State :=
  let s := pcount s p SUO_PORTp_TAGFAIL
  let d := 144 + pE p
  let mapped := portState s p = 5
  let s := portFault s p 2 true
  if mapped then s
  else
    let sc := scOf s d
    let s := raiseHold s d hError 0
    report s (mkEvent s 2 1 8 p 2 sc (rd s (portStat p)) 0#64 0#64 (some (d, hError)) Option.none)

/-- Record the partner's identity (R378). -/
def showPartner (s : State) (p : Nat) (i : Identity) : State :=
  let s := wr s (SUO_PORTp_PARTNER (pE p) (pI p)) (fset Fd.SUO_PORTp_PARTNER_FPR_GEN i.fprGen.toNat (fset Fd.SUO_PORTp_PARTNER_PORT i.port.val
    (fset Fd.SUO_PORTp_PARTNER_PANEL i.panel.toNat 0#64)))
  let s := wr s (SUO_PORTp_PSN0 (pE p) (pI p)) (BitVec.ofNat 64 i.serial.toNat)
  wr s (SUO_PORTp_PSN1 (pE p) (pI p)) (BitVec.ofNat 64 (i.serial.toNat / 2 ^ 64))

/-- Whether two records name one partner. -/
def samePartner (a b : Identity) : Bool := a.serial == b.serial && a.panel == b.panel && a.port == b.port

/-- A timing record of MEASURE: the round trip is the receive time, minus ECHO, minus TURN (R379). ECHO is 0 until the partner has received one. -/
def takeTiming (s : State) (p now : Nat) (tm : Timing) : State :=
  modPort s p (fun x =>
    let counts := portState s p == 3 && tm.echo != 0 && Nat.blt x.rtCount 64
    { x with
      ctlStamp := tm.stamp % 2 ^ 64
      ctlAt := now
      rtSum := if counts then x.rtSum + (now + 2 ^ 65 - tm.echo % 2 ^ 64 - tm.turn % 2 ^ 64) % 2 ^ 64 else x.rtSum
      rtCount := if counts then x.rtCount + 1 else x.rtCount })

/-- A control frame arrives (R363, R378, R379, R381). Control frames from a partner that has sent others say that its port has left READY and
MAPPED: what was to come to a MAPPED port is lost. DEDUCED (log entry 137). -/
def takeControl (s : State) (p now : Nat) (i : Identity) (tm : Timing) : State :=
  let s := takeTiming s p now tm
  let x := port s p
  let same := match x.ident with | some j => samePartner i j | Option.none => false
  let run := match x.ident with | some j => if i == j then x.identRun + 1 else 1 | Option.none => 1
  let s := showPartner (modPort s p (fun x => { x with ident := some i, identRun := run })) p i
  match portState s p with
  | 4 => if same then s else enterPort (modPort s p (fun x => { x with identRun := 1 })) p 2
  | 5 => match x.mapped with
    | some e => if !partnerMatches e i then portFault s p 3 true else if x.partnerUp then portFault s p 1 true else s
    | Option.none => s
  | _ => s

/-- Whether a tag record holds (R366): the key epoch is that of the record's slot, and what the record covers is what was received in those slots.
A covered slot that has not been received well, and whose header is thus not known, cannot speak against it. DEDUCED (log entry 137). -/
def tagHolds (x : PortX) (f : Frame) (tag : TagRec) : Bool :=
  let m := absSlot (x.rxSlot - 1) f.due
  ivHolds x ⟨tag.epoch, 255, tag.number⟩ && tag.cover.length == tag.covered && tag.cover.zipIdx.all (fun c =>
    match x.rxCover.find? (fun q => q.1 + tag.covered == m + c.2) with
    | some q => q.2 == c.1
    | Option.none => true)

/-- The NAK that a resend answers: of the slot it names, else the oldest of a slot not before its due slot, in which its frame can have gone out
first. DESIGN CHOICE (log entry 137). -/
def answeredNak (x : PortX) (f : Frame) : Option (Nat × Nat) :=
  let d := absSlot (x.rxSlot - 1) f.due
  match x.nakSent.find? (fun q => q.1 == d) with
  | some q => some q
  | Option.none => x.nakSent.find? (fun q => Nat.ble d q.1)

/-- A good slot arrives, the port's slot `n`. What it shows of the sender's slots is kept for the tag records of the next 256. -/
def goodSlot (s : State) (p n now : Nat) (f : Frame) : State :=
  let s := takeAcks s p f
  let s := if f.body = .idle then s else pcount s p SUO_PORTp_RXF
  let s := modPort s p (fun x => { x with
    partnerUp := x.partnerUp || (bodyKind f.body == 1 || bodyKind f.body == 2)
    rxCover := (x.rxCover ++ [(n, coverOf f)]).filter (fun q => Nat.ble n (q.1 + 256))
    nakSent := if f.resend then (match answeredNak x f with | some q => x.nakSent.erase q | Option.none => x.nakSent) else x.nakSent })
  match f.body with
  | .idle => s
  | .scheduled epoch iv chunks => takeSched s p f epoch iv chunks
  | .dynamic _ tag _ _ =>
    let x := port s p
    if !tagHolds x f tag then tagFail s p
    else if x.dynWait.any (fun w => w.1 == f.seq.toNat) || Nat.ble 0x8000 ((f.seq.toNat + 0x1_0000 - x.dynRx) % 0x1_0000) then s
    else takeDyn (modPort s p (fun x => { x with dynWait := x.dynWait ++ [(f.seq.toNat, f)] })) p (x.dynWait.length + 1)
  | .control i tm => takeControl s p now i tm

/-- A bad slot is to be NAKed; a second in a row goes with the first (R362). -/
def badSlot (s : State) (p n : Nat) : State :=
  pcount (modPort s p (fun x => { x with
    naks := match x.naks.getLast? with
      | some (m, false) => if m + 1 = n then x.naks.dropLast ++ [(m, true)] else x.naks ++ [(n, false)]
      | _ => x.naks ++ [(n, false)] })) p SUO_PORTp_NAKS

/-- Codewords whose decoding ends with slot `n`: a slot carries 6.4, so 6 or 7, and shares its last with the next slot unless it ends at a boundary
(R347). -/
def newWords (n : Nat) : Nat := (32 * n + 31) / 5 + 1 - (32 * n + 4) / 5
def sharesFirst (n : Nat) : Bool := 32 * n % 5 != 0

/-- Whether codeword `i` of those that end with a slot is uncorrectable. -/
def wordBad (cwu : BitVec 7) (n i : Nat) : Bool := Nat.blt i (newWords n) && cwu.getLsbD i

/-- Codewords found uncorrectable with a slot. -/
def badWords (cwu : BitVec 7) (n : Nat) : Nat := ((List.range 7).filter (wordBad cwu n)).length

/-- `SLOT_RECEIVE` (R347, R352, R359 to R362): the slot has been decoded at `at_` on the engine's clock; `cwc` is the number of codewords corrected,
`cwu` says which of those that end with the slot are uncorrectable. A slot is bad if one that touches it is, or if its HCRC fails. A port
before IDENT receives nothing. -/
def execSlotReceive (p : Port) (cwc : Fin 8) (cwu : BitVec 7) (at_ : BitVec 64) (f : Frame) (s : State) : Host.Outcome State Fault Refusal :=
  let p := p.val
  let st := portState s p
  if st < 2 ∨ ethernet s p then ok s
  else
    let x := port s p
    let n := x.rxSlot
    let bad := (sharesFirst n && x.cwBad) || badWords cwu n != 0 || f.hcrc != hcrcOf f
    let s := bump (bump s (SUO_PORTp_CWC (pE p) (pI p)) cwc.val) (SUO_PORTp_CWU (pE p) (pI p)) (badWords cwu n)
    let s := modPort s p (fun x => { x with rxSlot := n + 1, rxAt := at_.toNat, cwBad := wordBad cwu n (newWords n - 1) })
    let data := bodyKind f.body == 1 || bodyKind f.body == 2
    if bad then ok (badSlot s p n)
    else if data && !(st == 4 || st == 5) then ok s
    else ok (showPort (goodSlot s p n at_.toNat f) p)

/-- `NAK_RETRY` (R362): a NAK of 64 slots ago without its resend goes again. -/
def execNakRetry (p : Port) (s : State) : Host.Outcome State Fault Refusal :=
  let x := port s p.val
  match x.nakSent.find? (fun q => Nat.ble (q.2 + 64) x.slot) with
  | Option.none => ok s
  | some q => ok (modPort s p.val (fun x => { x with nakSent := x.nakSent.erase q, naks := x.naks ++ [(q.1, false)] }))

/-! The receive weir (R359). -/

/-- Whether at time `now` of the engine's clock a frame's due slot has arrived and A has passed since (R359). Slots arrive every 20.48 ns, the last
one at `rxAt`; the terms are in units of 0.01 ns. -/
def allowancePassed (s : State) (p now : Nat) (x : PortX) (f : RxFrame) : Bool :=
  Nat.blt f.due x.rxSlot
    && Nat.ble (x.rxAt * 25 + rf s (SUO_PORTp_LAT (pE p) (pI p)) Fd.SUO_PORTp_LAT_ALLOW * 100) (now * 25 + (x.rxSlot - 1 - f.due) * 2048)

/-- The frame presented next, if it is in the weir. -/
def headFrame (x : PortX) : Option RxFrame := x.rxw.find? (fun f => f.seq == x.rxSeq)

/-- `FRAME_CONSUMABLE` (R359): every frame whose time has come by `at_`, a time of the engine's clock; the OPTICAL cause of a port that waited for
one clears. -/
def execFrameConsumable (p : Port) (at_ : BitVec 64) (s : State) : Host.Outcome State Fault Refusal :=
  let p := p.val
  let s := modPort s p (fun x => { x with rxw := x.rxw.map (fun (f : RxFrame) => if allowancePassed s p at_.toNat x f then { f with ready := true } else f) })
  let x := port s p
  let up : Bool := match headFrame x with | some f => f.ready | Option.none => false
  if x.rxWait && up then ok (optClear (modPort s p (fun x => { x with rxWait := false })) (pE p)) else ok s

/-- Present the head frame's next chunk (R357, R359). -/
def presentChunk (s : State) (p sc : Nat) (f : RxFrame) : State :=
  let e := pE p
  let c := 0x30 + pI p
  let last := decide (f.chunks.length ≤ f.used + 1)
  let s := modPort s p (fun x => { x with
    presented := some sc
    rxw := if last then x.rxw.filter (fun g => g.seq != f.seq)
      else x.rxw.map (fun (g : RxFrame) => if g.seq = f.seq then { g with used := g.used + 1 } else g)
    rxSeq := if last then (x.rxSeq + 1) % 0x1_0000 else x.rxSeq
    freed := if last then (x.freed + 1) % 0x1_0000 else x.freed })
  let s := modEdge s e (fun y => { y with latch := y.latch ++ [(c, sc, f.chunks.getD f.used 0#2048)] })
  (List.range 3).foldl (fun s j => edgeOutput s e sc j (fun b => b == c)) s

/-- `RX_WEIR_PRESENT` (R359, R361, R485). -/
def execRxWeirPresent (p : Port) (s : State) : Host.Outcome State Fault Refusal :=
  let p := p.val
  let e := pE p
  let sc := scOf s (144 + e)
  if held s (144 + e) ∨ (port s p).presented = some sc then ok s
  else
    let s := edgeAdvance s e sc (sc + 1)
    let selected := (List.range 32).any (fun i => edgeByte s e i == 0x30 + pI p)
    if !selected then ok s
    else
      match headFrame (port s p) with
      | some f =>
        if f.ready then ok (showPort (presentChunk s p sc f) p)
        else if portRetired s p then ok (modPort s p (fun x => { x with presented := some sc }))
        else ok (optHold (modPort s p (fun x => { x with rxWait := true })) p)
      | Option.none =>
        if portRetired s p then ok (modPort s p (fun x => { x with presented := some sc }))
        else ok (optHold (modPort s p (fun x => { x with rxWait := true })) p)

/-! Epochs (R360). -/

/-- A new transmit or receive epoch. -/
def newTx (s : State) (p v : Nat) : State :=
  let s := wf s (SUO_PORTp_EPOCH (pE p) (pI p)) Fd.SUO_PORTp_EPOCH_TX v
  let s := modPort s p (fun x => { x with
    opn := [], txq := [], kept := [], resendQ := [], txSeq := 0, txCount := 0, credits := 256, lastDue := Option.none, txWait := false })
  modPart s (partOfEdge s (pE p)) (fun x => { x with epoch := BitVec.ofNat 32 v })

def newRx (s : State) (p v : Nat) : State :=
  let s := wf s (SUO_PORTp_EPOCH (pE p) (pI p)) Fd.SUO_PORTp_EPOCH_RX v
  modPort s p (fun x => { x with rxw := [], rxSeq := 0, freed := 0, rxWait := false })

/-- A write of SUO_PORTp_EPOCH: `dirs` 0 the transmit epoch, 1 the receive epoch, 2 both. -/
def writeEpoch (s : State) (req : Requester) (p dirs : Nat) (v : W64) : State :=
  if portState s p = 5 ∧ !held s (144 + pE p) then csrError s req true (SUO_PORTp_EPOCH (pE p) (pI p))
  else
    let s := if dirs = 1 then s else newTx s p (fget Fd.SUO_PORTp_EPOCH_TX v)
    let s := if dirs = 0 then s else newRx s p (fget Fd.SUO_PORTp_EPOCH_RX v)
    showPort (optClear s (pE p)) p

/-- `EPOCH_WRITE` (R360). -/
def execEpochWrite (req : Requester) (p : Port) (dirs : Fin 3) (v : W64) (s : State) : Host.Outcome State Fault Refusal :=
  ok (guardCsr s req (SUO_PORTp_EPOCH (pE p.val) (pI p.val)) true (fun s => writeEpoch s req p.val dirs.val v))

end Sys2Proof.Machine
end

