-- ==== Sys2Proof/Machine/Fabric.lean ====
section
/-!
DEFINITION. Packets between panels inside this one (R370 to R377) and gateway ports in Ethernet mode (R384, R385, R519).
-/
namespace Sys2Proof.Machine

/-! Packets in transit. -/

/-- Count a drop at the port a packet came in on; a packet of this panel's own counts at port 0 of its die (R371). -/
def countDrop (s : State) (e : Nat) (t : Transit) : State := pcount s (t.port.getD (8 * e)) SUO_DYN_DROP

/-- Take a packet out of transit. -/
def dropTransit (s : State) (e : Nat) (t : Transit) : State := modEdge s e (fun x => { x with transit := x.transit.erase t })

/-- The packet as it goes out on a port's trunk (R370): DL is cleared when the dimension changes, and set by a dateline. -/
def onTrunk (s : State) (t : Transit) (q : Nat) (p : PanelPkt) : PanelPkt :=
  let turned := match t.port with | some a => trunkOf s a / 2 != trunkOf s q / 2 | Option.none => false
  let dl := (p.dl && !turned) || rf s (SUO_PORTp_CFG (pE q) (pI q)) Fd.SUO_PORTp_CFG_DATELINE == 1
  { p with dl := dl }

/-- Virtual channel of a packet (R370). -/
def packetVc (p : PanelPkt) : Nat := (if p.leg then 2 else 0) + b2n p.dl

/-- Send a packet across the panel to another edge die in pieces (R373), noting since when it is in the panel (R371); without a usable way it is
dropped. -/
def crossPanel (s : State) (e d : Nat) (t : Transit) (p : PanelPkt) : State :=
  match edgeSeat s e, edgeSeat s d with
  | some a, some b =>
    modEdge s e (fun x => { x with
      outQ := x.outQ ++ piecesOf a b (partOfSite s b.1) x.pieceTag p
      crossed := x.crossed.filter (fun q => q.1 != x.pieceTag) ++ [(x.pieceTag, t.since)]
      pieceTag := (x.pieceTag + 1) % 0x1_0000 })
  | _, _ => countDrop s e t

/-- Whether a packet is for this die to deliver. -/
def isLocal (s : State) (e : Nat) (t : Transit) : Bool :=
  routePacket s (turnLeg s t.pkt) == .deliver && t.pkt.dedge.val == e

/-- SUO_RT_AGE in nanoseconds. -/
def ageNs (s : State) : Nat := rf s SUO_RT_AGE Fd.SUO_RT_AGE_US * 1000

/-- Whether something in the panel since a time has waited longer than SUO_RT_AGE (R371). -/
def tooOld (s : State) (since : Nat) : Bool := Nat.blt (since + ageNs s) (nowNs s)

/-- `PANEL_PACKET_ROUTE` (R370, R371, R373, R374): the oldest packet in the die that is not for it. A packet whose CRC fails, or that has waited too
long, is dropped. -/
def execPanelPacketRoute (e : Edge) (s : State) : Host.Outcome State Fault Refusal :=
  let e := e.val
  match (edge s e).transit.find? (fun t => !isLocal s e t) with
  | Option.none => ok s
  | some t =>
    let s := dropTransit s e t
    let p := turnLeg s t.pkt
    if !p.crcOk || tooOld s t.since then ok (countDrop s e t)
    else
      match routePacket s p with
      | .drop => ok (countDrop s e t)
      | .deliver => ok (crossPanel s e p.dedge.val t p)
      | .port q =>
        let p := onTrunk s t q p
        if pE q = e then ok (modPort s q (fun x => { x with dynOut := x.dynOut ++ [(packetVc p, t.since, p)] }))
        else ok (crossPanel s e (pE q) t p)

/-- A packet that waits at a port for longer than SUO_RT_AGE, of which no byte has gone out (R368, R371). -/
def oldOut (s : State) (q : Nat) : Option (Nat × Nat × PanelPkt) :=
  let x := port s q
  x.dynOut.find? (fun t => tooOld s t.2.1
    && (sget (fun _ => 0) x.dynPart t.1 == 0 || x.dynOut.find? (fun u => u.1 == t.1) != some t))

/-- `PANEL_PACKET_AGE_DROP` (R371): a packet in the die, or at one of its ports, that has waited too long. -/
def execPanelPacketAgeDrop (e : Edge) (s : State) : Host.Outcome State Fault Refusal :=
  let e := e.val
  match (edge s e).transit.find? (fun t => tooOld s t.since) with
  | some t => ok (countDrop (dropTransit s e t) e t)
  | Option.none =>
    match (List.range 8).findSome? (fun i => (oldOut s (8 * e + i)).map (fun t => (8 * e + i, t))) with
    | some q => ok (pcount (modPort s q.1 (fun x => { x with dynOut := x.dynOut.erase q.2 })) q.1 SUO_DYN_DROP)
    | Option.none => ok s

/-- The acknowledgement of a STREAM packet (R375). -/
def ackOf (s : State) (p : PanelPkt) : PanelPkt :=
  { dst := p.src, src := BitVec.ofNat 10 (panelId s), via := 0#10, leg := false, tepoch := false, dkind := 3#2, part := 0,
    dedge := Fin.ofNat 16 (spEdge p), dl := false, hops := 32, epoch := p.epoch, tag := p.tag, crcOk := true,
    payload := [] }

/-- A packet for the steward leaves an edge die: over its own wires, or through the Rill network to the steward's site (R17). -/
def toSteward (s : State) (e : Nat) (p : DynPkt) : State :=
  if stewardWired s e then modPnl s (fun x => { x with stIn := x.stIn ++ [p] })
  else edgeSend s e { p with dstSite := stewardSite s, srcSite := ((edgeSeat s e).getD (frontSite e 0, 3)).1, srcUnit := BitVec.ofNat 4 ((edgeSeat s e).getD (frontSite e 0, 3)).2 }

/-- A MGMT packet as the steward receives it. -/
def mgmtIn (e : Nat) (p : PanelPkt) : DynPkt :=
  { kind := 6#4, dstUnit := 5#4, dstSite := 0, srcUnit := 3#4, srcSite := e, part := p.part, tag := p.tag, addr := 0#48,
    stream := BitVec.ofNat 20 p.src.toNat, via := 0xFF#8, leg := false, crcOk := true, payload := p.payload }

/-- Whether EPOCH is accepted (R374). -/
def epochOk (s : State) (e : Nat) (p : PanelPkt) : Bool :=
  p.epoch == 0#32 || p.epoch == (part s (if p.dkind = 3#2 then partOfEdge s e else p.part.val)).epoch

/-- Bytes of the rendezvous buffer (R330). -/
def rendSize : Nat := 0x100_0000

/-- Whether the rendezvous buffer has no room for a STREAM packet: it stays where it is, and its sender waits for the ACK (R330). The partner's report
of a disagreement, a packet whose stream is accepted, and a repeated one need no room. -/
def rendFull (s : State) (e : Nat) (p : PanelPkt) : Bool :=
  let x := edge s e
  p.dkind == 1#2 && spComp p != pairFailComp && (pairOf x.strms p).isNone && !x.seen.contains (tagKey p)
    && Nat.blt rendSize (heldBytes x.rend + heldBytes x.arrived + p.payload.length)

/-- `PANEL_PACKET_DELIVER` (R330, R371, R374, R375): the oldest packet for this die that the die can take. -/
def execPanelPacketDeliver (e : Edge) (s : State) : Host.Outcome State Fault Refusal :=
  let e := e.val
  match (edge s e).transit.find? (fun t => isLocal s e t && (tooOld s t.since || !rendFull s e t.pkt)) with
  | Option.none => ok s
  | some t =>
    let s := dropTransit s e t
    let p := t.pkt
    if tooOld s t.since then ok (countDrop s e t)
    else if !p.crcOk || !epochOk s e p then ok (pcount s (t.port.getD (8 * e)) SUO_PORTp_EPDROP)
    else
      match p.dkind.toNat with
      | 1 => ok (sourcePacket (modEdge s e (fun x => { x with arrived := x.arrived ++ [p] })) e (ackOf s p))
      | 2 => ok (toSteward s e (mgmtIn e p))
      | 0 => ok s
      | _ => ok (modEdge s e (fun x => { x with
          unacked := match x.unacked.find? (fun u => u.pkt.tag == p.tag && u.pkt.dst == p.src && u.pkt.epoch == p.epoch) with
            | some u => x.unacked.erase u
            | Option.none => x.unacked }))

/-- SUO_STRM_TMO as it acts, in nanoseconds (R375, R387). -/
def strmTmoNs (s : State) : Nat :=
  let m := rf s SUO_STRM_TMO Fd.SUO_STRM_TMO_MS * 1_000_000
  if m ≤ 32 * ageNs s then 32 * ageNs s + 1_000_000 else m

/-- `STRM_TMO` (R331, R375): the oldest packet without an ACK in time goes again with its TAG; a fourth drop fails the stream. -/
def execStrmTmo (e : Edge) (s : State) : Host.Outcome State Fault Refusal :=
  let e := e.val
  match (edge s e).unacked.find? (fun u => Nat.ble (u.since + strmTmoNs s) (nowNs s)) with
  | Option.none => ok s
  | some u =>
    if 3 ≤ u.drops then ok (failStream (modEdge s e (fun x => { x with unacked := x.unacked.filter (fun v => v.issue != u.issue) })) e u.issue 4 0)
    else
      let s := modEdge s e (fun x => { x with unacked := x.unacked.map (fun (v : Unacked) => if v = u then { u with since := nowNs s, drops := u.drops + 1 } else v) })
      ok (bump (sourcePacket s e u.pkt) (STM_RESENDS e) 1)

/-- A write of SUO_RT_CTRL (R376, R387). -/
def writeRtCtrl (s : State) (v : W64) : State :=
  let s := wf s SUO_RT_CTRL Fd.SUO_RT_CTRL_CUR (fget Fd.SUO_RT_CTRL_CUR v)
  clear1 s SUO_RT_CTRL Fd.SUO_RT_CTRL_ERR v

/-- `RT_CUR_FLIP` (R377). -/
def execRtCurFlip (req : Requester) (v : W64) (s : State) : Host.Outcome State Fault Refusal :=
  ok (guardCsr s req SUO_RT_CTRL true (fun s => writeRtCtrl s v))

/-! Gateways (R385, R519). -/

/-- The gateway port of an edge die's engine. -/
def gatewayOf (s : State) (e : Nat) : Option Nat := (List.range 8).findSome? (fun i => if isGateway s (8 * e + i) then some (8 * e + i) else Option.none)

/-- Whether the Ethernet link of a gateway port is up: enabled, with laser power, and trained (R345, R378, R386). DESIGN CHOICE (log entry 137):
in Ethernet mode a port is up from `PORT_TRAIN_LOCK` on. -/
def ethUp (s : State) (p : Nat) : Bool :=
  ethernet s p && portEnabled s p && rf s (SUO_PORTp_CFG (pE p) (pI p)) Fd.SUO_PORTp_CFG_ENABLE == 1 && laserOk s p
    && Nat.ble 2 (portState s p) && portState s p != 6

/-- Whether the rings of a die are in use. -/
def gwOn (s : State) (e : Nat) : Bool :=
  (match gatewayOf s e with | some p => ethUp s p | Option.none => false) && rf s (SUO_GW_CFG e) Fd.SUO_GW_CFG_ENABLE == 1

/-- A ring: its CTL register, base address and size; `none` for a size outside 12 to 16. -/
def ringOf (s : State) (ctl base : Nat) : Option (Nat × Nat) :=
  let l := rf s ctl Fd.SUO_GW_RXCTL_LOG2
  if 12 ≤ l ∧ l ≤ 16 then some (rf s base Fd.SUO_GW_RXBASE_BASE * 4096, 2 ^ l) else Option.none

/-- Whether fewer than one eighth of the receive descriptors are free (R385). -/
def fewFree (s : State) (e : Nat) : Bool :=
  match ringOf s (SUO_GW_RXCTL e) (SUO_GW_RXBASE e) with
  | some (_, n) =>
    Nat.blt (8 * ((rf s (SUO_GW_RXCTL e) Fd.SUO_GW_RXCTL_TAIL % n + n - rf s (SUO_GW_RXCTL e) Fd.SUO_GW_RXCTL_HEAD % n) % n)) n
  | Option.none => true

/-- XOFF is sent on the flow-controlled priority while few receive descriptors are free (R385). -/
def showXoff (s : State) (e : Nat) : State :=
  match gatewayOf s e with
  | some p =>
    let b := gwOn s e && fewFree s e
    if (port s p).xoff = b then s else modPort s p (fun x => { x with xoff := b })
  | Option.none => s

/-- The descriptor at the head, unless the ring is empty: its ring index, address and two words. -/
def headDesc (s : State) (ctl base : Nat) : Option (Nat × Nat × Nat × Nat) :=
  match ringOf s ctl base with
  | Option.none => Option.none
  | some (b, n) =>
    let h := rf s ctl Fd.SUO_GW_RXCTL_HEAD % n
    if h = rf s ctl Fd.SUO_GW_RXCTL_TAIL % n then Option.none
    else some (h, b + 16 * h, natOf (memReads s (b + 16 * h) 8), natOf (memReads s (b + 16 * h + 8) 8))

/-- Whether the descriptor lies where only the edge transfer engines' streams and the collector go: a data access error (R27, R313, R558). -/
def descBarred (s : State) (d : Nat × Nat × Nat × Nat) : Bool := panelRange s d.2.1 16

/-- What reading a descriptor meets: its line may be marked, and the two words are read (R306). -/
def readDesc (s : State) (d : Nat × Nat × Nat × Nat) : State × Option Nat := meetErrors (countHbm s d.2.1 16 false) d.2.1 16 0 []

/-- Give a descriptor back with its length, DONE or ERR, and advance the head. -/
def doneDesc (s : State) (ctl base : Nat) (d : Nat × Nat × Nat × Nat) (len : Nat) (err : Bool) : State :=
  let w := bf d.2.2.1 0 48 + len % 2 ^ 14 * 2 ^ 48 + (if err then 2 ^ 63 else 2 ^ 62)
  let n := match ringOf s ctl base with | some (_, n) => n | Option.none => 1
  wf (memWrites (countHbm s d.2.1 8 true) d.2.1 (bytesOf 8 w)) ctl Fd.SUO_GW_RXCTL_HEAD ((d.1 + 1) % n)

/-- Whether a descriptor names a key slot of the ring's partition and a buffer of `len` bytes in its slices (R519), in enabled stacks (R27). -/
def descOk (s : State) (e : Nat) (d : Nat × Nat × Nat × Nat) (len : Nat) : Bool :=
  partOfKey s (bf d.2.2.2 0 5) == some (partOfEdge s e) && inPartition s (partOfEdge s e) (bf d.2.2.1 0 48) len
    && homesEnabled s (bf d.2.2.1 0 48) len

/-- Refuse a buffer that meets the stream table or the collector buffer: a data access error of the engine (R27, R313, R558). -/
def bufError (s : State) (e : Nat) (d : Nat × Nat × Nat × Nat) (len : Nat) (w : Bool) : State :=
  if panelRange s (bf d.2.2.1 0 48) len then dataError s (.edge (Fin.ofNat 16 e)) w (bf d.2.2.1 0 48) else s

/-- The frame check sequence of an Ethernet frame: its CRC-32, low byte first (R385). -/
def fcsOf (bs : List Byte) : List Byte := bytesOf 4 (crc32 bs).toNat

/-- Priority of a tagged frame. -/
def pcpOf (bs : List Byte) : Option Nat :=
  if bs.getD 12 0#8 = 0x81#8 ∧ bs.getD 13 0#8 = 0x00#8 then some ((bs.getD 14 0#8).toNat / 32) else Option.none

/-- Frames sent under a key slot, the count of R519's IV. -/
def slotSent (slot : Nat) : Nat := tk 20 + slot

/-- The frame of a transmit descriptor as it leaves: the first 64 bytes clear, the rest encrypted under the slot's export key, the tag and the FCS
(R385, R519). -/
def sealFrame (s : State) (slot idx : Nat) (bs : List Byte) : List Byte :=
  let out := bs.take 64 ++ Config.gcmSeal (exportKey (keyOf s slot)).toNat (idx + 2 ^ 32 * tab s (slotSent slot)) (bs.take 64) (bs.drop 64)
  out ++ fcsOf out

/-- Whether a frame's priority is paused at the die's gateway port (R385). -/
def pausedFrame (s : State) (e : Nat) (bs : List Byte) : Bool :=
  match gatewayOf s e with
  | some p => (port s p).paused && pcpOf bs == some (rf s (SUO_GW_CFG e) Fd.SUO_GW_CFG_PFC_PRIO)
  | Option.none => false

/-- Read a transmit buffer and send its frame, unless its priority is paused. A line that may not deliver gives the descriptor back with ERR
(R306). -/
def txBuffer (s : State) (e : Nat) (d : Nat × Nat × Nat × Nat) (len : Nat) (errs : List LineErr) : State :=
  let slot := bf d.2.2.2 0 5
  let a := bf d.2.2.1 0 48
  let fin := fun (s : State) (err : Bool) => doneDesc s (SUO_GW_TXCTL e) (SUO_GW_TXBASE e) d len err
  let r := hbmReads s slot a len
  if pausedFrame s e r.2 then s
  else
    let m := meetErrors (countHbm r.1 a len false) a len 0 errs
    match m.2 with
    | some _ => fin m.1 true
    | Option.none =>
      let s := reply m.1 true (sealFrame m.1 slot d.1 r.2)
      fin (setTab s (slotSent slot) (tab s (slotSent slot) + 1)) false

/-- `GATEWAY_TX_FRAME` (R306, R385, R519): the next descriptor's frame goes out encrypted; a bad descriptor gets ERR. What leaves the panel is
`reply`; `errs` is what the buffer's lines show. -/
def execGatewayTxFrame (e : Edge) (errs : List LineErr) (s : State) : Host.Outcome State Fault Refusal :=
  let e := e.val
  if !gwOn s e then ok s
  else
    match headDesc s (SUO_GW_TXCTL e) (SUO_GW_TXBASE e) with
    | Option.none => ok s
    | some d =>
      let len := bf d.2.2.1 48 14
      let m := readDesc s d
      if descBarred s d then ok (dataError s (.edge (Fin.ofNat 16 e)) false d.2.1)
      else if m.2.isSome then ok m.1
      else if !descOk s e d len || panelRange s (bf d.2.2.1 0 48) len || Nat.blt len 64 || Nat.blt 9216 len then
        ok (doneDesc (bufError m.1 e d len false) (SUO_GW_TXCTL e) (SUO_GW_TXBASE e) d len true)
      else ok (txBuffer m.1 e d len errs)

/-- A received frame meets the descriptor at the head: one whose tag fails leaves it; a bad descriptor gets ERR and moves no frame (R385, R519). -/
def rxBuffer (s : State) (e : Nat) (d : Nat × Nat × Nat × Nat) (frame : EthFrame) : State :=
  let len := frame.bytes.length
  let a := bf d.2.2.1 0 48
  let m := readDesc s d
  if descBarred s d then dataError s (.edge (Fin.ofNat 16 e)) false d.2.1
  else if m.2.isSome then m.1
  else if !frame.tagOk then bump m.1 (SUO_GW_DROPS e) 1
  else if !descOk s e d len || panelRange s a len then
    doneDesc (bufError m.1 e d len true) (SUO_GW_RXCTL e) (SUO_GW_RXBASE e) d 0 true
  else doneDesc (hbmWrites (countHbm m.1 a len true) (bf d.2.2.2 0 5) a frame.bytes) (SUO_GW_RXCTL e) (SUO_GW_RXBASE e) d len false

/-- `GATEWAY_RX_FRAME` (R306, R385, R519): `frame` is what arrived, with its protected bytes as they decrypt. A frame that finds no descriptor is
dropped and counted; XOFF follows the descriptors that remain. -/
def execGatewayRxFrame (e : Edge) (frame : EthFrame) (s : State) : Host.Outcome State Fault Refusal :=
  let e := e.val
  let len := frame.bytes.length
  if !gwOn s e || !frame.fcsOk || Nat.blt len 64 || Nat.blt 9216 len then ok s
  else
    match headDesc s (SUO_GW_RXCTL e) (SUO_GW_RXBASE e) with
    | Option.none => ok (showXoff (bump s (SUO_GW_DROPS e) 1) e)
    | some d => ok (showXoff (rxBuffer s e d frame) e)

/-- `PFC_RECEIVE` (R385): the port honours flow control on the one priority it names. -/
def execPfcReceive (e : Edge) (prio : Fin 8) (xoff : Bool) (s : State) : Host.Outcome State Fault Refusal :=
  match gatewayOf s e.val with
  | some p =>
    if ethernet s p ∧ rf s (SUO_GW_CFG e.val) Fd.SUO_GW_CFG_PFC_PRIO = prio.val then ok (modPort s p (fun x => { x with paused := xoff })) else ok s
  | Option.none => ok s

end Sys2Proof.Machine
end

