-- ==== Sys2Proof/Machine/Residency.lean ====
section
/-!
DEFINITION. Model residency and weight loading: manifests and their admission (R388 to R400), the chain (R401 to R406), re-digest (R407),
erasure groups (R412 to R416) and the erasure-code engines (R418).
-/
namespace Sys2Proof.Machine

/-! The manifest buffer (R392, R394 to R396, R412). -/

/-- `n` bytes of the manifest buffer from offset `o`, as a number. -/
def mb (s : State) (o n : Nat) : Nat :=
  let ws := (List.range ((o % 8 + n + 7) / 8)).map (fun i => (rd s (STM_LD_BUFn (o / 8 + i))).toNat)
  (ws.foldr (fun w acc => w + 2 ^ 64 * acc) 0) / 2 ^ (8 * (o % 8)) % 2 ^ (8 * n)

/-- The bytes of the buffer from `o`. -/
def mbytes (s : State) (o n : Nat) : List Byte := (List.range n).map (fun i => BitVec.ofNat 8 (mb s (o + i) 1))

/-- Bytes of a signature block (R392). -/
def sigBytes : Nat := 96 + 4627

/-- Set manifest at an offset: shards, and the entry of a shard. -/
def smShards (s : State) (o : Nat) : Nat := mb s (o + 6) 2
def smEntry (o i : Nat) : Nat := o + 64 + 64 * i

/-- Whether a set manifest is well formed (R392) and lies in the buffer. -/
def smClean (s : State) (o setId : Nat) : Bool :=
  let n := smShards s o
  decide (o + 64 + 64 * n + sigBytes ≤ 0x8_0000) && mb s o 4 == 0x54534D53 && mb s (o + 4) 2 == 1 && n != 0 && mb s (o + 8) 16 == setId
    && mb s (o + 40) 24 == 0
    && (List.range n).all (fun i =>
      let e := smEntry o i
      let b := mb s (e + 8) 8
      mb s e 4 == i && Nat.ble 1 (mb s (e + 4) 1) && Nat.ble (mb s (e + 4) 1) 3 && mb s (e + 5) 3 == 0 && b % 4096 == 0 && b != 0
        && Nat.ble b 0x10_0000_0000)

/-- Whether a set manifest's digest is MAN_DIGEST: SHA-384 of its whole bytes (R395). -/
def smDigestOk (s : State) (e : SetEntry) : Bool :=
  sha384 (mbytes s e.moff (64 + 64 * smShards s e.moff + sigBytes)) == BitVec.ofNat 384 e.digest

/-- Entry `i` of the set table. -/
def setAt (s : State) (i : Nat) : SetEntry :=
  let o := 128 + 80 * i
  ⟨mb s o 16, mb s (o + 16) 48, mb s (o + 64) 4, mb s (o + 68) 2, mb s (o + 70) 2⟩

/-- Placement `i`, the placement table starting at `base`. -/
def placementAt (s : State) (sets : List SetEntry) (base i : Nat) : Placement :=
  let o := base + 32 * i
  let set := mb s o 1
  let index := mb s (o + 4) 4
  let m := match sets[set]? with | some e => e.moff | Option.none => 0
  let known := decide (set < sets.length) && decide (index < smShards s m)
  let e := smEntry m index
  { set := set, dest := mb s (o + 1) 1, frozen := mb s (o + 2) 1 % 2 == 1, shared := mb s (o + 2) 1 / 2 % 2 == 1,
    clean := mb s (o + 2) 1 / 4 == 0, home := mb s (o + 3) 1, index := index, addr := mb s (o + 8) 8, key := mb s (o + 16) 1,
    known := known, bytes := if known then mb s (e + 8) 8 else 0, digest := BitVec.ofNat 384 (if known then mb s (e + 16) 48 else 0) }

/-- The group record at an offset. -/
def groupAt (s : State) (o : Nat) : GroupRec :=
  { id := mb s o 4, k := mb s (o + 4) 1, pos := mb s (o + 5) 1, unit := mb s (o + 8) 8,
    members := (List.range 16).map (fun i => mb s (o + 16 + 2 * i) 2), table := mb s (o + 48) 8,
    slices := (List.range (mb s (o + 6) 1)).map (fun i =>
      let e := o + 64 + 32 * i
      (mb s e 1, mb s (e + 8) 8, mb s (e + 16) 8, mb s (e + 24) 8)),
    clean := mb s (o + 7) 1 == 0 && mb s (o + 56) 8 == 0
      && (List.range (mb s (o + 6) 1)).all (fun i => mb s (o + 64 + 32 * i + 1) 7 == 0) }

/-- Offsets behind the placement table, and the end of the manifest. -/
def groupOfs (s : State) : Nat := 128 + 80 * mb s 0x0E 2 + 32 * mb s 0x40 4
def manEnd (s : State) : Nat :=
  groupOfs s + (if mb s 0x4C 1 = 1 then 64 + 32 * mb s (groupOfs s + 6) 1 else 0) + sigBytes

/-- The load manifest in the buffer. -/
def manifestOf (s : State) : Manifest :=
  let sets := (List.range (mb s 0x0E 2)).map (setAt s)
  { partition := mb s 6 1, pmode := mb s 7 1, fprGen := mb s 8 4, panel := mb s 0x0C 2, fprDigest := mb s 0x10 48,
    digest := sha384 (mbytes s 0 (manEnd s)), sets := sets,
    placements := (List.range (mb s 0x40 4)).map (placementAt s sets (128 + 80 * mb s 0x0E 2)),
    ringPos := mb s 0x44 2, ringLen := mb s 0x46 2, ringPrev := mb s 0x48 2, ringNext := mb s 0x4A 2,
    group := if mb s 0x4C 1 = 1 then some (groupAt s (groupOfs s)) else Option.none }

/-- Code 0x01: whether the manifests are well formed, and list every shard of every set once (R396). PANEL, PARTITION and PMODE must be this panel's. DEDUCED (log entry 11). -/
def manClean (s : State) : Bool :=
  let sets := mb s 0x0E 2
  let pl := mb s 0x40 4
  mb s 0 4 == 0x4D444C4C && mb s 4 2 == 1 && Nat.blt (mb s 6 1) (partCount s) && mb s 7 1 == partCount s && mb s 0x0C 2 == panelId s
    && Nat.ble 1 sets && Nat.ble sets 64 && Nat.ble 1 pl && Nat.ble pl 16384 && Nat.ble (mb s 0x4C 1) 1 && mb s 0x4D 51 == 0
    && Nat.ble (manEnd s) 0x8_0000
    && (List.range sets).all (fun i => mb s (128 + 80 * i + 72) 8 == 0 && smClean s (setAt s i).moff (setAt s i).setId)
    && (List.range pl).all (fun i => mb s (128 + 80 * sets + 32 * i + 17) 15 == 0)
    && ((List.range sets).map (fun i => smShards s (setAt s i).moff)).foldl (fun a b => a + b) 0 == pl
    && (let ks := (List.range pl).map (fun i => (mb s (128 + 80 * sets + 32 * i) 1, mb s (128 + 80 * sets + 32 * i + 4) 4)); ks.eraseDups.length == ks.length)

/-! The current floor plan record. -/

/-- BODY_DIGEST of the current FPR (R41, R51). -/
def fprDigest (s : State) : Nat :=
  let b := rf s BOOT_FPR_GEN Fd.BOOT_FPR_GEN_BUF
  (List.range 6).foldr (fun i acc => (rd s (BOOT_FPR_BUFb_n b (6 + i))).toNat + 2 ^ 64 * acc) 0

/-- R55: whether a generation and a digest are those of the current FPR, and none is being published. -/
def fprMatches (s : State) (gen digest : Nat) : Bool :=
  gen == rf s BOOT_FPR_GEN Fd.BOOT_FPR_GEN_GEN && digest == fprDigest s && rf s BOOT_FPR_GEN Fd.BOOT_FPR_GEN_PUB_BUSY == 0

/-! Admission (R399). -/

/-- Whether `n` bytes from `a` lie in local bands of the enabled stacks of edge die `e` (R397, R412). -/
def localRange (s : State) (e a n : Nat) : Bool :=
  decide (0 < n) && localTo s e (a : Nat) ((a + n : Nat)) && (bandsOf (a : Nat) ((a + n : Nat))).all (fun q => !bandSpread s q)

/-- Areas that a placement may not overlap: the stream table, the collector buffer (R558), the gateway rings, the group's banks, staging areas and table (R399). Where a
rendezvous buffer lies is not given. -/
def keepOut (s : State) (m : Manifest) : List (Nat × Nat) :=
  [(tableBase s, 0x400_0000), ((rd s PMU_BUF).toNat, 0x400_0000)]
    ++ (List.range 16).flatMap (fun e => ((ringOf s (SUO_GW_RXCTL e) (SUO_GW_RXBASE e)).toList ++ (ringOf s (SUO_GW_TXCTL e) (SUO_GW_TXBASE e)).toList).map
        (fun r => (r.1, 16 * r.2)))
    ++ (match m.group with
      | some g => (g.table, 0x4_0000) :: g.slices.flatMap (fun x => [(x.2.1, (g.k + 2) * g.unit), (x.2.2.1, (g.k + 2) * g.unit), (x.2.2.2, g.unit)])
      | Option.none => [])

/-- Index of the first element that fails a test. -/
def firstBad {α : Type} (ok : α → Bool) (xs : List α) : Option Nat := xs.findIdx? (fun x => !ok x)

/-- The placement of another partition's load that a shared reference names (R409). -/
def holderOf (s : State) (p : Nat) (m : Manifest) (x : Placement) : Bool :=
  (List.range 4).any (fun q => q != p && (match (part s q).load with
    | some l => l.plcs.any (fun y => y.state == 3 && y.pl.dest == 1 && y.pl.shared && y.pl.frozen && y.pl.index == x.index && y.pl.home == x.home
        && y.pl.addr == x.addr && (l.man.sets[y.pl.set]?).map (fun e => e.setId) == (m.sets[x.set]?).map (fun e => e.setId))
    | Option.none => false))

/-- Code 0x06: whether a placement keeps R396, R397 and R409. -/
def placementOk (s : State) (p : Nat) (m : Manifest) (x : Placement) : Bool :=
  x.clean && Nat.blt x.home 16
    && (match x.dest with
      | 0 => x.addr == 0 && x.key == 0 && !x.shared
      | 1 => x.addr % 4096 == 0 && localRange s x.home x.addr x.bytes && decide (1 ≤ x.key ∧ x.key < 32) && partOfKey s x.key == some p
          && (!x.shared || x.frozen)
      | 2 => x.key == 0 && holderOf s p m x
      | _ => false)

/-- Code 0x05: whether a placement has room. -/
def roomOk (s : State) (p : Nat) (x : Placement) : Bool :=
  x.dest != 1 || (inPartition s p x.addr x.bytes && (stackOfAddr s x.addr).isSome && (match stackOfAddr s x.addr, stackOfAddr s (x.addr + x.bytes - 1) with
    | some a, some b => stackEnabled s a && stackEnabled s b
    | _, _ => false))

/-- Code 0x07: whether placement `i` overlaps nothing. -/
def apartOk (s : State) (m : Manifest) (i : Nat) : Bool :=
  match m.placements[i]? with
  | some x => x.dest != 1 || (!(keepOut s m).any (fun r => meet x.addr x.bytes r.1 r.2)
      && !(m.placements.zipIdx.any (fun y => y.2 != i && y.1.dest == 1 && meet x.addr x.bytes y.1.addr y.1.bytes)))
  | Option.none => true

/-- The landing site of a home die, and a landing slot's first byte (R398). -/
def landSite (e : Nat) : Nat := frontSite e 0
def slotAddr (e n : Nat) : Nat := basinBase (landSite e) + (188 + n) * 0x10_0000

/-- Code 0x08: whether the landing site of a home die can be used. -/
def landingOk (s : State) (e : Nat) : Bool :=
  let k := landSite e
  siteState s k != 2 && (rd s (BOOT_READY_NETn (k / 64))).getLsbD (k % 64)
    && !((List.range 4).any (fun p => imageLoaded s p && (match (part s p).image with
      | some im => im.basin.any (fun b => b.1 == k && Nat.ble (188 * 0x10_0000) b.2.1 && Nat.blt b.2.1 (192 * 0x10_0000))
      | Option.none => false)))

/-- Whether a panel is unreachable in the current route table copy (R376). -/
def unreachable (s : State) (q : Nat) : Bool := let t := routeEntry s (routeCur s) (q % 1024); Nat.ble 1024 q || (t != 0xE && Nat.ble 7 t)

/-- Code 0x0A for a set, and for the ring. -/
def chainOk (s : State) (e : SetEntry) : Bool := (e.up == 0xFFFF || !unreachable s e.up) && (e.down == 0xFFFF || !unreachable s e.down)
def ringOk (s : State) (m : Manifest) : Bool := Nat.blt m.ringPos m.ringLen && !unreachable s m.ringPrev && !unreachable s m.ringNext

/-- Code 0x0B: whether the group record keeps R412. -/
def groupOk (s : State) (p : Nat) (g : GroupRec) : Bool :=
  g.clean && Nat.ble 1 g.k && Nat.ble g.k 14 && Nat.ble g.pos (g.k + 1) && Nat.ble 1 g.slices.length && Nat.ble g.slices.length 16
    && g.unit != 0 && g.unit % 4096 == 0 && (g.members.take (g.k + 2)).length == (g.members.take (g.k + 2)).eraseDups.length
    && (g.members.drop (g.k + 2)).all (fun m => m == 0xFFFF) && inPartition s p g.table 0x4_0000
    && g.slices.all (fun x => Nat.blt x.1 16 && localRange s x.1 x.2.1 ((g.k + 2) * g.unit) && localRange s x.1 x.2.2.1 ((g.k + 2) * g.unit)
        && localRange s x.1 x.2.2.2 g.unit)

/-- Status of the load. -/
def ldState (s : State) : Nat := rf s STM_LD_STATUS Fd.STM_LD_STATUS_STATE
def ldShow (s : State) (st code index : Nat) : State :=
  wr s STM_LD_STATUS (fset Fd.STM_LD_STATUS_INDEX index (fset Fd.STM_LD_STATUS_CODE code (fset Fd.STM_LD_STATUS_STATE st 0#64)))

/-- Whether the load manifest's signatures verify: nothing does in DECOMMISSIONED (R501). -/
def sigHolds (s : State) (v : Verdict) : Bool := v.sig && rf s SEC_LIFECYCLE Fd.SEC_LIFECYCLE_STATE != 3

/-- The first test that fails: its code and index; `none` admits (R399). -/
def ldTest (s : State) (v : Verdict) : Option (Nat × Nat) :=
  if !manClean s then some (0x01, 0)
  else
    let m := manifestOf s
    let p := m.partition
    let sets := m.sets.zipIdx
    let homes := m.placements.map (fun x => x.home)
    if !sigHolds s v then some (0x02, 0)
    else match firstBad (fun x : SetEntry × Nat => v.sets.getD x.2 false) sets with
    | some i => some (0x02, i)
    | Option.none =>
    if !fprMatches s m.fprGen m.fprDigest then some (0x03, 0)
    else match firstBad (smDigestOk s) m.sets with
    | some i => some (0x04, i)
    | Option.none => match firstBad (fun x : Placement => x.known) m.placements with
    | some i => some (0x04, i)
    | Option.none => match firstBad (roomOk s p) m.placements with
    | some i => some (0x05, i)
    | Option.none => match firstBad (placementOk s p m) m.placements with
    | some i => some (0x06, i)
    | Option.none => match firstBad (apartOk s m) (List.range m.placements.length) with
    | some i => some (0x07, i)
    | Option.none => match firstBad (landingOk s) homes with
    | some i => some (0x08, i)
    | Option.none =>
    if imageLoaded s p ∨ ldState s = 1 ∨ ldState s = 2 then some (0x09, 0)
    else if !ringOk s m then some (0x0A, 0)
    else match firstBad (chainOk s) m.sets with
    | some i => some (0x0A, i)
    | Option.none => match m.group with
    | some g => if groupOk s p g then Option.none else some (0x0B, 0)
    | Option.none => Option.none

/-! The load of a partition. -/

def loadOf (s : State) (p : Nat) : Option LoadX := (part s p).load
def setLoad (s : State) (p : Nat) (l : LoadX) : State := modPart s p (fun x => { x with load := some l })

/-- Blocks of 1 MiB of a placement (R401). -/
def blocksOf (x : Placement) : Nat := (x.bytes + 0xF_FFFF) / 0x10_0000

/-- Bytes of block `b` of a placement. -/
def shardBlockLen (x : Placement) (b : Nat) : Nat := min 0x10_0000 (x.bytes - 0x10_0000 * b)

/-- Chain block number of block `b` of placement `i` (R401): the set's blocks in shard index order. -/
def chainBlock (l : LoadX) (i b : Nat) : Nat :=
  match l.plcs[i]? with
  | some x => ((l.plcs.filter (fun y => y.pl.set == x.pl.set && Nat.blt y.pl.index x.pl.index)).map (fun y => blocksOf y.pl)).foldl (fun a b => a + b) b
  | Option.none => b

/-- Placements of a set in shard index order. -/
def inOrder (ps : List (PlcX × Nat)) : List Nat :=
  (ps.foldl (fun (acc : List (PlcX × Nat)) x =>
    acc.filter (fun y => Nat.blt y.1.pl.index x.1.pl.index) ++ [x] ++ acc.filter (fun y => !Nat.blt y.1.pl.index x.1.pl.index)) []).map (fun x => x.2)

/-- A load as it is admitted: placements committed by an earlier load of the same manifest are kept (R404). -/
def freshLoad (m : Manifest) (old : Option LoadX) : LoadX :=
  let keep := match old with | some l => if l.man.digest = m.digest then l.plcs else [] | Option.none => []
  let plcs := m.placements.zipIdx.map (fun x =>
    match keep[x.2]? with
    | some y => if y.state = 3 then { y with pl := x.1 } else ⟨x.1, 0, 0, 0, 0⟩
    | Option.none => ⟨x.1, 0, 0, 0, 0⟩)
  { man := m, plcs := plcs,
    sets := (List.range m.sets.length).map (fun i =>
      ⟨inOrder (plcs.zipIdx.filter (fun x => x.1.pl.set == i && x.1.state != 3)), 0⟩),
    slots := [], done := false, recover := false }

/-- The load controller's CHECK (R399). A CHECK refused while a load is admitted or running leaves STATE. DEDUCED (log entry 14). -/
def ldCheck (s : State) (v : Verdict) : State :=
  match ldTest s v with
  | some (code, i) => ldShow s (if ldState s = 1 ∨ ldState s = 2 then ldState s else 4) code i
  | Option.none =>
    let m := manifestOf s
    let s := modPnl s (fun p => { p with ld := some m.partition })
    let s := ldShow (setLoad s m.partition (freshLoad m (loadOf s m.partition))) 1 0 0
    match m.group with
    | some _ =>
      if s.pnl.eg.part = m.partition ∧ rf s STM_EG_STATUS Fd.STM_EG_STATUS_STATE ≠ 0 then s
      else modPnl s (fun p => { p with eg := { EgX.init with part := m.partition } })
    | Option.none => s

/-- Change the load under way, and its partition. -/
def modLd (s : State) (f : Nat → LoadX → LoadX) : State :=
  match s.pnl.ld with
  | some p => (match loadOf s p with | some l => setLoad s p (f p l) | Option.none => s)
  | Option.none => s

/-- The load under way. -/
def curLd (s : State) : Option (Nat × LoadX) :=
  match s.pnl.ld with
  | some p => (loadOf s p).map (fun l => (p, l))
  | Option.none => Option.none

/-- Change placement `i` of a load. -/
def LoadX.modPlc (l : LoadX) (i : Nat) (f : PlcX → PlcX) : LoadX := { l with plcs := l.plcs.modify i f }

/-- Change set `i` of a load. -/
def LoadX.modSet (l : LoadX) (i : Nat) (f : SetX → SetX) : LoadX := { l with sets := l.sets.modify i f }

/-- Change a partition's load. -/
def modLoad (s : State) (p : Nat) (f : LoadX → LoadX) : State := match loadOf s p with | some l => setLoad s p (f l) | Option.none => s

/-- First of the stream-table entries that the load controller owns (R398). -/
def loadEntries : Nat := 0xF_F000

/-- The streams of a load that has ended are abandoned, with the STM_ISSUE streams they were. DESIGN CHOICE (log entry 136). -/
def dropLoadStreams (s : State) (p : Nat) : State :=
  match loadOf s p with
  | Option.none => s
  | some l =>
    l.slots.foldl (fun s y =>
      let jobs := y.inJob.toList ++ y.outJobs
      let gone := fun (i : IssueRec) => (match i.host with | some h => h.1 == y.home && jobs.contains h.2 | Option.none => false)
      let s := modEdge s y.home (fun x => { x with
        strms := x.strms.filter (fun t => !gone t.issue), waitQ := x.waitQ.filter (fun i => !gone i), lateQ := x.lateQ.filter (fun i => !gone i)
        failQ := x.failQ.filter (fun f => !gone f.1), unacked := x.unacked.filter (fun u => !gone u.issue)
        hostJobs := x.hostJobs.filter (fun j => !jobs.contains j.1), jobsFailed := x.jobsFailed.filter (fun j => !jobs.contains j) })
      let s := if (edge s y.home).hostJobs.isEmpty then wf s (STM_ISSUE_STATUS y.home) Fd.STM_ISSUE_STATUS_BUSY 0 else s
      showEngine s y.home) s

/-- A load ends with a code (R403, R404); STM_LD_STATUS shows that of the partition whose load it reports. -/
def ldFail (s : State) (p code index : Nat) : State :=
  let s := modLoad (dropLoadStreams s p) p (fun l => { l with slots := [], recover := false })
  if s.pnl.ld = some p then ldShow s 5 code index else s

/-- The load that lands blocks: the one that is LOADING, else the first in which a placement is loaded again after a re-digest (R407). -/
def landLd (s : State) : Option (Nat × LoadX) :=
  if ldState s = 2 then curLd s
  else (List.range 4).findSome? (fun p => match loadOf s p with | some l => if l.recover then some (p, l) else Option.none | Option.none => Option.none)

/-- Abort the load of a partition (R404): placements still landing go back to their start. -/
def abortLoad (s : State) (p : Nat) : State :=
  if s.pnl.ld = some p ∧ (ldState s = 1 ∨ ldState s = 2) then
    let s := modLd s (fun _ l => { l with plcs := l.plcs.map (fun x => if x.state = 1 ∨ x.state = 2 then { x with state := 0, blocks := 0, out := 0 } else x) })
    ldFail s p 0x12 0
  else s

/-- A tenant may command loads of its own partition only (R513). -/
def ldAllowed (s : State) (req : Requester) (p : Nat) : Bool := match clsOf s req with | .tenant q => q == p | _ => true

/-- The partition a CHECK is for, and the one other commands are for. -/
def ldTarget (s : State) (check : Bool) : Nat := if check then mb s 6 1 else s.pnl.ld.getD 0

/-- The partition a feeder's mark is for. -/
def feedTarget (s : State) : Nat := match landLd s with | some x => x.1 | Option.none => ldTarget s false

/-- Every placement is COMMITTED or PASSED: the load reaches DONE (R406). Blocks that a panel below has asked for again may still be on their way
(R403). -/
def ldSettle (s : State) (p : Nat) : State :=
  match loadOf s p with
  | some l =>
    if l.plcs.all (fun x => x.state == 3 || x.state == 5) then
      let s := setLoad s p { l with done := true, recover := l.sets.any (fun t => !t.queue.isEmpty) || !l.slots.isEmpty }
      if s.pnl.ld = some p ∧ ldState s = 2 then ldShow s 3 0 0 else s
    else s
  | Option.none => s

/-- The block that a set wants next: placement, block, home die, landing slot. -/
def nextBlock (l : LoadX) (set : Nat) : Option (Nat × Nat × Nat × Nat) :=
  match l.sets[set]? with
  | some t =>
    match t.queue with
    | i :: _ => (l.plcs[i]?).map (fun x => (i, t.pos, x.pl.home, chainBlock l i t.pos % 4))
    | [] => Option.none
  | Option.none => Option.none

/-- Whether this panel has a placement committed, so that its blocks come from its own HBM when they are asked for again (R403). -/
def heldHere (l : LoadX) (i : Nat) : Bool := match l.plcs[i]? with | some x => x.state == 3 && x.pl.dest == 1 | Option.none => false

/-- Whether a landing slot of a home die is free. -/
def slotFree (l : LoadX) (e n : Nat) : Bool := !l.slots.any (fun x => x.home == e && x.slot == n)

/-- The block takes its landing slot, brought by an STM_ISSUE stream or by a feeder; the set goes on to the next. -/
def takeSlot (l : LoadX) (set i b e n : Nat) (job : Option Nat) : LoadX :=
  let last := match l.plcs[i]? with | some x => Nat.ble (blocksOf x.pl) (b + 1) | Option.none => true
  let l := l.modSet set (fun t => if last then { queue := t.queue.drop 1, pos := 0 } else { t with pos := b + 1 })
  { l with slots := l.slots ++ [⟨e, n, set, i, b, false, job, []⟩] }

/-- Byte offset of a landing slot in the basin of the landing site (R398). -/
def slotOffset (n : Nat) : Nat := (188 + n) * 0x10_0000

/-- A stream-table entry with its CRC (R314). -/
def sealEntry (w : Nat) : Nat := w + (crc32 (bytesOf 60 w)).toNat * 2 ^ 480

/-- The entry of a load's stream (R314, R401): `n` bytes in one row, with the home die as EXEC; one SC of DELTA, which STM_ISSUE does not use. -/
def loadEntry (s : State) (e src dst key srcA dstA n tag panel : Nat) : Nat :=
  sealEntry (src + dst * 2 ^ 3 + e * 2 ^ 6 + partOfEdge s e * 2 ^ 10 + key * 2 ^ 16 + landSite e * 2 ^ 24 + 2 ^ 32 + srcA * 2 ^ 64 + dstA * 2 ^ 128
    + (n / 64 + 2 ^ 16 + 2 ^ 32) * 2 ^ 192 + (tag % 2 ^ 16 + panel * 2 ^ 16 + e * 2 ^ 26) * 2 ^ 384)

/-- Issue a stream of a load through STM_ISSUE of the home die (R324, R401): the entry is written, and the number of the STM_ISSUE stream kept. Which
of its entries the controller uses is a DESIGN CHOICE (log entry 136): four for each slot of each die. -/
def issueLoad (s : State) (e n kind w : Nat) : State × Nat :=
  let i := loadEntries + (4 * e + n) * 4 + kind
  (writeStmIssue (writeEntry s i w) e (BitVec.ofNat 64 i), (edge s e).hostNext)

/-- The next blocks of a set whose landing slots are free are called from the upstream panel by REMOTE-to-BASIN streams (R401); those of a shard that
this panel holds committed, which a panel below has asked for again, come from its own HBM (R403). -/
def bringSet (s : State) (p set : Nat) : Nat → State
  | 0 => s
  | fuel + 1 =>
    match loadOf s p with
    | Option.none => s
    | some l =>
      match l.man.sets[set]?, nextBlock l set with
      | some m, some (i, b, e, n) =>
        let own := heldHere l i
        if (m.up = 0xFFFF ∧ own = false) ∨ !slotFree l e n then s
        else
          let q := match l.plcs[i]? with | some x => (shardBlockLen x.pl b, x.pl.key, x.pl.addr + 0x10_0000 * b) | Option.none => (0, 0, 0)
          let r := issueLoad s e n 0 (if own then loadEntry s e 1 2 q.2.1 q.2.2 (slotOffset n) q.1 0 0
            else loadEntry s e 3 2 0 0 (slotOffset n) q.1 (chainBlock l i b) m.up)
          bringSet (modLoad r.1 p (fun l => takeSlot l set i b e n (some r.2))) p set fuel
      | _, _ => s

/-- Call in what the load that lands blocks can take (R401). -/
def ldBring (s : State) : State :=
  match landLd s with
  | some (p, l) => (List.range l.man.sets.length).foldl (fun s i => bringSet s p i 64) s
  | Option.none => s

/-- The landing regions become activation class with DYN_WR = 1 (R398), open to landings (R230); a change of class fills them with zeros first
(R194). -/
def openLanding (s : State) (l : LoadX) : State :=
  (l.plcs.map (fun x => x.pl.home)).eraseDups.foldl (fun s e =>
    let k := landSite e
    let shut := (List.range 4).any (fun n => rf s (BSN_REGIONn k (188 + n)) Fd.BSN_REGIONn_CLASS != 0)
    let s := (List.range 4).foldl (fun s n => setRegion s k (188 + n) 0 1 1) s
    if shut then finishZeroFill s k else s) s

/-- The load controller's START (R400). Kept placements are checked again (R404). -/
def ldStart (s : State) : State :=
  match curLd s with
  | some (_, l) =>
    if ldState s ≠ 1 then s
    else if !fprMatches s l.man.fprGen l.man.fprDigest then ldShow s 4 0x03 0
    else
      let s := modLd s (fun _ l => { l with plcs := l.plcs.map (fun x => { x with state := if x.state = 3 then 2 else 1 }) })
      ldBring (ldShow (openLanding s l) 2 0 0)
  | Option.none => s

/-- Message to another panel about a shard. -/
def ldSay (s : State) (ask : Bool) (panel set index : Nat) : State :=
  modPnl s (fun p => { p with ldMsgs := p.ldMsgs ++ [⟨ask, panel, set, index⟩] })

/-- Placement `i` of partition `p` is asked for again (R403): its blocks are wanted once more, from the feeder or by a request up the chain. -/
def askAgain (s : State) (p i : Nat) : State :=
  match loadOf s p with
  | Option.none => s
  | some l =>
    match l.plcs[i]? with
    | Option.none => s
    | some x =>
      let s := setLoad s p ((l.modPlc i (fun y => { y with blocks := 0, out := 0 })).modSet x.pl.set (fun t => { t with queue := t.queue ++ [i] }))
      match l.man.sets[x.pl.set]? with
      | some e => if e.up = 0xFFFF then s else ldBring (ldSay s true e.up x.pl.set x.pl.index)
      | Option.none => s

/-- A digest in an engine's registers (R418). -/
def showDigest (s : State) (e : Nat) (d : BitVec 384) : State :=
  (List.range 6).foldl (fun s i => wr s (STM_EC_DIGESTn e i) (BitVec.ofNat 64 (d.toNat / 2 ^ (64 * i)))) s

/-- An engine reads a range, which its channels count (R341); a marked line is logged and not delivered (R306). -/
def ecRead (s : State) (a n : Nat) : State × Option Nat := meetErrors (countHbm s a n false) a n 0 []

/-- The home die's engine digests a range (R402): SHA-384 over its bytes, shown in the engine's registers (R418). A marked line is never delivered:
it is logged, and there is no digest (R306). -/
def engineDigest (s : State) (e a n : Nat) : State × Option (BitVec 384) :=
  let m := ecRead s a n
  if m.2.isSome then (m.1, Option.none)
  else
    let d := sha384 (memReads s a n)
    (showDigest m.1 e d, some d)

/-- The digest of placement `i` completes (R402, R403). -/
def placementDigest (s : State) (i : Nat) : State :=
  match landLd s with
  | Option.none => s
  | some (p, l) =>
    match l.plcs[i]? with
    | Option.none => s
    | some x =>
      if x.state ≠ 2 then s
      else
        let r := engineDigest s x.pl.home x.pl.addr x.pl.bytes
        let s := r.1
        if r.2 = some x.pl.digest then ldSettle (modLoad s p (fun l => l.modPlc i (fun y => { y with state := 3 }))) p
        else if 2 ≤ x.tries then ldFail (modLoad s p (fun l => l.modPlc i (fun y => { y with state := 4, tries := 3 }))) p 0x10 i
        else askAgain (modLoad s p (fun l => l.modPlc i (fun y => { y with state := 1, tries := y.tries + 1 }))) p i

/-- The load controller's VERIFY (R393): the signatures of the set manifests and the digests of the committed placements again. A placement whose
digest fails becomes FAILED and its load fails with DIGEST; a signature that fails ends the load with SIGNATURE. DEDUCED (log entry 12). -/
def ldVerify (s : State) (v : Verdict) : State :=
  match curLd s with
  | Option.none => s
  | some (p, l) =>
    match firstBad (fun x : SetEntry × Nat => v.sets.getD x.2 false && sigHolds s v) l.man.sets.zipIdx with
    | some i => ldFail s p 0x02 i
    | Option.none =>
      (List.range l.plcs.length).foldl (fun s i =>
        match l.plcs[i]? with
        | some x =>
          if x.state = 3 ∧ x.pl.dest = 1 then
            let r := engineDigest s x.pl.home x.pl.addr x.pl.bytes
            if r.2 = some x.pl.digest then r.1 else ldFail (modLd r.1 (fun _ l => { l.modPlc i (fun y => { y with state := 4 }) with done := false })) p 0x10 i
          else s
        | Option.none => s) s

/-- A write of STM_LD_CMD (R417). -/
def writeLdCmd (s : State) (req : Requester) (w : W64) (v : Verdict) : State :=
  let op := fget Fd.STM_LD_CMD_OP w
  if !ldAllowed s req (ldTarget s (op == 1)) then csrError s req true STM_LD_CMD
  else
    match op with
    | 1 => ldCheck s v
    | 2 => ldStart s
    | 3 => ldVerify s v
    | 4 => abortLoad s (s.pnl.ld.getD 4)
    | _ => s

/-- `LD_CHECK` (R399). `v` is what verification of the manifests finds. -/
def execLdCheck (req : Requester) (v : Verdict) (s : State) : Host.Outcome State Fault Refusal :=
  ok (guardCsr s req STM_LD_CMD true (fun s => writeLdCmd s req 1#64 v))

/-- `LD_START` (R400). -/
def execLdStart (req : Requester) (s : State) : Host.Outcome State Fault Refusal :=
  ok (guardCsr s req STM_LD_CMD true (fun s => writeLdCmd s req 2#64 ⟨false, []⟩))

/-- `LD_VERIFY` (R393). -/
def execLdVerify (req : Requester) (v : Verdict) (s : State) : Host.Outcome State Fault Refusal :=
  ok (guardCsr s req STM_LD_CMD true (fun s => writeLdCmd s req 3#64 v))

/-- `LD_ABORT` (R404). -/
def execLdAbort (req : Requester) (s : State) : Host.Outcome State Fault Refusal :=
  ok (guardCsr s req STM_LD_CMD true (fun s => writeLdCmd s req 4#64 ⟨false, []⟩))

/-! The chain (R401). -/

/-- The set whose block a feeder is to supply next: the first fed set with blocks still to land (R417). -/
def fedSet (l : LoadX) : Option Nat :=
  (List.range l.sets.length).find? (fun i => (match l.man.sets[i]? with | some e => e.up == 0xFFFF | Option.none => false)
    && (match nextBlock l i with | some b => !heldHere l b.1 | Option.none => false))

/-- A write of STM_LD_FEED (R401, R417): the feeder has filled the slot of the block wanted next. -/
def writeLdFeed (s : State) (req : Requester) (w : W64) : State :=
  if !ldAllowed s req (feedTarget s) then csrError s req true STM_LD_FEED
  else
    match landLd s with
    | Option.none => s
    | some (p, l) =>
      match fedSet l with
      | Option.none => s
      | some t =>
        match nextBlock l t with
        | some (i, b, e, n) => if w.getLsbD n ∧ slotFree l e n then setLoad s p (takeSlot l t i b e n Option.none) else s
        | Option.none => s

/-- `LD_FEED_FILLED` (R401). -/
def execLdFeedFilled (req : Requester) (v : W64) (s : State) : Host.Outcome State Fault Refusal :=
  ok (guardCsr s req STM_LD_FEED true (fun s => writeLdFeed s req v))

/-- Whether an STM_ISSUE stream of a die is complete: it runs no more, has not failed, and none of its data is on its way to a basin. -/
def jobDone (s : State) (e : Nat) (i n : Nat) : Bool :=
  let mine := fun (p : DynPkt) => p.kind == 1#4 && p.stream.toNat == i && p.dstUnit == 0#4
  !(edge s e).hostJobs.any (fun j => j.1 == n) && !(edge s e).jobsFailed.contains n
    && !((edge s e).outQ ++ (edge s e).dropped).any mine
    && !s.sites.any (fun x => x.2.landQ.any (fun y => mine y.pkt) || x.2.dynQ.any (fun y => mine y.pkt))

/-- The streams that take a landed block on (R401): to its place in HBM, unless this panel has the shard committed (R403), and down the chain. -/
def outStreams (s : State) (l : LoadX) (x : SlotX) : List (Nat × Nat) :=
  match l.plcs[x.plc]?, l.man.sets[x.set]? with
  | some y, some m =>
    let n := shardBlockLen y.pl x.block
    let src := slotOffset x.slot
    (if y.pl.dest = 1 ∧ y.state = 1 then [(1, loadEntry s x.home 2 1 y.pl.key src (y.pl.addr + 0x10_0000 * x.block) n 0 0)] else [])
      ++ (if m.down ≠ 0xFFFF then [(2, loadEntry s x.home 2 3 0 src 0 n (chainBlock l x.plc x.block) m.down)] else [])
  | _, _ => []

/-- A block has landed: it counts, and its streams are issued. -/
def blockLanded (s : State) (p : Nat) (x : SlotX) : State :=
  let s := modLoad s p (fun l => l.modPlc x.plc (fun y => { y with blocks := y.blocks + 1, state := if y.state = 4 then 1 else y.state }))
  match loadOf s p with
  | Option.none => s
  | some l =>
    let r := (outStreams s l x).foldl (fun (r : State × List Nat) (q : Nat × Nat) =>
      let i := issueLoad r.1 x.home x.slot q.1 q.2
      (i.1, r.2 ++ [i.2])) (s, [])
    modLoad r.1 p (fun l => { l with slots := l.slots.map (fun y => if y.home == x.home && y.slot == x.slot then { y with issued := true, outJobs := r.2 } else y) })

/-- Whether a panel next to this one in a chain of the load is lost: the current route table copy no longer reaches it (R376, R404). -/
def chainLost (s : State) (l : LoadX) : Bool := !l.man.sets.all (chainOk s)

/-- The load of a partition ends because a panel next to it is lost (R404): the one that runs is aborted, and one that lands a shard again fails. -/
def loseChain (s : State) (p : Nat) : State := if ldState s = 2 then abortLoad s p else ldFail s p 0x12 0

/-- `LD_BLOCK_LANDED` (R401, R403, R404): a block of a set has landed in its slot, and its streams are issued. From a feeder it is the slot marked
filled; from a panel, one whose REMOTE-to-BASIN stream is complete. A stream that has failed fails the load. -/
def execLdBlockLanded (set : Fin 64) (s : State) : Host.Outcome State Fault Refusal :=
  match landLd s with
  | Option.none => ok s
  | some (p, l) =>
    if chainLost s l then ok (loseChain s p)
    else
    match l.slots.find? (fun x => x.set == set.val && !x.issued && (match x.inJob with
        | some n => (edge s x.home).jobsFailed.contains n || jobDone s x.home (loadEntries + (4 * x.home + x.slot) * 4) n
        | Option.none => true)) with
    | Option.none => ok s
    | some x =>
      if (match x.inJob with | some n => (edge s x.home).jobsFailed.contains n | Option.none => false) then ok (ldFail s p 0x11 x.plc)
      else ok (blockLanded s p x)

/-- The streams of a landed block are complete: the slot is free (R401, R402), and the next block is called in. -/
def blockDone (s : State) (p : Nat) (l : LoadX) (x : SlotX) : State :=
  match l.plcs[x.plc]? with
  | Option.none => s
  | some y =>
    let l := { l with slots := l.slots.filter (fun z => !(z.home == x.home && z.slot == x.slot)) }
    let n := y.out + 1
    let st := if y.state = 1 ∧ blocksOf y.pl ≤ n then (if y.pl.dest = 1 then 2 else 5) else y.state
    ldBring (ldSettle (setLoad s p (l.modPlc x.plc (fun z => { z with out := n, state := st }))) p)

/-- `LD_SLOT_FREED` (R401, R403, R404): both streams of a slot's block are complete, or one has failed and the load fails with STREAM. -/
def execLdSlotFreed (e : Edge) (n : Fin 4) (s : State) : Host.Outcome State Fault Refusal :=
  match landLd s with
  | Option.none => ok s
  | some (p, l) =>
    if chainLost s l then ok (loseChain s p)
    else
    match l.slots.find? (fun x => x.home == e.val && x.slot == n.val && x.issued) with
    | some x =>
      if x.outJobs.any (fun j => (edge s e.val).jobsFailed.contains j) then ok (ldFail s p 0x11 x.plc)
      else if x.outJobs.any (fun j => (edge s e.val).hostJobs.any (fun h => h.1 == j)) then ok s
      else ok (blockDone s p l x)
    | Option.none => ok s

/-- `LD_PLACEMENT_DIGEST` (R402, R403). -/
def execLdPlacementDigest (i : Fin 16384) (s : State) : Host.Outcome State Fault Refusal := ok (placementDigest s i.val)

/-- A shard is wanted again by a panel below: the load lands its blocks, though it may have reached DONE. -/
def landAgain (s : State) (p : Nat) : State :=
  if s.pnl.ld = some p ∧ ldState s = 2 then s
  else
    match loadOf s p with
    | some l => modLoad (openLanding s l) p (fun l => { l with recover := true })
    | Option.none => s

/-- `LD_SHARD_REQUEST` (R403): a panel below asks for a shard of a set. A panel that holds it committed sends it down again, from its own HBM;
otherwise the request goes on up the chain, or to the feeder, and the blocks will pass through. -/
def execLdShardRequest (p : Part) (set : Fin 64) (index : Fin 65536) (s : State) : Host.Outcome State Fault Refusal :=
  match loadOf s p.val with
  | Option.none => ok s
  | some l =>
    match l.plcs.findIdx? (fun x => x.pl.set == set.val && x.pl.index == index.val), l.man.sets[set.val]? with
    | some i, some e =>
      let s := landAgain s p.val
      if heldHere l i then
        ok (ldBring (modLoad (ldSay s false e.down set.val index.val) p.val (fun l => l.modSet set.val (fun t => { t with queue := t.queue ++ [i] }))))
      else ok (askAgain s p.val i)
    | _, _ => ok s

/-! Erasure groups (R412 to R416). -/

/-- Double an element of GF(2^8) modulo 0x11D (R413). -/
def gfDouble (x : Nat) : Nat := if 0x80 ≤ x then Nat.xor (2 * x) 0x11D else 2 * x

/-- Product in GF(2^8). -/
def gfMul (a b : Nat) : Nat :=
  ((List.range 8).foldl (fun (acc : Nat × Nat) i => (if b / 2 ^ i % 2 = 1 then Nat.xor acc.1 acc.2 else acc.1, gfDouble acc.2)) (0, a)).1

/-- g to the power `n`. -/
def gfPow (n : Nat) : Nat := (List.range n).foldl (fun x _ => gfDouble x) 1

/-- Inverse: a^254. -/
def gfInv (a : Nat) : Nat := (List.range 253).foldl (fun x _ => gfMul x a) a

/-- Byte strings over GF(2^8): sum and multiple. -/
def gfAdd (xs ys : List Byte) : List Byte := List.zipWith (fun x y => x ^^^ y) xs ys
def gfScale (c : Nat) (xs : List Byte) : List Byte := xs.map (fun x => BitVec.ofNat 8 (gfMul c x.toNat))

/-- Sum of byte strings. -/
def gfSum : List (List Byte) → List Byte
  | [] => []
  | [x] => x
  | x :: xs => gfAdd x (gfSum xs)

/-- Role of a member in a stripe (R413): 0 P, 1 Q, 2 + j for data unit j. -/
def egRole (k stripe pos : Nat) : Nat :=
  let n := k + 2
  let p := stripe % n
  let q := (stripe + 1) % n
  if pos = p then 0 else if pos = q then 1 else 2 + ((List.range pos).filter (fun i => i != p && i != q)).length

/-- The unit of a role in a stripe. -/
def unitOf (us : List (Nat × List Byte)) (role : Nat) : Option (List Byte) := (us.find? (fun u => u.1 == role)).map (fun u => u.2)

/-- P and Q of data units in order. -/
def egP (ds : List (List Byte)) : List Byte := gfSum ds
def egQ (ds : List (List Byte)) : List Byte := gfSum (ds.zipIdx.map (fun d => gfScale (gfPow d.2) d.1))

/-- The data units of a stripe from any K units, keyed by role; `none` if they do not determine them (R413). -/
def egData (k : Nat) (us : List (Nat × List Byte)) : Option (List (List Byte)) :=
  let have_ := (List.range k).filterMap (fun j => (unitOf us (2 + j)).map (fun d => (j, d)))
  let gone := (List.range k).filter (fun j => (unitOf us (2 + j)).isNone)
  let sp := fun (p : List Byte) => gfSum (p :: have_.map (fun d => d.2))
  let sq := fun (q : List Byte) => gfSum (q :: have_.map (fun d => gfScale (gfPow d.1) d.2))
  let fill := fun (x : List (Nat × List Byte)) => (List.range k).mapM (fun j => ((have_ ++ x).find? (fun d => d.1 == j)).map (fun d => d.2))
  match gone, unitOf us 0, unitOf us 1 with
  | [], _, _ => fill []
  | [x], some p, _ => fill [(x, sp p)]
  | [x], Option.none, some q => fill [(x, gfScale (gfInv (gfPow x)) (sq q))]
  | [x, y], some p, some q =>
    let a := sp p
    let d := gfScale (gfInv (Nat.xor (gfPow x) (gfPow y))) (gfAdd (sq q) (gfScale (gfPow x) a))
    fill [(x, gfAdd a d), (y, d)]
  | _, _, _ => Option.none

/-- The group's record. -/
def egRec (s : State) : Option GroupRec := match loadOf s s.pnl.eg.part with | some l => l.man.group | Option.none => Option.none

def egState (s : State) : Nat := rf s STM_EG_STATUS Fd.STM_EG_STATUS_STATE
def setEg (s : State) (st : Nat) : State := wf s STM_EG_STATUS Fd.STM_EG_STATUS_STATE st

/-- Show the number of positions lost in the window. -/
def showLoss (s : State) : State := wf s STM_EG_STATUS Fd.STM_EG_STATUS_LOSSES s.pnl.eg.win.length

/-- The committed bank, or the other, of a slice. -/
def bankBase (s : State) (committed : Bool) (x : Nat × Nat × Nat × Nat) : Nat :=
  if (rf s STM_EG_STATUS Fd.STM_EG_STATUS_BANK == 1) == committed then x.2.2.1 else x.2.1

/-- Key of a recorded digest: bank, slice, stripe, member (R414). The layout of the group table is not given (log entry 13). -/
def digKey (bank slice stripe pos : Nat) : Nat := ((bank * 16 + slice) * 16 + stripe) * 16 + pos

/-- The digest recorded for a unit. -/
def digOf (s : State) (bank slice stripe pos : Nat) : BitVec 384 := sget (fun _ => 0#384) s.pnl.eg.digs (digKey bank slice stripe pos)

/-- Record a member's digests, in order of slice and stripe. -/
def putDigs (s : State) (g : GroupRec) (bank pos : Nat) (ds : List (BitVec 384)) : State :=
  modPnl s (fun p => { p with eg := { p.eg with digs := (List.range (g.slices.length * (g.k + 2))).foldl (fun m i =>
    sput (fun _ => 0#384) (digKey bank (i / (g.k + 2)) (i % (g.k + 2)) pos) (ds.getD i 0#384) m) p.eg.digs } })

/-- An engine writes bytes to HBM, which its channels count (R341); whole lines lose their marks (R306). -/
def ecWrite (s : State) (a : Nat) (bs : List Byte) : State :=
  memWrites (clearMarks (countHbm s a bs.length true) (fun l => Nat.ble a (64 * l) && Nat.ble (64 * l + 64) (a + bs.length))) a bs

/-- This panel's units of a bank are read, which their channels count (R341). -/
def countUnits (s : State) (g : GroupRec) (committed : Bool) : State :=
  g.slices.foldl (fun s x => countHbm s (bankBase s committed x) ((g.k + 2) * g.unit) false) s

/-- The digests of this panel's units of a bank. -/
def ownDigs (s : State) (g : GroupRec) (committed : Bool) : List (BitVec 384) :=
  g.slices.flatMap (fun x => (List.range (g.k + 2)).map (fun t => sha384 (memReads s (bankBase s committed x + t * g.unit) g.unit)))

/-- COMMIT (R414): a parity point starts on the bank that is not committed. -/
def egCommit (s : State) : State :=
  if (egRec s).isNone ∨ (egState s ≠ 0 ∧ egState s ≠ 1 ∧ egState s ≠ 5) then s
  else
    let st := egState s
    setEg (modPnl s (fun p => { p with eg := { p.eg with ready := [], prev := st } })) 2

/-- LOSS (R414, R415): a lost member abandons a parity point; a third distinct loss in the window loses the group. -/
def egLoss (s : State) (pos : Nat) : State :=
  match egRec s with
  | Option.none => s
  | some g =>
    if g.k + 1 < pos ∨ egState s = 6 ∨ s.pnl.eg.lost.contains pos then s
    else
      let s := modPnl s (fun p => { p with eg := { p.eg with
        lost := p.eg.lost ++ [pos]
        win := if p.eg.win.contains pos then p.eg.win else p.eg.win ++ [pos]
        ready := [] } })
      setEg (showLoss s) (if 3 ≤ s.pnl.eg.win.length then 6 else 3)

/-- Whether every unit given has its recorded digest. -/
def digestsHold (s : State) (bank : Nat) (xs : List Stripe) : Bool :=
  xs.all (fun x => x.units.all (fun u => sha384 u.2 == digOf s bank x.slice x.stripe u.1))

/-- The units of a stripe by role. -/
def byRole (g : GroupRec) (x : Stripe) : List (Nat × List Byte) := x.units.map (fun u => (egRole g.k x.stripe u.1, u.2))

/-- Whether the parity units that a stripe gives are those of its data units. -/
def parityHolds (g : GroupRec) (x : Stripe) : Bool :=
  match egData g.k (byRole g x) with
  | some ds => (match unitOf (byRole g x) 0 with | some p => p == egP ds | Option.none => true)
      && (match unitOf (byRole g x) 1 with | some q => q == egQ ds | Option.none => true)
  | Option.none => true

/-- The stripes with this panel's own units as its committed bank holds them, unless its position is lost. -/
def ownUnits (s : State) (g : GroupRec) (xs : List Stripe) : List Stripe :=
  if s.pnl.eg.lost.contains g.pos then xs
  else xs.map (fun x => match g.slices[x.slice]? with
    | some sl => { x with units := x.units.filter (fun u => u.1 != g.pos) ++ [(g.pos, memReads s (bankBase s true sl + x.stripe * g.unit) g.unit)] }
    | Option.none => x)

/-- VERIFY (R416): digests, and with at most one position lost parity; `xs` are the units of the committed bank that the other members supply. -/
def egVerify (s : State) (xs : List Stripe) : State :=
  match egRec s with
  | Option.none => s
  | some g =>
    let xs := ownUnits s g xs
    let bank := rf s STM_EG_STATUS Fd.STM_EG_STATUS_BANK
    if digestsHold s bank xs ∧ s.pnl.eg.lost.length ≤ 1 ∧ !xs.all (parityHolds g) then setEg s 5 else s

/-- The unit of a member in a stripe, rebuilt from K others (R413, R415). -/
def rebuildUnit (g : GroupRec) (pos : Nat) (x : Stripe) : Option (List Byte) :=
  match egData g.k (byRole g { x with units := x.units.filter (fun u => u.1 != pos) }) with
  | some ds => (match egRole g.k x.stripe pos with | 0 => some (egP ds) | 1 => some (egQ ds) | r => ds[r - 2]?)
  | Option.none => Option.none

/-- REBUILD (R415, R416): every unit of a lost position in the committed bank, each checked against its recorded digest; the window closes when
every lost position checks. -/
def egRebuild (s : State) (pos : Nat) (force : Bool) (xs : List Stripe) : State :=
  match egRec s with
  | Option.none => s
  | some g =>
    let s := if s.pnl.eg.lost.length ≤ 1 then egVerify s xs else s
    if !s.pnl.eg.lost.contains pos ∨ egState s = 6 ∨ (egState s = 5 ∧ !force) then s
    else
      let bank := rf s STM_EG_STATUS Fd.STM_EG_STATUS_BANK
      let s := setEg s 4
      let xs := ownUnits s g xs
      let rs := xs.map (fun x => (x, rebuildUnit g pos x))
      let s := rs.foldl (fun s r => match r.2, g.slices[r.1.slice]? with
        | some u, some sl => ecWrite s (bankBase s true sl + r.1.stripe * g.unit) u
        | _, _ => s) s
      let good := xs.length == g.slices.length * (g.k + 2)
        && rs.all (fun r => match r.2 with | some u => sha384 u == digOf s bank r.1.slice r.1.stripe pos | Option.none => false)
      if good then
        let lost := s.pnl.eg.lost.filter (fun q => q != pos)
        let s := showLoss (modPnl s (fun p => { p with eg := { p.eg with lost := lost, win := if lost.isEmpty then [] else p.eg.win } }))
        setEg s (if s.pnl.eg.lost.isEmpty then 1 else 3)
      else s

/-- A write of STM_EG_CMD (R417). -/
def writeEgCmd (s : State) (w : W64) (xs : List Stripe) : State :=
  match fget Fd.STM_EG_CMD_OP w with
  | 1 => egCommit s
  | 2 => egLoss s (fget Fd.STM_EG_CMD_POS w)
  | 3 => egRebuild s (fget Fd.STM_EG_CMD_POS w) (fget Fd.STM_EG_CMD_FORCE w == 1) xs
  | 4 => egVerify s xs
  | _ => s

/-- `EG_COMMIT` (R414). -/
def execEgCommit (req : Requester) (s : State) : Host.Outcome State Fault Refusal :=
  ok (guardCsr s req STM_EG_CMD true (fun s => writeEgCmd s 1#64 []))

/-- `EG_LOSS` (R415). -/
def execEgLoss (req : Requester) (pos : Fin 16) (s : State) : Host.Outcome State Fault Refusal :=
  ok (guardCsr s req STM_EG_CMD true (fun s => writeEgCmd s (BitVec.ofNat 64 (2 + 256 * pos.val)) []))

/-- `EG_REBUILD` (R415, R416). `units` are those of the committed bank that the surviving members supply. -/
def execEgRebuild (req : Requester) (pos : Fin 16) (force : Bool) (units : List Stripe) (s : State) : Host.Outcome State Fault Refusal :=
  ok (guardCsr s req STM_EG_CMD true (fun s => writeEgCmd s (BitVec.ofNat 64 (3 + 8 * b2n force + 256 * pos.val)) units))

/-- `EG_VERIFY` (R416). -/
def execEgVerify (req : Requester) (units : List Stripe) (s : State) : Host.Outcome State Fault Refusal :=
  ok (guardCsr s req STM_EG_CMD true (fun s => writeEgCmd s 4#64 units))

/-- `EG_READY` (R414): READY of a member, with the digests it sent; READY of all members commits the bank under generation + 1. This panel's own
digests are its units'. -/
def execEgReady (pos : Fin 16) (digs : List (BitVec 384)) (s : State) : Host.Outcome State Fault Refusal :=
  match egRec s with
  | Option.none => ok s
  | some g =>
    if egState s ≠ 2 ∨ g.k + 1 < pos.val then ok s
    else
      let bank := 1 - rf s STM_EG_STATUS Fd.STM_EG_STATUS_BANK
      let s := putDigs (if pos.val = g.pos then countUnits s g false else s) g bank pos.val (if pos.val = g.pos then ownDigs s g false else digs)
      let s := modPnl s (fun p => { p with eg := { p.eg with ready := if p.eg.ready.contains pos.val then p.eg.ready else p.eg.ready ++ [pos.val] } })
      if (List.range (g.k + 2)).all (fun i => s.pnl.eg.ready.contains i) then
        let s := wf s STM_EG_STATUS Fd.STM_EG_STATUS_BANK bank
        let s := wf s STM_EG_STATUS Fd.STM_EG_STATUS_GEN (rf s STM_EG_STATUS Fd.STM_EG_STATUS_GEN + 1)
        ok (setEg (modPnl s (fun p => { p with eg := { p.eg with ready := [] } })) 1)
      else ok s

/-! Re-digest (R407). -/

/-- One placement of a partition is digested again: a mismatch is an uncorrected error of the partition and fails it (R407, R479). -/
def redigestOne (s : State) (p i : Nat) (x : PlcX) : State :=
  if x.state ≠ 3 ∨ !x.pl.frozen ∨ x.pl.dest ≠ 1 ∨ (part s p).zero.isSome then s
  else
    let r := engineDigest s x.pl.home x.pl.addr x.pl.bytes
    if r.2 = some x.pl.digest then r.1
    else
      let s := r.1
      let s := match loadOf s p with
        | some l => setLoad (openLanding s l) p { l.modPlc i (fun y => { y with state := 4 }) with done := false, recover := true }
        | Option.none => s
      let s := wf (wf s STM_RD_STATUS Fd.STM_RD_STATUS_FAILS (rf s STM_RD_STATUS Fd.STM_RD_STATUS_FAILS + 1)) STM_RD_STATUS Fd.STM_RD_STATUS_LAST i
      let d := 144 + x.pl.home
      let s := if aligned s d then raiseHold s d hError 0 else s
      let ev := mkEvent s 2 1 13 p 0 (scOf s d) (BitVec.ofNat 64 i) (BitVec.ofNat 64 x.pl.addr) 0#64 (if aligned s d then some (d, hError) else Option.none) Option.none
      askAgain (report s { ev with part := some p }) p i

/-- The interval between re-digests; values below 60 act as 60. -/
def redigestSeconds (s : State) : Nat := max 60 (rf s STM_RD_CFG Fd.STM_RD_CFG_INTERVAL_S)

/-- `REDIGEST_INTERVAL` (R407, R416): once in each interval every FROZEN committed placement is digested again, and the group is verified. -/
def execRedigestInterval (units : List Stripe) (s : State) : Host.Outcome State Fault Refusal :=
  if rf s STM_RD_CFG Fd.STM_RD_CFG_EN = 1 ∧ s.pnl.rdLast + redigestSeconds s ≤ timeSec s then
    let now := timeSec s
    let s := modPnl s (fun p => { p with rdLast := now })
    let s := (List.range 4).foldl (fun s p => match loadOf s p with
      | some l => l.plcs.zipIdx.foldl (fun s x => redigestOne s p x.2 x.1) s
      | Option.none => s) s
    ok (egVerify (wf s STM_RD_STATUS Fd.STM_RD_STATUS_PASSES (rf s STM_RD_STATUS Fd.STM_RD_STATUS_PASSES + 1)) units)
  else ok s

/-! The erasure-code engines (R418). -/

/-- Whether a range lies in the die's own stacks. -/
def ecRange (s : State) (e a n : Nat) : Bool := localTo s e (a : Nat) ((a + n : Nat))

/-- Registers of an engine. -/
def ecSrc (s : State) (e : Nat) : Nat := rf s (STM_EC_SRC e) Fd.STM_EC_SRC_ADDR
def ecDst (s : State) (e : Nat) : Nat := rf s (STM_EC_DST e) Fd.STM_EC_DST_ADDR
def ecLen (s : State) (e : Nat) : Nat := rf s (STM_EC_LEN e) Fd.STM_EC_LEN_BYTES

/-- Whether an operation's ranges hold (R418). -/
def ecGood (s : State) (e op : Nat) : Bool :=
  let n := ecLen s e
  n != 0 && n % 4096 == 0 && Nat.ble n 0x10_0000_0000 && ecSrc s e % 4096 == 0 && ecRange s e (ecSrc s e) n
    && (op == 2 || (ecDst s e % 4096 == 0 && ecRange s e (ecDst s e) n))

/-- A write of STM_EC_CTRL: ACC and COEF, ERR cleared by 1, and OP starts an operation whose ranges hold. OP is ignored while one is under way. -/
def writeEcCtrl (s : State) (e : Nat) (w : W64) : State :=
  let a := STM_EC_CTRL e
  let s := clear1 s a Fd.STM_EC_CTRL_ERR w
  let s := wf (wf s a Fd.STM_EC_CTRL_ACC (fget Fd.STM_EC_CTRL_ACC w)) a Fd.STM_EC_CTRL_COEF (fget Fd.STM_EC_CTRL_COEF w)
  let op := fget Fd.STM_EC_CTRL_OP w
  if op = 0 ∨ op = 3 ∨ (edge s e).ecBusy.isSome then s
  else if !ecGood s e op then wf s a Fd.STM_EC_CTRL_ERR 1
  else
    let o : EcOp := ⟨op, fget Fd.STM_EC_CTRL_ACC w == 1, fget Fd.STM_EC_CTRL_COEF w, ecSrc s e, ecDst s e, ecLen s e⟩
    wf (modEdge s e (fun x => { x with ecBusy := some o })) a Fd.STM_EC_CTRL_BUSY 1

/-- `EC_MULXOR` (R418): the active steward starts MULXOR with its ACC and COEF. -/
def execEcMulxor (e : Edge) (acc : Bool) (coef : BitVec 8) (s : State) : Host.Outcome State Fault Refusal :=
  ok (guardCsr s .steward (STM_EC_CTRL e.val) true (fun s => writeEcCtrl s e.val (BitVec.ofNat 64 (1 + 4 * b2n acc + 256 * coef.toNat))))

/-- `EC_DIGEST` (R418): the active steward starts DIGEST. ACC and COEF are written with it. -/
def execEcDigest (e : Edge) (s : State) : Host.Outcome State Fault Refusal :=
  ok (guardCsr s .steward (STM_EC_CTRL e.val) true (fun s => writeEcCtrl s e.val 2#64))

/-- What MULXOR leaves at the destination (R418). -/
def mulxor (s : State) (o : EcOp) : List Byte :=
  let x := gfScale o.coef (memReads s o.src o.len)
  if o.acc then gfAdd (memReads s o.dst o.len) x else x

/-- `EC_DONE` (R418): the operation under way completes, or stops with ERR at an uncorrectable error, after how many bytes is free (log
entry 3). -/
def execEcDone (e : Edge) (ue : Bool) (s : State) : Host.Outcome State Fault Refusal :=
  match (edge s e.val).ecBusy with
  | Option.none => ok s
  | some o =>
    let x := ecRead s o.src o.len
    let y := if o.op = 1 ∧ o.acc then ecRead x.1 o.dst o.len else (x.1, Option.none)
    let s := y.1
    let s :=
      if ue ∨ x.2.isSome ∨ y.2.isSome then
        let f := takeFree 64 s
        let s := wf f.2 (STM_EC_CTRL e.val) Fd.STM_EC_CTRL_ERR 1
        if o.op = 1 then ecWrite s o.dst ((mulxor s o).take (f.1.toNat % (o.len + 1))) else s
      else if o.op = 1 then ecWrite s o.dst (mulxor s o)
      else showDigest s e.val (sha384 (memReads s o.src o.len))
    ok (wf (modEdge s e.val (fun x => { x with ecBusy := Option.none })) (STM_EC_CTRL e.val) Fd.STM_EC_CTRL_BUSY 0)

end Sys2Proof.Machine
end

