-- ==== Sys2Proof/Machine/Snapshot.lean ====
section
/-!
DEFINITION. Snapshot records (R559): the blocks that the collector gathers from the registers, the record that a recipient gets, and the
collector buffer (R558).
-/
namespace Sys2Proof.Machine

/-- The snapshots of a range of registers that stand 8 bytes apart. -/
def snaps (s : State) (a n : Nat) : List W64 := (List.range n).map (fun i => rd s (a + 8 * i))

/-- The records of a core's sample buffer that the last latch marked, in SEQ order: at most the 64 that the ring holds (R557). -/
def sampleWords (s : State) (g : Nat) : List W64 :=
  let x := core s g
  let from_ := max x.collected (x.marked - 64)
  (List.range (x.marked - from_)).flatMap (fun i => (List.range 8).map (fun w => rd s (CORE_SAMPn g ((from_ + i) % 64 * 8 + w))))

/-- The block of a core, with the programme that was in force over the interval (R551). -/
def coreBlock (s : State) (g : Nat) : SnapBlock :=
  ⟨1, g, partOfSite s (g / 64), snaps s (CORE_CYC_s_k g 0) 23 ++ [rd s (CORE_EVT_SEL g), rd s (CORE_SAMP_CFG g)]⟩

/-- The panel block: PWR, hold, FLT, SEC and PMU counters. -/
def panelWords (s : State) : List W64 :=
  snaps s (basePPwr + 0x100) 6 ++ [rd s CLK_HOLDS, rd s CLK_HOLD_NS] ++ snaps s (basePFlt + 0x300) 6 ++ snaps s (basePSec + 0x300) 2
    ++ snaps s (basePPmu + 0x100) 3

/-- Every block, in TYPE order and then UNIT order. -/
def allBlocks (s : State) : List SnapBlock :=
  let sites := (List.range 144).filter (fun k => siteState s k != 2)
  let gids := sites.flatMap (enabledCores s)
  let edges := (List.range 16).filter (edgeInService s)
  let ports := (List.range 128).filter (portEnabled s)
  let nStk := (List.range 32).filter (stackEnabled s)
  let ps := partOfSite s
  let pe := partOfEdge s
  gids.map (coreBlock s)
    ++ (gids.map (fun g => (⟨2, g, ps (g / 64), sampleWords s g⟩ : SnapBlock))).filter (fun b => !b.words.isEmpty)
    ++ sites.map (fun k => ⟨3, k, ps k, snaps s (BSN_CE k) 6⟩)
    ++ sites.map (fun k => ⟨4, k, ps k, (List.range 8).flatMap (fun i => snaps s (RIL_DPORTp_PKTS k i) 5) ++ snaps s (RIL_SPORTo_SLICES k 0) 10⟩)
    ++ sites.map (fun k => ⟨5, k, ps k, snaps s (baseCsc k + 0x100) 5⟩)
    ++ sites.map (fun k => ⟨6, k, ps k, snaps s (baseClk k + 0x100) 5 ++ (List.range 10).map (weirWord s k)⟩)
    ++ edges.map (fun e => ⟨6, 144 + e, pe e, snaps s (baseClk (144 + e) + 0x100) 5 ++ (List.range 10).map (weirWord s (144 + e))⟩)
    ++ sites.map (fun k => ⟨7, k, ps k, snaps s (SITE_STRM_ISSUED k) 3⟩)
    ++ sites.map (fun k => ⟨8, k, ps k, snaps s (PWR_SITE_BOOSTS k) 3⟩)
    ++ nStk.flatMap (fun h => (List.range 32).map (fun c => ⟨9, 32 * h + c, pe (h / 2), snaps s (HBM_CHc_RD h c) 5⟩))
    ++ edges.map (fun e => ⟨10, e, pe e, snaps s (STM_ACCEPTED e) 9⟩)
    ++ ports.map (fun p => ⟨11, p, pe (p / 8), snaps s (SUO_PORTp_TXF (p / 8) (p % 8)) 10⟩)
    ++ [⟨12, 0, 4, panelWords s⟩]

/-- The bytes of a block. -/
def blockBytes (b : SnapBlock) : List Byte :=
  bytesOf 1 b.typ ++ bytesOf 1 0 ++ bytesOf 2 b.unit ++ bytesOf 2 b.words.length ++ bytesOf 2 0 ++ b.words.flatMap (fun w => bytesOf 8 w.toNat)

/-- The record that shows the blocks of some partitions and the panel block. -/
def snapshot (s : State) (shows : Nat → Bool) : List Byte :=
  let bs := s.pnl.pmu.blocks.filter (fun b => b.part == 4 || shows b.part)
  let body := bs.flatMap blockBytes
  let parts := (List.range 4).foldl (fun acc p => if bs.any (fun b => b.part == p) then acc + 2 ^ p else acc) 0
  bytesOf 4 0x53504E53 ++ bytesOf 2 1 ++ bytesOf 1 parts ++ bytesOf 1 (if s.pnl.ovfPend.isEmpty then 0 else 1)
    ++ bytesOf 4 (rf s PMU_STATUS Fd.PMU_STATUS_FREEZE_SEQ) ++ bytesOf 4 (64 + body.length) ++ bytesOf 8 (rd s PMU_FREEZE_SC).toNat
    ++ bytesOf 8 s.pnl.pmu.sec ++ bytesOf 4 s.pnl.pmu.ns ++ bytesOf 4 (rf s BOOT_FPR_GEN Fd.BOOT_FPR_GEN_GEN) ++ bytesOf 4 bs.length
    ++ bytesOf 20 0 ++ body

/-- First byte of the collector buffer (R558, R561). -/
def collectorBase (s : State) : Nat := (rd s PMU_BUF).toNat

/-- The whole record goes to the collector buffer, which holds nothing else (R558). -/
def fillBuffer (s : State) : State :=
  let a := collectorBase s
  let bs := (snapshot s (fun _ => true)).take 0x400_0000
  let es := (bs.zipIdx.filter (fun b => b.1 != memUnlisted 0)).map (fun b => (a + b.2, b.1))
  let s := s.setMem (sreplace a (a + 0x400_0000) es s.mem)
  s.setLineKey (sreplace (a / 64) ((a + 0x400_0000) / 64) ((List.range ((bs.length + 63) / 64)).map (fun i => (a / 64 + i, some (tagNow s 0 (a + 64 * i))))) s.lineKey)

/-- A zeroise drops a partition's blocks from a record that is not yet delivered (R522). -/
def dropBlocks (s : State) (p : Nat) : State :=
  if s.pnl.pmu.blocks.any (fun b => b.part == p) then
    fillBuffer (modPnl s (fun q => { q with pmu := { q.pmu with blocks := q.pmu.blocks.filter (fun b => b.part != p) } }))
  else s

end Sys2Proof.Machine
end

