-- ==== Sys2Proof/Machine/Reset.lean ====
section
/-!
DEFINITION. What unloading, zeroising and resetting share: emptying tables (R472), clearing cores (R103), the steps of a zeroise (R522), and
what each reset scope resets and keeps (R473).
-/
namespace Sys2Proof.Machine

/-- Whether a number lies in one of the ranges (first, length). -/
def inRanges (rs : List (Nat × Nat)) (a : Nat) : Bool := rs.any (fun r => Nat.ble r.1 a && Nat.blt a (r.1 + r.2))

/-- Drop the registers in address ranges, so that they read their reset values. -/
def dropCsr (s : State) (rs : List (Nat × Nat)) : State := s.setCsr (sdrop (inRanges rs) s.csr)

/-- Drop table rows. -/
def dropTab (s : State) (rs : List (Nat × Nat)) : State := s.setTables (sdrop (inRanges rs) s.tables)

/-! Emptying tables. -/

/-- Key ranges of a site's router, Cascade and issue tables, of a domain's boundary table, of an edge die's program. -/
def routerRanges (k : Nat) : List (Nat × Nat) := [(hopKey k 0, 8192), (cfgKey k 0, 512), (bpdKey k 0, 256), (phaseKey k 0, 256)]
def cascadeRange (k : Nat) : Nat × Nat := (cscKey k 0, 1024)
def issueRange (k : Nat) : Nat × Nat := (sitKey k 0, 256)
def bndRange (d : Nat) : Nat × Nat := (bndKey d 0, 1024)
def edgeRanges (e : Nat) : List (Nat × Nat) := [(edgeHopKey e 0, 8192), (edgeCfgKey e 0 0, 512 * 32), (edgePhaseKey e 0 0, 512)]

/-- The router runs the empty program. -/
def emptyRouter (s : State) (k : Nat) : State := wf (dropTab s (routerRanges k)) (RIL_STATUS k) Fd.RIL_STATUS_EMPTY 1

/-- The boundary table reads 0, and the walk places no further boundary (R281). -/
def emptyBoundary (s : State) (d : Nat) : State :=
  let s := dropTab s [bndRange d]
  if bndValid s d then placePhase s d (rf s (CLK_BND_NEXT d) Fd.CLK_BND_NEXT_ROW) (dom s d).bndStart else s

/-- The edge die runs the empty program, with its queues. -/
def emptyEdge (s : State) (e : Nat) : State :=
  modEdge (dropTab s (edgeRanges e)) e (fun x => { x with progEmpty := true, progEntry := 0, progStart := 0, progLoop := 0, progRep := 0, latch := [] })

/-- Every table of a site (R472). -/
def emptySite (s : State) (k : Nat) : State :=
  let s := emptyBoundary (dropTab (emptyRouter s k) [cascadeRange k, issueRange k]) k
  modSite s k (fun x => { x with arms := [], strmQ := [] })

/-- Cores HALTED, then CLEARed (R472). -/
def unloadCore (s : State) (g : Nat) : State := if coreState s g = 0 then s else wf (setCoreState s g 1) (CORE_CTRL g) Fd.CORE_CTRL_ARM 0

/-- Unload a partition's image (R472). -/
def unloadPart (s : State) (p : Nat) : State :=
  let s := (sitesOf s p).foldl (fun s k =>
    let s := leaveSleep ((List.range 64).foldl (fun s i => unloadCore s (64 * k + i)) s) k
    modSite (settleCauses (emptySite s k) k) k (fun x => { x with retired := false, out := false })) s
  let s := (edgesOf s p).foldl (fun s e => (List.range 8).foldl (fun s i => unmapPort s (8 * e + i)) (emptyBoundary (emptyEdge s e) (144 + e))) s
  let s := modPart s p (fun x => { x with image := Option.none, uses := [] })
  let s := wr s (BOOT_LOAD_STATUSp p) 0#64
  (List.range 16).foldl (fun s e => if (List.range 4).any (fun q => imageLoaded s q && (part s q).uses.contains (5, e)) then s
    else wf s (SUO_PROG_ERR e) Fd.SUO_PROG_ERR_LOCK 0) s

/-! Cores. -/

/-- Core reset (R103, R169): every register of the core's section to its reset value, the core IDLE, no index-match entry in use; no store is
cleared. DESIGN CHOICE (log entry 128): operations in flight are discarded, but the basin accesses that the core had queued still take place. -/
def resetCore (s : State) (g : Nat) : State :=
  let s := dropCsr s [(baseCore g, 0x240), (CORE_IM_STATUS g, 8)]
  modCore s g (fun x => { CoreX.init with
    awake := x.awake, evtSel := x.evtSel, sampCfg := x.sampCfg, evtStaged := x.evtStaged, sampStaged := x.sampStaged,
    sampNext := x.sampNext, marked := x.marked, collected := x.collected })

/-- Clear a core (R522, step 4): every register, descriptor, predicate and store, the loop stack and the index match memory. -/
def wipeCore (s : State) (g : Nat) : State :=
  let s := dropCsr s [(baseCore g, 0x800), (baseCore g + 0x900, 0x1700)]
  let s := s.setCmem (sdrop (inRanges [(ckey g 0, 0x10_0000)]) s.cmem)
  let s := s.setVregs (sdrop (inRanges [(vkey g 0, 32)]) s.vregs)
  modCore s g (fun x => { CoreX.init with awake := x.awake })

/-- Clear counters in address ranges, leaving OVF (R546). -/
def clearCounters (s : State) (rs : List (Nat × Nat)) : State :=
  let keep := fun (w : W64) => w &&& BitVec.ofNat 64 (2 ^ 63)
  let counter := fun (a : Nat) => inRanges rs a && (match locate a with | some (b, _, o) => isCounter b o | Option.none => false)
  let s := s.setLive (s.live.filterMap (fun e => if counter e.1 then (if keep e.2 = 0#64 then Option.none else some (e.1, keep e.2)) else some e))
  s.setCsr (s.csr.filterMap (fun e => if counter e.1 then (if keep e.2 = 0#64 then Option.none else some (e.1, keep e.2)) else some e))

/-! Zeroise. -/

/-- Bytes of region 187 of a site's basin. -/
def region187 (k : Nat) : Nat × Nat := (basinBase k + 187 * 0x10_0000, 0x10_0000)

/-- Clear a site (R522, steps 4 and 5): its cores, by the zero-fill engine every basin region except 187 (R194), router channels, Cascade pipes, weirs; no request of the job waits
at its basins any more. A site that has become a
hole has its rails turned off instead (R524). -/
def wipeSite (s : State) (k : Nat) : State :=
  if siteState s k = 2 then siteOff s k
  else
    let s := clearCounters ((List.range 64).foldl (fun s i => wipeCore s (64 * k + i)) s) [(siteCsr k, 0x10_0000)]
    let s := startZeroFill s k ((List.range 192).filter (fun r => r != 187))
    let s := s.setChans (sdrop (inRanges [(chanKey k 0, 1024)]) s.chans)
    let s := modSite s k (fun x => { x with
      kin := [], kdead := [], klate := [], ki := [], ko := [], chanQ := [], chanR := [], bankQ := [], landQ := [], strmQ := [], arms := [], inbox := [],
      maint := x.maint.filter (fun m => match m.req with | .steward => true | .edge _ => true | _ => false) })
    let s := (List.range 16).foldl (fun s j => showPipe s k j) s
    modDom s k (fun x => { x with ring := [], wire := [] })

/-- Whether a byte of the stream table belongs to an entry of partition `p` (R314, R522). -/
def entryByteOf (s : State) (p a : Nat) : Bool :=
  let b := tableBase s
  Nat.ble (b + 64) a && Nat.blt a (b + 0x400_0000) && (memRead s ((a - b) / 64 * 64 + b + 1)).toNat / 4 % 4 == p

/-- Whether a packet carries a stream's data, fetch or issue (R226). -/
def streamPkt (p : DynPkt) : Bool := Nat.ble 1 p.kind.toNat && Nat.ble p.kind.toNat 3

/-- Clear an edge die (R522, step 6); packets of the job's streams that wait in it are gone with it (R338). -/
def wipeEdge (s : State) (e : Nat) : State :=
  let s := (List.range 8).foldl (fun s i => showPort (modPort s (8 * e + i) (fun x => { x with opn := [], txq := [], rxw := [], dynWait := [] })) (8 * e + i)) s
  clearCounters (dropCsr (modEdge s e (fun x => { x with
    cache := [], walks := [], ecBusy := Option.none, pieces := []
    inbox := x.inbox.filter (fun p => !streamPkt p)
    outQ := x.outQ.filter (fun p => !streamPkt p)
    dropped := [] })) [(baseEc e, 0x100)]) [(edgeCsr e, 0x100_0000)]

/-- Key slots of a partition. -/
def slotsOf (s : State) (p : Nat) : List Nat := (List.range 32).filter (fun i => partOfKey s i == some p)

/-- Set or clear a slot's bits in SEC_SLOTS and in the edge dies that hold it (R507, R525, R526). -/
def showSlot (s : State) (slot : Nat) (loaded imported : Bool) : State :=
  let s := wfb (wfb s SEC_SLOTS ⟨slot, 1, .ro⟩ loaded) SEC_SLOTS ⟨32 + slot, 1, .ro⟩ imported
  (List.range 16).foldl (fun s e =>
    let own := match partOfKey s slot with | some p => partOfEdge s e == p | Option.none => true
    wfb s (SEC_EDGE_STATUS e) ⟨32 + slot, 1, .ro⟩ (loaded && own && edgeInService s e)) s

/-- A slot takes keys drawn anew (R506): what was written under the old ones no longer reads true. -/
def newKey (s : State) (slot : Nat) : State := setTab (setTab s (slotKey slot) (tab s (slotKey slot) + 1)) (slotImport slot) 0

/-- Destroy a slot (R507). -/
def destroySlot (s : State) (slot : Nat) : State := showSlot (newKey s slot) slot false false

/-- Whether a partition has cores that are ARMED, RUN or SLEEP. -/
def partBusy (s : State) (p : Nat) : Bool :=
  (sitesOf s p).any (fun k => (List.range 64).any (fun i => let st := coreState s (64 * k + i); Nat.ble 2 st && Nat.ble st 4))

/-- Steps 1 to 6 of a zeroise, and the fresh keys of step 7 (R522). The partition is no longer owned, so its owner session is one no more. A hold raised for it carries cause SOFTWARE and is released after step 2. -/
def zeroiseStart (s : State) (p : Nat) : State :=
  let hold := partBusy s p
  let s := if hold then stewardHold s hSoftware else s
  let s := if inService s p then retire s p else s
  let s := unloadPart (abortLoad s p) p
  let s := modPart ((edgesOf s p).foldl (fun s e => abandonStreams s e p) s) p (fun x => { x with landsOff := true })
  let s := wf (wf s (SEC_PARTp p) Fd.SEC_PARTp_STATE 3) SEC_ZEROIZE ⟨4 + p, 1, .ro⟩ 1
  let s := modPnl s (fun q => { q with sessions := q.sessions.map (fun x => if x.kind = 2 + p then { x with kind := 0 } else x) })
  let s := wf s SEC_ZEROIZE ⟨8 + p, 1, .ro⟩ 0
  let s := (sitesOf s p).foldl (fun s k => readySite s k false) s
  let s := ((List.range 32).filter (fun h => partOfEdge s (h / 2) == p)).foldl (fun s h => readyStack s h false) s
  let s := (slotsOf s p).foldl destroySlot s
  let s := if hold ∧ rf s CLK_HOLD_CTRL Fd.CLK_HOLD_CTRL_SOFT = 0 then stewardClear s hSoftware else s
  let s := (sitesOf s p).foldl (fun s k => if (site s k).sleep = 0 then s else requestWake s k) s
  let s := (sitesOf s p).foldl wipeSite s
  let s := (edgesOf s p).foldl wipeEdge s
  let s := s.setMem (s.mem.filter (fun c => !entryByteOf s p c.1))
  let s := (List.range 16).foldl (fun s e => modEdge s e (fun x => { x with cache := x.cache.filter (fun c => ePart c.2 != p) })) s
  let s := (slotsOf s p).foldl (fun s i => showSlot s i true false) (dropBlocks s p)
  modPart s p (fun x => { x with load := Option.none, zero := some hold })

/-- Address ranges that a zeroise fills: the partition's slices, without the stream table and the collector buffer (R522, step 7). -/
def fillsOf (s : State) (p : Nat) (keep : List (Nat × Nat)) (a : Nat) : Bool :=
  Nat.blt a 0x0400_0000_0000 && (slicesOf s p).contains (a / 0x10_0000_0000) && !inRanges keep a

/-- The fill of step 7 completes, and step 8: DONE is set and the partition is UNBOUND. -/
def zeroiseFinish (s : State) (p : Nat) (keep : List (Nat × Nat)) : State :=
  let s := ((sitesOf s p).filter (fun k => siteState s k != 2)).foldl finishZeroFill s
  let fills := fillsOf s p keep
  let s := s.setMem (sdrop fills s.mem)
  let s := clearMarks (s.setLineKey (sdrop (fun l => fills (64 * l)) s.lineKey)) (fun l => fills (64 * l))
  let s := (slicesOf s p).foldl (fun s i => (List.range 64).foldl (fun s q => setTab s (fillKey i q) (tab s (bandKey q))) s) s
  let s := wf (wf s SEC_ZEROIZE ⟨4 + p, 1, .ro⟩ 0) SEC_ZEROIZE ⟨8 + p, 1, .ro⟩ 1
  let s := wf s (SEC_PARTp p) Fd.SEC_PARTp_STATE 0
  let s := wf (wf s (SEC_PARTp p) Fd.SEC_PARTp_PMU_GRANT 0) (SEC_PARTp p) Fd.SEC_PARTp_TDI_RUN 0
  let s := ((sitesOf s p).filter (fun k => siteState s k == 0)).foldl (fun s k => readySite s k true) s
  let s := ((List.range 32).filter (fun h => partOfEdge s (h / 2) == p && stackEnabled s h)).foldl (fun s h => readyStack s h true) s
  bump (modPart s p (fun x => { x with zero := Option.none })) SEC_ZEROISES 1

/-! Scopes of R473. -/

/-- Reset a site's compute die: its cores under R103; the site's router keeps forwarding (R218, R499). The SITE bit falls until the die passes its check; a dark site is left dark. -/
def resetCompute (s : State) (k : Nat) : State :=
  if siteState s k = 0 then readySite (leaveSleep ((List.range 64).foldl (fun s i => resetCore s (64 * k + i)) s) k) k false else s

/-- Panel compute: every compute die, SCP, issue table and boundary table; VALID = 0. Routers and edge programs go on (R218, R499). -/
def resetPanelCompute (s : State) : State :=
  let s := (List.range 144).foldl (fun s k =>
    let s := dropTab (resetCompute s k) [issueRange k, bndRange k]
    modSite (wf s (SITE_SIT_LOAD_CTRL k) ldBusy 0) k (fun x => { x with arms := [], strmQ := [], sitJob := Option.none })) s
  let s := (List.range 16).foldl (fun s e => dropTab s [bndRange (144 + e)]) s
  (List.range 160).foldl (fun s d =>
    modDom (wf (wf s (CLK_BND_CFG d) Fd.CLK_BND_CFG_VALID 0) (CLK_BND_LOAD_CTRL d) ldBusy 0) d (fun x => { x with bndJob := Option.none })) s

/-- Network: panel compute, router tables and queues, Cascade units, edge programs and their queues; ports to DOWN; weir contents flushed. -/
def resetNetwork (s : State) : State :=
  let s := resetPanelCompute s
  let s := (List.range 144).foldl (fun s k =>
    let s := wf (dropCsr (dropTab (emptyRouter s k) [cascadeRange k]) [(baseCsc k, 0x1_0000)]) (RIL_LOAD_CTRL k) ldBusy 0
    let s := s.setChans (sdrop (inRanges [(chanKey k 0, 1024)]) s.chans)
    modSite s k (fun x => { x with
      chanQ := [], chanR := [], ki := [], ko := [], kin := [], kdead := [], klate := [], outQ := [], dynQ := [], moves := [], used := [], credBack := [], rr := [], landQ := [],
      inbox := [], dropped := [], rilJob := Option.none, cscJob := Option.none, routed := Option.none })) s
  let s := (List.range 16).foldl (fun s e => modEdge (emptyEdge s e) e (fun x => { x with
    inbox := [], outQ := [], dropped := [], transit := [], arrived := [], pieces := [], rend := [], past := [] })) s
  let s := (List.range 128).foldl (fun s p => if portState s p = 0 then s else portDown s p) s
  (List.range 160).foldl (fun s d => modDom s d (fun x => { x with ring := [], wire := [] })) s

/-- Registers of the always-on domain and of fuses, which a full-panel reset keeps: bring-up status, floor plan record and fuses; the fault
log and the lease; TIME; the lifecycle state. -/
def alwaysOn : List (Nat × Nat) :=
  [(BOOT_STATUS, 8), (BOOT_RESET, 8), (BOOT_FPR_GEN, 16), (BOOT_FPR_BUFb_n 0 0, 0x2000), (FUSE_INFO, 0x1000), (FLT_STATUS, 16),
   (FLT_LEASE, 0x18), (SEC_LIFECYCLE, 8), (basePTime, 0x1000)]

/-- Registers that hold what the eFuses and the NVM hold, which a power-on reset keeps. -/
def nonVolatile : List (Nat × Nat) := [(FUSE_INFO, 0x1000), (SEC_LIFECYCLE, 8)]

/-- Whether an address is that of a dynamic-resistance record, whose baseline stands in NVM (R430, R451). -/
def isRdyn (a : Nat) : Bool := (List.range 144).any (fun k => (List.range 3).any (fun r => PWR_RDYNr k r == a))

/-- What a register keeps over a reset that spares the NVM: of a dynamic-resistance record the baseline, of any other all (R430). -/
def keptWord (e : Nat × W64) : Option (Nat × W64) :=
  if isRdyn e.1 then (let v := e.2 &&& 0x1_FFFF_0000#64; if v = 0#64 then Option.none else some (e.1, v)) else some e

/-- What a table entry keeps: of a thermal-resistance record the baseline (R437), of any other all. -/
def keptEntry (e : Nat × Nat) : Option (Nat × Nat) :=
  if inRanges [(tk 21, 2 ^ 40)] e.1 then
    (let v := bf e.2 16 17 * 2 ^ 16; if v = 0 then Option.none else some (e.1, v))
  else some e

/-- Key ranges of tables that a full-panel reset keeps: unit causes, cycle counts and their copy, thermal-resistance records, site causes. -/
def keptTables : List (Nat × Nat) := [(tk 1, 2 ^ 40), (tk 18, 2 ^ 41), (tk 21, 2 ^ 40), (tk 23, 2 ^ 40)]

/-- Full panel: everything but the always-on domain and region 187; every partition zeroised (R473). `warm` is the start that follows. -/
def resetFull (s : State) (warm : Bool) : State :=
  let n := State.reset
  let p := s.pnl
  { n with
    csr := (s.csr.filter (fun e => inRanges alwaysOn e.1 || isRdyn e.1)).filterMap keptWord
    mem := s.mem.filter (fun c => (List.range 144).any (fun k => inRanges [region187 k] c.1))
    tables := (s.tables.filter (fun e => inRanges keptTables e.1)).filterMap keptEntry
    fresh := s.fresh
    pending := s.pending
    pnl := { PanelX.init with
      log := p.log
      nvmLog := p.nvmLog
      slices := p.slices
      wall := p.wall
      relReq := p.relReq
      pwr := { PowerX.init with step := 1, rdyn := p.pwr.rdyn, rth := p.pwr.rth, dieT := p.pwr.dieT, offLow := p.pwr.offLow }
      sec := { p.sec with tdiLocked := [] }
      time := p.time
      i3c := p.i3c
      boot := { p.boot with start := some warm, running := false, step := 0, units := [], fwTries := [], armedMs := Option.none, update := Option.none,
                              scope := 5, checks := [] } } }

/-- Power-on: everything but the NVM and the eFuses (R473). The fences of the stored floor plan record stand again (R49). -/
def resetPowerOn (s : State) : State :=
  let n := State.reset
  let p := s.pnl
  { n with
    csr := (s.csr.filter (fun e => inRanges nonVolatile e.1 || isRdyn e.1)).filterMap keptWord
    tables := sputs (fun _ => 0) p.boot.nvFences ((s.tables.filter (fun e => inRanges [(tk 19, 2 ^ 40), (tk 21, 2 ^ 40)] e.1)).filterMap keptEntry)
    fresh := s.fresh
    pending := s.pending
    pnl := { PanelX.init with
      nvmLog := p.nvmLog
      wall := p.wall
      sec := { p.sec with tdiLocked := [] }
      pwr := { PowerX.init with rdyn := p.pwr.rdyn, rth := p.pwr.rth }
      boot := { BootX.init with slotA := p.boot.slotA, slotB := p.boot.slotB, nvA := p.boot.nvA, nvB := p.boot.nvB, cntA := p.boot.cntA, cntB := p.boot.cntB, nvFences := p.boot.nvFences, nvm := p.boot.nvm } } }

end Sys2Proof.Machine
end

