-- ==== Sys2Proof/Machine/Time.lean ====
section
/-!
DEFINITION. Time: the tick (R540), a reader's shadows (R541, R544), setting and slewing (R542), and the PTP clock (R543).
-/
namespace Sys2Proof.Machine

def modTime (s : State) (f : TimeX → TimeX) : State := modPnl s (fun p => { p with time := f p.time })

/-- Seconds and nanoseconds of TIME change together (R540). -/
def setTime (s : State) (sec ns : Nat) : State := wf (wf s TIME_SEC Fd.TIME_SEC_SEC sec) TIME_NS Fd.TIME_NS_NS ns

/-- 40 ns in 2^-32 ns. -/
def tick40 : Int := 40 * 2 ^ 32

/-- SLEW_PPM in force. -/
def slewPpm (s : State) : Nat := rf s TIME_CFG Fd.TIME_CFG_SLEW_PPM

/-- What a tick may apply of a slew (R542). -/
def slewLimit (s : State) : Int := tick40 * (slewPpm s : Nat) / 1_000_000

/-- What this tick applies of the slew in force. -/
def slewStep (s : State) : Int := max (-(slewLimit s)) (min (slewLimit s) s.pnl.time.slew)

/-- The rate adjustment in force in ppb: the servo's and the slew's. -/
def rateNow (s : State) : Int :=
  let d := s.pnl.time.slew
  s.pnl.time.rate + (if d = 0 then 0 else if d < 0 then -(1000 * (slewPpm s : Int)) else 1000 * (slewPpm s : Int))

/-- Refresh RATE and SLEWING. -/
def showRate (s : State) : State :=
  let s := wf s TIME_OFFSET Fd.TIME_OFFSET_RATE (BitVec.ofInt 32 (rateNow s)).toNat
  wfb s TIME_STATUS Fd.TIME_STATUS_SLEWING (s.pnl.time.slew != 0)

/-- Order of the classes of readers at one tick (R542). -/
def readerOrder : Requester → Nat
  | .host _ _ => 0
  | .mgmt _ _ => 1
  | .scp _ => 2
  | _ => 3

/-- One command takes effect (R542). -/
def applyTimeCmd (s : State) (c : Requester × Nat) : State :=
  match c.2 with
  | 1 =>
    if rf s TIME_STATUS Fd.TIME_STATUS_VALID = 1 then csrError (wf s TIME_STATUS Fd.TIME_STATUS_STEP_REFUSED 1) c.1 true TIME_CMD
    else
      let s := setTime s (staged s c.1 TIME_SET_SEC % 2 ^ 48) (staged s c.1 TIME_SET_NS)
      wf (modTime s (fun x => { x with frac := 0 })) TIME_STATUS Fd.TIME_STATUS_VALID 1
  | 2 => modTime s (fun x => { x with slew := (BitVec.ofNat 64 (staged s c.1 TIME_ADJ)).toInt * 2 ^ 32 })
  | 3 => modTime s (fun x => { x with slew := 0 })
  | _ => s

/-- The commands of a tick, in the order of R542. -/
def tickCmds (s : State) : List (Requester × Nat) :=
  (List.range 4).flatMap (fun o => s.pnl.time.cmds.filter (fun c => readerOrder c.1 == o))

/-- TIME advances by 40 ns, scaled by the rate (R540). -/
def advanceTime (s : State) : State :=
  let d := slewStep s
  let total := (s.pnl.time.frac : Int) + tick40 + tick40 * s.pnl.time.rate / 1_000_000_000 + d
  let n := (total / 2 ^ 32).toNat
  let s := modTime s (fun x => { x with frac := (total % 2 ^ 32).toNat, slew := x.slew - d })
  let ns := timeNs s + n
  if ns < 1_000_000_000 then setTime s (timeSec s) ns else setTime s ((timeSec s + 1) % 2 ^ 48) (ns - 1_000_000_000)

/-- `TIME_TICK` (R540, R542): the commands that wait apply, and TIME advances unless this tick set it. -/
def execTimeTick (s : State) : Host.Outcome State Fault Refusal :=
  let was := rf s TIME_STATUS Fd.TIME_STATUS_VALID
  let s := (tickCmds s).foldl applyTimeCmd s
  let s := wf (modTime s (fun x => { x with cmds := [] })) TIME_STATUS Fd.TIME_STATUS_BUSY 0
  let step := was = 0 ∧ rf s TIME_STATUS Fd.TIME_STATUS_VALID = 1
  ok (showRate (if step then s else advanceTime s))

/-- A write of a staging register (R542). -/
def writeTimeStage (s : State) (req : Requester) (a : Nat) (v : W64) : State :=
  if rf s TIME_STATUS Fd.TIME_STATUS_BUSY = 1 then csrError s req true a
  else if a = TIME_SET_NS then
    if 1_000_000_000 ≤ v.toNat % 2 ^ 30 then csrError s req true a else setStaged s req a (v.toNat % 2 ^ 30)
  else if a = TIME_SET_SEC then setStaged s req a (v.toNat % 2 ^ 48)
  else setStaged s req a v.toNat

/-- A write of TIME_CMD (R542): it waits for the next tick. -/
def writeTimeCmd (s : State) (req : Requester) (v : W64) : State :=
  let op := fget Fd.TIME_CMD_OP v
  if op = 0 then s else wf (modTime s (fun x => { x with cmds := x.cmds ++ [(req, op)] })) TIME_STATUS Fd.TIME_STATUS_BUSY 1

/-- `TIME_SET` (R542). -/
def execTimeSet (req : Requester) (s : State) : Host.Outcome State Fault Refusal :=
  ok (guardCsr s req TIME_CMD true (fun s => writeTimeCmd s req 1#64))

/-- `TIME_SLEW` (R542). -/
def execTimeSlew (req : Requester) (s : State) : Host.Outcome State Fault Refusal :=
  ok (guardCsr s req TIME_CMD true (fun s => writeTimeCmd s req 2#64))

/-- `TIME_CANCEL` (R542). -/
def execTimeCancel (req : Requester) (s : State) : Host.Outcome State Fault Refusal :=
  ok (guardCsr s req TIME_CMD true (fun s => writeTimeCmd s req 3#64))

/-! Shadows. -/

/-- A read of TIME_NS latches TIME_SEC (R541). -/
def latchTime (s : State) (req : Requester) : State := setStaged s req TIME_SEC_SHADOW (timeSec s)

/-- A read of TIME_MARK_SEQ latches the three mark registers (R541). -/
def latchMarks (s : State) (req : Requester) : State :=
  [TIME_MARK_SC, TIME_MARK_SEC, TIME_MARK_NS].foldl (fun s a => setStaged s req a (rd s a).toNat) s

/-- Key of a reader's shadow of a domain's CLK_MARK_SC. -/
def markKey (req : Requester) (d : Nat) : Nat := tk 24 + readerIdx req * 256 + d

/-- A read of CLK_MARK latches CLK_MARK_SC (R544). -/
def latchClkMark (s : State) (req : Requester) (d : Nat) : State := setTab s (markKey req d) (rd s (CLK_MARK_SC d)).toNat

/-- Answer a register read with its word. -/
def answer (s : State) (w : W64) : State := reply s true (bytesOf 8 w.toNat)

/-- `TIME_NS_READ` (R541). -/
def execTimeNsRead (req : Requester) (s : State) : Host.Outcome State Fault Refusal :=
  ok (guardCsr s req TIME_NS false (fun s => answer (latchTime s req) (rd s TIME_NS)))

/-- `TIME_MARK_SEQ_READ` (R541). -/
def execTimeMarkSeqRead (req : Requester) (s : State) : Host.Outcome State Fault Refusal :=
  ok (guardCsr s req TIME_MARK_SEQ false (fun s => answer (latchMarks s req) (rd s TIME_MARK_SEQ)))

/-- `CLK_MARK_READ` (R544). -/
def execClkMarkRead (req : Requester) (d : Dom) (s : State) : Host.Outcome State Fault Refusal :=
  ok (guardCsr s req (CLK_MARK d.val) false (fun s => answer (latchClkMark s req d.val) (rd s (CLK_MARK d.val))))

/-! PTP. -/

/-- LOCKED and HOLDOVER; a change raises the TIME cause (R532). -/
def setLock (s : State) (locked hold : Bool) : State :=
  let same := (rf s TIME_STATUS Fd.TIME_STATUS_LOCKED == 1) == locked && (rf s TIME_STATUS Fd.TIME_STATUS_HOLDOVER == 1) == hold
  let s := wfb (wfb s TIME_STATUS Fd.TIME_STATUS_LOCKED locked) TIME_STATUS Fd.TIME_STATUS_HOLDOVER hold
  if same then s else hostCauseAll s 5

/-- The servo's new rate within SLEW_PPM (R543). The manual gives no control law: the value is free. -/
def servo (s : State) : State :=
  let f := takeFree 32 s
  let lim : Int := 1000 * (slewPpm s : Int)
  showRate (modTime f.2 (fun x => { x with rate := (f.1.toNat : Int) % (2 * lim + 1) - lim }))

/-- `PTP_MESSAGE` (R543): a measured offset on the chosen master's port. -/
def execPtpMessage (pt : Fin 2) (m : PtpMsg) (s : State) : Host.Outcome State Fault Refusal :=
  if rf s TIME_CFG Fd.TIME_CFG_PTP_EN = 0 ∨ !portOn s pt.val then ok s
  else
    let s := (List.range 2).foldl (fun s n => wfb s (MGT_PORTn_STATUS n) Fd.MGT_PORTn_STATUS_PTP_SRC (n == pt.val)) s
    let s := wf s TIME_OFFSET Fd.TIME_OFFSET_OFFSET (BitVec.ofInt 32 m.offsetNs).toNat
    let s := match m.utc with
      | some u => wf (wf s TIME_UTC Fd.TIME_UTC_OFFSET u.toNat) TIME_UTC Fd.TIME_UTC_VALID 1
      | Option.none => s
    let first := rf s TIME_STATUS Fd.TIME_STATUS_VALID = 0 ∧ !s.pnl.time.ptpSet
    let s := if first then setTime (modTime s (fun x => { x with ptpSet := true, frac := 0 })) m.seconds.toNat (m.nanos % 1_000_000_000) else servo s
    let locked := decide (m.offsetNs.natAbs < 1000) && Nat.ble 10_000 m.stableMs
    let s := if locked then wf s TIME_STATUS Fd.TIME_STATUS_VALID 1 else s
    ok (setLock s locked false)

/-- `PTP_HOLDOVER` (R543): 3 s without a valid Sync; TIME runs at its last rate. -/
def execPtpHoldover (s : State) : Host.Outcome State Fault Refusal :=
  if rf s TIME_CFG Fd.TIME_CFG_PTP_EN = 0 then ok s else ok (setLock s (rf s TIME_STATUS Fd.TIME_STATUS_LOCKED == 1) true)

end Sys2Proof.Machine
end

