-- ==== Sys2Proof/Machine/Pmu.lean ====
section
/-!
DEFINITION. Counters, freezes and samples (R546 to R561): the latch at F, the collector's gathering, the release, precise samples, and the
programme registers.
-/
namespace Sys2Proof.Machine

def modPmu (s : State) (f : PmuX → PmuX) : State := modPnl s (fun p => { p with pmu := f p.pmu })

/-- Whether a freeze is in force (R549), and its F. -/
def freezeOn (s : State) : Bool := rf s PMU_STATUS Fd.PMU_STATUS_IN_FORCE == 1
def freezeAt (s : State) : Nat := (rd s PMU_FREEZE_SC).toNat

/-- Whether nothing of a domain has issued at its SC yet. -/
def unissued (s : State) (d : Nat) : Bool :=
  Nat.ble 144 d || ((site s d).routed != some (scOf s d) && (List.range 64).all (fun i => (core s (64 * d + i)).issued != some (scOf s d)))

/-- The SC that a domain has issued last: the F of a latch now (R548). -/
def freezeSc (s : State) (d : Nat) : Nat := scOf s d - 1

/-- Whether a domain latches now (R547, R548): the SC that it has issued last is an F, and the copy takes all of that SC and of the cycles up to the
issue of F + 1. -/
def atFreeze (s : State) (d : Nat) : Bool :=
  rf s PMU_CFG Fd.PMU_CFG_EN == 1 && aligned s d && !held s d && decide (scOf s d ≠ 0) && unissued s d
    && freezeSc s d % 2 ^ rf s PMU_CFG Fd.PMU_CFG_LOG2P == 0

/-! The latch. -/

/-- Copy the live counters of an address range into the registers that reads return (R548). -/
def latchRange (s : State) (lo n : Nat) : State :=
  let counter := fun (a : Nat) => inRanges [(lo, n)] a && (match locate a with | some (b, _, o) => isCounter b o | Option.none => false)
  let keys := ((s.live.map (fun e => e.1)) ++ (s.csr.map (fun e => e.1))).filter counter
  keys.foldl (fun s a => wr s a (live s a)) s

/-- Latch a weir's extremes since the last snapshot; those of the next interval begin at the gauge now. -/
def latchWeir (s : State) (d w : Nat) : State :=
  let a := WEIRn_STATUS d w
  let old := (live s a).toNat
  let s := wf (wf s a Fd.WEIRn_STATUS_MIN (gaugeOf (old % 64))) a Fd.WEIRn_STATUS_MAX (gaugeOf (old / 64 % 64))
  let now := gaugeCode (gauge s d w)
  s.setLive (sput (fun _ => 0#64) a (if weirOn s d w then BitVec.ofNat 64 (now + 64 * now) else 0#64) s.live)

/-- Latch the depths of a router input (R237). -/
def latchDepth (s : State) (k i : Nat) : State :=
  let a := RIL_DPORTp_DEPTH k i
  let old := (live s a).toNat
  let x := site s k
  let s := wr s a (fset Fd.RIL_DPORTp_DEPTH_VC1_MAX (old / 256 % 256) (fset Fd.RIL_DPORTp_DEPTH_VC0_MAX (old % 256)
    (fset Fd.RIL_DPORTp_DEPTH_VC1_NOW (queued x i 1) (fset Fd.RIL_DPORTp_DEPTH_VC0_NOW (queued x i 0) 0#64))))
  s.setLive (sput (fun _ => 0#64) a (BitVec.ofNat 64 (queued x i 0 + 256 * queued x i 1)) s.live)

/-- The staged programme of a core takes effect (R551). -/
def applyProgramme (s : State) (g : Nat) : State :=
  modCore s g (fun x => { x with
    evtSel := x.evtStaged.getD x.evtSel, sampCfg := x.sampStaged.getD x.sampCfg, evtStaged := Option.none, sampStaged := Option.none })

/-- The samples written so far are marked for collection (R557), and the programme in force is kept with the snapshot (R551). -/
def markSamples (s : State) (g : Nat) : State :=
  modCore (wr (wr s (CORE_EVT_SEL g) (core s g).evtSel) (CORE_SAMP_CFG g) (core s g).sampCfg) g (fun x => { x with marked := (live s (CORE_SAMP_WRITTEN g)).toNat % 2 ^ 32 })

/-- Gids of a site. -/
def coresOf (k : Nat) : List Nat := (List.range 64).map (fun i => 64 * k + i)

/-- A domain's snapshot. -/
def latchDomain (s : State) (d : Nat) : State :=
  if d < 144 then
    let s := latchRange s (siteCsr d) 0x10_0000
    let s := (List.range 10).foldl (fun s w => latchWeir s d w) s
    let s := (List.range 8).foldl (fun s i => latchDepth s d i) s
    (coresOf d).foldl markSamples s
  else
    let s := latchRange s (edgeCsr (d - 144)) 0x100_0000
    (List.range 3).foldl (fun s w => latchWeir s d w) s

/-- The panel's counters, with TIME at the reference latch. -/
def latchPanel (s : State) : State :=
  modPmu (latchRange s panelCsr 0x100_0000) (fun x => { x with sec := timeSec s, ns := timeNs s })

/-- The programme registers of a domain's cores take effect at F + 1 (R551). -/
def programmeDomain (s : State) (d : Nat) : State := if d < 144 then (coresOf d).foldl applyProgramme s else s

/-- The first latch of a freeze puts it in force. -/
def beginFreeze (s : State) (f : Nat) : State :=
  let s := wr s PMU_FREEZE_SC (BitVec.ofNat 64 f)
  let s := wf s PMU_STATUS Fd.PMU_STATUS_FREEZE_SEQ ((rf s PMU_STATUS Fd.PMU_STATUS_FREEZE_SEQ + 1) % 2 ^ 32)
  bump (wf s PMU_STATUS Fd.PMU_STATUS_IN_FORCE 1) PMU_FREEZES 1

/-- A freeze at F is skipped; it counts once (R549). -/
def skipFreeze (s : State) (f : Nat) : State :=
  if s.pnl.pmu.skipAt = some f then s
  else bump (wf (modPmu s (fun x => { x with skipAt := some f })) PMU_EVENTS Fd.PMU_EVENTS_SKIPPED 1) PMU_SKIPPED 1

/-- `FREEZE_LATCH` (R547 to R549, R551): at an F the domain latches, or skips while an earlier freeze is in force. -/
def execFreezeLatch (d : Dom) (s : State) : Host.Outcome State Fault Refusal :=
  let d := d.val
  let f := freezeSc s d
  if !atFreeze s d then ok s
  else if freezeOn s ∧ freezeAt s ≠ f then ok (programmeDomain (skipFreeze s f) d)
  else if freezeOn s ∧ (dom s d).frozen then ok s
  else
    let s := if freezeOn s then s else beginFreeze s f
    let s := modDom (latchDomain s d) d (fun x => { x with frozen := true })
    let s := if d = referenceDomain s then latchPanel s else s
    ok (programmeDomain s d)

/-! The collector. -/

/-- Functions that a record goes to (R560): the PF, and the VF of each partition. -/
def snapFns (s : State) : List Nat :=
  (List.range 10).filter (fun u => fnTakes s u 2 && (u % 5 == 0 || Nat.ble (u % 5) (partCount s)))

/-- Whether a record shows a partition's blocks to the PF and to management sessions. -/
def granted (s : State) (p : Nat) : Bool := rf s (SEC_PARTp p) Fd.SEC_PARTp_PMU_GRANT == 1

/-- The record that a function gets. -/
def snapFor (s : State) (u : Nat) : List Byte := snapshot s (if u % 5 = 0 then granted s else fun p => p == u % 5 - 1)

/-- `COLLECTOR_GATHER` (R558 to R560): once every domain in lockstep has latched, the collector reads the snapshots and marked samples into its
buffer, and offers the record to its recipients. -/
def execCollectorGather (s : State) : Host.Outcome State Fault Refusal :=
  if !freezeOn s ∨ s.pnl.pmu.sent ∨ (lockstep s).any (fun d => !(dom s d).frozen) then ok s
  else
    let s := fillBuffer (modPmu s (fun x => { x with blocks := allBlocks s, sent := true }))
    let s := s.setCores (smap (fun _ => CoreX.init) (fun x => { x with collected := x.marked }) s.cores)
    let s := bump (wf s PMU_STATUS Fd.PMU_STATUS_COLLECTING 1) PMU_BYTES (snapshot s (fun _ => true)).length
    let s := modPnl s (fun p => { p with hostQ := p.hostQ ++ (snapFns s).map (fun u => (u / 5, u % 5, 2, [])) })
    ok (mgtEvent s 5 [])

/-- Whether a recipient still waits for the record. -/
def awaits (s : State) : Bool :=
  s.pnl.hostQ.any (fun q => q.2.2.1 == 2) || s.pnl.sessions.any (fun x => x.queue.any (fun e => e.1 == 5))

/-- `FREEZE_RELEASE` (R550, R560): every recipient has received the record or dropped it; overflow events that waited are delivered. -/
def execFreezeRelease (s : State) : Host.Outcome State Fault Refusal :=
  if !freezeOn s ∨ !s.pnl.pmu.sent ∨ awaits s then ok s
  else
    let s := wf (wf s PMU_STATUS Fd.PMU_STATUS_IN_FORCE 0) PMU_STATUS Fd.PMU_STATUS_COLLECTING 0
    let s := s.setDoms (smap (fun _ => DomX.init) (fun x => { x with frozen := false }) s.doms)
    let waiting := s.pnl.ovfPend
    let s := modPnl s (fun p => { p with ovfPend := [], pmu := { p.pmu with blocks := [], sent := false } })
    ok (waiting.foldl ovfDeliver s)

/-! Counters. -/

/-- `COUNTER_OVERFLOW` (R237, R546, R550): a counter at its highest value counts one more. -/
def execCounterOverflow (a : BitVec 48) (s : State) : Host.Outcome State Fault Refusal :=
  let a := a.toNat
  let counter : Bool := match locate a with | some (b, _, o) => isCounter b o | Option.none => false
  if counter = true ∧ (live s a).toNat % 2 ^ 63 = 2 ^ counterWidth a - 1 then ok (bump s a 1) else ok s

/-! Samples (R555 to R557). -/

/-- A sample record's eight words. -/
def samplePut (s : State) (g : Nat) (p : PendSample) (seq : Nat) : State :=
  let held := ((live s (CLK_HELD (g / 64))).toNat % 2 ^ 48 + 2 ^ 48 - p.held0) % 2 ^ 48
  let land := if p.exec then p.due - p.issue else 0
  let words : List Nat :=
    [p.issue % 2 ^ 64,
     seq + (p.pc % 4096 + p.slot * 4096 + b2n p.exec * 32768) * 2 ^ 32 + p.variant % 4 * 2 ^ 48,
     min (p.due - p.issue + held) 0xFFFF_FFFF + land % 65536 * 2 ^ 32 + p.phase % 65536 * 2 ^ 48,
     min held 0xFFFF_FFFF] ++ (List.range 4).map (fun i => bf p.bundle.toNat (64 * i) 64)
  words.zipIdx.foldl (fun s w => wr s (CORE_SAMPn g (seq % 64 * 8 + w.2)) (BitVec.ofNat 64 w.1)) s

/-- `SAMPLE_WRITE` (R556, R557): the sampled operation has landed; a record that overwrites one not yet collected is counted. -/
def execSampleWrite (g : Gid) (s : State) : Host.Outcome State Fault Refusal :=
  let g := g.val
  match (core s g).samples.find? (fun p => Nat.ble p.due (scOf s (g / 64))) with
  | Option.none => ok s
  | some p =>
    let seq := (live s (CORE_SAMP_WRITTEN g)).toNat % 2 ^ 32
    let s := samplePut (modCore s g (fun x => { x with samples := x.samples.erase p })) g p seq
    let lost := 64 ≤ (seq + 2 ^ 32 - (core s g).collected) % 2 ^ 32
    ok (bump (if lost then bump s (CORE_SAMP_LOST g) 1 else s) (CORE_SAMP_WRITTEN g) 1)

/-- A write of CORE_EVT_SEL or CORE_SAMP_CFG is staged (R551, R554). -/
def writeProgramme (s : State) (req : Requester) (g : Nat) (samp : Bool) (v : W64) : State :=
  if coreState s g = 0 then csrError s req true (if samp then CORE_SAMP_CFG g else CORE_EVT_SEL g)
  else modCore s g (fun x => if samp then { x with sampStaged := some (v &&& BitVec.ofNat 64 (2 ^ 51 - 1)) }
    else { x with evtStaged := some (v &&& BitVec.ofNat 64 (2 ^ 32 - 1)) })

/-- `PROGRAMME_REGISTER_WRITE` (R551, R554): a write of CORE_SAMP_CFG or CORE_EVT_SEL. -/
def execProgrammeRegisterWrite (req : Requester) (g : Gid) (samp : Bool) (v : W64) (s : State) : Host.Outcome State Fault Refusal :=
  ok (guardCsr s req (if samp then CORE_SAMP_CFG g.val else CORE_EVT_SEL g.val) true (fun s => writeProgramme s req g.val samp v))

end Sys2Proof.Machine
end

