-- ==== Sys2Proof/Machine/Boot.lean ====
section
/-!
DEFINITION. The floor plan record and its publication (R40 to R53), the configuration NVM's slots (R451 to R458), cold and warm start (R459 to
R464), readiness (R465), the lock (R467), and the reset commands (R473 to R476).
-/
namespace Sys2Proof.Machine

def modBoot (s : State) (f : BootX → BootX) : State := modPnl s (fun p => { p with boot := f p.boot })

/-! The floor plan record. -/

/-- Key of the failed lanes of a group of a slice of a site's outgoing link (R202). -/
def laneKey (k l slice group : Nat) : Nat := ((k * 10 + l) * 16 + slice) * 8 + group

/-- Failed lanes of a group. -/
def failedLanes (s : State) (k l slice group : Nat) : Nat := sget (fun _ => 0) s.pnl.boot.lanes (laneKey k l slice group)

/-- Spare lanes in use on a site's outgoing links (R42). -/
def sparesUsed (s : State) (k : Nat) : Nat :=
  (s.pnl.boot.lanes.filter (fun e => inRanges [(laneKey k 0 0 0, 1280)] e.1)).foldl (fun n e => n + min 2 e.2) 0

/-- Bits as a number. -/
def bitsOf (n : Nat) (f : Nat → Bool) : Nat := (List.range n).foldl (fun acc i => if f i then acc + 2 ^ i else acc) 0

/-- A strap as read (R22): of site `k`, or 144 plus an edge die. -/
def strapOf (s : State) (u : Nat) : Nat := sget (fun _ => 0) s.pnl.boot.straps u

/-- Cause of a site's entry: that of its last change (R42). DESIGN CHOICE (log entry 124): where nothing but fused-off cores or the fused state of
the site has set it, it shows the factory fuse, 0x01. -/
def siteEntryCause (s : State) (k : Nat) : Nat :=
  let c := tab s (siteCauseKey k)
  if c ≠ 0 then c else if fuseSite s k ≠ 0 ∨ (rd s (FUSE_CORE_MASKn k)) ≠ BitVec.allOnes 64 then 1 else 0

/-- A site entry (R42). `big` stands for a number of spare lanes that its byte cannot hold. -/
def siteEntry (s : State) (big : Nat) (k : Nat) : List Byte :=
  let mask := bitsOf 64 (fun i => coreEnabled s (64 * k + i))
  let spares := sparesUsed s k
  bytesOf 8 mask ++ bytesOf 1 (siteState s k + 4 * (strapOf s k % 2)) ++ bytesOf 1 (enabledCores s k).length
    ++ bytesOf 1 (bitsOf 8 (linkUsable s k)) ++ bytesOf 1 (if spares < 256 then spares else big) ++ bytesOf 2 (siteEntryCause s k)
    ++ bytesOf 1 (bitsOf 2 (edgePortUsable s k)) ++ [0#8]

/-- Cause of an edge die in the record: what fenced it, or that no front site reaches it (R38, R43). -/
def edgeCause (s : State) (e : Nat) : Nat := if unitCause s 5 e ≠ 0 then unitCause s 5 e else if edgeInService s e then 0 else 5

/-- Cause of a stack or port of edge die `e` in the record: the factory fuse, what fenced it, or that a unit it depends on was fenced: the edge die,
or the engine of a port (R33, R46, R488). -/
def recordCause (s : State) (fused : Bool) (kind i e : Nat) : Nat :=
  if !fused then 1
  else if unitCause s kind i ≠ 0 then unitCause s kind i
  else if !edgeInService s e ∨ (kind = 8 ∧ unitCause s 9 e ≠ 0) then 7
  else 0

/-- An edge-die entry (R43). -/
def edgeEntryBytes (s : State) (e : Nat) : List Byte :=
  let gw := bf (rd s FUSE_GATEWAY).toNat (4 * (e / 2)) 4
  bytesOf 1 (b2n (!edgeInService s e) + 4 * strapOf s (144 + e)) ++ bytesOf 1 (bitsOf 2 (fun i => stackEnabled s (2 * e + i)))
    ++ bytesOf 1 (bitsOf 8 (fun i => portEnabled s (8 * e + i))) ++ bytesOf 1 (if gw / 8 = e % 2 then gw % 8 else 0xFF)
    ++ bytesOf 2 (edgeCause s e) ++ bytesOf 10 0

/-- Enabled stacks in ascending order: the slices of R28. -/
def sliceOrder (s : State) : List Nat := (List.range 32).filter (stackEnabled s)

/-- A stack entry (R44). -/
def stackEntryBytes (s : State) (h : Nat) : List Byte :=
  let fused := (rd s FUSE_STACK_MASK).getLsbD h
  let on := stackEnabled s h
  bytesOf 1 (if on then 0 else if fused then 2 else 1) ++ bytesOf 1 (if on then ((sliceOrder s).filter (fun t => Nat.blt t h)).length else 0xFF)
    ++ bytesOf 2 (recordCause s fused 6 h (h / 2)) ++ bytesOf 4 (if on then 0xFFFF_FFFF else 0)

/-- A port entry (R45). -/
def portEntryBytes (s : State) (p : Nat) : List Byte :=
  let fused := (rd s (FUSE_PORT_MASKn (p / 64))).getLsbD (p % 64)
  bytesOf 1 (if portEnabled s p then 0 else if fused then 2 else 1) ++ bytesOf 1 (b2n (isGateway s p)) ++ bytesOf 2 (recordCause s fused 8 p (p / 8))

/-- A steward entry (R45). -/
def stewardEntry (s : State) (g : Nat) : List Byte :=
  let act := rf s FLT_STEWARD Fd.FLT_STEWARD_ACTIVE == g
  bytesOf 1 (if act then 0 else if standbyOk s then 1 else 2) ++ bytesOf 1 (rf s FLT_STEWARD Fd.FLT_STEWARD_LOCKSTEP)
    ++ bytesOf 2 (unitCause s 10 g) ++ bytesOf 4 0

/-- The body of the record (R40). -/
def fprBody (s : State) (big : Nat) : List Byte :=
  (List.range 144).flatMap (siteEntry s big) ++ (List.range 16).flatMap (edgeEntryBytes s) ++ (List.range 32).flatMap (stackEntryBytes s)
    ++ (List.range 128).flatMap (portEntryBytes s) ++ (List.range 2).flatMap (stewardEntry s)

/-- The header (R41). -/
def fprHeader (s : State) (gen reason : Nat) (digest : BitVec 384) : List Byte :=
  bytesOf 4 0x46504C41 ++ bytesOf 2 1 ++ bytesOf 2 (rf s FUSE_INFO Fd.FUSE_INFO_VARIANT) ++ bytesOf 4 gen ++ bytesOf 2 reason ++ bytesOf 2 0
    ++ bytesOf 8 (scOf s (referenceDomain s)) ++ bytesOf 8 (timeSec s) ++ bytesOf 8 (rd s (FUSE_SERIALn 0)).toNat ++ bytesOf 8 (rd s (FUSE_SERIALn 1)).toNat
    ++ bytesOf 48 digest.toNat ++ bytesOf 32 0

/-- A record of a generation, and the state with a free value drawn for a spare-lane count that does not fit. -/
def fprRecord (s : State) (gen reason : Nat) : State × List Byte :=
  let f := takeFree 8 s
  let body := fprBody s f.1.toNat
  (f.2, fprHeader s gen reason (sha384 body) ++ body)

/-- BODY_DIGEST of a record. -/
def bodyDigest (r : List Byte) : List Byte := (r.drop 0x30).take 48

/-- The high-water mark (R48). -/
def highWater (s : State) : Nat :=
  let b := s.pnl.boot
  max (max (b.cntA.getD 0) (b.cntB.getD 0)) (max ((b.nvA.map (fun r => r.1)).getD 0) ((b.nvB.map (fun r => r.1)).getD 0))

/-- Refresh BOOT_FPR_HWM. -/
def showHwm (s : State) : State :=
  wr s BOOT_FPR_HWM (fset Fd.BOOT_FPR_HWM_HWM (highWater s) (fset Fd.BOOT_FPR_HWM_COPY_A_OK (b2n s.pnl.boot.nvA.isSome)
    (fset Fd.BOOT_FPR_HWM_COPY_B_OK (b2n s.pnl.boot.nvB.isSome) 0#64)))

/-- Write a record into a buffer of the BOOT block (R51); bytes beyond 0xD8F read 0. -/
def writeBuffer (s : State) (b : Nat) (r : List Byte) : State :=
  (List.range 512).foldl (fun s i => wr s (BOOT_FPR_BUFb_n b i) (BitVec.ofNat 64 (natOf ((r.drop (8 * i)).take 8)))) s

/-- The current record: the 3,472 bytes of the buffer in use (R51). -/
def currentFpr (s : State) : List Byte :=
  let b := rf s BOOT_FPR_GEN Fd.BOOT_FPR_GEN_BUF
  (List.range 434).flatMap (fun i => bytesOf 8 (rd s (BOOT_FPR_BUFb_n b i)).toNat)

/-- The copy that verifies with the highest generation. -/
def storedRecord (s : State) : Option (List Byte) :=
  match s.pnl.boot.nvA, s.pnl.boot.nvB with
  | some a, some b => some (if b.1 ≤ a.1 then a.2 else b.2)
  | some a, Option.none => some a.2
  | Option.none, some b => some b.2
  | Option.none, Option.none => Option.none

/-- `FPR_PUBLICATION_START` (R47, R48, R50): a publication that is due consumes the next generation number, which both counters record first. -/
def execFprPublicationStart (s : State) : Host.Outcome State Fault Refusal :=
  match s.pnl.pubWant with
  | Option.none => ok s
  | some reason =>
    let gen := highWater s + 1
    let s := modBoot s (fun b => { b with cntA := some gen, cntB := some gen })
    let s := modPnl s (fun p => { p with pub := some (gen, reason), pubWant := Option.none })
    ok (showHwm (wf s BOOT_FPR_GEN Fd.BOOT_FPR_GEN_PUB_BUSY 1))

/-- A load whose home dies' units a publication fences is aborted (R400, R404). -/
def publicationAborts (s : State) : State :=
  match curLd s with
  | some (p, l) =>
    if l.plcs.any (fun x => siteState s (landSite x.pl.home) == 2 || !edgeInService s x.pl.home
        || (x.pl.dest == 1 && (match stackOfAddr s x.pl.addr with | some h => !stackEnabled s h | Option.none => true))) then abortLoad s p
    else s
  | Option.none => s

/-- Make a record visible: the slice assignment (R30), the other buffer, BOOT_FPR_GEN in one step; links fenced since the last publication are
recorded now (R236). -/
def makeVisible (s : State) (gen : Nat) (r : List Byte) : State :=
  let b := 1 - rf s BOOT_FPR_GEN Fd.BOOT_FPR_GEN_BUF
  let s := writeBuffer s b r
  let order := sliceOrder s
  let s := publicationAborts s
  let s := rehome s (modPnl s (fun p => { p with slices := order, pub := Option.none }))
  let s := wr s BOOT_FPR_GEN (fset Fd.BOOT_FPR_GEN_BUF b (fset Fd.BOOT_FPR_GEN_GEN gen 0#64))
  (List.range 144).foldl (fun s k => wf s (RIL_LINK k) Fd.RIL_LINK_FENCED 0) s

/-- Records that wait for the publication take its generation (R481). -/
def fillGen (s : State) (gen : Nat) : State :=
  modPnl s (fun p => { p with log := p.log.map (fun r => if r.wait then { r with gen := gen, wait := false } else r) })

/-- The fences that a stored record holds (R49). -/
def fencesNow (s : State) : Sparse Nat := s.tables.filter (fun e => inRanges [(tk 1, 2 ^ 40), (tk 23, 2 ^ 40)] e.1)

/-- `FPR_PUBLICATION_VISIBLE` (R48, R51, R532, R537): the record goes to both NVM copies and then becomes visible in one step. -/
def execFprPublicationVisible (s : State) : Host.Outcome State Fault Refusal :=
  match s.pnl.pub with
  | Option.none => ok s
  | some (gen, reason) =>
    let r := fprRecord s gen reason
    let s := modBoot r.1 (fun b => { b with nvA := some (gen, r.2), nvB := some (gen, r.2), nvFences := fencesNow r.1 })
    let s := bump (showHwm (fillGen (makeVisible s gen r.2) gen)) FLT_PUBLICATIONS 1
    ok (readySvc (hostSend (mgtEvent s 2 r.2) 1 r.2) 3 true)

/-! The configuration NVM (R451 to R458). -/

/-- STAGE of bring-up (R477). -/
def stage (s : State) : Nat := rf s BOOT_STATUS Fd.BOOT_STATUS_STAGE
def setStage (s : State) (v : Nat) : State :=
  let s := wf s BOOT_STATUS Fd.BOOT_STATUS_STAGE v
  if v = 7 ∨ v = 8 then raiseIbi s else s

/-- An image slot. -/
def slotImage (s : State) (i : Nat) : Option CfgImage := if i = 0 then s.pnl.boot.slotA else s.pnl.boot.slotB

/-- Bytes of a signature block (R392, R452). -/
def cfgSig : Nat := 96 + 4627

/-- Header and section table of an image as bytes (R452, R453); `reserved` stands for the reserved bytes, which an image that verifies has zero. -/
def cfgHead (im : CfgImage) : List Byte :=
  bytesOf 4 im.magic ++ bytesOf 2 im.format ++ bytesOf 2 im.count ++ bytesOf 4 im.secVersion.toNat ++ bytesOf 4 im.buildSeq.toNat
    ++ bytesOf 1 im.variants.toNat ++ bytesOf 1 im.flags.toNat ++ bytesOf 14 im.reserved ++ bytesOf 8 im.length ++ bytesOf 24 0
    ++ im.sections.flatMap (fun x => bytesOf 4 x.typ ++ bytesOf 4 x.reserved ++ bytesOf 8 x.offset ++ bytesOf 8 x.length ++ bytesOf 8 0
      ++ bytesOf 48 x.digest.toNat)

/-- SHA-384 of header and section table (R455). -/
def headDigest (im : CfgImage) : BitVec 384 := sha384 (cfgHead im)

/-- The image that the bytes at an offset of the NVM spell (R452, R453); `get` reads them. -/
def cfgOf (get : Nat → Nat → List Byte) (sig : Bool) : CfgImage :=
  let n := fun (o k : Nat) => natOf (get o k)
  { magic := n 0 4, format := n 4 2, count := n 6 2, secVersion := BitVec.ofNat 32 (n 8 4), buildSeq := BitVec.ofNat 32 (n 0xC 4),
    variants := BitVec.ofNat 8 (n 0x10 1), flags := BitVec.ofNat 8 (n 0x11 1), reserved := n 0x12 14 + n 0x28 24, length := n 0x20 8,
    sections := (List.range (min 32 (n 6 2))).map (fun i =>
      let e := 64 + 80 * i
      ⟨n e 4, n (e + 8) 8, n (e + 16) 8, n (e + 4) 4 + n (e + 24) 8, BitVec.ofNat 384 (n (e + 32) 48), get (n (e + 8) 8) (min 0x600_0000 (n (e + 16) 8))⟩),
    signaturesOk := sig }

/-- Whether header and section table are well formed (R452, R453): each type at most once, the first five present, bodies behind the signature
block and within LENGTH. -/
def cfgFormed (im : CfgImage) : Bool :=
  let ts := im.sections.map (fun x => x.typ)
  im.magic == 0x47464E43 && im.format == 1 && Nat.ble 1 im.count && Nat.ble im.count 32 && im.sections.length == im.count && im.reserved == 0
    && Nat.ble im.length 0x600_0000 && ts.eraseDups.length == ts.length && [1, 2, 3, 4, 5].all (fun t => ts.contains t)
    && im.sections.all (fun x => x.reserved == 0 && Nat.ble 1 x.typ && Nat.ble x.typ 8 && x.offset % 4096 == 0
      && Nat.ble (64 + 80 * im.count + cfgSig) x.offset && Nat.ble (x.offset + x.length) im.length && (x.typ != 2 || Nat.ble x.length 0x10_0000))

/-- Whether every section's DIGEST matches its body (R454). -/
def cfgDigests (im : CfgImage) : Bool := im.sections.all (fun x => x.body.length == x.length && sha384 x.body == x.digest)

/-- The section of a type. -/
def cfgSection (im : CfgImage) (typ : Nat) : Option CfgSection := im.sections.find? (fun x => x.typ == typ)

/-- Whether an image verifies (R454). -/
def imageVerifies (s : State) (im : CfgImage) : Bool :=
  cfgFormed im && im.signaturesOk && cfgDigests im && Nat.ble (rf s FUSE_INFO Fd.FUSE_INFO_MIN_SV) im.secVersion.toNat
    && im.variants.getLsbD (rf s FUSE_INFO Fd.FUSE_INFO_VARIANT)

/-- Whether a slot is marked failed (R456), and whether it verifies. -/
def slotFailed (s : State) (i : Nat) : Bool := (rd s BOOT_STATUS).getLsbD (9 + i)
def slotOk (s : State) (i : Nat) : Bool := match slotImage s i with | some im => imageVerifies s im | Option.none => false

/-- ROM recovery with a cause (R455 to R457). -/
def recovery (s : State) (cause : Nat) : State := setStage (wf s BOOT_STATUS Fd.BOOT_STATUS_RECOVERY_CAUSE cause) 7

/-- Boot a slot. -/
def bootSlot (s : State) (i : Nat) : State :=
  match slotImage s i with
  | some im => setStage (wr (wf s BOOT_STATUS Fd.BOOT_STATUS_SLOT i) BOOT_IMG
      (fset Fd.BOOT_IMG_BUILD_SEQ im.buildSeq.toNat (fset Fd.BOOT_IMG_SEC_VERSION im.secVersion.toNat 0#64))) 2
  | Option.none => s

/-- The ROM's choice (R455): slots marked failed are skipped. -/
def selectSlot (s : State) : State :=
  let s := wfb (wfb s BOOT_STATUS ⟨7, 1, .ro⟩ (slotOk s 0)) BOOT_STATUS ⟨8, 1, .ro⟩ (slotOk s 1)
  let a := slotOk s 0 && !slotFailed s 0
  let b := slotOk s 1 && !slotFailed s 1
  if slotFailed s 0 ∧ slotFailed s 1 then recovery s 3
  else
    match a, b, slotImage s 0, slotImage s 1 with
    | true, true, some x, some y =>
      if x.secVersion.toNat ≠ y.secVersion.toNat then bootSlot s (b2n (Nat.blt x.secVersion.toNat y.secVersion.toNat))
      else if x.buildSeq.toNat ≠ y.buildSeq.toNat then bootSlot s (b2n (Nat.blt x.buildSeq.toNat y.buildSeq.toNat))
      else if headDigest x = headDigest y then bootSlot s 0
      else recovery s 2
    | true, _, _, _ => bootSlot s 0
    | false, true, _, _ => bootSlot s 1
    | false, false, _, _ => recovery s 1

/-- `SLOT_SELECTION` (R455): the steward ROM of a start under way chooses a slot. -/
def execSlotSelection (s : State) : Host.Outcome State Fault Refusal :=
  if s.pnl.boot.running ∧ stage s < 2 then ok (selectSlot s) else ok s

/-- `BOOT_WATCHDOG` (R456): the booted slot has not locked in time: it is marked failed, the stewards restart and select again. -/
def execBootWatchdog (s : State) : Host.Outcome State Fault Refusal :=
  if s.pnl.boot.running ∧ 2 ≤ stage s ∧ stage s ≤ 5 ∧ rf s BOOT_LOCK Fd.BOOT_LOCK_LOCK = 0 then
    let s := wfb s BOOT_STATUS ⟨9 + rf s BOOT_STATUS Fd.BOOT_STATUS_SLOT, 1, .ro⟩ true
    let s := (List.range 3).foldl (fun s i => readySvc s i false) s
    ok (selectSlot (modBoot (setStage s 0) (fun b => { b with step := min b.step 1 })))
  else ok s

/-- `ROM_RECOVERY_IMAGE` (R456, R457): an image received in ROM recovery is verified and written to the slot named; the slot's mark goes. -/
def execRomRecoveryImage (i : Fin 2) (im : CfgImage) (s : State) : Host.Outcome State Fault Refusal :=
  if stage s ≠ 7 ∨ !imageVerifies s im then ok s
  else
    let s := modBoot s (fun b => if i.val = 0 then { b with slotA := some im } else { b with slotB := some im })
    ok (wfb (wfb s BOOT_STATUS ⟨9 + i.val, 1, .ro⟩ false) BOOT_STATUS ⟨7 + i.val, 1, .ro⟩ true)

/-! Cold and warm start. -/

/-- Whether the fuse words keep R1 to R3, R31 and R32 (R464). -/
def fuseLegal (s : State) : Bool :=
  let v := rf s FUSE_INFO Fd.FUSE_INFO_VARIANT
  let st := fun k => fuseSite s k
  let per := fun k => ((List.range 64).filter (fun i => (rd s (FUSE_CORE_MASKn k)).getLsbD i)).length
  let cores := ((List.range 144).filter (fun k => st k == 0)).foldl (fun n k => n + per k) 0
  let nStk := ((List.range 32).filter (fun h => (rd s FUSE_STACK_MASK).getLsbD h)).length
  let ports := ((List.range 128).filter (fun p => (rd s (FUSE_PORT_MASKn (p / 64))).getLsbD (p % 64))).length
  let holes := ((List.range 144).filter (fun k => st k == 2)).length
  let dark := ((List.range 144).filter (fun k => st k == 1)).length
  let gateways := (List.range 8).all (fun q =>
    let g := 16 * q + bf (rd s FUSE_GATEWAY).toNat (4 * q) 4
    (rd s (FUSE_PORT_MASKn (g / 64))).getLsbD (g % 64))
  let each := (List.range 144).all (fun k => st k != 0 || (Nat.ble 52 (per k) && Nat.ble (per k) 64))
  let pairs := (List.range 16).all (fun e => (rd s FUSE_STACK_MASK).getLsbD (2 * e) == (rd s FUSE_STACK_MASK).getLsbD (2 * e + 1))
  let maxOp := rf s FUSE_INFO Fd.FUSE_INFO_MAX_OPPT
  each && gateways && pairs
    && rf s FUSE_INFO Fd.FUSE_INFO_CORES == cores && rf s FUSE_INFO Fd.FUSE_INFO_STACKS == nStk && rf s FUSE_INFO Fd.FUSE_INFO_PORTS == ports
    && (match v with
      | 0 => cores == 8704 && holes == 0 && dark == 0 && nStk == 32 && ports == 128 && maxOp == 0
      | 1 => cores == 7680 && Nat.ble holes 2 && dark == 0 && nStk == 24 && ports == 96 && maxOp == 0
      | 2 => cores == 6144 && Nat.ble holes 2 && Nat.ble 24 dark && Nat.ble dark 48 && nStk == 32 && ports == 64 && maxOp == 1
      | _ => false)

/-- Whether a cause of R46 goes at a cold start: what this start tests again, and a dark site that its cores decide again (R36, R49). A fence by
fault or on request stays unless its release was asked for (R490). -/
def goesCold (s : State) (key cause : Nat) : Bool :=
  let i := key - tk 1
  [2, 3, 7].contains cause || s.pnl.relReq.contains (i / 0x1_0000, i % 0x1_0000)

/-- Start bring-up (R461). The table key is fresh at every start (R506), and the partitions' slots hold the keys that the zeroise of the reset
generated (R521, R522). -/
def startUp (s : State) (warm : Bool) : State :=
  let s := (List.range 32).foldl (fun s i => showSlot (newKey s i) i true false) s
  let s := modBoot s (fun b => { b with start := Option.none, running := true, warm := warm, step := 0, units := [] })
  let s := wf (wfb (setStage s 1) BOOT_STATUS Fd.BOOT_STATUS_WARM warm) BOOT_STATUS Fd.BOOT_STATUS_RECOVERY_CAUSE 0
  wf s CLK_PANEL Fd.CLK_PANEL_OPPT 3

/-- Sites that the standing core fences leave with fewer than 52 cores are dark again (R36). -/
def darkAgain (s : State) : State :=
  (List.range 144).foldl (fun s k => if siteState s k = 0 ∧ (enabledCores s k).length < 52 then setTab s (unitKey 2 k) 7 else s) s

/-- `COLD_START` (R459, R461): the start that is due begins. Without a stored copy that verifies the eFuse map and the tests alone count (R49). -/
def execColdStart (s : State) : Host.Outcome State Fault Refusal :=
  if s.pnl.boot.start ≠ some false then ok s
  else
    let back := s.pnl.relReq.filter (fun u => unitCause s u.1 u.2 != 0)
    let keep := fun (e : Nat × Nat) => !inRanges [(tk 1, 2 ^ 40), (tk 23, 2 ^ 40)] e.1
      || (inRanges [(tk 1, 2 ^ 40)] e.1 && (storedRecord s).isSome && !goesCold s e.1 e.2)
    let s := darkAgain (s.setTables (s.tables.filter keep))
    let s := modPnl s (fun p => { p with relReq := [] })
    ok (startUp (modBoot s (fun b => { b with released := back })) false)

/-- `WARM_START` (R459, R461): the start that is due begins on retained state. -/
def execWarmStart (s : State) : Host.Outcome State Fault Refusal :=
  if s.pnl.boot.start = some true then ok (startUp (modBoot s (fun b => { b with released := [] })) true) else ok s

/-- Number of a unit in the record of finished steps. -/
def bringKey : BringUnit → Nat
  | .panel => 0
  | .site k => 0x1_0000 + k.val
  | .core g => 0x2_0000 + g.val
  | .link k b => 0x3_0000 + k.val * 16 + b.val
  | .edge e => 0x4_0000 + e.val
  | .stack h => 0x5_0000 + h.val
  | .engine e => 0x6_0000 + e.val
  | .port p => 0x7_0000 + p.val

/-- What a site's entry says besides its CAUSE and its spare lanes. -/
def entryState (e : List Byte) : List Byte := e.take 11 ++ e.drop 14

/-- A site whose units stand as the stored record has them keeps the CAUSE of its last change (R42); at any other site that change is of this start.
DESIGN CHOICE (log entry 124): spare lanes make no such change, and a return to service leaves 0x00. -/
def restoreCauses (s : State) : State :=
  match storedRecord s with
  | some r => (List.range 144).foldl (fun s k =>
      let old := (r.drop (128 + 16 * k)).take 16
      if entryState old = entryState (siteEntry s 0 k) then setTab s (siteCauseKey k) (natOf ((old.drop 12).take 2)) else s) s
  | Option.none => s

/-- REASON of a record that a start publishes (R49): 0x0004 when a unit released for this cold start is enabled. -/
def startReason (s : State) : Nat :=
  if s.pnl.boot.warm then 2 else if s.pnl.boot.released.any (fun u => unitEnabled s u.1 u.2) then 4 else 1

/-- The record at start (R49): a candidate equal to the stored record at the high-water mark, or at a warm start to the retained one, keeps its
generation; otherwise a publication is due. -/
def startRecord (s : State) : State :=
  let f := takeFree 8 (if s.pnl.boot.warm then s else restoreCauses s)
  let s := f.2
  let digest := bytesOf 48 (sha384 (fprBody s f.1.toNat)).toNat
  match storedRecord s with
  | some r =>
    if bodyDigest r = digest ∧ (s.pnl.boot.warm ∨ natOf ((r.drop 8).take 4) = highWater s) then
      readySvc (showHwm (makeVisible s (natOf ((r.drop 8).take 4)) r)) 3 true
    else modPnl s (fun p => { p with pubWant := some (startReason s) })
  | Option.none =>
    let ev := mkEvent s 7 0 0 0 0 (scOf s 0) 0#64 0#64 0#64 Option.none Option.none
    modPnl (if s.pnl.boot.warm then s else report s ev) (fun p => { p with pubWant := some (startReason s) })

/-- A panel-wide step completes. -/
def panelStep (s : State) (step : Nat) : State :=
  match step with
  | 1 => setStage s 1
  | 2 => readySvc s 0 true
  | 3 =>
    let up := unitCause s 10 (standby s) == 0
    let s := otherValid (wfb (wfb s FLT_STEWARD Fd.FLT_STEWARD_STANDBY_OK up) FLT_STEWARD Fd.FLT_STEWARD_LOCKSTEP up) up
    [1, 5, 6, 7, 8, 9, 10].foldl (fun s i => readySvc s i true) (readySvc s 2 up)
  | 4 => if s.pnl.boot.warm || fuseLegal s then setStage s 3 else setStage s 8
  | 9 => ((List.range 144).filter (fun k => siteState s k != 2 && aligned s k)).foldl (fun s k => readyNet s k true) (setStage s 4)
  | 12 => startRecord s
  | _ => s

/-- A unit's test fails or passes (R22, R462). A warm start takes the retained results of steps 5 and 6 (R461). -/
def unitStep (s : State) (step : Nat) (u : BringUnit) (r : BringResult) : State :=
  match (if s.pnl.boot.warm ∧ step ≤ 6 then 0 else step), u, r with
  | 5, .site k, .strap v =>
    let s := modBoot s (fun b => { b with straps := sput (fun _ => 0) k.val (v.val % 2) b.straps })
    if v.val % 2 = (k.val % 12 + k.val / 12) % 2 then s else fenceUnit s 3 k.val 3
  | 5, .edge e, .strap v =>
    let s := modBoot s (fun b => { b with straps := sput (fun _ => 0) (144 + e.val) v.val b.straps })
    if v.val = e.val / 4 then s else fenceUnit s 5 e.val 3
  | 6, .core g, .fail => fenceUnit s 1 g.val 2
  | 6, .site k, .shared => fenceUnit s 2 k.val 2
  | 7, .link k b, .fail | 9, .link k b, .fail => fenceUnit s 4 (if b.val < 8 then 8 * k.val + b.val else 1152 + 2 * k.val + (b.val - 8)) 2
  | 8, .site k, .fail => fenceUnit s 3 k.val 2
  | 8, .site k, .pass => wf s (CLK_STATUS k.val) Fd.CLK_STATUS_LOCKED 1
  | 8, .core g, .fail => fenceUnit s 1 g.val 2
  | 8, .edge e, .fail => fenceUnit s 5 e.val 2
  | 8, .edge e, .pass =>
    wf (wf s (CLK_STATUS (144 + e.val)) Fd.CLK_STATUS_LOCKED 1) (SEC_EDGE_STATUS e.val) Fd.SEC_EDGE_STATUS_SELFTEST_OK 1
  | 10, .stack h, .fail => fenceUnit s 6 h.val 2
  | 10, .stack h, .pass => if stackEnabled s h.val then readyStack s h.val true else s
  | 11, .engine e, .fail => fenceUnit s 9 e.val 2
  | _, _, _ => s

/-- The check of a compute die after a reset of scope site compute or wider passes or fails (R473). -/
def computeCheck (s : State) (k : Nat) (pass : Bool) : State :=
  let s := modBoot s (fun b => { b with checks := b.checks.filter (fun x => x != k) })
  let s := if !pass then fenceUnit s 2 k 2
    else if siteState s k = 0 ∧ (rd s (BOOT_READY_NETn (k / 64))).getLsbD (k % 64) then readySite s k true else s
  if s.pnl.boot.checks.isEmpty ∧ s.pnl.boot.scope < 5 then modBoot (wf s BOOT_RESET Fd.BOOT_RESET_BUSY 0) (fun b => { b with scope := 0 }) else s

/-- Whether every strap has been compared with its expected value (R22): those of the base dies that are not fused off, and of the edge dies. -/
def strapsDone (s : State) : Bool :=
  let done := fun (u : BringUnit) => Nat.ble 5 (sget (fun _ => 0) s.pnl.boot.units (bringKey u))
  (List.range 144).all (fun k => fuseSite s k == 2 || done (.site (Fin.ofNat 144 k))) && (List.range 16).all (fun e => done (.edge (Fin.ofNat 16 e)))

/-- Whether a unit's step waits for one of the whole panel: a link test of a cold start for every strap (R22), steps 10 and 11 for step 9 (R461). -/
def stepWaits (s : State) (n : Nat) (u : BringUnit) : Bool :=
  match u with
  | .link _ _ => n == 7 && !s.pnl.boot.warm && !strapsDone s
  | _ => (n == 10 || n == 11) && Nat.blt s.pnl.boot.step 9

/-! Firmware (R463). -/

/-- SCHED_WR of region 187. -/
def fwOpen (s : State) (k : Nat) (b : Bool) : State := wfb s (BSN_REGIONn k 187) Fd.BSN_REGIONn_SCHED_WR b

/-- The SCP firmware of the booted image (R453). -/
def scpFirmware (s : State) : Option CfgSection := (slotImage s (rf s BOOT_STATUS Fd.BOOT_STATUS_SLOT)).bind (fun im => cfgSection im 2)

/-- Write the SCP firmware into region 187 of a site (R463). -/
def putFirmware (s : State) (k : Nat) : State :=
  match scpFirmware s with
  | some x => memWrites s (region187 k).1 x.body
  | Option.none => s

/-- Whether what region 187 holds has the DIGEST of the section (R463). -/
def firmwareHolds (s : State) (k : Nat) : Bool :=
  match scpFirmware s with
  | some x => sha384 (memReads s (region187 k).1 x.length) == x.digest
  | Option.none => false

/-- `FIRMWARE_BROADCAST` (R463): the SCP firmware goes to region 187 of every site at a cold start, at a warm start to the sites named, whose
digest does not match; each has SCHED_WR = 1 meanwhile. It runs while no core of them is busy. -/
def execFirmwareBroadcast (stale : List Site) (s : State) : Host.Outcome State Fault Refusal :=
  let ks := (List.range 144).filter (fun k => (rd s (BOOT_READY_NETn (k / 64))).getLsbD (k % 64) && (!s.pnl.boot.warm || stale.any (fun x => x.val == k)))
  if !s.pnl.boot.running ∨ s.pnl.boot.step < 9 ∨ ks.any (siteBusy s) then ok s
  else
    let s := ks.foldl (fun s k => putFirmware (fwOpen s k true) k) (setStage s 5)
    let done := (List.range 144).filter (fun k => s.pnl.boot.warm && !stale.any (fun x => x.val == k) && siteState s k == 0
      && (rd s (BOOT_READY_NETn (k / 64))).getLsbD (k % 64))
    ok (done.foldl (fun s k => readySite s k true) s)

/-- `FIRMWARE_DIGEST_RESULT` (R462, R463): a receiving site's digest matches and its SITE bit rises, or fails, which `good` false stands for where what
came in was not what was sent; the site then receives the section again, and the third failure makes it dark. -/
def execFirmwareDigestResult (k : Site) (good : Bool) (s : State) : Host.Outcome State Fault Refusal :=
  let k := k.val
  if rf s (BSN_REGIONn k 187) Fd.BSN_REGIONn_SCHED_WR = 0 ∨ !s.pnl.boot.running then ok s
  else if good ∧ firmwareHolds s k then
    let s := fwOpen s k false
    ok (if siteState s k = 0 then readySite s k true else s)
  else
    let n := sget (fun _ => 0) s.pnl.boot.fwTries k + 1
    let s := modBoot s (fun b => { b with fwTries := sput (fun _ => 0) k n b.fwTries })
    ok (if 3 ≤ n then fenceUnit (fwOpen s k false) 2 k 2 else putFirmware s k)

/-! The lock (R467). -/

/-- A write of BOOT_LOCK: 1 sets LOCK, 0 is ignored. Step 14 ends bring-up; an image with ADVANCE raises the minimum security version. -/
def writeBootLock (s : State) (v : W64) : State :=
  if fget Fd.BOOT_LOCK_LOCK v = 0 ∨ rf s BOOT_LOCK Fd.BOOT_LOCK_LOCK = 1 then s
  else
    let s := wf s BOOT_LOCK Fd.BOOT_LOCK_LOCK 1
    let s := modBoot (setStage s 6) (fun b => { b with running := false, step := 14, scope := 0 })
    let s := wf s BOOT_RESET Fd.BOOT_RESET_BUSY 0
    let s := if rf s FLT_LEASE Fd.FLT_LEASE_FENCED = 1 then s else readySvc s 4 true
    match slotImage s (rf s BOOT_STATUS Fd.BOOT_STATUS_SLOT) with
    | some im => if im.advance then wf s FUSE_INFO Fd.FUSE_INFO_MIN_SV (max (rf s FUSE_INFO Fd.FUSE_INFO_MIN_SV) im.secVersion.toNat) else s
    | Option.none => s

/-- `BOOT_LOCK` (R467). -/
def execBootLock (req : Requester) (v : W64) (s : State) : Host.Outcome State Fault Refusal :=
  ok (guardCsr s req BOOT_LOCK true (fun s => writeBootLock s v))

/-! Resets (R473 to R476). -/

/-- Refuse a reset request with a code. -/
def resetErr (s : State) (code : Nat) : State := wf (wf s BOOT_RESET Fd.BOOT_RESET_ERR 1) BOOT_RESET Fd.BOOT_RESET_ERR_CODE code

/-- Sites that a reset's target covers. -/
def targetSites (scope target : Nat) : List Nat :=
  match scope with
  | 1 => [target / 64]
  | 2 => [target]
  | _ => List.range 144

/-- Partitions in STARTING or RUNNING that a target covers (R474). -/
def targetParts (s : State) (scope target : Nat) : List Nat :=
  (List.range 4).filter (fun p => (loadState s p == 3 || loadState s p == 4) && (targetSites scope target).any (fun k => partOfSite s k == p))

/-- Milliseconds since ARM was set (R475, R477). -/
def armedFor (s : State) : Nat := match s.pnl.boot.armedMs with | some t => timeMs s - t | Option.none => 0

/-- Carry out a reset of scope 1 to 4; the compute dies covered are then checked. -/
def doReset (s : State) (scope target : Nat) : State :=
  match scope with
  | 1 => leaveSleep (resetCore s target) (target / 64)
  | _ =>
    let s := match scope with
      | 2 => resetCompute s target
      | 3 => resetPanelCompute s
      | _ => resetNetwork s
    let ks := (targetSites scope target).filter (fun k => siteState s k == 0)
    if ks.isEmpty then s else modBoot (wf s BOOT_RESET Fd.BOOT_RESET_BUSY 1) (fun b => { b with scope := scope, checks := ks })

/-- A full-panel reset: `intact` is whether the retention check holds (R459, R460). -/
def fullReset (s : State) (cold intact : Bool) : State :=
  let denied := !cold && rf s BOOT_CFG Fd.BOOT_CFG_WARM_EN == 1 && !intact
  let warm := !cold && rf s BOOT_CFG Fd.BOOT_CFG_WARM_EN == 1 && intact
  let s := resetFull s warm
  let s := wf (wfb s BOOT_STATUS Fd.BOOT_STATUS_WARM_DENIED denied) BOOT_FPR_GEN Fd.BOOT_FPR_GEN_PUB_BUSY 0
  let s := wf (setStage s 0) BOOT_RESET Fd.BOOT_RESET_BUSY 1
  if denied then report s (mkEvent s 7 0 0 0 0 (scOf s 0) 0#64 0#64 0#64 Option.none Option.none) else s

/-- A write of BOOT_RESET (R474 to R477). -/
def writeReset (s : State) (v : W64) (intact : Bool) : State :=
  let scope := fget Fd.BOOT_RESET_SCOPE v
  let force := fget Fd.BOOT_RESET_FORCE v = 1
  let target := fget Fd.BOOT_RESET_TARGET v
  let s := clear1 s BOOT_RESET Fd.BOOT_RESET_ERR v
  if scope = 0 ∨ scope = 7 then s
  else if scope = 6 then resetPowerOn s
  else if scope = 5 then fullReset s (fget Fd.BOOT_RESET_COLD v == 1) intact
  else if rf s BOOT_LOCK Fd.BOOT_LOCK_LOCK = 0 then resetErr s 2
  else if resetBusy s ∧ scope ≤ s.pnl.boot.scope then s
  else if (scope = 1 ∧ !coreEnabled s target) ∨ (scope = 2 ∧ (144 ≤ target ∨ siteState s target ≠ 0)) then resetErr s 3
  else if scope = 4 then
    if s.pnl.boot.armedMs = Option.none ∨ armedFor s < max 100 (rf s BOOT_CFG Fd.BOOT_CFG_NET_NOTICE_MS) then resetErr s 4
    else if !force ∧ ((List.range 128).any (fun p => portState s p == 5) ∨ (List.range 16).any (fun e => rf s (SUO_PROG_ERR e) Fd.SUO_PROG_ERR_LOCK == 1)) then resetErr s 5
    else doReset (((List.range 4).filter (inService s)).foldl retire s) 4 0
  else
    let ps := targetParts s scope target
    if !ps.isEmpty ∧ !force then resetErr s 1
    else doReset (ps.foldl retire s) scope target

/-- `RESET_CORE` (R473, R474). -/
def execResetCore (req : Requester) (g : Gid) (force : Bool) (s : State) : Host.Outcome State Fault Refusal :=
  ok (guardCsr s req BOOT_RESET true (fun s => writeReset s (BitVec.ofNat 64 (1 + 8 * b2n force + 256 * g.val)) true))

/-- `RESET_SITE_COMPUTE` (R473, R474). -/
def execResetSiteCompute (req : Requester) (k : Site) (force : Bool) (s : State) : Host.Outcome State Fault Refusal :=
  ok (guardCsr s req BOOT_RESET true (fun s => writeReset s (BitVec.ofNat 64 (2 + 8 * b2n force + 256 * k.val)) true))

/-- `RESET_PANEL_COMPUTE` (R473, R474). -/
def execResetPanelCompute (req : Requester) (force : Bool) (s : State) : Host.Outcome State Fault Refusal :=
  ok (guardCsr s req BOOT_RESET true (fun s => writeReset s (BitVec.ofNat 64 (3 + 8 * b2n force)) true))

/-- `RESET_NETWORK` (R475). -/
def execResetNetwork (req : Requester) (force : Bool) (s : State) : Host.Outcome State Fault Refusal :=
  ok (guardCsr s req BOOT_RESET true (fun s => writeReset s (BitVec.ofNat 64 (4 + 8 * b2n force)) true))

/-- `RESET_FULL_PANEL` (R459, R473): `intact` is whether the digest over always-on retention matches. -/
def execResetFullPanel (req : Requester) (cold intact : Bool) (s : State) : Host.Outcome State Fault Refusal :=
  ok (guardCsr s req BOOT_RESET true (fun s => writeReset s (BitVec.ofNat 64 (5 + 16 * b2n cold)) intact))

/-- `RESET_POWER_ON` (R459, R473): requested by a write, or power is applied (`none`). -/
def execResetPowerOn (req : Option Requester) (s : State) : Host.Outcome State Fault Refusal :=
  match req with
  | some r => ok (guardCsr s r BOOT_RESET true (fun s => writeReset s 6#64 true))
  | Option.none => ok (resetPowerOn s)

/-- `OFF_L` (R570, R571): low for 10 ms starts the power-down; high for 10 ms powers the panel up from step 2, with only the always-on domain
kept, and a cold start is due. A reset in progress is superseded. -/
def execOffL (low : Bool) (s : State) : Host.Outcome State Fault Refusal :=
  if low then ok (startDown (modPwr s (fun p => { p with offLow := true })))
  else if s.pnl.pwr.offLow then
    let s := resetFull (modPwr s (fun p => { p with offLow := false })) false
    let s := wf (wf s BOOT_STATUS Fd.BOOT_STATUS_WARM_DENIED 0) BOOT_FPR_GEN Fd.BOOT_FPR_GEN_PUB_BUSY 0
    ok (wf (setStage s 0) BOOT_RESET Fd.BOOT_RESET_BUSY 0)
  else ok s

/-- A takeover during a reset restarts it under the new active steward (R476): bring-up from its first step, a reset that checks compute dies from its
beginning. -/
def restartReset (s : State) : State :=
  let b := s.pnl.boot
  if b.running then
    let act := rf s FLT_STEWARD Fd.FLT_STEWARD_ACTIVE
    let t := wf (wf (resetFull s b.warm) FLT_STEWARD Fd.FLT_STEWARD_ACTIVE act) FLT_STEWARD Fd.FLT_STEWARD_TAKEOVER 1
    wf (setStage t 0) BOOT_RESET Fd.BOOT_RESET_BUSY (rf s BOOT_RESET Fd.BOOT_RESET_BUSY)
  else
    match b.scope, b.checks with
    | 2, k :: _ => doReset s 2 k
    | 3, _ :: _ => doReset s 3 0
    | 4, _ :: _ => doReset s 4 0
    | _, _ => s

/-- `STEWARD_TAKEOVER` (R290, R476, R496). -/
def execStewardTakeover (s : State) : Host.Outcome State Fault Refusal := if standbyOk s then ok (restartReset (takeover s)) else ok s

/-- `ACTIVE_STEWARD_FAILURE` (R476, R496): the standby takes over; without one the panel powers down. -/
def execActiveStewardFailure (s : State) : Host.Outcome State Fault Refusal :=
  if standbyOk s then ok (restartReset (takeover s))
  else ok (startDown (envEvent s 4 10 (rf s FLT_STEWARD Fd.FLT_STEWARD_ACTIVE) 4 (scOf s 0) (some (stewardDom, hThrottle)) Option.none))

/-- A write of BOOT_NET_ANNOUNCE (R475): the announcement or its withdrawal is told to every management session. -/
def writeAnnounce (s : State) (v : W64) : State :=
  let arm := fget Fd.BOOT_NET_ANNOUNCE_ARM v
  let was := rf s BOOT_NET_ANNOUNCE Fd.BOOT_NET_ANNOUNCE_ARM
  if arm = was then s
  else
    let now := timeMs s
    let s := wf (modBoot s (fun b => { b with armedMs := if arm = 1 then some now else Option.none })) BOOT_NET_ANNOUNCE Fd.BOOT_NET_ANNOUNCE_ARM arm
    modPnl s (fun p => { p with sessions := p.sessions.map (fun x => if x.kind = 1 then { x with queue := x.queue ++ [(0, bytesOf 8 arm)] } else x) })

/-- `NET_ANNOUNCE` (R475). -/
def execNetAnnounce (req : Requester) (v : W64) (s : State) : Host.Outcome State Fault Refusal :=
  ok (guardCsr s req BOOT_NET_ANNOUNCE true (fun s => writeAnnounce s v))

/-! Lanes (R202). -/

/-- Whether a slice of an outgoing link keeps R202. -/
def sliceHolds (s : State) (k l slice : Nat) : Bool :=
  let fs := (List.range 8).map (failedLanes s k l slice)
  fs.all (fun n => Nat.ble n 2) && Nat.ble (fs.foldl (fun a b => a + b) 0) 14

/-- `SITE_LINK_LANE_FAILURE` (R202, R479, R488): a data lane of a group fails; an unused extra lane of the group replaces it, or the direction is
fenced with its link. A group whose two extra lanes are both in use has no parity lane left (R236). -/
def execSiteLinkLaneFailure (k : Site) (l : Fin 10) (slice : Fin 16) (group : Fin 8) (s : State) : Host.Outcome State Fault Refusal :=
  let usable := if l.val < 8 then linkUsable s k.val l.val else edgePortUsable s k.val (l.val - 8)
  if !usable ∨ (4 ≤ l.val ∧ 8 ≤ slice.val) then ok s
  else
    let key := laneKey k.val l.val slice.val group.val
    let s := modBoot s (fun b => { b with lanes := smod (fun _ => 0) key (fun n => n + 1) b.lanes })
    let s := if 2 ≤ failedLanes s k.val l.val slice.val group.val ∧ l.val < 8 then wf s (RIL_LINK k.val) ⟨16 + l.val, 1, .ro⟩ 1 else s
    if sliceHolds s k.val l.val slice.val then ok s
    else ok (fenceWithHold s 4 (if l.val < 8 then 8 * k.val + l.val else 1152 + 2 * k.val + (l.val - 8)) 4 true)

end Sys2Proof.Machine
end

