-- ==== Sys2Proof/Machine/Image.lean ====
section
/-!
DEFINITION. The image loader (R468 to R472): the checks that admit a schedule image and their codes (R470), what LOAD writes, START and UNLOAD.
-/
namespace Sys2Proof.Machine

/-! What an image holds. -/

/-- A row of a unit's table; rows the image does not give are 0. -/
def rowOf (xs : List (Nat × Nat × Nat)) (u r : Nat) : Nat := match xs.find? (fun x => x.1 == u && x.2.1 == r) with | some x => x.2.2 | Option.none => 0

/-- Sites and edge dies that the sections name. -/
def imageSites (im : SchedImage) : List Nat :=
  im.entries.map (fun x => x.1 / 64) ++ im.seeds.map (fun x => x.1 / 64) ++ im.aregs.map (fun x => x.1 / 64) ++ im.preds.map (fun x => x.1 / 64)
    ++ im.descs.map (fun x => x.1 / 64) ++ im.coreBytes.map (fun x => x.1 / 64) ++ im.basin.map (fun x => x.1) ++ im.regions.map (fun x => x.1) ++ im.hop.map (fun x => x.1)
    ++ im.configs.map (fun x => x.1) ++ im.bpd.map (fun x => x.1) ++ im.phases.map (fun x => x.1) ++ im.cascade.map (fun x => x.1) ++ im.issue.map (fun x => x.1)
def imageEdges (im : SchedImage) : List Nat :=
  im.edgeHop.map (fun x => x.1) ++ im.edgeCfg.map (fun x => x.1) ++ im.edgePhase.map (fun x => x.1) ++ im.slotMaps.map (fun x => x.1 / 8)
    ++ im.epochs.map (fun x => x.1 / 8) ++ im.linkMap.map (fun x => x.port.val / 8)
def imageCores (im : SchedImage) : List Nat := (im.entries.map (fun x => x.1) ++ im.coreBytes.map (fun x => x.1)).eraseDups

/-- The units an image uses, as kind and index (R486). -/
def imageUses (im : SchedImage) : List (Nat × Nat) :=
  (imageCores im).map (fun g => (1, g)) ++ ((imageCores im).map (fun g => g / 64)).eraseDups.map (fun k => (2, k)) ++ (imageSites im).eraseDups.map (fun k => (3, k))
    ++ im.usedLinks.map (fun l => (4, l)) ++ (imageEdges im).eraseDups.map (fun e => (5, e)) ++ im.usedStacks.map (fun h => (6, h))
    ++ im.linkMap.map (fun x => (8, x.port.val))

/-- Row `r` of the boundary table. -/
def imageBnd (im : SchedImage) (r : Nat) : BndRow := im.boundary.getD r ⟨0, 0, false⟩

/-- A boundary row's word (R281). -/
def bndWord (r : BndRow) : Nat := r.length % 2 ^ 20 + r.phaseId % 2 ^ 16 * 2 ^ 20 + b2n r.last * 2 ^ 36

/-- The rows that the walk from row 0 reaches, within `fuel` steps (R281). -/
def walkRows (im : SchedImage) : Nat → Nat → List Nat → List Nat
  | 0, _, seen => seen
  | n + 1, r, seen =>
    if seen.contains r then seen
    else walkRows im n (if (imageBnd im r).last then im.loop else (r + 1) % 1024) (seen ++ [r])

def reachedRows (im : SchedImage) : List Nat := walkRows im 1025 0 []

/-- The power record of a row and variant. -/
def imagePwr (im : SchedImage) (r v : Nat) : Option PwrRow := im.power.find? (fun x => x.row == r && x.variant.val == v && x.present)

/-! The checks of R470. Each answers `none`, or its code and detail. -/

/-- The first element that fails gives its number as the detail. -/
def failAt {α : Type} (code : Nat) (good : α → Bool) (detail : α → Nat) (xs : List α) : Option (Nat × Nat) :=
  (xs.find? (fun x => !good x)).map (fun x => (code, detail x))

def failIf (code detail : Nat) (bad : Bool) : Option (Nat × Nat) := if bad then some (code, detail) else Option.none

/-- The first check that fails. -/
def firstFail : List (Option (Nat × Nat)) → Option (Nat × Nat)
  | [] => Option.none
  | some x :: _ => some x
  | Option.none :: xs => firstFail xs

/-- A slot map that R351 admits: repair positions 0, fixed open positions 1. -/
def mapBitsOk (v : W64) : Bool := !v.getLsbD 63 && v.getLsbD 15 && v.getLsbD 47

/-- Whether what the sections carry lies inside the unit it is for: a core's stores, a basin and its 192 regions, a port's slot map, the tables of
power records and streams; a slot map keeps R351. DEDUCED (log entries 11, 137). -/
def imageShape (im : SchedImage) : Bool :=
  im.coreBytes.all (fun x => Nat.blt x.2.1 0x10_0000) && im.basin.all (fun x => Nat.blt x.2.1 0x0C00_0000) && im.regions.all (fun x => Nat.blt x.2.1 192)
    && im.slotMaps.all (fun x => Nat.blt x.2.1 16 && mapBitsOk (BitVec.ofNat 64 x.2.2)) && im.power.all (fun x => Nat.blt x.row 1024) && im.streams.all (fun x => Nat.blt x.1 (2 ^ 20))

/-- Bytes of a signature block that ends an image (R392). -/
def imageSig : Nat := 96 + 4627

/-- Whether header and section table are well formed (R468): the sections lie between the table and the signature block. -/
def imageHead (im : SchedImage) : Bool :=
  im.magic == 0x4D494353 && im.format == 1 && Nat.blt im.flags 2 && im.reserved == 0 && (im.canonical || im.canonDigest == 0#384)
    && im.table.length == im.count && Nat.ble (256 + 32 * im.count + imageSig) im.length
    && im.table.all (fun x => x.reserved == 0 && Nat.ble (256 + 32 * im.count) x.offset && Nat.ble (x.offset + x.length + imageSig) im.length)

/-- The image that bytes spell: the header and the section table by R468, and what the loader finds in the sections. -/
def imageOf (bs : List Byte) : SchedImage :=
  let n := fun (o k : Nat) => natOf ((bs.drop o).take k)
  let count := n 0xD8 4
  { Config.schedImageOf bs with
    magic := n 0 4, format := n 4 2, partition := n 6 1, pmode := n 7 1, fprGen := n 8 4, flags := n 0xC 4, fprDigest := n 0x10 48,
    canonDigest := BitVec.ofNat 384 (n 0x40 48), loadman := BitVec.ofNat 384 (n 0x70 48), corridor := BitVec.ofNat 384 (n 0xA0 48), seed := n 0xD0 8,
    count := count, reserved := n 0xDC 4 + n 0xE8 24, length := n 0xE0 8,
    table := (List.range (min count ((bs.length - 256) / 32))).map (fun i =>
      let e := 256 + 32 * i
      ⟨n e 2, n (e + 2) 2, n (e + 4) 4 + n (e + 24) 8, n (e + 8) 8, n (e + 16) 8⟩) }

/-- Code 0x01. -/
def ckFormat (s : State) (p : Nat) (im : SchedImage) : Option (Nat × Nat) :=
  firstFail [failIf 1 0 (!imageHead im || !im.bodiesOk || !imageShape im || im.partition != p || im.pmode != partCount s),
    failAt 1 (fun k => Nat.blt k 144 && partOfSite s k == p && siteState s k != 2) id (imageSites im),
    failAt 1 (fun e => Nat.blt e 16 && partOfEdge s e == p && edgeInService s e) id (imageEdges im),
    failAt 1 (coreEnabled s) id (imageCores im)]

/-- Code 0x03 (R55). -/
def ckFpr (s : State) (im : SchedImage) : Option (Nat × Nat) := failIf 3 0 (!fprMatches s im.fprGen im.fprDigest)

/-- Code 0x04 (R5): a lower code is a higher operating point (R261). -/
def ckOppt (s : State) (im : SchedImage) : Option (Nat × Nat) :=
  failAt 4 (fun x : PwrRow => !x.present || Nat.ble (fusedMax s) x.oppt.val) (fun x => x.row) im.power

/-- Code 0x05 (R281, R285): no reached row is unloaded, and every phase lasts at most 500 µs at the lowest point of its variants. -/
def ckPhases (im : SchedImage) : Option (Nat × Nat) :=
  failAt 5 (fun r =>
    let n := (imageBnd im r).length
    n != 0 && Nat.ble n 800_000 && (im.power.filter (fun x => x.row == r && x.present)).all (fun x => Nat.ble n (500 * opptMhz x.oppt.val))) id (reachedRows im)

/-- Entries of a router program from `a` up to the one with LAST, in running order (R213): durations, open slices of mesh output `d` (R223). -/
def runFrom (im : SchedImage) (k d : Nat) : Nat → Nat → List (Nat × Nat)
  | 0, _ => []
  | n + 1, a =>
    let w := rowOf im.hop k a
    let cfg := rowOf im.configs k (hopConfig w)
    let o := if hopOpen w then ((List.range 16).filter (fun i => cfgByte cfg (16 * d + i) == 0)).length else 0
    (hopDuration w, o) :: (if hopLast w ∨ hopDuration w = 0 then [] else runFrom im k d n ((a + 1) % 8192))

/-- SCs of a run, and open slice-cycles in its first `t` SCs. -/
def runLen (xs : List (Nat × Nat)) : Nat := xs.foldl (fun n x => n + x.1) 0
def openUpTo : List (Nat × Nat) → Nat → Nat
  | [], _ => 0
  | x :: xs, t => min t x.1 * x.2 + openUpTo xs (t - x.1)

/-- SCs at which the entries of a run start. -/
def runStarts : List (Nat × Nat) → Nat → List Nat
  | [], t => [t]
  | x :: xs, t => t :: runStarts xs (t + x.1)

/-- Whether every 4,096 consecutive SCs of a run hold at least 64 open slice-cycles (R224). The sum over a window is least where the window
starts or ends at an entry's edge. -/
def windowsOk (xs : List (Nat × Nat)) : Bool :=
  let edges := runStarts xs 0
  let total := runLen xs
  (edges ++ edges.map (fun t => t - 4096)).all (fun t => Nat.blt total (t + 4096) || Nat.ble 64 (openUpTo xs (t + 4096) - openUpTo xs t))

/-- Whether a run from `a` ends with an entry that has LAST. -/
def runLast (im : SchedImage) (k a : Nat) (xs : List (Nat × Nat)) : Bool := hopLast (rowOf im.hop k ((a + xs.length - 1) % 8192))

/-- A section run again and again, long enough for every window; where it reaches an entry with DURATION 0 the empty program follows it, whose
slices are all open (R213, R223). -/
def runOn (xs : List (Nat × Nat)) : List (Nat × Nat) :=
  if xs.any (fun e => e.1 == 0) then xs ++ [(4096, 16)] else (List.range (4096 / max 1 (runLen xs) + 2)).flatMap (fun _ => xs)

/-- A program's run (R213, R224): from START to LAST, then its LOOP section again and again. Without a LAST it runs round the whole memory. -/
def programRun (im : SchedImage) (k d row : Nat) : List (Nat × Nat) :=
  let lead := runFrom im k d 8192 (bf row 32 13)
  let loop := runFrom im k d 8192 (bf row 48 13)
  if lead.any (fun e => e.1 == 0) || !runLast im k (bf row 32 13) lead then runOn lead else lead ++ runOn loop

/-- Phase rows in use of a site. -/
def phasesUsed (im : SchedImage) : List (Nat × Nat × Nat) := im.phases.filter (fun x => bf x.2.2 18 1 == 1)

/-- Code 0x06 (R224). -/
def ckOpen (s : State) (im : SchedImage) : Option (Nat × Nat) :=
  failAt 6 (fun x : Nat × Nat × Nat => (List.range 4).all (fun d => !linkUsable s x.1 d || windowsOk (programRun im x.1 d x.2.2))) (fun x => x.1) (phasesUsed im)

/-- Code 0x07 (R447). -/
def ckWakes (im : SchedImage) : Option (Nat × Nat) :=
  failAt 7 (fun t => Nat.ble ((im.siteWakes.filter (fun u => u / 64 == t / 64)).length) 18) (fun t => t / 64) im.siteWakes

/-- Code 0x08 (R438, R440): the boundary tables and power records of images on one panel agree, and every reached row has a present record. -/
def ckBoundary (s : State) (p : Nat) (im : SchedImage) : Option (Nat × Nat) :=
  let others := (List.range 4).filterMap (fun q => if q = p then Option.none else (part s q).image)
  firstFail [failIf 8 0 (others.any (fun o => o.boundary != im.boundary || o.loop != im.loop)),
    failAt 8 (fun x : PwrRow => others.all (fun o => o.power.all (fun y => y.row != x.row || y.variant != x.variant || (y.oppt == x.oppt && y.present == x.present))))
      (fun x => x.row) im.power,
    failAt 8 (fun r => (List.range 4).any (fun v => (imagePwr im r v).isSome)) id (reachedRows im)]

/-- Code 0x09 (R380): the port is READY or MAPPED, its partner's identity matches, f is in bounds, A is that of R364. -/
def ckLinks (s : State) (im : SchedImage) : Option (Nat × Nat) :=
  failAt 9 (fun e : LinkMapEntry =>
    let p := e.port.val
    let lat := SUO_PORTp_LAT (pE p) (pI p)
    (portState s p == 4 || portState s p == 5)
      && (match (port s p).ident with | some i => partnerMatches e i | Option.none => false)
      && Nat.ble (rf s lat Fd.SUO_PORTp_LAT_FIBRE) e.maxF && (allowanceOf (rf s lat Fd.SUO_PORTp_LAT_FIBRE)) == some e.allow) (fun e => e.port.val) im.linkMap

/-- Code 0x0A (R296): a region that the image does not list keeps the attributes it has. -/
def ckCanonical (s : State) (im : SchedImage) : Option (Nat × Nat) :=
  let dynWr := fun (r : Nat × Nat) =>
    match im.regions.reverse.find? (fun x => x.1 == r.1 && x.2.1 == r.2) with
    | some x => x.2.2 / 4 % 2 == 1
    | Option.none => regionDynWr s r.1 r.2
  if im.canonical then
    firstFail [failAt 0x0A (fun x : Nat × Nat => x.2 == im.seed) (fun x => x.1) im.seeds, failAt 0x0A (fun r => !dynWr r) (fun r => r.1) im.readRegions]
  else Option.none

/-- An issue of an entry without offsets. -/
def plainIssue (p i : Nat) : IssueRec := ⟨i, 0#64, 0#64, Option.none, Option.none, 0, p, Option.none⟩

/-- Whether no two destination rows of an entry overlap (R318). The rows of a REMOTE destination lie under the shape of the partner's entry
(R330). DEDUCED (log entry 11). -/
def destApart (i : IssueRec) (w : Nat) : Bool :=
  let starts := (List.range (eN2 w)).flatMap (fun a => (List.range (eN1 w)).map (fun b => rowAddr i w true a b))
  eDst w == 3 || starts.zipIdx.all (fun x => starts.zipIdx.all (fun y => x.2 == y.2 || decide (x.1 + eRowBytes w ≤ y.1) || decide (y.1 + eRowBytes w ≤ x.1)))

/-- CHECK of a row against its entry's kinds (R316, R321): 1 LAND, 2 NOTICE, 0 none. -/
def checkFits (w check : Nat) : Bool :=
  match eSrc w, eDst w with
  | 1, 2 => check == 1
  | 3, 2 => check == 1
  | 2, 1 => check == 2
  | 2, 3 => check == 2
  | 1, 1 => check == 2 || check == 0
  | _, _ => false

/-- Whether an issue-table row agrees with its entry (R321, R398). -/
def rowFits (s : State) (p : Nat) (im : SchedImage) (row : Nat) : Bool :=
  let i := bf row 0 20
  bf row 20 1 == 0 || (Nat.blt i 0xF_F000 && (match im.streams.find? (fun x => x.1 == i) with
    | some x =>
      let w := x.2
      let spread := isSpread s (plainIssue p i) w
      checkFits w (bf row 21 2) && bf row 23 4 == eExec w && (bf row 29 1 == 1) == spread && bf row 32 32 == ew w 0 32 32
        && (bf row 21 2 != 1 || bf row 64 40 == eTotal w)
        && (bf row 21 2 != 2 || bf row 104 5 == (if spread then (participants s p).length else 1))
    | Option.none => false))

/-- FROZEN placements of every partition (R408). -/
def frozenRanges (s : State) : List (Nat × Nat) :=
  (List.range 4).flatMap (fun q => match loadOf s q with
    | some l => (l.plcs.filter (fun x => x.pl.frozen && x.pl.dest == 1)).map (fun x => (x.pl.addr, x.pl.bytes))
    | Option.none => [])

/-- Code 0x0B (R318, R321, R398, R408), under the band map the image brings. -/
def ckStreams (s : State) (p : Nat) (im : SchedImage) : Option (Nat × Nat) :=
  let s := match im.bandMap with | some w => writeEntry s 0 w | Option.none => s
  firstFail [failAt 0x0B (fun x : Nat × Nat =>
      let i := plainIssue p x.1
      let r := bounds i x.2 true
      x.1 != 0 && ePart x.2 == p && destApart i x.2
        && (eDst x.2 != 1 || (frozenRanges s).all (fun f => !meet r.1.toNat (r.2 - r.1).toNat f.1 f.2))) (fun x => x.1) im.streams,
    failAt 0x0B (fun x : Nat × Nat × Nat => rowFits s p im x.2.2) (fun x => x.1) im.issue]

/-- Whether the image loaded in partition `q` has another corridor plan. -/
def corridorDiffers (s : State) (q : Nat) (im : SchedImage) : Bool :=
  match (part s q).image with
  | some o => o.corridor != im.corridor
  | Option.none => false

/-- Code 0x0C (R410): the corridor plans of the holder's and the readers' images are one. -/
def ckCorridor (s : State) (p : Nat) (im : SchedImage) : Option (Nat × Nat) :=
  let holder := rf s SEC_CORRIDOR Fd.SEC_CORRIDOR_HOLDER
  let sharer := fun q => q == holder || (rd s SEC_CORRIDOR).getLsbD (28 + q)
  failIf 0x0C 0 (rf s SEC_CORRIDOR Fd.SEC_CORRIDOR_EN == 1 && sharer p
    && (List.range 4).any (fun q => q != p && sharer q && (q == holder || p == holder) && corridorDiffers s q im))

/-- Whether the partition's load is one of that manifest and has reached DONE. -/
def loadDone (s : State) (p : Nat) (digest : BitVec 384) : Bool :=
  match loadOf s p with
  | some l => l.done && l.man.digest == digest
  | Option.none => false

/-- Code 0x0D (R406). -/
def ckResidency (s : State) (p : Nat) (im : SchedImage) : Option (Nat × Nat) :=
  failIf 0x0D 0 (im.loadman != 0#384 && !loadDone s p im.loadman)

/-- Whether the image brings a band map that may not be taken: it breaks R309, or differs from the one in force while another partition that owns
bands has an image loaded (R312, R586). -/
def bandMapBad (s : State) (im : SchedImage) : Bool :=
  match im.bandMap with
  | some w => !bandMapClean w || (bandsHeld s (fun p => p != im.partition) && w != hbmLine s 0 (tableBase s))
  | Option.none => false

/-- Entries that a program can reach have a DURATION (R213), and region 187 is not named (R463). Code 0x0E. -/
def ckPrograms (im : SchedImage) : Option (Nat × Nat) :=
  firstFail [failAt 0x0E (fun x : Nat × Nat × Nat => (programRun im x.1 0 x.2.2).all (fun e => e.1 != 0)) (fun x => x.1) (phasesUsed im),
    failIf 0x0E 187 (im.reads187 || im.basin.any (fun x => x.2.1 / 0x10_0000 == 187) || im.regions.any (fun x => x.2.1 == 187))]

/-- The load checks of the tables (R219, R258, R281, R321, R355) as code 0x0E. -/
def ckTables (s : State) (im : SchedImage) : Option (Nat × Nat) :=
  let site := fun (f : Nat → Nat → Nat) (n : Nat) (xs : List (Nat × Nat × Nat)) => failAt 0x0E (fun x : Nat × Nat × Nat => Nat.blt x.2.1 n && f x.1 x.2.2 == 0) (fun x => x.1) xs
  firstFail [site (fun k w => rilCheck s k 0 w) 8192 im.hop, site (fun k w => rilCheck s k 1 w) 512 im.configs, site (fun k w => rilCheck s k 2 w) 256 im.bpd,
    site (fun k w => rilCheck s k 3 w) 256 im.phases, site (fun _ w => cscCheck w) 1024 im.cascade, site (fun _ w => sitCheck w) 256 im.issue,
    failIf 0x0E 0 (Nat.blt 1024 im.boundary.length || im.boundary.any (fun r => bndCheck (bndWord r) != 0) || Nat.ble 1024 im.loop),
    site (fun _ w => edgeHopCheck w) 8192 im.edgeHop,
    failAt 0x0E (fun x : Nat × Nat × Nat => Nat.blt x.2.1 512 && (List.range 32).all (fun i => edgeCfgCheck s x.1 (8 * i) (bf x.2.2 (64 * i) 64) == 0)) (fun x => x.1) im.edgeCfg,
    site (fun _ w => edgePhaseCheck 0 (bf w 0 64) + edgePhaseCheck 1 (bf w 64 64)) 256 im.edgePhase,
    failIf 0x0E 0 (bandMapBad s im)]

/-- Code 0x0F: the partition's state and the ready bits that the image needs (R469, R470, R494, R523). -/
def loadBusy (s : State) (p : Nat) (im : SchedImage) : Bool :=
  let st := loadState s p
  !(st == 0 || st == 5 || st == 6) || !(rd s BOOT_READY_SVC).getLsbD 4 || (part s p).zero.isSome
    || (imageCores im).any (fun g => !(rd s (BOOT_READY_SITEn (g / 64 / 64))).getLsbD (g / 64 % 64))
    || (imageSites im).any (fun k => !(rd s (BOOT_READY_NETn (k / 64))).getLsbD (k % 64))
    || im.usedStacks.any (fun h => (List.range 32).any (fun c => !(rd s (BOOT_READY_HBMn (h / 2))).getLsbD (h % 2 * 32 + c)))

/-- The first failure of steps 1 to 3 (R469), codes in the order of R470 within a step. -/
def loadTest (s : State) (p : Nat) (im : SchedImage) : Option (Nat × Nat) :=
  firstFail [ckFormat s p im, failIf 2 0 (!im.signaturesOk || rf s SEC_LIFECYCLE Fd.SEC_LIFECYCLE_STATE == 3), ckFpr s im, ckOppt s im, ckPhases im, ckOpen s im, ckWakes im, ckBoundary s p im, ckLinks s im,
    ckCanonical s im, ckStreams s p im, ckCorridor s p im, ckResidency s p im, ckPrograms im, ckTables s im]

/-! LOAD. -/

/-- CODE and DETAIL of a partition. -/
def loadCode (s : State) (p code detail : Nat) : State :=
  wf (wf s (BOOT_LOAD_STATUSp p) Fd.BOOT_LOAD_STATUSp_CODE code) (BOOT_LOAD_STATUSp p) Fd.BOOT_LOAD_STATUSp_DETAIL detail

/-- Write the rows of a table. -/
def putRows (key : Nat → Nat → Nat) (xs : List (Nat × Nat × Nat)) (s : State) : State := xs.foldl (fun s x => setTab s (key x.1 x.2.1) x.2.2) s

/-- The power records of a partition's sites and edge positions (R438, R449). -/
def putPower (s : State) (p : Nat) (x : PwrRow) : State :=
  let bytes := (sitesOf s p).map (fun k => (8 + k, rowOf (x.siteW.map (fun y => (0, y.1, y.2))) 0 k))
    ++ (edgesOf s p).map (fun e => (152 + e, rowOf (x.edgeW.map (fun y => (0, y.1, y.2))) 0 e))
  ((0, x.oppt.val + 4 * b2n x.present) :: bytes).foldl (fun s b =>
    let key := pwrKey x.row x.variant.val (b.1 / 8)
    let w := tab s key
    let sh := 2 ^ (8 * (b.1 % 8))
    setTab s key (w - bf w (8 * (b.1 % 8)) 8 * sh + b.2 % 256 * sh)) s

/-- The issue-table rows of a partition that name one of these stream-table entries are emptied: the loader rewrites an entry only while none names
it (R319). -/
def freeEntries (s : State) (p : Nat) (is : List Nat) : State :=
  s.setTables (s.tables.filter (fun e => !((sitesOf s p).any (fun k => inRanges [issueRange k] e.1) && bf e.2 20 1 == 1 && is.contains (bf e.2 0 20))))

/-- What LOAD writes (R469): tables, region attributes, stream-table entries, seeds and core registers, stores and basins. The zero-fills that class
changes start, and any other under way, have ended before the basins are written (R198). -/
def writeImage (s : State) (p : Nat) (im : SchedImage) : State :=
  let s := putRows hopKey im.hop (putRows cfgKey im.configs (putRows bpdKey im.bpd (putRows phaseKey im.phases s)))
  let s := putRows cscKey im.cascade s
  let doms := (sitesOf s p).filter (fun k => siteState s k != 2) ++ ((edgesOf s p).filter (edgeInService s)).map (fun e => 144 + e)
  let s := doms.foldl (fun s d => im.boundary.zipIdx.foldl (fun s r => setTab s (bndKey d r.2) (bndWord r.1)) (wf s (CLK_BND_CFG d) Fd.CLK_BND_CFG_LOOP im.loop)) s
  let s := im.regions.foldl (fun s x => setRegion s x.1 x.2.1 (x.2.2 % 2) (x.2.2 / 2 % 2) (x.2.2 / 4 % 2)) s
  let s := (sitesOf s p).foldl finishZeroFill s
  let s := match im.bandMap with | some w => writeEntry s 0 w | Option.none => s
  let s := im.streams.foldl (fun s x => writeEntry s x.1 x.2) (freeEntries s p (im.streams.map (fun x => x.1)))
  let s := putRows sitKey im.issue s
  let s := im.edgeHop.foldl (fun s x => setTab s (edgeHopKey x.1 x.2.1) x.2.2) s
  let s := im.edgeCfg.foldl (fun s x => (List.range 32).foldl (fun s i => setTab s (edgeCfgKey x.1 x.2.1 i) (bf x.2.2 (64 * i) 64)) s) s
  let s := im.edgePhase.foldl (fun s x => (List.range 2).foldl (fun s i => setTab s (edgePhaseKey x.1 x.2.1 i) (bf x.2.2 (64 * i) 64)) s) s
  let s := im.slotMaps.foldl (fun s x => wr s (SUO_PORTp_SMAPn (x.1 / 8) (x.1 % 8) x.2.1) (BitVec.ofNat 64 x.2.2)) s
  let s := im.epochs.foldl (fun s x => writeEpoch s .steward x.1 2 (BitVec.ofNat 64 x.2)) s
  let s := im.power.foldl (fun s x => putPower s p x) s
  let s := im.seeds.foldl (fun s x => wr s (CORE_SR_SEED x.1) (BitVec.ofNat 64 x.2)) ((imageCores im).foldl (fun s g => wr s (CORE_SR_SEED g) (BitVec.ofNat 64 im.seed)) s)
  let s := im.aregs.foldl (fun s x => setAreg s x.1 (x.2.1 % 32) (BitVec.ofNat 64 x.2.2)) s
  let s := im.preds.foldl (fun s x => wr s (CORE_PRED x.1) (BitVec.ofNat 64 (x.2 % 256 / 2 * 2 + 1))) s
  let s := im.descs.foldl (fun s x => wr s (CORE_TUDESCn x.1 (x.2.1 % 64)) (BitVec.ofNat 64 x.2.2)) s
  let s := im.entries.foldl (fun s x => wf s (CORE_CTRL x.1) Fd.CORE_CTRL_ENTRY x.2.1) s
  let s := im.coreBytes.foldl (fun s x => cwrite s x.1 x.2.1 x.2.2) s
  im.basin.foldl (fun s x => memWrite s (basinBase x.1 + x.2.1) x.2.2) s

/-- LOAD of a partition (R469). -/
def loadImage (s : State) (p : Nat) (im : SchedImage) : State :=
  if loadBusy s p im then loadCode s p 0x0F 0
  else
    let s := if loadState s p = 6 then unloadPart s p else s
    match loadTest s p im with
    | some (c, d) => loadCode (setLoadState s p 5) p c d
    | Option.none =>
      let s := writeImage s p im
      let s := modPart s p (fun x => { x with image := some im, uses := imageUses im })
      let s := loadCode (setLoadState s p 2) p 0 0
      let s := (imageEdges im).eraseDups.foldl (fun s e => wf s (SUO_PROG_ERR e) Fd.SUO_PROG_ERR_LOCK 1) s
      im.linkMap.foldl (fun s e => mapPort s e.port.val) s

/-! START. -/

/-- The first SC, at least `from_`, at which a running boundary table starts row LOOP: the walk goes on from the phase that starts at `start`
with row `r`, for `fuel` phases (R471). -/
def loopStart (s : State) (d from_ : Nat) : Nat → Nat → Nat → Nat
  | 0, _, start => start
  | n + 1, r, start =>
    let w := tab s (bndKey d r)
    let loop := rf s (CLK_BND_CFG d) Fd.CLK_BND_CFG_LOOP
    if r = loop ∧ from_ ≤ start then start
    else loopStart s d from_ n (if bndLast w then loop else (r + 1) % 1024) (start + bndLength w)

/-- A domain of a running partition. -/
def runningDomain (s : State) : Option Nat :=
  (List.range 144).find? (fun k => siteState s k != 2 && (loadState s (partOfSite s k) == 3 || loadState s (partOfSite s k) == 4))

/-- The current SC of the panel: the furthest domain's. -/
def panelSc (s : State) : Nat := (lockstep s).foldl (fun m d => max m (scOf s d)) 0

/-- The start SC S0 (R471): free but at least 2^20 SCs ahead, or where the running table starts row LOOP. -/
def chooseStart (s : State) : State × Nat :=
  let least := panelSc s + 2 ^ 20
  match runningDomain s with
  | some d => (s, loopStart s d least (2 ^ 21) (rf s (CLK_BND_NEXT d) Fd.CLK_BND_NEXT_ROW) (dom s d).bndStart)
  | Option.none =>
    let f := takeFree 20 s
    (f.2, least + f.1.toNat)

/-- The checks of START on a partition: codes 0x03, 0x09 and 0x0D again, and row 0 against the running table's LOOP row (R471). -/
def startTest (s : State) (p : Nat) (im : SchedImage) : Option (Nat × Nat) :=
  firstFail [ckFpr s im, ckLinks s im, ckResidency s p im,
    match runningDomain s with
    | some d => failIf 8 0 (tab s (bndKey d (rf s (CLK_BND_CFG d) Fd.CLK_BND_CFG_LOOP)) != bndWord (imageBnd im 0))
    | Option.none => Option.none]

/-- Rebase an image to S0 and arm its cores (R103, R281, R471). -/
def armImage (s : State) (p s0 : Nat) (im : SchedImage) : State :=
  let doms := (sitesOf s p).filter (fun k => siteState s k != 2) ++ ((edgesOf s p).filter (edgeInService s)).map (fun e => 144 + e)
  let s := doms.foldl (fun s d =>
    let s := wf (wr s (CLK_BND_BASE d) (BitVec.ofNat 64 s0)) (CLK_BND_CFG d) Fd.CLK_BND_CFG_VALID 1
    placePhase s d 0 s0) s
  let s := (sitesOf s p).foldl (fun s k => modSite s k (fun x => { x with out := false, retired := false })) s
  let s := im.entries.foldl (fun s x =>
    let s := wr s (CORE_START_SC x.1) (BitVec.ofNat 64 (s0 + x.2.2))
    if coreState s x.1 = 1 then setCoreState (wf s (CORE_CTRL x.1) Fd.CORE_CTRL_ARM 1) x.1 2 else s) s
  setLoadState s p 3

/-- START of the partitions of a mask (R471). One that is not LOADED is refused with 0x0F; a failed check refuses its image, and then none
starts. DEDUCED (log entry 16). The start step raises the steward's hold (R286); for an image that joins others its first phase is the running tables'
LOOP row, whose point is chosen at the boundary before S0, and the step changes nothing (log entry 85). -/
def startImages (s : State) (mask : Nat) : State :=
  let ps := (List.range 4).filter (fun p => mask / 2 ^ p % 2 == 1)
  let busy := ps.filter (fun p => loadState s p != 2 || !(rd s BOOT_READY_SVC).getLsbD 4 || (part s p).zero.isSome)
  if !busy.isEmpty then busy.foldl (fun s p => loadCode s p 0x0F 0) s
  else
    let bad := ps.filterMap (fun p => match (part s p).image with | some im => (startTest s p im).map (fun c => (p, c)) | Option.none => Option.none)
    if !bad.isEmpty then bad.foldl (fun s b => loadCode (setLoadState (unloadPart s b.1) b.1 5) b.1 b.2.1 b.2.2) s
    else
      let first := (runningDomain s).isNone
      let c := chooseStart s
      let s := ps.foldl (fun s p => match (part s p).image with | some im => armImage s p c.2 im | Option.none => s) c.1
      match ps with
      | p :: _ =>
        let s := stewardHold s hBoundary
        match first, (sitesOf s p).find? (fun k => siteState s k != 2) with
        | true, some d => recordChoice s d 0 0 (chooseVariant s d 0)
        | _, _ => s
      | [] => s

/-- Whether a requester may give a BOOT_LOAD_CMD (R513). -/
def loadCmdAllowed (s : State) (req : Requester) (v : W64) : Bool :=
  match clsOf s req with
  | .tenant p =>
    if fget Fd.BOOT_LOAD_CMD_OP v = 2 then fget Fd.BOOT_LOAD_CMD_MASK v % 2 ^ p == 0 && Nat.blt (fget Fd.BOOT_LOAD_CMD_MASK v) (2 ^ (p + 1))
    else fget Fd.BOOT_LOAD_CMD_PART v == p
  | _ => true

/-- A write of BOOT_LOAD_CMD (R477). `im` is the image at the writer's BOOT_LOAD_SRC. LOAD is ignored while that does not lie in the partition's
slices. -/
def writeLoadCmd (s : State) (req : Requester) (v : W64) (im : SchedImage) : State :=
  let p := fget Fd.BOOT_LOAD_CMD_PART v
  let src := staged s req BOOT_LOAD_SRC
  if !loadCmdAllowed s req v then csrError s req true BOOT_LOAD_CMD
  else
    match fget Fd.BOOT_LOAD_CMD_OP v with
    | 1 => if inPartition s p src 256 then loadImage s p im else s
    | 2 => startImages s (fget Fd.BOOT_LOAD_CMD_MASK v)
    | 3 => if imageLoaded s p then unloadPart s p else s
    | _ => s

/-- `BOOT_LOAD` (R469). -/
def execBootLoad (req : Requester) (p : Part) (im : SchedImage) (s : State) : Host.Outcome State Fault Refusal :=
  ok (guardCsr s req BOOT_LOAD_CMD true (fun s => writeLoadCmd s req (BitVec.ofNat 64 (1 + 16 * p.val)) im))

/-- `BOOT_START` (R471). -/
def execBootStart (req : Requester) (mask : Fin 16) (s : State) : Host.Outcome State Fault Refusal :=
  ok (guardCsr s req BOOT_LOAD_CMD true (fun s => writeLoadCmd s req (BitVec.ofNat 64 (2 + 256 * mask.val)) default))

/-- `BOOT_UNLOAD` (R472). -/
def execBootUnload (req : Requester) (p : Part) (s : State) : Host.Outcome State Fault Refusal :=
  ok (guardCsr s req BOOT_LOAD_CMD true (fun s => writeLoadCmd s req (BitVec.ofNat 64 (3 + 16 * p.val)) default))

end Sys2Proof.Machine
end

