-- ==== Sys2Proof/Machine/Security.lean ====
section
/-!
DEFINITION. Security: the lifecycle (R501 to R503), the key store (R505), key slots (R506, R507), attestation (R508, R509), partitions and their
owners (R510 to R512), device interfaces (R520), and zeroising (R521 to R524).
-/
namespace Sys2Proof.Machine

def modSec (s : State) (f : SecX → SecX) : State := modPnl s (fun p => { p with sec := f p.sec })

/-- The lifecycle state (R501): 0 MANUFACTURE, 1 PROVISIONED, 2 DEPLOYED, 3 DECOMMISSIONED. -/
def lifecycle (s : State) : Nat := rf s SEC_LIFECYCLE Fd.SEC_LIFECYCLE_STATE

/-! Sessions. -/

/-- A session on a port. -/
def sessionAt (s : State) (pt i : Nat) : Option Session := s.pnl.sessions.find? (fun x => x.port == pt && x.idx == i)

/-- Management sessions of a port. -/
def mgmtCount (s : State) (pt : Nat) : Nat := (s.pnl.sessions.filter (fun x => x.port == pt && x.kind == 1)).length

/-- Refresh MGT_PORTn_STATUS.SESSIONS. -/
def showSessions (s : State) : State :=
  (List.range 2).foldl (fun s n => wf s (MGT_PORTn_STATUS n) Fd.MGT_PORTn_STATUS_SESSIONS (mgmtCount s n)) s

/-- A session opens. -/
def openSession (s : State) (pt i kind : Nat) (leaf : BitVec 384) : State :=
  showSessions (modPnl s (fun p => { p with sessions := p.sessions ++ [⟨pt, i, kind, 0, 0, leaf, []⟩] }))

/-- Whether the session has the update in progress open. -/
def hasUpdate (s : State) (pt i : Nat) : Bool := match s.pnl.boot.update with | some u => u.1 == pt && u.2.1 == i | Option.none => false

/-- A session ends (R512, R538). -/
def closeSession (s : State) (pt i : Nat) : State :=
  let s := if hasUpdate s pt i then failUpdate s else s
  showSessions (modPnl s (fun p => { p with sessions := p.sessions.filter (fun x => !(x.port == pt && x.idx == i)) }))

/-- Whether a session is the owner session of an OWNED partition. -/
def ownerOfPart (s : State) (pt i p : Nat) : Bool :=
  rf s (SEC_PARTp p) Fd.SEC_PARTp_STATE == 2 && (match sessionAt s pt i with | some x => x.kind == 2 + p | Option.none => false)

/-! Attestation (R509). -/

/-- The DIGEST of a section of the booted image by TYPE. -/
def sectionDigest (s : State) (typ : Nat) : BitVec 384 :=
  match slotImage s (rf s BOOT_STATUS Fd.BOOT_STATUS_SLOT) with
  | some im => (im.sections.find? (fun x => x.typ == typ)).elim 0#384 (fun x => x.digest)
  | Option.none => 0#384

/-- Security version of the booted image. -/
def bootedSv (s : State) : Nat := rf s BOOT_IMG Fd.BOOT_IMG_SEC_VERSION

/-- Bytes that stand for a digest in a measurement. -/
def dgBytes (d : BitVec 384) : List Byte := bytesOf 48 d.toNat

/-- A partition's measurement. -/
def partMeasure (s : State) (p : Nat) : BitVec 384 :=
  let im : List Byte := match (part s p).image with
    | some im => dgBytes im.digest ++ dgBytes im.canonDigest ++ dgBytes im.loadman
    | Option.none => bytesOf 144 0
  let slots := bitsOf 32 (fun i => partOfKey s i == some p && (rd s SEC_SLOTS).getLsbD i)
  let imported := bitsOf 32 (fun i => partOfKey s i == some p && (rd s SEC_SLOTS).getLsbD (32 + i))
  sha384 (im ++ bytesOf 4 slots ++ bytesOf 4 imported ++ bytesOf 1 (loadState s p))

/-- A measurement block (R509). The widths of fields that a digest covers are those of their registers or table entries (log entry 17). -/
def measure (s : State) (index : Nat) : Option (BitVec 384) :=
  match index with
  | 1 => some Config.stewardRom
  | 2 => some (sectionDigest s 1)
  | 3 => some (sectionDigest s 2)
  | 4 => some (sectionDigest s 3)
  | 5 => some (sectionDigest s 4)
  | 6 => some (sectionDigest s 5)
  | 7 => some (sha384 (bytesOf 4 (bootedSv s) ++ bytesOf 4 (rf s BOOT_IMG Fd.BOOT_IMG_BUILD_SEQ)
      ++ bytesOf 1 (rf s BOOT_STATUS Fd.BOOT_STATUS_SLOT) ++ bytesOf 4 (rf s FUSE_INFO Fd.FUSE_INFO_MIN_SV)))
  | 8 => some (sha384 (bytesOf 1 (lifecycle s) ++ bytesOf 1 (rf s SEC_LIFECYCLE Fd.SEC_LIFECYCLE_DEBUG_OPENED)))
  | 9 => some (sha384 (bytesOf 1 (rf s FUSE_INFO Fd.FUSE_INFO_VARIANT) ++ bytesOf 8 (rd s (FUSE_SERIALn 0)).toNat ++ bytesOf 8 (rd s (FUSE_SERIALn 1)).toNat))
  | 10 => some (sha384 (bytesOf 4 (rf s BOOT_FPR_GEN Fd.BOOT_FPR_GEN_GEN) ++ dgBytes (BitVec.ofNat 384 (natOf (bodyDigest (currentFpr s))))))
  | 11 => some (sha384 (s.pnl.sec.keys.flatMap (fun k => bytesOf 16 k.2.2.toNat ++ bytesOf 1 k.2.1)))
  | 12 => some (sha384 (bytesOf 1 (pmode s) ++ bytesOf 8 (rd s SEC_CORRIDOR).toNat
      ++ (List.range 4).flatMap (fun p => bytesOf 1 (rf s (SEC_PARTp p) Fd.SEC_PARTp_STATE) ++ bytesOf 1 (rf s (SEC_PARTp p) Fd.SEC_PARTp_PMU_GRANT))))
  | 16 => some (partMeasure s 0)
  | 17 => some (partMeasure s 1)
  | 18 => some (partMeasure s 2)
  | 19 => some (partMeasure s 3)
  | _ => Option.none

/-- What signs: the alias key of the booted firmware (R504, R508). -/
def signAlias (s : State) (msg : List Byte) : List Byte :=
  Config.aliasSign s.pnl.sec.udsBlown (sectionDigest s 1) (bootedSv s) (lifecycle s) msg

/-- Whether sessions of a port may be management sessions: the management ports and the fabric (R534, R535). -/
def mgmtPort (pt : Nat) : Bool := pt == 0 || pt == 1 || pt == 4

/-- KEY_EXCHANGE (R508, R512, R535): the session serves attestation, or management when the requester's chain ends at the owner root; a port
takes four of those. -/
def keyExchange (s : State) (pt i : Nat) (auth : Bool) (leaf : BitVec 384) (rooted : Bool) : State :=
  let mgmt := auth && rooted && mgmtPort pt && s.pnl.sec.keys.any (fun k => k.2.1 == 1)
  if (sessionAt s pt i).isSome ∨ (mgmt ∧ 4 ≤ mgmtCount s pt) then reply s false []
  else reply (openSession s pt i (if mgmt then 1 else 0) (if auth then leaf else 0#384)) true []

/-- The owner session sets or clears PMU_GRANT of its partition (R512). -/
def setGrant (s : State) (pt i : Nat) (on : Bool) : State :=
  match sessionAt s pt i with
  | some x =>
    if 2 ≤ x.kind ∧ ownerOfPart s pt i (x.kind - 2) then reply (wfb s (SEC_PARTp (x.kind - 2)) Fd.SEC_PARTp_PMU_GRANT on) true []
    else reply s false []
  | Option.none => reply s false []

/-- `SPDM_REQUEST` (R504, R508, R509, R512), on a port that is on. -/
def execSpdmRequest (pt : Fin 5) (i : Fin 8) (m : SpdmMsg) (s : State) : Host.Outcome State Fault Refusal :=
  if !portOn s pt.val then ok (reply s false [])
  else match m with
  | .getCertificate slot =>
    ok (reply s true (if slot.val = 0 then Config.deviceChain s.pnl.sec.udsBlown
      else Config.aliasChain s.pnl.sec.udsBlown (sectionDigest s 1) (bootedSv s) (lifecycle s)))
  | .challenge => ok (reply s true (signAlias s []))
  | .getMeasurement index =>
    match measure s index with
    | some d => ok (reply s true (dgBytes d ++ signAlias s (dgBytes d)))
    | Option.none => ok (reply s false [])
  | .keyExchange auth leaf rooted => ok (keyExchange s pt.val i.val auth leaf rooted)
  | .endSession => ok (if (sessionAt s pt.val i.val).isSome then reply (closeSession s pt.val i.val) true [] else reply s false [])
  | .pmuGrant on => ok (setGrant s pt.val i.val on)

/-! Lifecycle and key store. -/

/-- Whether the key store holds the owner root. -/
def hasOwnerRoot (s : State) : Bool := s.pnl.sec.keys.any (fun k => k.2.1 == 1)

/-- A token refused. -/
def tokenErr (s : State) : State := wf s SEC_LC_CMD Fd.SEC_LC_CMD_ERR 1

/-- Lowest empty entry of the key store. -/
def freeEntry (ks : List (Nat × Nat × BitVec 128)) : Option Nat := (List.range 64).find? (fun e => ks.all (fun k => k.1 != e))

/-- One change of the key store (R505). An identifier that is there takes the new role; a key that finds no room is left out. -/
def keyChange (ks : List (Nat × Nat × BitVec 128)) (c : KeyChange) : List (Nat × Nat × BitVec 128) :=
  match c with
  | .remove id => ks.filter (fun k => k.2.2 != id)
  | .add id role =>
    if role.val = 0 then ks
    else if ks.any (fun k => k.2.2 == id) then ks.map (fun k => if k.2.2 = id then (k.1, role.val, id) else k)
    else match freeEntry ks with | some e => ks ++ [(e, role.val, id)] | Option.none => ks

/-- Destroy the key store and every key slot (R502, R503). -/
def destroyKeys (s : State) : State :=
  modSec ((List.range 32).foldl destroySlot s) (fun x => { x with keys := [] })

/-- Zeroise every partition (R521). -/
def zeroiseAll (s : State) : State := (List.range (partCount s)).foldl (fun s p => zeroiseFinish (zeroiseStart s p) p []) s

/-- A token opens a transition (R502): forward in table order, or to DECOMMISSIONED; signed by the authority that the table names. -/
def tokenOpens (s : State) (target : Nat) (t : Token) : Bool :=
  let now := lifecycle s
  let owner := t.ownerSig && hasOwnerRoot s
  t.serialOk && t.state.val == now && t.target.val == target && Nat.blt now target && (target == now + 1 || target == 3)
    && (match target with | 1 => t.manufacturingSig | 2 => owner | _ => owner || t.manufacturingSig)

/-- A lifecycle transition (R502): the state fuses blow and a full-panel reset with cold start follows. -/
def lcTransition (s : State) (target : Nat) (t : Token) : State :=
  if !tokenOpens s target t then tokenErr s
  else
    let s := if target = 3 then modSec (destroyKeys (zeroiseAll s)) (fun x => { x with udsBlown := true }) else s
    let s := if target = 1 then modSec s (fun x => { x with keys := keyChange x.keys (.add t.ownerRoot 1) }) else s
    fullReset (wf s SEC_LIFECYCLE Fd.SEC_LIFECYCLE_STATE target) true true

/-- Open debug (R503). -/
def openDebug (s : State) (t : Token) : State :=
  let now := lifecycle s
  if t.serialOk ∧ t.state.val = now ∧ (now = 1 ∨ now = 2) ∧ t.manufacturingSig ∧ t.ownerSig ∧ hasOwnerRoot s then
    let s := modSec (destroyKeys (zeroiseAll s)) (fun x => { x with udsBlown := true })
    fullReset (wf s SEC_LIFECYCLE Fd.SEC_LIFECYCLE_DEBUG_OPENED 1) true true
  else tokenErr s

/-- A write of SEC_LC_CMD (R502, R503); `t` is what SEC_TOKEN holds. -/
def writeLcCmd (s : State) (v : W64) (t : Token) : State :=
  let s := clear1 s SEC_LC_CMD Fd.SEC_LC_CMD_ERR v
  if fget Fd.SEC_LC_CMD_OPEN_DEBUG v = 1 then openDebug s t
  else if fget Fd.SEC_LC_CMD_TARGET v = 0 then s
  else lcTransition s (fget Fd.SEC_LC_CMD_TARGET v) t

/-- `LC_TRANSITION` (R502). -/
def execLcTransition (req : Requester) (target : Fin 4) (t : Token) (s : State) : Host.Outcome State Fault Refusal :=
  ok (guardCsr s req SEC_LC_CMD true (fun s => writeLcCmd s (BitVec.ofNat 64 target.val) t))

/-- `OPEN_DEBUG` (R503). -/
def execOpenDebug (req : Requester) (t : Token) (s : State) : Host.Outcome State Fault Refusal :=
  ok (guardCsr s req SEC_LC_CMD true (fun s => writeLcCmd s 4#64 t))

/-- `KEY_STORE_UPDATE` (R505): a token that the owner root signs adds or removes entries. -/
def execKeyStoreUpdate (req : Requester) (t : Token) (s : State) : Host.Outcome State Fault Refusal :=
  ok (guardCsr s req (SEC_TOKEN 0) true (fun s =>
    if t.serialOk ∧ t.state.val = lifecycle s ∧ (lifecycle s = 1 ∨ lifecycle s = 2) ∧ t.ownerSig ∧ hasOwnerRoot s then
      modSec s (fun x => { x with keys := t.changes.foldl keyChange x.keys })
    else tokenErr s))

/-! Key slots (R506). -/

/-- Fill a slot with new keys. -/
def fillSlot (s : State) (slot : Nat) (imported : Bool) : State := showSlot (newKey s slot) slot true imported

/-- Fill a slot with imported keys (R506). -/
def importSlot (s : State) (slot : Nat) (keys : BitVec 768) : State := setTab (fillSlot s slot true) (slotImport slot) (keys.toNat + 1)

/-- Whether a session may fill a slot: the owner session of the slot's partition. -/
def mayFill (s : State) (pt i slot : Nat) : Bool := match partOfKey s slot with | some p => ownerOfPart s pt i p | Option.none => false

/-- `KEY_GENERATE` (R506, R512). -/
def execKeyGenerate (pt : Fin 5) (i : Fin 8) (slot : Fin 32) (s : State) : Host.Outcome State Fault Refusal :=
  ok (if mayFill s pt.val i.val slot.val then reply (fillSlot s slot.val false) true [] else reply (countRefusal s) false [])

/-- `KEY_IMPORT` (R506, R512): `keys` is what the wrapped keys unwrap to under the session's key, none where they do not: an XTS key pair, and the
export key above it. -/
def execKeyImport (pt : Fin 5) (i : Fin 8) (slot : Fin 32) (keys : Option (BitVec 768)) (s : State) : Host.Outcome State Fault Refusal :=
  ok (if mayFill s pt.val i.val slot.val then (match keys with | some k => reply (importSlot s slot.val k) true [] | Option.none => reply s false [])
    else reply (countRefusal s) false [])

/-! Partitions and owners. -/

/-- The digest that SEC_PART_BINDp_0 to _5 hold. -/
def bindDigest (s : State) (p : Nat) : BitVec 384 :=
  BitVec.ofNat 384 ((List.range 6).foldl (fun acc n => acc + (rd s (SEC_PART_BINDp_n p n)).toNat * 2 ^ (64 * n)) 0)

/-- A write of SEC_PART_BINDp_n (R512, R523): the write of _5 completes the digest. -/
def writePartBind (s : State) (req : Requester) (p n : Nat) (v : W64) : State :=
  let a := SEC_PART_BINDp_n p n
  if rf s (SEC_PARTp p) Fd.SEC_PARTp_STATE ≠ 0 ∨ (rd s SEC_ZEROIZE).getLsbD (4 + p) then csrError s req true a
  else
    let s := wr s a v
    if n ≠ 5 then s
    else if bindDigest s p = 0#384 then csrError s req true a
    else wf (wf s (SEC_PARTp p) Fd.SEC_PARTp_STATE 1) SEC_ZEROIZE ⟨8 + p, 1, .ro⟩ 0

/-- `PART_BIND_DIGEST` (R512). -/
def execPartBindDigest (req : Requester) (p : Part) (v : W64) (s : State) : Host.Outcome State Fault Refusal :=
  ok (guardCsr s req (SEC_PART_BINDp_n p.val 5) true (fun s => writePartBind s req p.val 5 v))

/-- Whether some session is the owner session of a partition. -/
def hasOwner (s : State) (p : Nat) : Bool := s.pnl.sessions.any (fun x => x.kind == 2 + p)

/-- `BIND` (R512): inside a session with mutual authentication whose leaf key matches the digest; the session becomes the owner session. -/
def execBindPart (pt : Fin 5) (i : Fin 8) (p : Part) (s : State) : Host.Outcome State Fault Refusal :=
  let st := rf s (SEC_PARTp p.val) Fd.SEC_PARTp_STATE
  match sessionAt s pt.val i.val with
  | Option.none => ok (reply s false [])
  | some x =>
    if x.leaf = 0#384 ∨ x.leaf ≠ bindDigest s p.val ∨ !(st = 1 ∨ st = 2) ∨ hasOwner s p.val then ok (reply s false [])
    else
      let s := modPnl s (fun q => { q with sessions := q.sessions.map (fun y =>
        if y.port = pt.val ∧ y.idx = i.val then { y with kind := 2 + p.val } else y) })
      ok (reply (showSessions (wf s (SEC_PARTp p.val) Fd.SEC_PARTp_STATE 2)) true [])

/-! Device interfaces (R520). -/

/-- `TDI_LOCK_INTERFACE` (R520). -/
def execTdiLockInterface (pt : Fin 5) (i : Fin 8) (hp : Fin 2) (p : Part) (s : State) : Host.Outcome State Fault Refusal :=
  let key := hp.val * 4 + p.val
  if ownerOfPart s pt.val i.val p.val then
    ok (reply (modSec s (fun x => { x with tdiLocked := if x.tdiLocked.contains key then x.tdiLocked else x.tdiLocked ++ [key] })) true [])
  else ok (reply (countRefusal s) false [])

/-- `TDI_START_INTERFACE` (R520): a locked TDI enters RUN. -/
def execTdiStartInterface (pt : Fin 5) (i : Fin 8) (hp : Fin 2) (p : Part) (s : State) : Host.Outcome State Fault Refusal :=
  let key := hp.val * 4 + p.val
  if ownerOfPart s pt.val i.val p.val then
    if s.pnl.sec.tdiLocked.contains key then
      ok (reply (wf (modSec s (fun x => { x with tdiLocked := x.tdiLocked.filter (fun k => k != key) })) (SEC_PARTp p.val) ⟨3 + hp.val, 1, .ro⟩ 1) true [])
    else ok (reply s false [])
  else ok (reply (countRefusal s) false [])

/-! Zeroise. -/

/-- Whether a requester may zeroise a partition (R513). -/
def mayZeroise (s : State) (req : Requester) (p : Nat) : Bool := match clsOf s req with | .tenant q => q == p | c => c.ops

/-- A write of SEC_ZEROIZE (R521, R523, R524): a request for a partition that is being zeroised merges. -/
def writeZeroise (s : State) (req : Requester) (v : W64) : State :=
  let ps := (List.range 4).filter (fun p => v.getLsbD p)
  if ps.any (fun p => !mayZeroise s req p) then csrError (countRefusal s) req true SEC_ZEROIZE
  else ps.foldl (fun s p => if (part s p).zero.isSome ∨ partCount s ≤ p then s else zeroiseStart s p) s

/-- `SEC_ZEROIZE` (R521, R522). -/
def execSecZeroize (req : Requester) (v : W64) (s : State) : Host.Outcome State Fault Refusal :=
  ok (guardCsr s req SEC_ZEROIZE true (fun s => writeZeroise s req v))

/-- What a fill leaves out: the stream table and the collector buffer, 64 MiB each (R522). -/
def fillKeeps (s : State) : List (Nat × Nat) := [(tableBase s, 0x400_0000), (collectorBase s, 0x400_0000)]

/-- `ZEROIZE_DONE` (R522): the fill is complete. -/
def execZeroizeDone (p : Part) (s : State) : Host.Outcome State Fault Refusal :=
  if (part s p.val).zero.isSome then ok (zeroiseFinish s p.val (fillKeeps s)) else ok s

/-! Partition mode and corridors. -/

/-- Whether SEC_PART_CFG and SEC_CORRIDOR may change (R511, R523). -/
def partCfgOpen (s : State) : Bool :=
  (List.range 4).all (fun p => rf s (SEC_PARTp p) Fd.SEC_PARTp_STATE == 0) && rf s SEC_ZEROIZE Fd.SEC_ZEROIZE_BUSY == 0 && !anyImage s

/-- Whether a partition is named by SEC_CORRIDOR. -/
def inCorridor (s : State) (p : Nat) : Bool := corridorHolder s p || (rd s SEC_CORRIDOR).getLsbD (28 + p)

/-- Whether a link of a site carries corridor slices. -/
def corridorLink (s : State) (k l : Nat) : Bool :=
  rf s SEC_CORRIDOR Fd.SEC_CORRIDOR_EN == 1 && crosses s k (l, 0) && inCorridor s (partOfSite s k)
    && (match linkFar k l with | some f => inCorridor s (partOfSite s f) | Option.none => false)

/-- The steward writes RIL_PART and RIL_CORRIDORn of every router (R510, R516). -/
def showPartitions (s : State) : State :=
  (List.range 144).foldl (fun s k =>
    let s := wf s (RIL_PART k) Fd.RIL_PART_PARTITION (partOfSite s k)
    (List.range 4).foldl (fun s n =>
      let mesh := if corridorLink s k n then rf s SEC_CORRIDOR Fd.SEC_CORRIDOR_MESH else 0
      let span := if corridorLink s k (4 + n) then rf s SEC_CORRIDOR Fd.SEC_CORRIDOR_SPAN else 0
      wf (wf s (RIL_CORRIDORn k n) Fd.RIL_CORRIDORn_MESH mesh) (RIL_CORRIDORn k n) Fd.RIL_CORRIDORn_SPAN span) s) s

/-- A write of SEC_PART_CFG (R511). Spread bands rotate over the channels of the new partitions (R311). -/
def writePartCfg (s : State) (req : Requester) (v : W64) : State :=
  if !partCfgOpen s ∨ fget Fd.SEC_PART_CFG_PMODE v = 3 then csrError s req true SEC_PART_CFG
  else
    let s := rehome s (showPartitions (wf s SEC_PART_CFG Fd.SEC_PART_CFG_PMODE (fget Fd.SEC_PART_CFG_PMODE v)))
    (List.range 32).foldl (fun s i => showSlot s i ((rd s SEC_SLOTS).getLsbD i) ((rd s SEC_SLOTS).getLsbD (32 + i))) s

/-- A write of SEC_CORRIDOR (R511, R516). -/
def writeCorridor (s : State) (req : Requester) (v : W64) : State :=
  if !partCfgOpen s then csrError s req true SEC_CORRIDOR
  else
    let put := fun (s : State) (f : Fld) => wf s SEC_CORRIDOR f (fget f v)
    showPartitions ([Fd.SEC_CORRIDOR_MESH, Fd.SEC_CORRIDOR_SPAN, Fd.SEC_CORRIDOR_HOLDER, Fd.SEC_CORRIDOR_READERS, Fd.SEC_CORRIDOR_EN].foldl put s)

/-- `SEC_PART_CFG_WRITE` (R511): a write of SEC_PART_CFG, or of SEC_CORRIDOR. -/
def execSecPartCfgWrite (req : Requester) (corridor : Bool) (v : W64) (s : State) : Host.Outcome State Fault Refusal :=
  if corridor then ok (guardCsr s req SEC_CORRIDOR true (fun s => writeCorridor s req v))
  else ok (guardCsr s req SEC_PART_CFG true (fun s => writePartCfg s req v))

end Sys2Proof.Machine
end

