-- ==== Sys2Proof/Machine/Access.lean ====
section
/-!
DEFINITION. Register access (R10 to R13): what a read of each register returns and what a write of it starts, and the rows by which a write
of any register, the host's register window and the host's apertures come in (R528 to R531).
-/
namespace Sys2Proof.Machine

/-! Which register an access names. -/

/-- The SUO port of an offset of an edge die's block, and the offset within the port's registers. -/
def suoPort (e o : Nat) : Nat := 8 * e + (o - 0x1000) / 512
def suoOfs (o : Nat) : Nat := (o - 0x1000) % 512

/-- Whether an edge die's engine holds a gateway port (R386). -/
def hasGateway (s : State) (e : Nat) : Bool := (gatewayOf s e).isSome

/-- The row that an offset names on this panel: gateway registers stand only where a gateway port is (R386). -/
def rowAt (s : State) (b : Blk) (u o : Nat) : Option RegRow :=
  match b with
  | .suo => if Nat.ble 0x3000 o && !hasGateway s u then Option.none else findRow b o
  | _ => findRow b o

/-- Registers of which every requester has its own (R500, R513, R541). -/
def isStaged (b : Blk) (o : Nat) : Bool :=
  match b with
  | .pBoot => o == 0x308
  | .pFlt => o == 0x10
  | .pStm => o == 0x8 || (Nat.ble 0x40 o && Nat.blt o 0x80)
  | .pTime => o == 0x10 || o == 0x28 || o == 0x30 || o == 0x38 || o == 0x68 || o == 0x70 || o == 0x78
  | _ => false

/-- The word of a register that its requester has, before a half write. -/
def oldWord (s : State) (req : Requester) (b : Blk) (u o a : Nat) : W64 :=
  if isStaged b o then BitVec.ofNat 64 (staged s req a)
  else
    match b with
    | .core =>
      if o == 0x900 then (core s u).evtStaged.getD (core s u).evtSel
      else if o == 0x908 then (core s u).sampStaged.getD (core s u).sampCfg
      else rd s a
    | _ => rd s a

/-- The bits of a word that a write of the other half leaves as they stand: those of fields that hold what is written. -/
def keepBits (r : RegRow) (w : W64) : W64 :=
  r.fields.foldl (fun acc f => match f.acc with
    | .rw => fset f (fget f w) acc
    | .rws => fset f (fget f w) acc
    | .rwl => fset f (fget f w) acc
    | _ => acc) 0#64

/-- The 64 bits that a write stands for (R11): half 0 the whole word, 1 its low half, 2 its high half. -/
def fullWord (r : RegRow) (old : W64) (half : Nat) (v : W64) : W64 :=
  let k := (keepBits r old).toNat
  match half with
  | 0 => v
  | 1 => BitVec.ofNat 64 (v.toNat % 2 ^ 32 + k / 2 ^ 32 * 2 ^ 32)
  | _ => BitVec.ofNat 64 (k % 2 ^ 32 + v.toNat % 2 ^ 32 * 2 ^ 32)

/-- What a read returns of a word (R11). -/
def halfOf (half : Nat) (w : W64) : W64 :=
  match half with
  | 0 => w
  | 1 => BitVec.ofNat 64 (w.toNat % 2 ^ 32)
  | _ => BitVec.ofNat 64 (w.toNat / 2 ^ 32)

/-! Tables that stand in register windows. -/

/-- Key of the power table's word at an offset of the PWR block (R438, R447), if one stands there. -/
def powerWord (o : Nat) : Option Nat :=
  if 0x1_0000 ≤ o ∧ o < 0x1_0000 + 4096 * 168 ∧ o % 8 = 0 then some (tk 17 + (o - 0x1_0000) / 8) else Option.none

/-- Write a word of the power table: the reserved bits of a record's first word stay 0 (R12, R438). -/
def setPower (s : State) (k v : Nat) : State := setTab s k (if (k - tk 17) % 21 = 0 then v % 8 else v)

/-- Whether an offset of an edge die's SUO block lies in the edge program's window (R386). -/
def inEdgeProg (o : Nat) : Bool := Nat.ble 0x8_0000 o

/-- The edge program's word at an offset. -/
def edgeProgWord (s : State) (e o : Nat) : W64 :=
  if o < 0x8_8000 then
    let row := (o - 0x8_0000) / 4
    BitVec.ofNat 64 (tab s (edgeHopKey e row) + tab s (edgeHopKey e (row + 1)) * 2 ^ 32)
  else if 0x10_0000 ≤ o ∧ o < 0x12_0000 then BitVec.ofNat 64 (tab s (edgeCfgKey e ((o - 0x10_0000) / 256) (o % 256 / 8)))
  else if 0x12_0000 ≤ o ∧ o < 0x12_1000 then BitVec.ofNat 64 (tab s (edgePhaseKey e ((o - 0x12_0000) / 16) (o % 16 / 8)))
  else 0#64

/-- Whether a word of the edge program stands at an offset. -/
def edgeProgHas (o : Nat) : Bool :=
  (Nat.ble 0x8_0000 o && Nat.blt o 0x8_8000) || (Nat.ble 0x10_0000 o && Nat.blt o 0x12_0000) || (Nat.ble 0x12_0000 o && Nat.blt o 0x12_1000)

/-! Reads. -/

/-- Whether the debug port is open: in MANUFACTURE, or after OPEN_DEBUG (R501, R503). -/
def debugOpen (s : State) : Bool := lifecycle s == 0 || rf s SEC_LIFECYCLE Fd.SEC_LIFECYCLE_DEBUG_OPENED == 1

/-- States in which a core's internals read: IDLE, HALTED, FAULTED (R105). -/
def coreReads (s : State) (g : Nat) : Bool := let c := coreState s g; c == 1 || c == 5 || c == 6 || debugOpen s

/-- Offsets of the core window that R105 and R176 read only in those states. -/
def coreGuarded (o : Nat) : Bool := (Nat.ble 0x100 o && Nat.blt o 0x230) || o == 0x310 || (Nat.ble 0x400 o && Nat.blt o 0x600)

/-- A router table word that RIL_READ_ADDR selects (R236). -/
def rilWordAt (s : State) (k : Nat) : W64 :=
  let a := rd s (RIL_READ_ADDR k)
  let t := fget Fd.RIL_READ_ADDR_TABLE a
  let row := fget Fd.RIL_READ_ADDR_ROW a
  let word := fget Fd.RIL_READ_ADDR_WORD a
  let rows := match t with | 0 => 8192 | 1 => 512 | _ => 256
  if row < rows then BitVec.ofNat 64 (bf (tab s (rilKey k t row)) (64 * word) 64) else 0#64

/-- A descriptor word that CSC_READ_ADDR selects (R259). -/
def cscWordAt (s : State) (k : Nat) : W64 :=
  let a := rd s (CSC_READ_ADDR k)
  BitVec.ofNat 64 (bf (tab s (cscKey k (fget Fd.CSC_READ_ADDR_ROW a))) (64 * fget Fd.CSC_READ_ADDR_WORD a) 64)

/-- The issue-table word that SITE_SIT_READ_ADDR selects (R340). -/
def sitWordAt (s : State) (k : Nat) : W64 :=
  let a := rd s (SITE_SIT_READ_ADDR k)
  let row := fget Fd.SITE_SIT_READ_ADDR_ROW a
  match fget Fd.SITE_SIT_READ_ADDR_WORD a with
  | 0 => BitVec.ofNat 64 (bf (sitRow s k row) 0 64)
  | 1 => BitVec.ofNat 64 (bf (sitRow s k row) 64 64)
  | 2 =>
    match armOf s k row with
    | Option.none => 0#64
    | some x =>
      let st := if x.failed then 3 else if x.complete then 2 else 1
      BitVec.ofNat 64 (st + x.notices % 32 * 4 + x.bytes % 2 ^ 40 * 2 ^ 24)
  | _ => match armOf s k row with | Option.none => 0#64 | some x => BitVec.ofNat 64 x.deadline

/-- Links that may carry data, bit l for the links of RIL_LINK (R234). -/
def usableLinks (s : State) (k : Nat) : Nat := bitsOf 8 (linkUsable s k)

/-- Channels of a stack that passed their tests. -/
def hbmStatus (s : State) (h : Nat) : W64 := rd s (HBM_STATUS h)

/-- The load's progress (R417). -/
def ldProgress (s : State) : W64 :=
  match curLd s with
  | some (_, l) =>
    BitVec.ofNat 64 ((l.plcs.filter (fun x => x.state == 3 || x.state == 5)).length % 2 ^ 32 + l.plcs.length % 2 ^ 32 * 2 ^ 32)
  | Option.none => 0#64

/-- The selected placement's state (R417). -/
def ldPlacement (s : State) : W64 :=
  match curLd s with
  | some (_, l) =>
    match l.plcs[rf s STM_LD_PSEL Fd.STM_LD_PSEL_INDEX]? with
    | some x => BitVec.ofNat 64 (x.state % 8 + min 3 x.tries * 16 + x.blocks % 2 ^ 32 * 2 ^ 32)
    | Option.none => 0#64
  | Option.none => 0#64

/-- What a feeder reads: free slots of the home die and the block wanted next (R417). -/
def ldFeed (s : State) : W64 :=
  match landLd s with
  | Option.none => 0#64
  | some (_, l) =>
    match fedSet l with
    | Option.none => 0#64
    | some t =>
      match nextBlock l t with
      | some (i, b, e, _) =>
        BitVec.ofNat 64 (bitsOf 4 (slotFree l e) * 16 + e % 16 * 2 ^ 8 + chainBlock l i b % 2 ^ 32 * 2 ^ 16 + t % 2 ^ 16 * 2 ^ 48)
      | Option.none => 0#64

/-- The fault record that the reader's own FLT_LOG_SEL selects, if the retained ring holds it (R500). -/
def selRecord (s : State) (req : Requester) : Option FltRec := s.pnl.log.find? (fun r => r.seq == staged s req FLT_LOG_SEL % 2 ^ 32)

/-- The key-store entry that SEC_KS_SEL selects. -/
def ksEntry (s : State) : Option (Nat × Nat × BitVec 128) := s.pnl.sec.keys.find? (fun k => k.1 == rf s SEC_KS_SEL Fd.SEC_KS_SEL_ENTRY)

/-- Milliseconds until the lease expires, saturating (R500). -/
def leaseRemain (s : State) : Nat := if rf s FLT_LEASE Fd.FLT_LEASE_EN = 0 then 0 else min 0xFFFF_FFFF (leaseExpiry s - timeMs s)

/-- Two bins of the selected die's cycle count (R436, R446). -/
def cycWord (s : State) (n : Nat) : W64 :=
  let i := rf s THM_DIE_SEL Fd.THM_DIE_SEL_DIE
  BitVec.ofNat 64 (tab s (cycKey i (2 * n)) % 2 ^ 32 + tab s (cycKey i (2 * n + 1)) % 2 ^ 32 * 2 ^ 32)

/-- The identity that a function reads of itself (R531). -/
def fnId (s : State) (u : Nat) : W64 :=
  let f := u % 5
  let run := if f = 0 then 0 else rf s (SEC_PARTp (f - 1)) Fd.SEC_PARTp_TDI_RUN / 2 ^ (u / 5) % 2
  BitVec.ofNat 64 (f + u / 5 * 8 + (f - 1) % 4 * 16 + run * 64)

/-- The MAC address of a management port, derived from the serial (R533): how is not stated (log entry 18). -/
def macOf (s : State) (n : Nat) : Nat := (Config.macAddress (rd s (FUSE_SERIALn 0)) (rd s (FUSE_SERIALn 1)) n).toNat

/-- The word that a read of a register shows, where it is more than what the register holds. -/
def shown (s : State) (req : Requester) (b : Blk) (u o a : Nat) : W64 :=
  let w := rd s a
  if isStaged b o then
    let v := BitVec.ofNat 64 (staged s req a)
    match b with
    | .pFlt => fset Fd.FLT_LOG_SEL_HELD (b2n (selRecord s req).isSome) v
    | _ => v
  else
    match b with
    | .core =>
      if o == 0x10 then fset Fd.CORE_STATUS_VARIANT (dom s (u / 64)).variant (fset Fd.CORE_STATUS_HELD (b2n (held s (u / 64))) w)
      else if o == 0x900 || o == 0x908 then oldWord s req b u o a
      else w
    | .ril => if o == 0x58 then rilWordAt s u else if Nat.ble 0x1000 o && Nat.blt o 0x1480 then viaWord s u ((o - 0x1000) / 8)
      else if o == 0x20 then fset Fd.RIL_LINK_USABLE (usableLinks s u) w else w
    | .csc => if o == 0x58 then cscWordAt s u else w
    | .site => if o == 0x4018 then sitWordAt s u else w
    | .clk =>
      if o == 0x20 then BitVec.ofNat 64 (tab s (markKey req u))
      else if Nat.ble 0x800 o then weirWord s u ((o - 0x800) / 8)
      else w
    | .suo =>
      if Nat.ble 0x1000 o && Nat.blt o 0x2000 && suoOfs o == 8 then fset Fd.SUO_PORTp_STATUS_ROLE (b2n (isGateway s (suoPort u o))) w else w
    | .secE =>
      let ready := (List.range 8).filter (fun i => Nat.ble 4 (portState s (8 * u + i)) && Nat.blt (portState s (8 * u + i)) 6)
      fset Fd.SEC_EDGE_STATUS_KEYED (b2n (ready.all (fun i => rf s (SUO_PORTp_STATUS u i) Fd.SUO_PORTp_STATUS_KEYED == 1))) w
    | .pThm =>
      if o == 0x28 then BitVec.ofNat 64 (tab s (rthKey (rf s THM_DIE_SEL Fd.THM_DIE_SEL_DIE)))
      else if Nat.ble 0x40 o then cycWord s ((o - 0x40) / 8)
      else w
    | .pBoot => if o == 0x28 then fset Fd.BOOT_NET_ANNOUNCE_ELAPSED (min 0xFFFF (armedFor s)) w else w
    | .pFlt =>
      if Nat.ble 0x40 o && Nat.blt o 0x80 then
        match selRecord s req with
        | some r => BitVec.ofNat 64 ((recordWords r).getD ((o - 0x40) / 8) 0)
        | Option.none => 0#64
      else if o == 0x100 then fset Fd.FLT_LEASE_REMAIN_MS (leaseRemain s) w
      else w
    | .pSec =>
      match ksEntry s with
      | some k =>
        if o == 0xC8 then BitVec.ofNat 64 k.2.1
        else if o == 0xD0 then BitVec.ofNat 64 (k.2.2.toNat % 2 ^ 64)
        else if o == 0xD8 then BitVec.ofNat 64 (k.2.2.toNat / 2 ^ 64)
        else w
      | Option.none => w
    | .pMgt => if o == 0x8 || o == 0x18 then fset Fd.MGT_PORTn_STATUS_MAC (macOf s ((o - 8) / 16)) w else w
    | .pStm => if o == 0x1010 then ldProgress s else if o == 0x1020 then ldPlacement s else if o == 0x1028 then ldFeed s else w
    | .fn => if o == 0 then fnId s u else w
    | .pTime => if o == 0x1000 then fset Fd.CLK_PANEL_FUSED_MAX (fusedMax s) w else w
    | _ => w

/-- What a read of a register does: latches (R541, R544), and reads that the core's state forbids (R105) or leaves open (R557). -/
def readReg (s : State) (req : Requester) (b : Blk) (u o a : Nat) (r : RegRow) : State × W64 :=
  let give := fun (s : State) => (s, readMask r (shown s req b u o a))
  match b with
  | .core =>
    if coreGuarded o && !coreReads s u then (csrError s req false a, 0#64)
    else if Nat.ble 0x1000 o && !coreReads s u then
      let f := takeFree 64 s
      (f.2, f.1)
    else give s
  | .clk => if o == 0x28 then give (latchClkMark s req u) else give s
  | .pTime => if o == 0 then give (latchTime s req) else if o == 0x60 then give (latchMarks s req) else give s
  | _ => give s

/-- A register read by its address (R11, R13): a word, or a CSR access error that reads 0. -/
def loadReg (s : State) (req : Requester) (a half : Nat) : State × W64 :=
  match locate a with
  | Option.none => (csrError s req false a, 0#64)
  | some (b, u, o) =>
    if o % 8 ≠ 0 then (csrError s req false a, 0#64)
    else
      match rowAt s b u o with
      | some r =>
        let x := readReg s req b u o a r
        (x.1, halfOf half x.2)
      | Option.none =>
        match b with
        | .suo => if edgeProgHas o then (s, halfOf half (edgeProgWord s u o)) else (csrError s req false a, 0#64)
        | .pPwr =>
          match powerWord o with
          | some k => (s, halfOf half (BitVec.ofNat 64 (tab s k)))
          | Option.none => (csrError s req false a, 0#64)
        | _ => (csrError s req false a, 0#64)

/-! Writes. -/

/-- A plain write under the access codes of R10; what hardware sets in the same clock step stays set (R14). -/
def plainWrite (s : State) (a : Nat) (r : RegRow) (v : W64) : State :=
  wr s a (applyWrite r (rf s BOOT_LOCK Fd.BOOT_LOCK_LOCK == 1) (rd s a) (lateClear s a v))

/-- A write of a ring control word whose LOG2 field must lie in a range: another value is ignored with a CSR access error, the rest applies. -/
def logWrite (s : State) (req : Requester) (a half : Nat) (r : RegRow) (f : Fld) (lo hi : Nat) (v : W64) : State :=
  let l := fget f v
  if half = 2 ∨ (lo ≤ l ∧ l ≤ hi) then plainWrite s a r v
  else csrError (plainWrite s a r (fset f (rf s a f) v)) req true a

/-- A write of a core's window (R105, R146, R176). -/
def writeCoreReg (s : State) (req : Requester) (g o a : Nat) (r : RegRow) (v : W64) : State :=
  if o == 0 then writeCoreCtrl s req g v
  else if o == 0x900 || o == 0x908 then writeProgramme s req g (o == 0x908) v
  else if o == 0x8 || (Nat.ble 0x100 o && Nat.ble o 0x200) || o == 0x300 || o == 0x310 || (Nat.ble 0x400 o && Nat.blt o 0x600) then
    if coreState s g ≠ 1 then csrError s req true a
    else if Nat.ble 0x100 o && Nat.blt o 0x200 then setAreg s g ((o - 0x100) / 8) v
    else plainWrite s a r v
  else plainWrite s a r v

/-- A write of a site's stream registers (R339, R340). -/
def writeSiteReg (s : State) (req : Requester) (k o a : Nat) (r : RegRow) (v : W64) : State :=
  if o == 0x4000 then writeSitLoad s req k v
  else if o == 0x4008 then (if siteBusy s k then csrError s req true a else plainWrite s a r v)
  else if o == 0x4020 then
    match req with
    | .edge _ =>
      modArm s k (fget Fd.SITE_SIT_NOTIFY_STREAM v) (fun x =>
        if fget Fd.SITE_SIT_NOTIFY_FAIL v = 1 then { x with failed := true }
        else if x.check = 2 then { x with notices := x.notices + 1 } else x)
    | _ => csrError s req true a
  else plainWrite s a r v

/-- A write of an edge die's SUO registers (R351, R360, R386). -/
def writeSuoReg (s : State) (req : Requester) (e o a half : Nat) (r : RegRow) (v : W64) : State :=
  if Nat.ble 0x1000 o && Nat.blt o 0x2000 then
    let p := suoPort e o
    let q := suoOfs o
    if q == 0 then
      let st := portState s p
      let was := rf s a Fd.SUO_PORTp_CFG_MODE
      let v := if st = 0 ∨ st = 6 then v else fset Fd.SUO_PORTp_CFG_MODE was v
      plainWrite s a r v
    else if q == 0x30 then writeEpoch s req p (match half with | 0 => 2 | 1 => 0 | _ => 1) v
    else if Nat.ble 0x40 q && Nat.blt q 0xC0 then
      if portState s p = 5 ∨ !mapBitsOk v then csrError s req true a else wr s a v
    else plainWrite s a r v
  else if o == 0x3010 || o == 0x3020 then showXoff (logWrite s req a half r ⟨0, 5, .rw⟩ 12 16 v) e
  else if o == 0x3000 then showXoff (plainWrite s a r v) e
  else plainWrite s a r v

/-- A write of the BOOT block (R467 to R477). -/
def writeBootReg (s : State) (req : Requester) (f : Found) (o a : Nat) (r : RegRow) (v : W64) : State :=
  if o == 0x10 then writeBootLock s v
  else if o == 0x20 then writeReset s v f.intact
  else if o == 0x28 then writeAnnounce s v
  else if o == 0x300 then
    let src := staged s req BOOT_LOAD_SRC
    writeLoadCmd s req v (imageOf (memReads s src (min (natOf (memReads s (src + 0xE0) 8)) 0x10_0000_0000)))
  else plainWrite s a r v

/-- A write of the FLT block (R500). -/
def writeFltReg (s : State) (req : Requester) (o a : Nat) (r : RegRow) (v : W64) : State :=
  if o == 0x8 then writeLogAck s v
  else if o == 0x100 then writeLease s req v
  else if o == 0x108 then renewLease s (fget Fd.FLT_LEASE_RENEW_UNTIL_MS v)
  else if o == 0x180 then writeFenceCmd s v
  else plainWrite s a r v

/-- The bytes of the token buffer (R525). -/
def tokenBytes (s : State) : List Byte := (List.range 1024).flatMap (fun i => bytesOf 8 (rd s (SEC_TOKEN i)).toNat)

/-- A write of the SEC block (R525). -/
def writeSecReg (s : State) (req : Requester) (o a : Nat) (r : RegRow) (v : W64) : State :=
  if o == 0x8 then writeLcCmd s v (Config.tokenOf (tokenBytes s))
  else if o == 0x10 then writePartCfg s req v
  else if o == 0x18 then writeCorridor s req v
  else if o == 0x80 then writeZeroise s req v
  else if Nat.ble 0x100 o && Nat.blt o 0x200 then writePartBind s req ((o - 0x100) / 64) ((o - 0x100) % 64 / 8) v
  else plainWrite s a r v

/-- A write of the TIME block (R540 to R544, R302). -/
def writeTimeReg (s : State) (req : Requester) (o a : Nat) (r : RegRow) (v : W64) : State :=
  if o == 0x1008 then writeHoldCtrl s v
  else if o == 0x28 || o == 0x30 || o == 0x38 then writeTimeStage s req a v
  else if o == 0x40 then writeTimeCmd s req v
  else if o == 0x48 then
    let ppm := fget Fd.TIME_CFG_SLEW_PPM v
    if 1 ≤ ppm ∧ ppm ≤ 500 then plainWrite s a r v
    else csrError (plainWrite s a r (fset Fd.TIME_CFG_SLEW_PPM (rf s a Fd.TIME_CFG_SLEW_PPM) v)) req true a
  else plainWrite s a r v

/-- States of the load controller in which the manifest buffer may be written: IDLE, REFUSED, DONE, FAILED (R417). -/
def bufferOpen (s : State) : Bool := let st := ldState s; st == 0 || st == 3 || st == 4 || st == 5

/-- A write of the panel stream block (R343, R417). -/
def writeStmReg (s : State) (req : Requester) (f : Found) (o a : Nat) (r : RegRow) (v : W64) : State :=
  if o == 0 then (if anyImage s then csrError s req true a else changedBands s (plainWrite s a r v))
  else if o == 0x10 then writeTblCtrl s req v
  else if o == 0x1000 then writeLdCmd s req v f.verdict
  else if o == 0x1028 then writeLdFeed s req v
  else if o == 0x2000 then writeEgCmd s v f.units
  else if Nat.ble 0x8_0000 o then (if bufferOpen s then plainWrite s a r v else csrError s req true a)
  else plainWrite s a r v

/-- A write of the panel SUO block (R376, R377, R387): the current copy of the route tables does not change, and bits [7:4] of a route entry are 0. -/
def writePanelSuo (s : State) (req : Requester) (o a : Nat) (r : RegRow) (v : W64) : State :=
  let copy := if o < 0x2000 then (o - 0x1000) / 0x400 else (o - 0x2000) / 0x80
  if o == 0x8 then writeRtCtrl s v
  else if Nat.ble 0x1000 o && Nat.blt o 0x3000 && copy == routeCur s then csrError (wf s SUO_RT_CTRL Fd.SUO_RT_CTRL_ERR 1) req true a
  else if Nat.ble 0x3000 o && (List.range 128).any (fun p => portState s p == 5) then csrError s req true a
  else if Nat.ble 0x1000 o && Nat.blt o 0x2000 then plainWrite s a r (v &&& 0x0F0F_0F0F_0F0F_0F0F#64)
  else plainWrite s a r v

/-- What a write of a register does: `v` is the word it stands for. -/
def writeReg (s : State) (req : Requester) (f : Found) (b : Blk) (u o a half : Nat) (r : RegRow) (v : W64) : State :=
  match b with
  | .core => if o == 0 && half == 2 then s else writeCoreReg s req u o a r v
  | .site => if o == 0x4020 && half == 2 then s else writeSiteReg s req u o a r v
  | .bsn =>
    if o == 0x40 then writeZeroFill s req u v
    else if o == 0x50 then writeDigest s req u v
    else if o == 0x10 then clearSfault s u v
    else if Nat.ble 0x1000 o then writeRegion s req u ((o - 0x1000) / 8) v
    else plainWrite s a r v
  | .ril => if o == 0x40 then writeRilLoad s u v else plainWrite s a r v
  | .csc => if o == 0x40 then writeCscLoad s u v else plainWrite s a r v
  | .clk =>
    if o == 0x40 then writeBndLoad s u v
    else if o == 0x50 || o == 0x58 then writeBnd s req u a v
    else plainWrite s a r v
  | .pwrs => if o == 0x20 || o == 0x40 || o == 0x60 then writeMinv s a v else plainWrite s a r v
  | .hbm => plainWrite s a r v
  | .stm =>
    if o == 0x8 then writeCacheCtrl s req u v
    else if o == 0x10 then (if half = 2 then s else writeStmIssue s u v)
    else plainWrite s a r v
  | .suo => writeSuoReg s req u o a half r v
  | .ec => if o == 0 then writeEcCtrl s u v else plainWrite s a r v
  | .secE => plainWrite s a r v
  | .pPwr => if o == 0 then writePwrCap s req v else if o == 0x38 then writeMinv s a v else plainWrite s a r v
  | .pThm =>
    if o == 0 ∧ ¬(85 ≤ fget Fd.THM_CFG_THR_B v ∧ fget Fd.THM_CFG_THR_B v ≤ 95) then csrError s req true a else plainWrite s a r v
  | .pBoot => writeBootReg s req f o a r v
  | .pFlt => writeFltReg s req o a r v
  | .pSec => writeSecReg s req o a r v
  | .pMgt => plainWrite s a r v
  | .pTime => writeTimeReg s req o a r v
  | .pPmu =>
    if o == 0 then logWrite s req a 0 r Fd.PMU_CFG_LOG2P 20 40 v
    else if o == 8 then (if anyImage s then csrError s req true a else plainWrite s a r v)
    else plainWrite s a r v
  | .pStm => writeStmReg s req f o a r v
  | .pSuo => writePanelSuo s req o a r v
  | .fn =>
    if o == 0x48 then logWrite s req a half r Fd.MGT_FN_FR_CTL_LOG2 6 15 v
    else if o == 0x68 then logWrite s req a half r Fd.MGT_FN_PS_CTL_LOG2 20 34 v
    else plainWrite s a r v

/-- A register written by its address (R11, R13). -/
def storeReg (s : State) (req : Requester) (f : Found) (a half : Nat) (v : W64) : State :=
  match locate a with
  | Option.none => csrError s req true a
  | some (b, u, o) =>
    if o % 8 ≠ 0 then csrError s req true a
    else
      match rowAt s b u o with
      | some r =>
        let w := fullWord r (oldWord s req b u o a) half v
        if isStaged b o && b != .pTime then setStaged s req a (keepBits r w).toNat else writeReg s req f b u o a half r w
      | Option.none =>
        match b with
        | .suo =>
          if inEdgeProg o ∧ !edgeProgHas o then csrError (writeEdgeProg s req u o half v) req true a
          else if inEdgeProg o then
            let old := edgeProgWord s u o
            let w := match half with
              | 0 => v
              | 1 => BitVec.ofNat 64 (v.toNat % 2 ^ 32 + old.toNat / 2 ^ 32 * 2 ^ 32)
              | _ => BitVec.ofNat 64 (old.toNat % 2 ^ 32 + v.toNat % 2 ^ 32 * 2 ^ 32)
            writeEdgeProg s req u o half w
          else csrError s req true a
        | .pPwr =>
          match powerWord o with
          | some k =>
            if anyImage s then csrError s req true a
            else
              let old := tab s k
              setPower s k (match half with
                | 0 => v.toNat
                | 1 => v.toNat % 2 ^ 32 + old / 2 ^ 32 * 2 ^ 32
                | _ => old % 2 ^ 32 + v.toNat % 2 ^ 32 * 2 ^ 32)
          | Option.none => csrError s req true a
        | _ => csrError s req true a

/-! Accesses under R27 and R513. -/

/-- A write of a register. -/
def csrWrite (s : State) (req : Requester) (f : Found) (a half : Nat) (v : W64) : State :=
  guardCsr s req a true (fun s => storeReg s req f a half v)

/-- Whether R27 and R513 let a read through. -/
def mayRead (s : State) (req : Requester) (a : Nat) : Bool :=
  !rejected s a && (match locate a with | some (b, u, o) => permitted s (clsOf s req) false b u o | Option.none => false)

/-- A read of a register; a refused one returns 0 (R514). -/
def csrRead (s : State) (req : Requester) (a half : Nat) : State × W64 :=
  if mayRead s req a then loadReg s req a half else (guardCsr s req a false (fun s => s), 0#64)

/-- An access to the function page of the requester itself (R531). A function whose partition does not exist refuses it, and a port lost with its
steward carries none (R527). -/
def ownPage (s : State) (req : Requester) (a : Nat) : Bool :=
  match req with
  | .host pt f =>
    Nat.ble (baseFn (fnUnit pt.val f.val)) a && Nat.blt a (baseFn (fnUnit pt.val f.val) + 0x1000) && Nat.ble f.val (partCount s)
      && !stewardLost s pt.val
  | _ => false

/-- Answer a register access: `n` bytes for a read. -/
def accessReg (s : State) (req : Requester) (f : Found) (a half : Nat) (x : Access) : State :=
  match x with
  | .write v => csrWrite s req f a half v
  | .read =>
    let r := csrRead s req a half
    reply r.1 true (bytesOf (if half = 0 then 8 else 4) r.2.toNat)

/-- Whether a requester is panel firmware, whose access to a steward window the manual does not describe (R23). -/
def firmwareOf : Requester → Bool
  | .steward => true
  | .edge _ => true
  | _ => false

/-- `REGISTER_WRITE` (R10 to R13, R531): a write of any register by any requester; `half` 1 and 2 are 32-bit writes, 3 an access of any other size
or alignment, which is rejected (R11). Addresses from 2^48 up are function pages, which only their own function reaches. -/
def execRegisterWrite (req : Requester) (a : BitVec 49) (half : Fin 4) (v : W64) (f : Found) (s : State) : Host.Outcome State Fault Refusal :=
  let a := a.toNat
  if firmwareOf req ∧ inStewardWindow a then .refused .stewardWindow
  else if half = 3 then ok (csrError s req true a)
  else if 2 ^ 48 ≤ a then
    if ownPage s req a then ok (storeReg s req f a half.val v) else ok (csrError s req true a)
  else ok (csrWrite s req f a half.val v)

/-- `BAR0_ACCESS` (R11, R528, R529): byte offset `ofs` of BAR0 is the panel-level block at that offset. `half` 3 is an access of a size or alignment
other than R11's; a read of that kind returns no register. -/
def execBar0Access (pt : Fin 2) (fn : Fin 5) (ofs : BitVec 24) (half : Fin 4) (x : Access) (f : Found) (s : State) : Host.Outcome State Fault Refusal :=
  let req : Requester := .host pt fn
  let a := panelCsr + ofs.toNat
  if half = 3 then
    match x with
    | .read => ok (reply (csrError s req false a) true [])
    | .write _ => ok (csrError s req true a)
  else ok (accessReg s req f a half.val x)

/-! Apertures (R530). -/

/-- Refuse a data access of a host. -/
def refuseData (s : State) (req : Requester) (w : Bool) (a : Nat) : State := reply (dataError s req w a) false []

/-- Whether an HBM range is the stream table's or the collector's (R313, R558). -/
def panelData (s : State) (a n : Nat) : Bool :=
  meet a n (tableBase s) 0x400_0000 || meet a n (collectorBase s) 0x400_0000

/-- An HBM access of a host under a slot's key. An uncorrectable error or a marked line refuses it, with SOURCE 3 in the log; a write of a
whole line meets none and clears the mark (R306); a narrower one reads its line, merges and writes (R530). -/
def hostHbm (s : State) (req : Requester) (slot a len : Nat) (w : Bool) (bs : List Byte) (err : HbmErr) (sym : Fin 64) : State :=
  let m := if w && len == 64 then (s, Option.none) else meetError s a len 3 err sym
  match m.2 with
  | some _ => refuseData m.1 req w a
  | Option.none =>
    let s := countHbm (if w && len != 64 then countHbm m.1 (a / 64 * 64) 64 false else m.1) a len w
    if w then reply (hbmWrites s slot a bs) true []
    else
      let r := hbmReads s slot a len
      reply r.1 true r.2

/-- What an aperture's read of the basin meets, as the command's error operand says: 1 an error that is corrected, 2 one that is not, in the
codeword of its first word (R188). -/
def apertureErrs (word : Nat) (err : HbmErr) (sym : Nat) : List BankErr :=
  if err = 1 ∨ err = 2 then
    [⟨bankOfLine (word / 16), rowOfLine (word / 16), word % 16 / 2, BitVec.ofNat 8 sym, decide (err = 2)⟩]
  else []

/-- A data access through an aperture, at a GPA. -/
def apertureData (s : State) (req : Requester) (slot a len : Nat) (w : Bool) (bs : List Byte) (err : HbmErr) (sym : Fin 64) : State :=
  if len = 0 ∨ len % 4 ≠ 0 ∨ a % 4 ≠ 0 ∨ 64 < a % 64 + len ∨ rejected s a then refuseData s req w a
  else
    match clsOf s req with
    | .tenant p =>
      if partOfData s a ≠ p then refuseData (countRefusal s) req w a
      else if a < basinBase 0 then
        if partOfKey s slot ≠ some p ∨ panelData s a len then refuseData (countRefusal s) req w a
        else if !homeEnabled s a then refuseData s req w a
        else hostHbm s req slot a len w bs err sym
      else
        let k := (a - basinBase 0) / 0x1000_0000
        let word := (a - basinBase k) / 4
        let m : MaintReq := ⟨req, w, word, bs⟩
        if maintReady s k m then maintAccess s k m (apertureErrs word err sym.val)
        else modSite s k (fun x => { x with maint := x.maint ++ [m] })
    | _ => refuseData (countRefusal s) req w a

/-- `APERTURE_ACCESS` (R306, R528 to R530): byte `o` of aperture `n` of a function. A read asks for the length of `data`; `err` and `sym`
are what an HBM line shows. -/
def execApertureAccess (pt : Fin 2) (fn : Fin 5) (n : Fin 4) (o : BitVec 30) (w : Bool) (data : List Byte) (err : Fin 4) (sym : Fin 64) (f : Found)
    (s : State) : Host.Outcome State Fault Refusal :=
  let req : Requester := .host pt fn
  let ap := rd s (MGT_FN_APn (fnUnit pt.val fn.val) n.val)
  let a := fget Fd.MGT_FN_APn_BASE ap * 2 ^ 30 + o.toNat
  let len := data.length
  if fget Fd.MGT_FN_APn_EN ap = 0 then ok (refuseData s req w a)
  else if isData a then ok (apertureData s req (fget Fd.MGT_FN_APn_KEY ap) a len w data err sym)
  else
    let x : Access := if w then .write (BitVec.ofNat 64 (natOf data)) else .read
    if len = 8 ∧ a % 8 = 0 then ok (accessReg s req f a 0 x)
    else if len = 4 ∧ a % 8 = 0 then ok (accessReg s req f a 1 x)
    else if len = 4 ∧ a % 8 = 4 then ok (accessReg s req f (a - 4) 2 x)
    else ok (reply (csrError s req w a) true (bytesOf len 0))

/-- `FUNCTION_LEVEL_RESET` (R531): every field of the function's page returns to its reset value. -/
def execFunctionLevelReset (pt : Fin 2) (fn : Fin 5) (s : State) : Host.Outcome State Fault Refusal :=
  ok (dropCsr s [(baseFn (fnUnit pt.val fn.val), 0x1000)])

end Sys2Proof.Machine
end

