-- ==== Sys2Proof/Machine/Deliver.lean ====
section
/-!
DEFINITION. What a router does with a dynamic packet at its destination (R223, R226, R228 to R230, R515), and the steps of bring-up, whose last one
writes registers (R461, R467).
-/
namespace Sys2Proof.Machine

/-- The requester of a packet's register access: the steward, an edge die, or the SCP of its site (R225, R513). -/
def packetReq (p : DynPkt) : Requester :=
  match p.srcUnit.toNat with
  | 5 => .steward
  | 3 | 4 =>
    match (edgePorts p.srcSite)[p.srcUnit.toNat - 3]? with
    | some q => .edge (Fin.ofNat 16 q.1)
    | Option.none => .scp (Fin.ofNat 144 p.srcSite)
  | _ => .scp (Fin.ofNat 144 p.srcSite)

/-- The CSR_RSP of a CSR_REQ (R226): it goes back to the unit that sent the request, with its TAG. -/
def csrReply (s : State) (p : DynPkt) : DynPkt :=
  let r := s.pnl.reply.getD ⟨true, []⟩
  { p with kind := 5#4, dstUnit := p.srcUnit, dstSite := p.srcSite, srcUnit := p.dstUnit, srcSite := p.dstSite, via := 0xFF#8, leg := false,
           payload := Config.csrReply r.ok (natOf r.data) }

/-- A unit sends a packet: a site from its local port, an edge die, the steward, which has wires of its own to two edge dies (R17). -/
def unitSend (s : State) (k : Nat) (unit : Nat) (q : DynPkt) : State :=
  match unit with
  | 3 | 4 => (match (edgePorts k)[unit - 3]? with | some e => edgeSend s e.1 q | Option.none => s)
  | 5 =>
    match (if q.dstUnit = 3#4 ∨ q.dstUnit = 4#4 then (edgePorts q.dstSite)[q.dstUnit.toNat - 3]? else Option.none) with
    | some e => if stewardWired s e.1 then modEdge s e.1 (fun x => { x with inbox := x.inbox ++ [q] }) else modPnl s (fun x => { x with stOut := x.stOut ++ [q] })
    | Option.none => modPnl s (fun x => { x with stOut := x.stOut ++ [q] })
  | _ => modSite s k (fun x => { x with outQ := x.outQ ++ [q] })

/-- A CSR_REQ is performed as an access by its sender to the register at ADDR, and answered (R226). The payload's layout is not given (log entry 134). -/
def serveCsr (s : State) (k : Nat) (p : DynPkt) : State :=
  let x : Access := match Config.csrRequest p.payload with | some v => .write v | Option.none => .read
  let s := accessReg (reply s true []) (packetReq p) ⟨⟨false, []⟩, [], false⟩ p.addr.toNat 0 x
  unitSend s k p.dstUnit.toNat (csrReply s p)

/-- Hand over a packet that its destination accepts: a CSR_REQ for a unit with registers is performed there (R226). -/
def acceptPacket (s : State) (k : Nat) (p : DynPkt) : State :=
  if p.kind = 4#4 ∧ 2 ≤ p.dstUnit.toNat then serveCsr s k p else handOver s k p

/-- The next flit of a packet under way to the edge die; with the last one the die has it. If the port has gone out of use the rest is dropped. -/
def leaveMore (s : State) (k : Nat) (m : Move) : State :=
  if !edgePortUsable s k (m.out - 8) then
    dropPacket (modSite (takeFlits s k m.inp m.vc m.left) k (fun x => { x with moves := x.moves.erase m })) k Fd.RIL_DYN_ERR_NO_UNIT m.pkt
  else if openEdge s k (m.out - 8) = 0 then s
  else
    let s := sendFlit s k m.inp m.vc
    let m' := { m with left := m.left - 1 }
    let s := modSite s k (fun x => { x with moves := if m'.left = 0 then x.moves.erase m else x.moves.map (fun y => if y = m then m' else y) })
    if m'.left = 0 then acceptPacket s k m.pkt else s

/-- A packet that the destination accepts leaves by its output: to an edge die one flit per open slice, else at once. -/
def leaveStart (s : State) (k inp vc : Nat) (p : DynPkt) : State :=
  let n := flitsOf p
  let s := bump s (RIL_DPORTp_PKTS k inp) 1
  if outClass p ≤ 9 then
    let s := sendFlit s k inp vc
    if n = 1 then acceptPacket s k p
    else modSite s k (fun x => { x with moves := x.moves ++ [⟨inp, vc, outClass p, 0, n - 1, p⟩] })
  else acceptPacket (bump (takeFlits s k inp vc n) (RIL_DPORTp_FLITS k inp) n) k p

/-- Whether every open slice of the edge port that a packet leaves by is taken, or none is open (R223, R228). -/
def edgeTaken (s : State) (k : Nat) (p : DynPkt) : Bool :=
  Nat.ble (outClass p) 9 && Nat.ble (openEdge s k (outClass p - 8)) ((site s k).moves.filter (fun m => m.out == outClass p)).length

/-- Whether a STREAM_ISSUE has to wait in the router: it would miss, and its engine holds 64 issues that wait for walks, those on their way from
the router included (R326). -/
def issueWaits (s : State) (k : Nat) (p : DynPkt) : Bool :=
  p.kind == 3#4 && Nat.ble (outClass p) 9 &&
    (match (edgePorts k)[p.dstUnit.toNat - 3]? with
     | some q =>
       let x := edge s q.1
       (cacheGet x.cache p.stream.toNat).isNone
         && Nat.ble 64 ((walkWaiters x).length + (x.inbox.filter (fun y => y.kind == 3#4 && (cacheGet x.cache y.stream.toNat).isNone)).length)
     | Option.none => false)

/-- `DYN_PACKET_DELIVER` (R223, R228 to R230, R515): the destination router checks a whole packet when round-robin has reached it, and delivers or
drops it. -/
def execDynPacketDeliver (k : Site) (inp : Fin 8) (vc : Fin 2) (s : State) : Host.Outcome State Fault Refusal :=
  let k := k.val
  let x := site s k
  match moveOf x inp.val vc.val, headOf x inp.val vc.val with
  | some m, _ => ok (if 8 ≤ m.out then leaveMore s k m else s)
  | Option.none, Option.none => ok s
  | Option.none, some f =>
    let o := outClass f.pkt
    if rrLeave x k o ≠ some (inp.val * 2 + vc.val) then ok s
    else
      let p := dynTurn k f.pkt
      let turn := fun (s : State) => modSite s k (fun x => { x with rr := sput (fun _ => 0) o ((inp.val * 2 + vc.val + 1) % 16) x.rr })
      match dropFlag s k p ((headFlits x inp.val vc.val f).any (fun g => g.bad)) with
      | some flag =>
        let s := dropPacket (takeFlits (turn s) k inp.val vc.val (flitsOf p)) k flag p
        ok (if flag = Fd.RIL_DYN_ERR_REFUSED ∧ foreign s k p then countRefusal s else s)
      | Option.none => if edgeTaken s k p || issueWaits s k p then ok s else ok (leaveStart (turn s) k inp.val vc.val p)

/-! Bring-up (R461). -/

/-- The register presets of the booted image: pairs of GPA and value, in order (R453). -/
def presets (s : State) : List (Nat × W64) :=
  match (slotImage s (rf s BOOT_STATUS Fd.BOOT_STATUS_SLOT)).bind (fun im => cfgSection im 5) with
  | some x => (List.range (x.body.length / 16)).map (fun i =>
      (natOf ((x.body.drop (16 * i)).take 8), BitVec.ofNat 64 (natOf ((x.body.drop (16 * i + 8)).take 8))))
  | Option.none => []

/-- The steward applies the register presets (R453, R467). -/
def applyPresets (s : State) : State :=
  (presets s).foldl (fun s p => csrWrite s .steward ⟨⟨false, []⟩, [], true⟩ p.1 0 p.2) s

/-- `BRINGUP_STEP_DONE` (R22, R461, R462, R467): a unit completes a step. Steps go in order for each unit; 10 and 11 wait for step 9; after a recovery or a
fuse halt nothing goes on. Outside a start it is the store check of a compute die that a reset covers (R473). -/
def execBringupStepDone (step : Fin 15) (u : BringUnit) (r : BringResult) (s : State) : Host.Outcome State Fault Refusal :=
  let n := step.val
  match s.pnl.boot.running, u with
  | false, .site k =>
    if n = 8 ∧ s.pnl.boot.checks.contains k.val then ok (computeCheck s k.val (r == .pass)) else ok s
  | false, _ => ok s
  | true, .panel =>
    if stage s = 7 ∨ stage s = 8 ∨ n ≤ s.pnl.boot.step ∨ (2 ≤ n ∧ stage s < 2) then ok s
    else
      let s := panelStep (modBoot s (fun b => { b with step := n })) n
      ok (if n = 14 then applyPresets s else s)
  | true, _ =>
    if stage s = 7 ∨ stage s = 8 ∨ s.pnl.boot.step < 4 ∨ n ≤ sget (fun _ => 0) s.pnl.boot.units (bringKey u) ∨ stepWaits s n u then ok s
    else ok (unitStep (modBoot s (fun b => { b with units := sput (fun _ => 0) (bringKey u) n b.units })) n u r)

end Sys2Proof.Machine
end

