-- ==== Sys2Proof/Machine/Mgt.lean ====
section
/-!
DEFINITION. The management service (R533 to R538), the I3C sideband (R539, R572) and what the panel writes to host functions (R532).
-/
namespace Sys2Proof.Machine

/-! Requests of management sessions (R536). -/

def stOk : Nat := 0
def stRefused : Nat := 1
def stMalformed : Nat := 2
def stBusy : Nat := 3
def stVerify : Nat := 4

/-- Header and payload of a message. -/
def mgtBytes (op status : Nat) (tag : BitVec 16) (index : Nat) (payload : List Byte) : List Byte :=
  bytesOf 1 op ++ bytesOf 1 status ++ bytesOf 2 tag.toNat ++ bytesOf 4 payload.length ++ bytesOf 4 index ++ bytesOf 4 0 ++ payload

/-- Reply to a request. -/
def mgtReply (s : State) (op status : Nat) (tag : BitVec 16) (index : Nat) (payload : List Byte) : State :=
  reply s (status == stOk) (mgtBytes op status tag index payload)

/-- Whether a session is a management session (R535), on a port that is on. -/
def isMgmt (s : State) (pt i : Nat) : Bool := portOn s pt && match sessionAt s pt i with | some x => x.kind == 1 | Option.none => false

/-- Serve a request: only a management session has the service. -/
def serveMgt (s : State) (pt : Fin 5) (i : Fin 8) (f : State → State) : State := if isMgmt s pt.val i.val then f s else reply s false []

/-- Whether a management access to an address is refused: data, or what R11, R13, R27 or R513 rejects. -/
def mgtRefused (s : State) (req : Requester) (write : Bool) (a : Nat) : Bool :=
  rejected s a ||
    (match locate a with
      | some (b, u, o) => decide (o % 8 ≠ 0) || !permitted s (clsOf s req) write b u o
          || ((rowAt s b u o).isNone && !(b == .suo && edgeProgHas o) && !(b == .pPwr && (powerWord o).isSome))
      | Option.none => true)

/-- One read: a data address is a data access error, another refusal a CSR access error. -/
def mgtReadOne (s : State) (req : Requester) (a : Nat) : State × W64 :=
  if isData a then (dataError (countRefusal s) req false a, 0#64) else csrRead s req a 0

/-- Reads in order: the state, the values, the position of the first refused address. -/
def mgtReads (req : Requester) : State → Nat → Option Nat → List W64 → List W64 → State × List W64 × Option Nat
  | s, _, first, acc, [] => (s, acc, first)
  | s, n, first, acc, a :: as =>
    let first := if first.isNone && mgtRefused s req false a.toNat then some n else first
    let r := mgtReadOne s req a.toNat
    mgtReads req r.1 (n + 1) first (acc ++ [r.2]) as

/-- `MGT_READ` (R536). -/
def execMgtRead (pt : Fin 5) (i : Fin 8) (tag : BitVec 16) (gpas : List W64) (s : State) : Host.Outcome State Fault Refusal :=
  ok (serveMgt s pt i (fun s =>
    if gpas.length = 0 ∨ 64 < gpas.length then mgtReply s 1 stMalformed tag 0 []
    else
      let r := mgtReads (.mgmt pt i) s 0 Option.none [] gpas
      mgtReply r.1 1 stOk tag (match r.2.2 with | some n => n + 1 | Option.none => 0) (r.2.1.flatMap (fun w => bytesOf 8 w.toNat))))

/-- Writes in order up to the first refused pair: the state and that pair's position. -/
def mgtWrites (req : Requester) (f : Found) : State → Nat → List (W64 × W64) → State × Option Nat
  | s, _, [] => (s, Option.none)
  | s, n, p :: ps =>
    let a := p.1.toNat
    if isData a then (dataError (countRefusal s) req true a, some n)
    else
      let t := csrWrite s req f a 0 p.2
      if mgtRefused s req true a then (t, some n) else mgtWrites req f t (n + 1) ps

/-- `MGT_WRITE` (R536). -/
def execMgtWrite (pt : Fin 5) (i : Fin 8) (tag : BitVec 16) (pairs : List (W64 × W64)) (f : Found) (s : State) : Host.Outcome State Fault Refusal :=
  ok (serveMgt s pt i (fun s =>
    if pairs.length = 0 ∨ 64 < pairs.length then mgtReply s 2 stMalformed tag 0 []
    else
      let r := mgtWrites (.mgmt pt i) f s 0 pairs
      match r.2 with
      | some n => mgtReply r.1 2 stRefused tag n []
      | Option.none => mgtReply r.1 2 stOk tag 0 []))

/-- `MGT_FPR` (R536). -/
def execMgtFpr (pt : Fin 5) (i : Fin 8) (tag : BitVec 16) (s : State) : Host.Outcome State Fault Refusal :=
  ok (serveMgt s pt i (fun s => mgtReply s 3 stOk tag 0 (currentFpr s)))

/-- `MGT_LOG` (R536): the retained records with SEQ from `first`, `count` numbers on. -/
def execMgtLog (pt : Fin 5) (i : Fin 8) (tag : BitVec 16) (first : BitVec 32) (count : BitVec 32) (s : State) : Host.Outcome State Fault Refusal :=
  ok (serveMgt s pt i (fun s =>
    if count.toNat = 0 ∨ 64 < count.toNat then mgtReply s 4 stMalformed tag 0 []
    else mgtReply s 4 stOk tag 0 ((s.pnl.log.filter (fun r => Nat.ble first.toNat r.seq && Nat.blt r.seq (first.toNat + count.toNat))).flatMap recordBytes)))

/-- Change a session. -/
def modSession (s : State) (pt i : Nat) (f : Session → Session) : State :=
  modPnl s (fun p => { p with sessions := p.sessions.map (fun x => if x.port = pt ∧ x.idx = i then f x else x) })

/-- `MGT_SUBSCRIBE` (R536, R537). -/
def execMgtSubscribe (pt : Fin 5) (i : Fin 8) (tag : BitVec 16) (mask : W64) (s : State) : Host.Outcome State Fault Refusal :=
  ok (serveMgt s pt i (fun s => mgtReply (modSession s pt.val i.val (fun x => { x with mask := mask.toNat })) 5 stOk tag 0 []))

/-- `MGT_LEASE` (R493, R536). -/
def execMgtLease (pt : Fin 5) (i : Fin 8) (tag : BitVec 16) (untilMs : W64) (s : State) : Host.Outcome State Fault Refusal :=
  ok (serveMgt s pt i (fun s =>
    let s := renewLease s (untilMs.toNat % 2 ^ 58)
    mgtReply s 6 stOk tag 0 (bytesOf 8 (rd s FLT_LEASE_EXPIRY).toNat)))

/-! The update service (R538). -/

/-- The slot that is not booted. -/
def otherSlot (s : State) : Nat := 1 - rf s BOOT_STATUS Fd.BOOT_STATUS_SLOT

/-- Erase the first 64 KiB of a slot: it holds no image that verifies. -/
def eraseSlot (s : State) (i : Nat) : State :=
  let base := slotBase i
  modBoot (wf s BOOT_STATUS ⟨7 + i, 1, .ro⟩ 0) (fun b => { b with
    nvm := sdrop (fun a => Nat.ble base a && Nat.blt a (base + 0x1_0000)) b.nvm
    slotA := if i = 0 then Option.none else b.slotA
    slotB := if i = 0 then b.slotB else Option.none })

/-- `UPDATE_BEGIN` (R538). -/
def execUpdateBegin (pt : Fin 5) (i : Fin 8) (tag : BitVec 16) (len : W64) (s : State) : Host.Outcome State Fault Refusal :=
  ok (serveMgt s pt i (fun s =>
    if s.pnl.boot.update.isSome ∨ resetBusy s ∨ stage s = 7 then mgtReply s 7 stBusy tag 0 []
    else if 0x600_0000 < len.toNat then mgtReply s 7 stMalformed tag 0 []
    else
      let s := modBoot (eraseSlot s (otherSlot s)) (fun b => { b with update := some (pt.val, i.val, len.toNat) })
      mgtReply s 7 stOk tag 0 []))

/-- Write bytes to the configuration NVM. -/
def nvmWrites (s : State) (a : Nat) (bs : List Byte) : State :=
  modBoot s (fun b => { b with nvm := sputs (fun _ => 0#8) (bs.zipIdx.map (fun x => (a + x.2, x.1))) b.nvm })

/-- `UPDATE_DATA` (R536, R538): data within the LENGTH of the update that the session has open. -/
def execUpdateData (pt : Fin 5) (i : Fin 8) (tag : BitVec 16) (ofs : W64) (data : List Byte) (s : State) : Host.Outcome State Fault Refusal :=
  ok (serveMgt s pt i (fun s =>
    match s.pnl.boot.update with
    | some (q, j, len) =>
      if ¬(q = pt.val ∧ j = i.val) then mgtReply s 8 stRefused tag 0 []
      else if data.length = 0 ∨ 0x4000 < data.length ∨ len < ofs.toNat + data.length then mgtReply s 8 stMalformed tag 0 []
      else mgtReply (nvmWrites s (slotBase (otherSlot s) + ofs.toNat) data) 8 stOk tag 0 []
    | Option.none => mgtReply s 8 stRefused tag 0 []))

/-- Whether a new image stands against the booted one under R538 and R455: the same version and build with another header. -/
def clashes (s : State) (im : CfgImage) : Bool :=
  match slotImage s (rf s BOOT_STATUS Fd.BOOT_STATUS_SLOT) with
  | some b => b.secVersion == im.secVersion && b.buildSeq == im.buildSeq && headDigest b != headDigest im
  | Option.none => false

/-- What the bytes of an image slot spell (R452); `sig` is whether its signatures verify. -/
def slotBytes (s : State) (i : Nat) (sig : Bool) : CfgImage :=
  cfgOf (fun o n => (List.range n).map (fun j => sget (fun _ => 0#8) s.pnl.boot.nvm (slotBase i + o + j))) sig

/-- `UPDATE_END` (R454, R455, R538): `sig` is whether both signatures of what the slot now holds verify. -/
def execUpdateEnd (pt : Fin 5) (i : Fin 8) (tag : BitVec 16) (sig : Bool) (s : State) : Host.Outcome State Fault Refusal :=
  ok (serveMgt s pt i (fun s =>
    let im := slotBytes s (otherSlot s) sig
    let done := fun (s : State) (st : Nat) => mgtReply s 9 st tag 0 (bytesOf 8 (rd s BOOT_STATUS).toNat)
    if !hasUpdate s pt.val i.val then mgtReply s 9 stRefused tag 0 []
    else if !imageVerifies s im ∨ clashes s im then done (failUpdate s) stVerify
    else
      let n := otherSlot s
      let s := modBoot s (fun b => { b with
        update := Option.none
        slotA := if n = 0 then some im else b.slotA
        slotB := if n = 0 then b.slotB else some im })
      done (wf (wf s BOOT_STATUS ⟨7 + n, 1, .ro⟩ 1) BOOT_STATUS ⟨9 + n, 1, .ro⟩ 0) stOk))

/-! Events (R537). -/

/-- The body of an event as it is sent: a snapshot record shows the partitions that grant it (R560). -/
def eventBody (s : State) (e : Nat × List Byte) : List Byte := if e.1 = 5 then snapshot s (granted s) else e.2

/-- `MGT_EVENT_SEND` (R536, R537): a session's oldest event leaves; INDEX counts the session's events. -/
def execMgtEventSend (pt : Fin 5) (i : Fin 8) (s : State) : Host.Outcome State Fault Refusal :=
  match sessionAt s pt.val i.val with
  | some x =>
    match x.queue with
    | e :: rest =>
      let msg := mgtBytes 0x0A stOk 0#16 (x.events + 1) (bytesOf 1 e.1 ++ bytesOf 7 0 ++ eventBody s e)
      ok (reply (modSession s pt.val i.val (fun y => { y with queue := rest, events := y.events + 1 })) true msg)
    | [] => ok s
  | Option.none => ok s

/-- `MGT_EVENT_DROP` (R537): the session did not accept its oldest event within 100 ms. -/
def execMgtEventDrop (pt : Fin 5) (i : Fin 8) (s : State) : Host.Outcome State Fault Refusal :=
  match sessionAt s pt.val i.val with
  | some x =>
    match x.queue with
    | _ :: rest => ok (bump (modSession s pt.val i.val (fun y => { y with queue := rest, events := y.events + 1 })) MGT_DROPPED 1)
    | [] => ok s
  | Option.none => ok s

/-! The I3C sideband. -/

/-- The 32-byte health summary (R539). -/
def healthSummary (s : State) : List Byte :=
  bytesOf 1 (stage s) ++ bytesOf 1 (lifecycle s) ++ bytesOf 2 (rf s PWR_STATUS Fd.PWR_STATUS_DRAW) ++ bytesOf 2 (rf s PWR_STATUS Fd.PWR_STATUS_CAP_EFF)
    ++ bytesOf 1 (rf s THM_STATUS Fd.THM_STATUS_INLET) ++ bytesOf 1 (rf s THM_STATUS Fd.THM_STATUS_OUTLET)
    ++ bytesOf 1 (rf s THM_STATUS Fd.THM_STATUS_HOT_FCST) ++ bytesOf 1 (rf s FLT_STATUS Fd.FLT_STATUS_OPEN_SEV)
    ++ bytesOf 4 (rf s FLT_STATUS Fd.FLT_STATUS_SEQ) ++ bytesOf 1 (bf (rd s FLT_LEASE).toNat 0 3) ++ bytesOf 1 (bf (rd s PWR_STATUS).toNat 32 8)
    ++ bytesOf 16 0

/-- `I3C_PRIVATE_READ` (R539): the target answers at its dynamic address. -/
def execI3cPrivateRead (addr : BitVec 7) (s : State) : Host.Outcome State Fault Refusal :=
  ok (if s.pnl.i3c = some addr.toNat then reply (modPnl s (fun p => { p with ibi := false })) true (healthSummary s) else reply s false [])

/-- `I3C_ADDRESS_ASSIGN` (R572): SETDASA at static address 0x4A, or ENTDAA (no static address). -/
def execI3cAddressAssign (static : Option (BitVec 7)) (dyn : BitVec 7) (s : State) : Host.Outcome State Fault Refusal :=
  match static with
  | some a => ok (if a = 0x4A#7 then modPnl s (fun p => { p with i3c := some dyn.toNat }) else s)
  | Option.none => ok (modPnl s (fun p => { p with i3c := some dyn.toNat }))

/-! Deliveries to host functions (R532). -/

/-- The address that a ring's base register names. -/
def hostAddr (s : State) (a : Nat) : Nat := bf (rd s a).toNat 12 52 * 4096

/-- A write to host memory: its address and its bytes. -/
def hostWrite (s : State) (addr : Nat) (bs : List Byte) : State := reply s true (bytesOf 8 addr ++ bs)

/-- An entry of the fault ring. HEAD and TAIL count entries without reduction. -/
def deliverFault (s : State) (u : Nat) (bs : List Byte) : State :=
  let c := rd s (MGT_FN_FR_CTL u)
  let n := 2 ^ fget Fd.MGT_FN_FR_CTL_LOG2 c
  let head := fget Fd.MGT_FN_FR_CTL_HEAD c
  if n ≤ (head + 0x1_0000 - fget Fd.MGT_FN_FR_CTL_TAIL c) % 0x1_0000 then hostCause s u 6
  else
    let s := hostWrite s (hostAddr s (MGT_FN_FR_BASE u) + 64 * (head % n)) bs
    hostCause (wf s (MGT_FN_FR_CTL u) Fd.MGT_FN_FR_CTL_HEAD (head + 1)) u 0

/-- A record of the snapshot ring, from the panel's byte offset on. -/
def deliverSnap (s : State) (u : Nat) : State :=
  let n := 2 ^ rf s (MGT_FN_PS_CTL u) Fd.MGT_FN_PS_CTL_LOG2
  let head := rf s (MGT_FN_PS_HEAD u) Fd.MGT_FN_PS_HEAD_HEAD
  let tail := rf s (MGT_FN_PS_TAIL u) Fd.MGT_FN_PS_TAIL_TAIL
  let bs := snapFor s u
  if n ≤ (head % n + n - tail % n) % n + bs.length then hostCause s u 7
  else
    let s := hostWrite s (hostAddr s (MGT_FN_PS_BASE u) + head % n) bs
    hostCause (wf s (MGT_FN_PS_HEAD u) Fd.MGT_FN_PS_HEAD_HEAD ((head + bs.length) % n)) u 3

/-- `HOST_DELIVERY` (R532): the oldest item that waits for a function: entry, HEAD, cause. An item for a function that no longer takes its kind is
dropped. -/
def execHostDelivery (pt : Fin 2) (fn : Fin 5) (s : State) : Host.Outcome State Fault Refusal :=
  let u := fnUnit pt.val fn.val
  match s.pnl.hostQ.find? (fun q => q.1 == pt.val && q.2.1 == fn.val) with
  | Option.none => ok s
  | some q =>
    let s := modPnl s (fun p => { p with hostQ := p.hostQ.erase q })
    if !fnTakes s u q.2.2.1 then ok s
    else
      match q.2.2.1 with
      | 0 => ok (deliverFault s u q.2.2.2)
      | 1 => ok (hostCause (hostWrite s (hostAddr s (MGT_FN_FPR_ADDR u)) q.2.2.2) u 1)
      | _ => ok (deliverSnap s u)

end Sys2Proof.Machine
end

