-- ==== Sys2Proof/Machine/Dispatch.lean ====
section
/-! DEFINITION. The one dispatch: each command is one call of its meaning. -/
namespace Sys2Proof.Machine

def exec (i : Instr) (s : State) : Host.Outcome State Fault Refusal :=
  match i with
  | .bundleFetch g => Sys2Proof.Machine.execBundleFetch g s
  | .ctlLoop g arg => Sys2Proof.Machine.execCtlLoop g arg s
  | .ctlPhase g arg => Sys2Proof.Machine.execCtlPhase g arg s
  | .ctlSleep g arg => Sys2Proof.Machine.execCtlSleep g arg s
  | .ctlIdle g arg => Sys2Proof.Machine.execCtlIdle g arg s
  | .ctlHalt g => Sys2Proof.Machine.execCtlHalt g s
  | .tuMma g f => Sys2Proof.Machine.execTuMma g f s
  | .tuMmas g f => Sys2Proof.Machine.execTuMmas g f s
  | .tuMmawg g f => Sys2Proof.Machine.execTuMmawg g f s
  | .tuAccz g f => Sys2Proof.Machine.execTuAccz g f s
  | .tuDload g f => Sys2Proof.Machine.execTuDload g f s
  | .tuMetadataRead g => Sys2Proof.Machine.execTuMetadataRead g s
  | .tuLand g => Sys2Proof.Machine.execTuLand g s
  | .vuAdd g f => Sys2Proof.Machine.execVuAdd g f s
  | .vuSub g f => Sys2Proof.Machine.execVuSub g f s
  | .vuMul g f => Sys2Proof.Machine.execVuMul g f s
  | .vuFma g f => Sys2Proof.Machine.execVuFma g f s
  | .vuMax g f => Sys2Proof.Machine.execVuMax g f s
  | .vuMin g f => Sys2Proof.Machine.execVuMin g f s
  | .vuAbs g f => Sys2Proof.Machine.execVuAbs g f s
  | .vuCmp g f => Sys2Proof.Machine.execVuCmp g f s
  | .vuSel g f => Sys2Proof.Machine.execVuSel g f s
  | .vuMov g f => Sys2Proof.Machine.execVuMov g f s
  | .vuCvt g f => Sys2Proof.Machine.execVuCvt g f s
  | .vuExp2 g f => Sys2Proof.Machine.execVuExp2 g f s
  | .vuRcp g f => Sys2Proof.Machine.execVuRcp g f s
  | .vuRsqrt g f => Sys2Proof.Machine.execVuRsqrt g f s
  | .vuLd g f => Sys2Proof.Machine.execVuLd g f s
  | .vuSt g f => Sys2Proof.Machine.execVuSt g f s
  | .operationLand g => Sys2Proof.Machine.execOperationLand g s
  | .xuBrd g f => Sys2Proof.Machine.execXuBrd g f s
  | .xuBwr g f => Sys2Proof.Machine.execXuBwr g f s
  | .xuRsend g f => Sys2Proof.Machine.execXuRsend g f s
  | .xuRrecv g f => Sys2Proof.Machine.execXuRrecv g f s
  | .xuCsend g f => Sys2Proof.Machine.execXuCsend g f s
  | .xuStrm g f => Sys2Proof.Machine.execXuStrm g f s
  | .mxAddi g f => Sys2Proof.Machine.execMxAddi g f s
  | .mxAdd g f => Sys2Proof.Machine.execMxAdd g f s
  | .mxSub g f => Sys2Proof.Machine.execMxSub g f s
  | .mxAnd g f => Sys2Proof.Machine.execMxAnd g f s
  | .mxOr g f => Sys2Proof.Machine.execMxOr g f s
  | .mxXor g f => Sys2Proof.Machine.execMxXor g f s
  | .mxShli g f => Sys2Proof.Machine.execMxShli g f s
  | .mxShri g f => Sys2Proof.Machine.execMxShri g f s
  | .mxLih g f => Sys2Proof.Machine.execMxLih g f s
  | .mxSetp g f => Sys2Proof.Machine.execMxSetp g f s
  | .mxScrd g f => Sys2Proof.Machine.execMxScrd g f s
  | .mxVarrd g f => Sys2Proof.Machine.execMxVarrd g f s
  | .imclr g f => Sys2Proof.Machine.execImclr g f s
  | .imins g f => Sys2Proof.Machine.execImins g f s
  | .imlkp g f => Sys2Proof.Machine.execImlkp g f s
  | .imidx g f => Sys2Proof.Machine.execImidx g f s
  | .hclr g f => Sys2Proof.Machine.execHclr g f s
  | .hins g f => Sys2Proof.Machine.execHins g f s
  | .hlkp g f => Sys2Proof.Machine.execHlkp g f s
  | .imstat g f => Sys2Proof.Machine.execImstat g f s
  | .coreArm req g v => Sys2Proof.Machine.execCoreArm req g v s
  | .coreClear req g v => Sys2Proof.Machine.execCoreClear req g v s
  | .coreStart g => Sys2Proof.Machine.execCoreStart g s
  | .sleepThawStart g => Sys2Proof.Machine.execSleepThawStart g s
  | .sleepResume g => Sys2Proof.Machine.execSleepResume g s
  | .siteWakeStart k => Sys2Proof.Machine.execSiteWakeStart k s
  | .idleUnitRestart g vu => Sys2Proof.Machine.execIdleUnitRestart g vu s
  | .thawAck t => Sys2Proof.Machine.execThawAck t s
  | .basinBankAccess k errs => Sys2Proof.Machine.execBasinBankAccess k errs s
  | .basinRowRewrite k bank => Sys2Proof.Machine.execBasinRowRewrite k bank s
  | .basinDynamicAccess req k w word data errs => Sys2Proof.Machine.execBasinDynamicAccess req k w word data errs s
  | .basinDynamicTimeout k => Sys2Proof.Machine.execBasinDynamicTimeout k s
  | .scrubInterval k => Sys2Proof.Machine.execScrubInterval k s
  | .scrubBankVisit k bank errs => Sys2Proof.Machine.execScrubBankVisit k bank errs s
  | .zeroFillGo req k v => Sys2Proof.Machine.execZeroFillGo req k v s
  | .zeroFillDone k => Sys2Proof.Machine.execZeroFillDone k s
  | .bsnRegionWrite req k n v => Sys2Proof.Machine.execBsnRegionWrite req k n v s
  | .digestGo req k v => Sys2Proof.Machine.execDigestGo req k v s
  | .digestDone k errs => Sys2Proof.Machine.execDigestDone k errs s
  | .routerSc k errs => Sys2Proof.Machine.execRouterSc k errs s
  | .hopEntryAdvance k => Sys2Proof.Machine.execHopEntryAdvance k s
  | .channelWriteLand k => Sys2Proof.Machine.execChannelWriteLand k s
  | .linkSliceArrive d w parity => Sys2Proof.Machine.execLinkSliceArrive d w parity s
  | .rilLoadGo req k v => Sys2Proof.Machine.execRilLoadGo req k v s
  | .rilLoadRow k ue => Sys2Proof.Machine.execRilLoadRow k ue s
  | .dynFlitReceive k inp vc parity => Sys2Proof.Machine.execDynFlitReceive k inp vc parity s
  | .dynPacketForward k inp vc => Sys2Proof.Machine.execDynPacketForward k inp vc s
  | .dynCreditReturn k => Sys2Proof.Machine.execDynCreditReturn k s
  | .dynPacketDeliver k inp vc => Sys2Proof.Machine.execDynPacketDeliver k inp vc s
  | .streamDataLand k => Sys2Proof.Machine.execStreamDataLand k s
  | .holePortFence k => Sys2Proof.Machine.execHolePortFence k s
  | .cascadeTagArrive k ix => Sys2Proof.Machine.execCascadeTagArrive k ix s
  | .cascadePayloadArrive k ix => Sys2Proof.Machine.execCascadePayloadArrive k ix s
  | .cascadeOutput k j => Sys2Proof.Machine.execCascadeOutput k j s
  | .skew k j => Sys2Proof.Machine.execSkew k j s
  | .cscLoadGo req k v => Sys2Proof.Machine.execCscLoadGo req k v s
  | .align bad => Sys2Proof.Machine.execAlign bad s
  | .droopStretch d n => Sys2Proof.Machine.execDroopStretch d n s
  | .reservoirRecharged k => Sys2Proof.Machine.execReservoirRecharged k s
  | .weirWait d => Sys2Proof.Machine.execWeirWait d s
  | .holdRaise d cause w => Sys2Proof.Machine.execHoldRaise d cause w s
  | .holdArrive d => Sys2Proof.Machine.execHoldArrive d s
  | .holdCauseClear d cause => Sys2Proof.Machine.execHoldCauseClear d cause s
  | .holdRelease => Sys2Proof.Machine.execHoldRelease s
  | .domainResume d => Sys2Proof.Machine.execDomainResume d s
  | .boundaryStop d => Sys2Proof.Machine.execBoundaryStop d s
  | .boundaryStep => Sys2Proof.Machine.execBoundaryStep s
  | .pllRelockDone => Sys2Proof.Machine.execPllRelockDone s
  | .boundaryRelease => Sys2Proof.Machine.execBoundaryRelease s
  | .clkBndLoadGo req d v => Sys2Proof.Machine.execClkBndLoadGo req d v s
  | .softHoldWrite req v => Sys2Proof.Machine.execSoftHoldWrite req v s
  | .refMeasure eOther eOsc => Sys2Proof.Machine.execRefMeasure eOther eOsc s
  | .holdoverLeave => Sys2Proof.Machine.execHoldoverLeave s
  | .refGeneratorLoss => Sys2Proof.Machine.execRefGeneratorLoss s
  | .extRefValidityChange st valid => Sys2Proof.Machine.execExtRefValidityChange st valid s
  | .stewardTakeover => Sys2Proof.Machine.execStewardTakeover s
  | .lockstepMismatch => Sys2Proof.Machine.execLockstepMismatch s
  | .activeStewardFailure => Sys2Proof.Machine.execActiveStewardFailure s
  | .controlCrossingEvent c d => Sys2Proof.Machine.execControlCrossingEvent c d s
  | .timeMark => Sys2Proof.Machine.execTimeMark s
  | .streamIssueProcess k => Sys2Proof.Machine.execStreamIssueProcess k s
  | .streamIssue e => Sys2Proof.Machine.execStreamIssue e s
  | .tableWalkDone e index err sym => Sys2Proof.Machine.execTableWalkDone e index err sym s
  | .streamMove e errs => Sys2Proof.Machine.execStreamMove e errs s
  | .streamFetchServe k timeout errs => Sys2Proof.Machine.execStreamFetchServe k timeout errs s
  | .streamPacketResend e => Sys2Proof.Machine.execStreamPacketResend e s
  | .remotePairing e => Sys2Proof.Machine.execRemotePairing e s
  | .siteSitNotify e => Sys2Proof.Machine.execSiteSitNotify e s
  | .deadlineCheck k => Sys2Proof.Machine.execDeadlineCheck k s
  | .streamComplete k row => Sys2Proof.Machine.execStreamComplete k row s
  | .streamFail e => Sys2Proof.Machine.execStreamFail e s
  | .stmIssue req e v => Sys2Proof.Machine.execStmIssue req e v s
  | .stmCacheInvAll req e v => Sys2Proof.Machine.execStmCacheInvAll req e v s
  | .stmCachePrefetch req e v => Sys2Proof.Machine.execStmCachePrefetch req e v s
  | .stmTblWrite req v => Sys2Proof.Machine.execStmTblWrite req v s
  | .siteSitLoadGo req k v => Sys2Proof.Machine.execSiteSitLoadGo req k v s
  | .hbmPatrolScrub h err sym => Sys2Proof.Machine.execHbmPatrolScrub h err sym s
  | .apertureAccess pt fn n o w data err sym f => Sys2Proof.Machine.execApertureAccess pt fn n o w data err sym f s
  | .bar0Access pt fn ofs half x f => Sys2Proof.Machine.execBar0Access pt fn ofs half x f s
  | .slotSend p => Sys2Proof.Machine.execSlotSend p s
  | .slotReceive p cwc cwu at_ f => Sys2Proof.Machine.execSlotReceive p cwc cwu at_ f s
  | .nakRetry p => Sys2Proof.Machine.execNakRetry p s
  | .txQueueAppend p => Sys2Proof.Machine.execTxQueueAppend p s
  | .frameEligible p => Sys2Proof.Machine.execFrameEligible p s
  | .frameConsumable p at_ => Sys2Proof.Machine.execFrameConsumable p at_ s
  | .rxWeirPresent p => Sys2Proof.Machine.execRxWeirPresent p s
  | .epochWrite req p dirs v => Sys2Proof.Machine.execEpochWrite req p dirs v s
  | .linkKeyRatchet p => Sys2Proof.Machine.execLinkKeyRatchet p s
  | .panelPacketRoute e => Sys2Proof.Machine.execPanelPacketRoute e s
  | .panelPacketAgeDrop e => Sys2Proof.Machine.execPanelPacketAgeDrop e s
  | .panelPacketDeliver e => Sys2Proof.Machine.execPanelPacketDeliver e s
  | .strmTmo e => Sys2Proof.Machine.execStrmTmo e s
  | .rtCurFlip req v => Sys2Proof.Machine.execRtCurFlip req v s
  | .portTrainStart p => Sys2Proof.Machine.execPortTrainStart p s
  | .portTrainLock p => Sys2Proof.Machine.execPortTrainLock p s
  | .portTrainTimeout p => Sys2Proof.Machine.execPortTrainTimeout p s
  | .portIdentified p => Sys2Proof.Machine.execPortIdentified p s
  | .portMeasured p keysOk => Sys2Proof.Machine.execPortMeasured p keysOk s
  | .portFaultTimeout p => Sys2Proof.Machine.execPortFaultTimeout p s
  | .laserLoss p => Sys2Proof.Machine.execLaserLoss p s
  | .suoProgRowWrite req e off v => Sys2Proof.Machine.execSuoProgRowWrite req e off v s
  | .gatewayTxFrame e errs => Sys2Proof.Machine.execGatewayTxFrame e errs s
  | .gatewayRxFrame e frame => Sys2Proof.Machine.execGatewayRxFrame e frame s
  | .pfcReceive e prio xoff => Sys2Proof.Machine.execPfcReceive e prio xoff s
  | .ldCheck req v => Sys2Proof.Machine.execLdCheck req v s
  | .ldStart req => Sys2Proof.Machine.execLdStart req s
  | .ldVerify req v => Sys2Proof.Machine.execLdVerify req v s
  | .ldAbort req => Sys2Proof.Machine.execLdAbort req s
  | .ldFeedFilled req v => Sys2Proof.Machine.execLdFeedFilled req v s
  | .ldBlockLanded set => Sys2Proof.Machine.execLdBlockLanded set s
  | .ldSlotFreed e n => Sys2Proof.Machine.execLdSlotFreed e n s
  | .ldPlacementDigest ix => Sys2Proof.Machine.execLdPlacementDigest ix s
  | .ldShardRequest p set index => Sys2Proof.Machine.execLdShardRequest p set index s
  | .redigestInterval units => Sys2Proof.Machine.execRedigestInterval units s
  | .egCommit req => Sys2Proof.Machine.execEgCommit req s
  | .egReady pos digs => Sys2Proof.Machine.execEgReady pos digs s
  | .egLoss req pos => Sys2Proof.Machine.execEgLoss req pos s
  | .egRebuild req pos force units => Sys2Proof.Machine.execEgRebuild req pos force units s
  | .egVerify req units => Sys2Proof.Machine.execEgVerify req units s
  | .ecMulxor e acc coef => Sys2Proof.Machine.execEcMulxor e acc coef s
  | .ecDigest e => Sys2Proof.Machine.execEcDigest e s
  | .ecDone e ue => Sys2Proof.Machine.execEcDone e ue s
  | .inputRange mv => Sys2Proof.Machine.execInputRange mv s
  | .powerOnStep => Sys2Proof.Machine.execPowerOnStep s
  | .sitePowerWave => Sys2Proof.Machine.execSitePowerWave s
  | .powerDown => Sys2Proof.Machine.execPowerDown s
  | .ibcPhaseLoss q phase => Sys2Proof.Machine.execIbcPhaseLoss q phase s
  | .railTrip d rail => Sys2Proof.Machine.execRailTrip d rail s
  | .minvSample r x => Sys2Proof.Machine.execMinvSample r x s
  | .minvRearm req r v => Sys2Proof.Machine.execMinvRearm req r v s
  | .rdynUpdate k r est => Sys2Proof.Machine.execRdynUpdate k r est s
  | .sensorSample dies inlet outlet => Sys2Proof.Machine.execSensorSample dies inlet outlet s
  | .throttleClear k => Sys2Proof.Machine.execThrottleClear k s
  | .thermalCritical ix => Sys2Proof.Machine.execThermalCritical ix s
  | .thermalModelUpdate siteP edgeP => Sys2Proof.Machine.execThermalModelUpdate siteP edgeP s
  | .inletHigh => Sys2Proof.Machine.execInletHigh s
  | .flowLow => Sys2Proof.Machine.execFlowLow s
  | .rainflowSample => Sys2Proof.Machine.execRainflowSample s
  | .cycleCountSave => Sys2Proof.Machine.execCycleCountSave s
  | .rthUpdate dies inlet => Sys2Proof.Machine.execRthUpdate dies inlet s
  | .floorWorkUpdate able => Sys2Proof.Machine.execFloorWorkUpdate able s
  | .dutyUpdate d => Sys2Proof.Machine.execDutyUpdate d s
  | .dutyHold => Sys2Proof.Machine.execDutyHold s
  | .emergencyThrottle pin breach => Sys2Proof.Machine.execEmergencyThrottle pin breach s
  | .emergencyClear pin => Sys2Proof.Machine.execEmergencyClear pin s
  | .siteWakeGrant => Sys2Proof.Machine.execSiteWakeGrant s
  | .pwrCapWrite req v => Sys2Proof.Machine.execPwrCapWrite req v s
  | .throttleL low => Sys2Proof.Machine.execThrottleL low s
  | .offL low => Sys2Proof.Machine.execOffL low s
  | .slotSelection => Sys2Proof.Machine.execSlotSelection s
  | .bootWatchdog => Sys2Proof.Machine.execBootWatchdog s
  | .romRecoveryImage ix im => Sys2Proof.Machine.execRomRecoveryImage ix im s
  | .coldStart => Sys2Proof.Machine.execColdStart s
  | .warmStart => Sys2Proof.Machine.execWarmStart s
  | .bringupStepDone step u r => Sys2Proof.Machine.execBringupStepDone step u r s
  | .firmwareBroadcast stale => Sys2Proof.Machine.execFirmwareBroadcast stale s
  | .firmwareDigestResult k good => Sys2Proof.Machine.execFirmwareDigestResult k good s
  | .bootLock req v => Sys2Proof.Machine.execBootLock req v s
  | .fprPublicationStart => Sys2Proof.Machine.execFprPublicationStart s
  | .fprPublicationVisible => Sys2Proof.Machine.execFprPublicationVisible s
  | .bootLoad req p im => Sys2Proof.Machine.execBootLoad req p im s
  | .bootStart req mask => Sys2Proof.Machine.execBootStart req mask s
  | .bootUnload req p => Sys2Proof.Machine.execBootUnload req p s
  | .resetCore req g force => Sys2Proof.Machine.execResetCore req g force s
  | .resetSiteCompute req k force => Sys2Proof.Machine.execResetSiteCompute req k force s
  | .resetPanelCompute req force => Sys2Proof.Machine.execResetPanelCompute req force s
  | .resetNetwork req force => Sys2Proof.Machine.execResetNetwork req force s
  | .resetFullPanel req cold intact => Sys2Proof.Machine.execResetFullPanel req cold intact s
  | .resetPowerOn req => Sys2Proof.Machine.execResetPowerOn req s
  | .netAnnounce req v => Sys2Proof.Machine.execNetAnnounce req v s
  | .faultRecord => Sys2Proof.Machine.execFaultRecord s
  | .faultLogNvmCopy => Sys2Proof.Machine.execFaultLogNvmCopy s
  | .fltLogAck req v => Sys2Proof.Machine.execFltLogAck req v s
  | .faultHoldRelease => Sys2Proof.Machine.execFaultHoldRelease s
  | .fence u => Sys2Proof.Machine.execFence u s
  | .fltFence req v => Sys2Proof.Machine.execFltFence req v s
  | .fltRelease req v => Sys2Proof.Machine.execFltRelease req v s
  | .leaseRenew req v => Sys2Proof.Machine.execLeaseRenew req v s
  | .leaseEnable req v => Sys2Proof.Machine.execLeaseEnable req v s
  | .leaseExpiry => Sys2Proof.Machine.execLeaseExpiry s
  | .lcTransition req target t => Sys2Proof.Machine.execLcTransition req target t s
  | .openDebug req t => Sys2Proof.Machine.execOpenDebug req t s
  | .keyStoreUpdate req t => Sys2Proof.Machine.execKeyStoreUpdate req t s
  | .keyGenerate pt ix slot => Sys2Proof.Machine.execKeyGenerate pt ix slot s
  | .keyImport pt ix slot keys => Sys2Proof.Machine.execKeyImport pt ix slot keys s
  | .spdmRequest pt ix m => Sys2Proof.Machine.execSpdmRequest pt ix m s
  | .partBindDigest req p v => Sys2Proof.Machine.execPartBindDigest req p v s
  | .bindPart pt ix p => Sys2Proof.Machine.execBindPart pt ix p s
  | .tdiLockInterface pt ix hp p => Sys2Proof.Machine.execTdiLockInterface pt ix hp p s
  | .tdiStartInterface pt ix hp p => Sys2Proof.Machine.execTdiStartInterface pt ix hp p s
  | .secZeroize req v => Sys2Proof.Machine.execSecZeroize req v s
  | .zeroizeDone p => Sys2Proof.Machine.execZeroizeDone p s
  | .secPartCfgWrite req corridor v => Sys2Proof.Machine.execSecPartCfgWrite req corridor v s
  | .mgtRead pt ix tag gpas => Sys2Proof.Machine.execMgtRead pt ix tag gpas s
  | .mgtWrite pt ix tag pairs f => Sys2Proof.Machine.execMgtWrite pt ix tag pairs f s
  | .mgtFpr pt ix tag => Sys2Proof.Machine.execMgtFpr pt ix tag s
  | .mgtLog pt ix tag first count => Sys2Proof.Machine.execMgtLog pt ix tag first count s
  | .mgtSubscribe pt ix tag mask => Sys2Proof.Machine.execMgtSubscribe pt ix tag mask s
  | .mgtLease pt ix tag untilMs => Sys2Proof.Machine.execMgtLease pt ix tag untilMs s
  | .updateBegin pt ix tag len => Sys2Proof.Machine.execUpdateBegin pt ix tag len s
  | .updateData pt ix tag ofs data => Sys2Proof.Machine.execUpdateData pt ix tag ofs data s
  | .updateEnd pt ix tag sig => Sys2Proof.Machine.execUpdateEnd pt ix tag sig s
  | .mgtEventSend pt ix => Sys2Proof.Machine.execMgtEventSend pt ix s
  | .mgtEventDrop pt ix => Sys2Proof.Machine.execMgtEventDrop pt ix s
  | .i3cPrivateRead addr => Sys2Proof.Machine.execI3cPrivateRead addr s
  | .i3cAddressAssign static dyn => Sys2Proof.Machine.execI3cAddressAssign static dyn s
  | .hostDelivery pt fn => Sys2Proof.Machine.execHostDelivery pt fn s
  | .functionLevelReset pt fn => Sys2Proof.Machine.execFunctionLevelReset pt fn s
  | .timeTick => Sys2Proof.Machine.execTimeTick s
  | .timeSet req => Sys2Proof.Machine.execTimeSet req s
  | .timeSlew req => Sys2Proof.Machine.execTimeSlew req s
  | .timeCancel req => Sys2Proof.Machine.execTimeCancel req s
  | .timeNsRead req => Sys2Proof.Machine.execTimeNsRead req s
  | .timeMarkSeqRead req => Sys2Proof.Machine.execTimeMarkSeqRead req s
  | .clkMarkRead req d => Sys2Proof.Machine.execClkMarkRead req d s
  | .ptpMessage pt m => Sys2Proof.Machine.execPtpMessage pt m s
  | .ptpHoldover => Sys2Proof.Machine.execPtpHoldover s
  | .freezeLatch d => Sys2Proof.Machine.execFreezeLatch d s
  | .freezeRelease => Sys2Proof.Machine.execFreezeRelease s
  | .collectorGather => Sys2Proof.Machine.execCollectorGather s
  | .sampleWrite g => Sys2Proof.Machine.execSampleWrite g s
  | .programmeRegisterWrite req g samp v => Sys2Proof.Machine.execProgrammeRegisterWrite req g samp v s
  | .counterOverflow a => Sys2Proof.Machine.execCounterOverflow a s
  | .registerWrite req a half v f => Sys2Proof.Machine.execRegisterWrite req a half v f s
  | .siteLinkLaneFailure k l slice group => Sys2Proof.Machine.execSiteLinkLaneFailure k l slice group s
  | .opticalLaneLoss p => Sys2Proof.Machine.execOpticalLaneLoss p s
  | .streamIssueResend k => Sys2Proof.Machine.execStreamIssueResend k s
  | .cscLoadRow k ue => Sys2Proof.Machine.execCscLoadRow k ue s
  | .clkBndLoadRow d ue => Sys2Proof.Machine.execClkBndLoadRow d ue s
  | .siteSitLoadRow k ue => Sys2Proof.Machine.execSiteSitLoadRow k ue s
  | .inputSenseOpen isOpen vin => Sys2Proof.Machine.execInputSenseOpen isOpen vin s

end Sys2Proof.Machine
end

