-- ==== Sys2Proof/Machine/Tick.lean ====
section
/-!
DEFINITION. One cycle of the site clock: what passes when no command waits. The table has no row for a tick (log entry 19).
-/
namespace Sys2Proof.Machine

/-- Whether a domain runs its cycles now: no hold is in force there, and it does not stand at the H of a release under way (R275, R278). -/
def runs (s : State) (d : Nat) : Bool := !held s d && s.pnl.release != some (scOf s d)

/-- Whether a domain catches up in the cycle in progress (R267): it has debt, and nothing stretches the cycle. -/
def catchesUp (x : DomX) : Bool := !x.droop && !x.waited && Nat.blt 0 x.debt

/-- Length of the cycle in progress, in 412ths of a nominal cycle (R265 to R268). -/
def cycleLen (x : DomX) : Nat := if catchesUp x then cycle412 - min 12 x.debt else cycle412 + x.extra

/-- Whether the cycle in progress of a domain has run its length. -/
def lapsed (s : State) (d : Nat) : Bool := Nat.ble (cycleLen (dom s d)) (dom s d).spent

/-- A nominal cycle passes at a domain that runs. -/
def spend (s : State) (d : Nat) : State := if runs s d then modDom s d (fun x => { x with spent := x.spent + cycle412 }) else s

/-- Whether a domain goes on to its next SC (R62, R268): its cycle has run its length and no entry for the next SC is missing. -/
def advances (s : State) (d : Nat) : Bool := runs s d && lapsed s d && !awaited s d (scOf s d + 1)

/-- Count a cycle of a site's cores (R106): held cycles are starved-back, cycles without an issue starved-front. -/
def accountCores (s : State) (k : Nat) : State :=
  let isHeld := held s k
  let sc := scOf s k
  (enabledCores s k).foldl (fun s g =>
    let st := coreState s g
    if st = 2 ∨ st = 3 ∨ st = 4 then
      if isHeld then (List.range 4).foldl (fun s i => countCycle s g i 3 1) s
      else if (core s g).issued = some sc then s
      else (List.range 4).foldl (fun s i => countCycle s g i 2 1) s
    else s) s

/-- Inputs of a site's router whose oldest flit waits for an open slice or credit (R235). -/
def stalled (x : SiteX) (inp : Nat) : Bool :=
  (List.range 2).any (fun vc => match headOf x inp vc with
    | some f => !x.moves.any (fun m => m.inp == f.inp && m.vc == f.vc)
    | Option.none => false)

/-- Telemetry of the dynamic class counts cycles, held ones too (R235, R237). -/
def countQueues (s : State) (k : Nat) : State :=
  if (site s k).dynQ.isEmpty then s
  else
    (List.range 8).foldl (fun s i =>
      let x := site s k
      let n := queued x i 0 + queued x i 1
      let s := if n = 0 then s else bump s (RIL_DPORTp_DEPTH_SUM k i) n
      if stalled x i then bump s (RIL_DPORTp_STALL k i) 1 else s) s

/-- Cascade telemetry counts SCs (R237, R259). -/
def countWaits (s : State) (k : Nat) : State :=
  let n := ((List.range 16).filter (fun j => (rd s (CSC_STATUS k)).getLsbD (16 + j))).length
  if n = 0 then s else bump s (CSC_WAIT k) n

/-- The cycle of a domain ends: what it ran beyond it counts towards the next, and in catch-up debt falls by 12 of 412 parts (R266, R267). -/
def endCycle (s : State) (d : Nat) : State :=
  let x := dom s d
  let s := modDom s d (fun y => { y with
    spent := x.spent - cycleLen x, extra := 0, droop := false, waited := false, debt := if catchesUp x then x.debt - min 12 x.debt else x.debt })
  if catchesUp x then showDebt (wf (bump s (CLK_CATCHUP d) 1) (CLK_STATUS d) Fd.CLK_STATUS_CATCHUP 1) d
  else wf s (CLK_STATUS d) Fd.CLK_STATUS_CATCHUP 0

/-- A new cycle of a site's clock: the maintenance port and the BW ports are free again (R190, R230). -/
def freshCycle (x : SiteX) : SiteX := { x with mused := [], bwUsed := 0, landQ := x.landQ.map (fun l => { l with busy := false }) }

/-- A domain reaches its next SC, and a site's hop program with it (R213); a boundary release under way takes it into the new phase there (R283). -/
def nextSc (s : State) (d : Nat) : State :=
  let sc := (scOf s d + 1) % 2 ^ 64
  let s := modDom s d (fun x => { x with sc := sc })
  let s := if d < 144 then modSite (advanceProgram s d sc) d freshCycle else s
  if s.pnl.crossing = some sc ∧ bndValid s d ∧ (rd s (CLK_BND_NEXT_SC d)).toNat + 1 = sc then
    crossBoundary s d (sc - 1) (rf s CLK_PANEL Fd.CLK_PANEL_VARIANT)
  else s

/-- What a domain counts in a cycle of its clock (R106, R235, R237, R326). -/
def countDomain (s : State) (d : Nat) : State :=
  if d < 144 then countQueues (accountCores s d) d
  else if (walkWaiters (edge s (d - 144))).isEmpty then s
  else bump s (STM_WALK_WAIT (d - 144)) 1

/-- A domain goes on to its next SC, or stops after SC B of a phase boundary unless a boundary release takes it across (R279, R282). -/
def advance (s : State) (d : Nat) : State :=
  let sc := scOf s d
  let s := countDomain s d
  let s := endSc (if d < 144 then countWaits s d else s) d sc
  let s := endCycle s d
  if atBoundary s d ∧ s.pnl.crossing ≠ some (sc + 1) ∧ sc + 1 < 2 ^ 64 then boundaryStop s d sc else nextSc s d

/-- The end of a nominal cycle at a domain in lockstep: a held one counts it, one that has run its cycle goes on, and one whose next entry is missing
waits for a cycle more, which is debt (R266, R268). -/
def tickDomain (s : State) (d : Nat) : State :=
  if held s d then bump (countDomain s d) (CLK_HELD d) 1
  else if advances s d then advance s d
  else if runs s d && lapsed s d then weirWait s d cycle412 ((missingAt s d (scOf s d + 1)).headD 0)
  else s

/-- Key of the part of a nanosecond of holds not yet counted, in 168,000ths. -/
def holdNsKey : Nat := tk 22

/-- Count the cycle's nanoseconds while a hold is in force at any domain (R302). -/
def countHoldNs (s : State) : State :=
  if rf s CLK_HOLD_STATUS Fd.CLK_HOLD_STATUS_IN_FORCE = 0 then s
  else
    let n := tab s holdNsKey + 168_000_000 / opptMhz (rf s CLK_PANEL Fd.CLK_PANEL_OPPT)
    let s := setTab s holdNsKey (n % 168_000)
    if n < 168_000 then s else bump s CLK_HOLD_NS (n / 168_000)

/-- The domains that end a cycle within the nominal cycle in progress: catch-up leaves them room for one more SC in it (R267). -/
def early (s : State) : List Nat := (lockstep s).filter (advances s)

/-- One nominal cycle of the clock, or what is left of one in which some domains end a second cycle. What hardware set before it may be cleared from
now on (R14). -/
def tick (s : State) : State :=
  let s := s.setRisen []
  if !(early s).isEmpty then releaseEdge ((early s).foldl (fun s d => advance s d) s)
  else
    let s := countHoldNs (modPnl s (fun p => { p with wall := p.wall + 1 }))
    let s := s.setSites (smap (fun _ => SiteX.init) freshCycle s.sites)
    releaseEdge ((lockstep s).foldl tickDomain ((lockstep s).foldl spend s))

end Sys2Proof.Machine
end

