-- ==== Sys2Proof/Safety.lean ====
section
/-!
DEFINITION. What the claims call a sound state and an unchanged part of it.
-/
namespace Sys2Proof.Machine

/-- The canonical form of a memory: addresses strictly rising, no entry at what an unlisted address reads as. -/
def Memory.wf (m : List Host.Cell) : Bool := swf memUnlisted m

/-- The memories of a state keep their canonical form: HBM and basins, and the cores' local stores. -/
def State.memOk (s : State) : Bool := Memory.wf s.mem && Memory.wf s.cmem

/-- A step that answers a next state. -/
def stepsTo (s t : State) : Prop := step s = .next t

/-- Core `g` may issue the bundle `b` now, and the bundle raises no schedule fault (R63, R99, R100). -/
def issues (s : State) (g : Nat) (b : BitVec 256) : Bool :=
  let r := ready s g
  let sc := scOf s (g / 64)
  let r' := modCore r g (fun x => { x with vsel := Option.none })
  mayIssue s g && mayIssue r g
    && (bundleFaults r' g sc (fetchPc r g) b (slotPlans r' g sc (fetchPc r g) b) (planCtl r' g (fetchPc r g) (ctlField b.toNat))).isEmpty

/-- What the issue of a slot operation leaves as it was: every memory, vector register, channel, table, domain, edge die, stack, port, partition and
free value, the command queue, and every register but the core's CORE_STATUS and loop registers and the two that a counter's overflow sets (R550). -/
def issueKeeps (g : Nat) (r t : State) : Prop :=
  t.mem = r.mem ∧ t.cmem = r.cmem ∧ t.vregs = r.vregs ∧ t.chans = r.chans ∧ t.tables = r.tables ∧ t.lineKey = r.lineKey ∧ t.doms = r.doms
    ∧ t.edges = r.edges ∧ t.hbms = r.hbms ∧ t.ports = r.ports ∧ t.parts = r.parts ∧ t.fresh = r.fresh ∧ t.pending = r.pending
    ∧ ∀ a, a ≠ CORE_STATUS g → (∀ i, i < 4 → a ≠ CORE_LOOPn g i) → a ≠ PMU_EVENTS → (∀ u, u < 10 → a ≠ MGT_FN_IRQ u) → rd t a = rd r a

/-- Whether a requester's access to a register is made: the address answers (R27) and R513 permits the class. -/
def mayAccess (s : State) (req : Requester) (a : Nat) (write : Bool) : Bool :=
  !rejected s a && (match locate a with
    | some (b, u, o) => permitted s (clsOf s req) write b u o
    | Option.none => false)

/-- The stores beside the registers, live counters, unit internals and the panel's internals: no register-only command changes these. -/
def sameStores (r t : State) : Prop :=
  t.mem = r.mem ∧ t.lineKey = r.lineKey ∧ t.cmem = r.cmem ∧ t.chans = r.chans ∧ t.tables = r.tables ∧ t.vregs = r.vregs ∧ t.fresh = r.fresh
    ∧ t.pending = r.pending

/-- The internals of every unit but the panel. -/
def sameUnits (r t : State) : Prop :=
  t.cores = r.cores ∧ t.sites = r.sites ∧ t.doms = r.doms ∧ t.edges = r.edges ∧ t.hbms = r.hbms ∧ t.ports = r.ports ∧ t.parts = r.parts

/-- The internals of every unit but the panel and the sites. -/
def unitsButSites (r t : State) : Prop :=
  t.cores = r.cores ∧ t.doms = r.doms ∧ t.edges = r.edges ∧ t.hbms = r.hbms ∧ t.ports = r.ports ∧ t.parts = r.parts

/-- Every register but those of `as` reads as before. -/
def otherRegs (r t : State) (as : List Nat) : Prop := ∀ a, a ∉ as → rd t a = rd r a

/-- The registers a counter's overflow sets (R550), and those an access error sets (R500). -/
def eventRegs : List Nat := PMU_EVENTS :: (List.range 10).map MGT_FN_IRQ
def errorRegs : List Nat := FLT_ACCESS :: FLT_ACCESS_ADDR :: eventRegs

/-- The registers of the panel's and of a domain's hold record (R302). -/
def holdRecord : List Nat := [CLK_HOLD_STATUS, CLK_HOLD_LAST, CLK_HOLD_LAST_SC]
def holdRegs (d : Nat) : List Nat := [CLK_STATUS d, CLK_HOLD d, CLK_HOLD_SC d, CLK_STOP_SC d] ++ holdRecord

/-- The panel's record of a hold with cause `c` by domain `d` (160 is the steward) at SC `sc` (R277, R279, R302). -/
def holdRecorded (s t : State) (d c sc : Nat) : Prop :=
  rf t CLK_HOLD_STATUS Fd.CLK_HOLD_STATUS_IN_FORCE = 1 ∧ rf t CLK_HOLD_STATUS Fd.CLK_HOLD_STATUS_RELEASING = 0 ∧ t.pnl.release = Option.none
    ∧ rf t CLK_HOLD_STATUS Fd.CLK_HOLD_STATUS_ACTIVE / 2 ^ (c - 1) % 2 = 1
    ∧ (rf s CLK_HOLD_STATUS Fd.CLK_HOLD_STATUS_IN_FORCE = 0 → rf t CLK_HOLD_LAST Fd.CLK_HOLD_LAST_CAUSE = c ∧ rf t CLK_HOLD_LAST Fd.CLK_HOLD_LAST_DOMAIN = d
        ∧ rf t CLK_HOLD_LAST Fd.CLK_HOLD_LAST_VALID = 1 ∧ (rd t CLK_HOLD_LAST_SC).toNat = sc % 2 ^ 64)

/-- Domain `d` raised a hold with cause `c` at SC `sc` and stands there (R275, R276, R302). -/
def holdRaised (s t : State) (d c sc : Nat) : Prop :=
  c ∈ (dom t d).causes ∧ held t d = true ∧ scOf t d = sc ∧ (rd t (CLK_HOLD_SC d)).toNat = sc % 2 ^ 64 ∧ rf t (CLK_STATUS d) Fd.CLK_STATUS_RAISING = 1
    ∧ (held s d = false → (dom t d).stop = sc ∧ (rd t (CLK_STOP_SC d)).toNat = sc % 2 ^ 64 ∧ rf t (CLK_STATUS d) Fd.CLK_STATUS_HELD = 1)
    ∧ (rf s (CLK_HOLD d) Fd.CLK_HOLD_VALID = 0 → rf t (CLK_HOLD d) Fd.CLK_HOLD_CAUSE = c ∧ rf t (CLK_HOLD d) Fd.CLK_HOLD_VALID = 1)
    ∧ holdRecorded s t d c sc

/-- Whether a core has issued at the SC its site stands at: what a hold takes back (R275). -/
def issuedNow (s : State) (g : Nat) : Bool := (core s g).issued == some (scOf s (g / 64))

/-- The internals of cores and sites but of those that have issued at their present SC. -/
def sparesIssues (r t : State) : Prop :=
  (∀ g, issuedNow r g = false → core t g = core r g) ∧ ∀ k, (∀ i, i < 64 → issuedNow r (64 * k + i) = false) → site t k = site r k

/-- The core registers that taking back an issue restores (R275). -/
def stopRegs (d : Nat) : List Nat := if d < 144 then (List.range 64).flatMap (fun i => issueRegs (64 * d + i)) else []

/-- The registers that a change of readiness of the bitmap word at `a` touches (R466, R477, R532). -/
def readyRegs (a : Nat) : List Nat := [a, BOOT_READY] ++ (List.range 10).map MGT_FN_IRQ

/-- The core whose bundle a command issues: the fetch of the bundle stored, and the slot and control commands (R63, R66). -/
def issuer : Instr → Option Nat
  | .bundleFetch g => some g.val
  | .ctlLoop g _ => some g.val
  | .ctlPhase g _ => some g.val
  | .ctlSleep g _ => some g.val
  | .ctlIdle g _ => some g.val
  | .ctlHalt g => some g.val
  | .tuMma g _ => some g.val
  | .tuMmas g _ => some g.val
  | .tuMmawg g _ => some g.val
  | .tuAccz g _ => some g.val
  | .tuDload g _ => some g.val
  | .vuAdd g _ => some g.val
  | .vuSub g _ => some g.val
  | .vuMul g _ => some g.val
  | .vuFma g _ => some g.val
  | .vuMax g _ => some g.val
  | .vuMin g _ => some g.val
  | .vuAbs g _ => some g.val
  | .vuCmp g _ => some g.val
  | .vuSel g _ => some g.val
  | .vuMov g _ => some g.val
  | .vuCvt g _ => some g.val
  | .vuExp2 g _ => some g.val
  | .vuRcp g _ => some g.val
  | .vuRsqrt g _ => some g.val
  | .vuLd g _ => some g.val
  | .vuSt g _ => some g.val
  | .xuBrd g _ => some g.val
  | .xuBwr g _ => some g.val
  | .xuRsend g _ => some g.val
  | .xuRrecv g _ => some g.val
  | .xuCsend g _ => some g.val
  | .xuStrm g _ => some g.val
  | .mxAddi g _ => some g.val
  | .mxAdd g _ => some g.val
  | .mxSub g _ => some g.val
  | .mxAnd g _ => some g.val
  | .mxOr g _ => some g.val
  | .mxXor g _ => some g.val
  | .mxShli g _ => some g.val
  | .mxShri g _ => some g.val
  | .mxLih g _ => some g.val
  | .mxSetp g _ => some g.val
  | .mxScrd g _ => some g.val
  | .mxVarrd g _ => some g.val
  | .imclr g _ => some g.val
  | .imins g _ => some g.val
  | .imlkp g _ => some g.val
  | .imidx g _ => some g.val
  | .hclr g _ => some g.val
  | .hins g _ => some g.val
  | .hlkp g _ => some g.val
  | .imstat g _ => some g.val
  | _ => Option.none

end Sys2Proof.Machine
end

