-- ==== Sys2Proof/Certificates/Slice0/Obligations.lean ====
section
/-!
DEFINITION. The statements for the provers. Each holds for every free value and for every state that meets its hypotheses.
-/

open Sys2Proof Sys2Proof.Machine

/-- A step takes the command at the front of the queue and runs it on the state with the queue's rest. With an empty queue a clock cycle passes:
DESIGN CHOICE, log entry 19. -/
def Obligations.StepRunsFront : Prop :=
  (∀ (c : Instr) (s : State), step (s.setPending (c :: s.pending)) = exec c s)
    ∧ ∀ s : State, s.pending = [] → step s = .next (tick s)

/-- The model stops in two places alone: an input voltage beyond the absolute ratings (R583), and panel firmware's access to a steward window, whose
contents R23 leaves undescribed. Every other command, in every state, answers a next state. -/
def Obligations.NoOtherStop : Prop :=
  let beyond := fun (c : Instr) => ∃ mv : Int, c = .inputRange mv ∧ (mv < -60_000 ∨ 60_000 < mv)
  let window := fun (c : Instr) => ∃ req a half v f, c = .registerWrite req a half v f ∧ firmwareOf req = true ∧ inStewardWindow a.toNat = true
  ∀ (c : Instr) (s : State),
    (¬ beyond c → ¬ window c → ∃ t, exec c s = .next t) ∧ (beyond c → exec c s = .fault .beyondAbsoluteRating) ∧ (window c → exec c s = .refused .stewardWindow)

/-- No command looks at, adds to or takes from the queue of waiting commands; a step takes the front one alone. The queue is the model's own field. -/
def Obligations.QueueKept : Prop :=
  (∀ (c : Instr) (s t : State), exec c s = .next t → t.pending = s.pending) ∧ ∀ s t : State, stepsTo s t → t.pending = s.pending.tail

/-- The canonical form of the byte memories (HBM and basins, R23; the cores' local stores, R60) survives every command and every clock cycle. -/
def Obligations.MemoryFormKept : Prop := ∀ s t : State, s.memOk = true → stepsTo s t → t.memOk = true

/-- R473: the state after power-on. That memory reads 0 where nothing is listed is a DESIGN CHOICE, log entry 5. -/
def Obligations.ResetState : Prop :=
  let s := State.reset
  (∀ a, rd s a = csrReset a) ∧ (∀ g : Gid, coreState s g.val = (if coreEnabled s g.val then 1 else 0) ∧ rf s (CORE_STATUS g.val) Fd.CORE_STATUS_PC = 0 ∧ ∀ n : Fin 32, vreg s g.val n.val = 0)
    ∧ (∀ d : Dom, scOf s d.val = 0 ∧ held s d.val = false ∧ (dom s d.val).debt = 0) ∧ lockstep s = [] ∧ (∀ p : Part, imageLoaded s p.val = false)
    ∧ (∀ key, tab s key = 0) ∧ (∀ a, memRead s a = 0) ∧ s.memOk = true ∧ s.pending = []

/-- R62: no command and no clock cycle moves a domain's SC but by one, or back to 0 with an alignment (R263) or a full-panel or power-on reset (R473);
a release moves none (R278). -/
def Obligations.ScheduleCountersStepByOne : Prop :=
  ∀ s t : State, swf (fun _ => DomX.init) s.doms = true → (∀ d, scOf s d < 2 ^ 64) → stepsTo s t →
    swf (fun _ => DomX.init) t.doms = true ∧ (∀ d, scOf t d < 2 ^ 64)
      ∧ ∀ d, scOf t d = scOf s d ∨ scOf t d = (scOf s d + 1) % 2 ^ 64 ∨ scOf t d = 0

/-- R63, R97, R99, R101: what every command that issues a bundle of core `g` has in common. -/
def Obligations.OneBundlePerSc : Prop :=
  ∀ (c : Instr) (g : Nat) (s : State), issuer c = some g →
    ∃ t, exec c s = .next t ∧ mayIssue t g = false ∧ (∀ d, scOf t d = scOf s d)
      ∧ (held s (g / 64) = true → t.mem = s.mem ∧ t.cmem = s.cmem ∧ t.vregs = s.vregs)
      ∧ (coreState s g ≠ 3 ∨ (held s (g / 64) = true ∧ faultWindow s g = false) ∨ (core s g).haltAt.isSome = true ∨ (core s g).issued = some (scOf s (g / 64)) → t = s)

/-- The clock of R62. The tick on an empty queue is a DESIGN CHOICE, log entry 19; what a cycle does is R62, R266 to R268, R278, R282. -/
def Obligations.ClockCycleEffects : Prop :=
  let next := fun (s : State) (d : Nat) => (scOf s d + 1) % 2 ^ 64
  ∀ s : State, s.pending = [] →
    ∃ t, step s = .next t ∧ t.pending = [] ∧ t.mem = s.mem ∧ t.cmem = s.cmem ∧ t.vregs = s.vregs ∧ t.ports = s.ports
      ∧ (∀ d, held s d = true → held t d = true) ∧ (∀ d, d ∉ lockstep s ∨ held s d = true → scOf t d = scOf s d)
      ∧ (early s ≠ [] → t.pnl.wall = s.pnl.wall ∧ ∀ d, scOf t d = if d ∈ early s then next s d else scOf s d)
      ∧ (early s = [] → t.pnl.wall = s.pnl.wall + 1 ∧ (∀ d, scOf t d = scOf s d ∨ scOf t d = next s d)
          ∧ ∀ d ∈ lockstep s, (∀ e ∈ lockstep s, e < d → held s e = true) → scOf t d = if advances (spend s d) d then next s d else scOf s d)

/-- R79, with the header of R67: each scalar operation that issues puts its result into flight, latency 1, and leaves the rest of the machine as it was. -/
def Obligations.ScalarSlotEffects : Prop :=
  ∀ (g : Gid) (f : MxF) (s : State),
    let r := ready s g.val
    let sc := scOf s (g.val / 64)
    let a := areg r g.val f.ra.val
    let b := areg r g.val f.rb.val
    let n := f.imm.toNat
    let holds : Bool := match n % 8 with
      | 0 => a == b
      | 1 => a != b
      | 2 => a.slt b
      | 3 => a.sle b
      | 4 => b.slt a
      | _ => b.sle a
    ∀ x ∈ [(Instr.mxAddi g f, 0x01, LandAct.areg f.rd.val (a + f.imm.signExtend 64)), (.mxAdd g f, 0x02, .areg f.rd.val (a + b)),
        (.mxSub g f, 0x03, .areg f.rd.val (a - b)), (.mxAnd g f, 0x04, .areg f.rd.val (a &&& b)), (.mxOr g f, 0x05, .areg f.rd.val (a ||| b)),
        (.mxXor g f, 0x06, .areg f.rd.val (a ^^^ b)), (.mxShli g f, 0x07, .areg f.rd.val (a <<< (n % 64))),
        (.mxShri g f, 0x08, .areg f.rd.val (a >>> (n % 64))), (.mxLih g f, 0x09, .areg f.rd.val ((a <<< 15) ||| f.imm.setWidth 64)),
        (.mxSetp g f, 0x0A, .pred (f.rd.val % 8) holds), (.mxScrd g f, 0x0B, .areg f.rd.val (BitVec.ofNat 64 sc)),
        (.mxVarrd g f, 0x0C, .areg f.rd.val (BitVec.ofNat 64 (dom r (g.val / 64)).variant))],
      issues s g.val (bundleOf 0 0 0 (mxWord x.2.1 f) 0) = true →
        ∃ t, exec x.1 s = .next t ∧ issueKeeps g.val r t
          ∧ (core t g.val).flights = (core r g.val).flights
            ++ (if pred r g.val f.hdr.pred.val != f.hdr.pneg then [⟨sc, sc + 1, 3, x.2.2⟩] else [])

/-- R170 to R175: what an executing index match or hash operation puts into flight, and when it lands. -/
def Obligations.IndexMatchEffects : Prop :=
  ∀ (g : Gid) (f : MxF) (s : State),
    let r := ready s g.val
    let sc := scOf s (g.val / 64)
    let x := core r g.val
    let n := f.imm.toNat
    let keys := laneGroup (vreg r g.val f.ra.val) (n % 8)
    let pays := laneGroup (vreg r g.val f.rb.val) (n % 8)
    let miss := (areg r g.val f.rb.val).toNat % 2 ^ 32
    let add := f.imm.getLsbD 8
    let spill := f.imm.getLsbD 9
    let hv : HashView := ⟨[], rf r (CORE_IM_STATUS g.val) Fd.CORE_IM_STATUS_HCOUNT, false, 0⟩
    let ins := (keys.zip pays).foldl (fun v p => imInsert r g.val add spill v p.1 p.2) ⟨x.imEntries, false, 0, hv⟩
    let hins := (keys.zip pays).foldl (fun h p => hashInsert r g.val add h p.1 p.2) hv
    let hash := fun k => (hashPayload r g.val k).getD miss
    pred r g.val f.hdr.pred.val ≠ f.hdr.pneg →
    ∀ y ∈ [(Instr.imclr g f, 0x10, 1, [LandAct.im [] hv.count false false []]),
        (.imins g f, 0x11, (if spill then 5 else 1), [.im ins.entries ins.hash.count ins.imovf ins.hash.hovf (hashWrites r g.val ins.hash)]),
        (.imlkp g f, 0x12, (if spill then 5 else 1),
          [.lanes f.rd.val (n % 8) (packGroup (keys.map (fun k => (imFind x.imEntries k).getD (if spill then hash k else miss))))]),
        (.imidx g f, 0x13, 1, [.lanes f.rd.val (n % 8) (packGroup (keys.map (fun k => (imIndex x.imEntries k).getD 0xFFFF_FFFF)))]),
        (.hclr g f, 0x14, 2048, [.hclr (hashBase r g.val)]),
        (.hins g f, 0x15, 4, [.im x.imEntries hins.count false hins.hovf (hashWrites r g.val hins)]),
        (.hlkp g f, 0x16, 4, [.lanes f.rd.val (n % 8) (packGroup (keys.map hash))]),
        (.imstat g f, 0x17, 1, .areg f.rd.val (rd r (CORE_IM_STATUS g.val)) :: (if n % 2 = 1 then [.imClr] else []))],
      issues s g.val (bundleOf 0 0 0 (mxWord y.2.1 f) 0) = true →
        ∃ t, exec y.1 s = .next t ∧ issueKeeps g.val r t
          ∧ (core t g.val).flights = (core r g.val).flights ++ y.2.2.2.map (fun a => ⟨sc, sc + y.2.2.1, 3, a⟩)

/-- R71 to R73, R131 to R133: the lanes and the latency of each elementwise vector operation. -/
def Obligations.VectorSlotEffects : Prop :=
  ∀ (g : Gid) (f : VuF) (s : State),
    let r := ready s g.val
    let sc := scOf s (g.val / 64)
    let fmt := f.fmt.val
    let w := if fmt = 1 ∨ fmt = 2 then 16 else 32
    let b := fun i => if f.sb then (areg r g.val f.as.val).toNat % 2 ^ w else lane w (vreg r g.val f.vb.val) i
    ∀ x ∈ [(Instr.vuAdd g f, 0x01, 2, fun a b _ => addLane fmt a b), (.vuSub g f, 0x02, 2, fun a b _ => subLane fmt a b),
        (.vuMul g f, 0x03, 2, fun a b _ => mulLane fmt a b), (.vuFma g f, 0x04, 4, fun a b c => fmaLane fmt a b c),
        (.vuMax g f, 0x05, 2, fun a b _ => maxLane fmt a b), (.vuMin g f, 0x06, 2, fun a b _ => minLane fmt a b),
        (.vuAbs g f, 0x07, 2, fun a _ _ => absLane fmt a), (.vuCmp g f, 0x08, 2, fun a b _ => cmpLaneBits fmt (f.imm.toNat % 8) a b),
        (.vuSel g f, 0x09, 2, fun a b c => if c ≠ 0 then a else b), (.vuMov g f, 0x0A, 2, fun _ b _ => b),
        (.vuExp2 g f, 0x0C, 8, fun a _ _ => exp2Lane (laneElem fmt) (decodeElem (laneElem fmt) a)),
        (.vuRcp g f, 0x0D, 8, fun a _ _ => rcpLane (laneElem fmt) (decodeElem (laneElem fmt) a)),
        (.vuRsqrt g f, 0x0E, 8, fun a _ _ => rsqrtLane (laneElem fmt) (decodeElem (laneElem fmt) a))],
      issues s g.val (bundleOf 0 (vuWord x.2.1 f) 0 0 0) = true →
        ∃ t v, exec x.1 s = .next t ∧ issueKeeps g.val r t
          ∧ (core t g.val).flights = (core r g.val).flights
            ++ (if pred r g.val f.hdr.pred.val != f.hdr.pneg then [⟨sc, sc + x.2.2.1, 1, .vreg f.vd.val v⟩] else [])
          ∧ ∀ i, i < 4096 / w → lane w v i = x.2.2.2 (lane w (vreg r g.val f.va.val) i) (b i) (lane w (vreg r g.val f.vc.val) i) % 2 ^ w

/-- R74, R119 to R129: conversions, vector loads and vector stores that execute. -/
def Obligations.VectorConvertAndMemory : Prop :=
  ∀ (g : Gid) (f : VuF) (s : State),
    let r := ready s g.val
    let sc := scOf s (g.val / 64)
    let fl := (core r g.val).flights
    let a := (areg r g.val f.as.val + BitVec.ofNat 64 (f.imm.toNat * 64)).toNat
    pred r g.val f.hdr.pred.val ≠ f.hdr.pneg →
      (issues s g.val (bundleOf 0 (vuWord 0x10 f) 0 0 0) = true →
        ∃ t, exec (.vuLd g f) s = .next t ∧ issueKeeps g.val r t
          ∧ (core t g.val).flights = fl ++ [⟨sc, sc + 3, 1, .vreg f.vd.val (BitVec.ofNat 4096 (natOf (creads r g.val a 512)))⟩])
      ∧ (issues s g.val (bundleOf 0 (vuWord 0x11 f) 0 0 0) = true →
        ∃ t, exec (.vuSt g f) s = .next t ∧ issueKeeps g.val r t
          ∧ (core t g.val).flights = fl ++ [⟨sc, sc + 2, 1, .bytes a (bytesOf 512 (vreg r g.val f.vc.val).toNat)⟩])
      ∧ (issues s g.val (bundleOf 0 (vuWord 0x0B f) 0 0 0) = true →
        ∃ t c v as, exec (.vuCvt g f) s = .next t ∧ issueKeeps g.val r t ∧ cvtOf f.mod.toNat f.imm.toNat = some c
          ∧ (core t g.val).flights = fl ++ ⟨sc, sc + 3, 1, .vreg f.vd.val v⟩ :: as
          ∧ (let word := cvtWord (rd r (CORE_SR_SEED g.val)).toNat c (areg r g.val f.vc.val)
             let lw := laneWidth f.fmt.val
             let k := laneCount f.fmt.val
             let va := vreg r g.val f.va.val
             let vd := (vreg r g.val f.vd.val).toNat
             let lo := c.pos * k * c.tgt.width
             let hi := lo + k * c.tgt.width
             if c.scheme = .unscaled then
               as = [] ∧
               (if c.widen then
                  ∀ l, l < k → lane lw v l
                    = narrow (laneElem f.fmt.val) c.rnd false (word l) (decodeElem c.tgt (lane c.tgt.width va (c.pos * k + l))) % 2 ^ lw
                else
                  v.toNat % 2 ^ lo = vd % 2 ^ lo ∧ v.toNat / 2 ^ hi = vd / 2 ^ hi
                    ∧ ∀ l, l < k → lane c.tgt.width v (c.pos * k + l)
                      = narrow c.tgt c.rnd c.sat (word l) (decodeElem (laneElem f.fmt.val) (lane lw va l)) % 2 ^ c.tgt.width)
             else if c.widen then
               as = [] ∧ v = cvtDequant c va (vreg r g.val f.vb.val) (areg r g.val f.as.val) word
             else
               v = (cvtQuant c va (vreg r g.val f.vb.val) (vreg r g.val f.vd.val) word).1
                 ∧ as = [⟨sc, sc + 3, 1, .areg f.as.val (cvtQuant c va (vreg r g.val f.vb.val) (vreg r g.val f.vd.val) word).2⟩]))

/-- R147 to R158: issue of the tensor operations. -/
def Obligations.TensorIssueEffects : Prop :=
  ∀ (g : Gid) (f : TuF) (s : State),
    let r := ready s g.val
    let sc := scOf s (g.val / 64)
    let dw := rd r (CORE_TUDESCn g.val f.desc.val)
    let flags := f.flags.toNat
    let get := fun op off n => if op = opAccz then [] else creads r g.val (0x4_0000 + off * 64) n
    pred r g.val f.hdr.pred.val ≠ f.hdr.pneg →
      (∀ x ∈ [(Instr.tuMma g f, opMma), (.tuMmas g f, opMmas), (.tuMmawg g f, opMmawg), (.tuAccz g f, opAccz)],
        issues s g.val (bundleOf (tuWord x.2 f) 0 0 0 0) = true →
          ∃ t d fl, exec x.1 s = .next t ∧ issueKeeps g.val r t ∧ descOf (x.2 == opAccz) dw.toNat = some d
            ∧ (core t g.val).flights = (core r g.val).flights ∧ (core t g.val).tu = (core r g.val).tu ++ [fl]
            ∧ (core t g.val).tuFree = sc + occupancy x.2 flags d
            ∧ fl.issue = sc ∧ fl.occ = occupancy x.2 flags d ∧ fl.op = x.2 ∧ fl.desc = dw ∧ fl.coff = f.coff.toNat ∧ fl.flags = flags
            ∧ fl.dead = false ∧ fl.a = get x.2 f.aoff.toNat (aBytes x.2 d) ∧ fl.b = get x.2 f.boff.toNat (bBytes d)
            ∧ fl.sa = get x.2 d.asoff (asBytes x.2 d) ∧ fl.sb = get x.2 d.bsoff (bsBytes d)
            ∧ fl.metaBytes = get x.2 d.moff (metaBytesOf x.2 d))
      ∧ (issues s g.val (bundleOf (tuWord opDload f) 0 0 0 0) = true →
          ∃ t, exec (.tuDload g f) s = .next t ∧ issueKeeps g.val r t ∧ (core t g.val).tu = (core r g.val).tu
            ∧ (core t g.val).flights = (core r g.val).flights ++ [⟨sc, sc + 2, 0, .desc f.desc.val ((List.range 8).map (fun j =>
                BitVec.ofNat 64 (natOf (creads r g.val (f.aoff.toNat * 64 + 8 * j) 8))))⟩])

/-- R151, R152, R157, R161: the landing of a tensor operation, and its metadata check. -/
def Obligations.TensorLandWritesTile : Prop :=
  (∀ (g : Gid) (s : State) (f : TuFlight) (d : Desc),
    held s (g.val / 64) = false → (core s g.val).haltAt = Option.none → (core s g.val).tu = [f] → f.issue + f.occ + 8 ≤ scOf s (g.val / 64) → f.dead = false →
    (site s (g.val / 64)).bankQ = [] → (site s (g.val / 64)).rreqs = [] → (∀ x ∈ (core s g.val).flights, scOf s (g.val / 64) ≤ x.land) →
    descOf (f.op == opAccz) f.desc.toNat = some d →
    let a := 0x8_0000 + f.coff * 64
    let bs := tileAfter f d (creads s g.val a (tileBytes f.op f.flags d))
    f.coff < 2048 → bs.length ≤ 0x2_0000 →
      ∃ t, exec (.tuLand g) s = .next t ∧ (core t g.val).tu = [] ∧ (core t g.val).flights = (core s g.val).flights ∧ t.csr = s.csr ∧ t.vregs = s.vregs ∧ t.mem = s.mem
        ∧ (∀ k, site t k = site s k)
        ∧ ∀ (h : Gid) (b : Nat), b < 0x10_0000 →
          cread t h.val b = if h = g ∧ a ≤ b ∧ b < a + bs.length then bs.getD (b - a) 0#8 else cread s h.val b)
  ∧ ∀ (g : Gid) (s : State) (f : TuFlight),
    held s (g.val / 64) = false → (core s g.val).tu = [f] →
      (metaFaultDue f (scOf s (g.val / 64)) = false → exec (.tuMetadataRead g) s = .next s)
      ∧ (metaFaultDue f (scOf s (g.val / 64)) = true →
        ∃ t, exec (.tuMetadataRead g) s = .next t ∧ (core t g.val).tu = [{ f with dead := true }] ∧ t.cmem = s.cmem ∧ t.vregs = s.vregs ∧ t.mem = s.mem
          ∧ rf t (CORE_STATUS g.val) Fd.CORE_STATUS_STATE = 6
          ∧ (rf s (CORE_SFAULT g.val) Fd.CORE_SFAULT_VALID = 0 →
              rf t (CORE_SFAULT g.val) Fd.CORE_SFAULT_VALID = 1 ∧ rf t (CORE_SFAULT g.val) Fd.CORE_SFAULT_CAUSE = 1
                ∧ rf t (CORE_SFAULT g.val) Fd.CORE_SFAULT_SLOT = 0 ∧ rf t (CORE_SFAULT g.val) Fd.CORE_SFAULT_PC = f.pc % 4096
                ∧ rd t (CORE_SFAULT_SC g.val) = BitVec.ofNat 64 f.issue))

/-- R64, R59, R96: what is due lands, the landing of one operation, and the end of a HALT. -/
def Obligations.OperationLandAppliesEffects : Prop :=
  (∀ (g : Gid) (s : State), held s (g.val / 64) = false → (site s (g.val / 64)).bankQ = [] →
      ∃ t, exec (.operationLand g) s = .next t
        ∧ (core t g.val).flights = (core s g.val).flights.filter (fun x => decide (scOf s (g.val / 64) < x.land))
        ∧ (core t g.val).tu = (core s g.val).tu.filter (fun f => decide (scOf s (g.val / 64) ≤ f.issue + f.occ + 8))
        ∧ t.mem = s.mem ∧ t.chans = s.chans ∧ t.doms = s.doms ∧ t.tables = s.tables ∧ t.ports = s.ports ∧ t.pending = s.pending)
  ∧ (∀ (g : Gid) (s : State) (f : Flight),
    held s (g.val / 64) = false → (core s g.val).haltAt = Option.none → (site s (g.val / 64)).bankQ = [] →
    (∀ x ∈ (core s g.val).tu, scOf s (g.val / 64) ≤ x.issue + x.occ + 8) →
    (core s g.val).flights.filter (fun x => decide (x.land ≤ scOf s (g.val / 64))) = [f] →
      ∃ t, exec (.operationLand g) s = .next t
        ∧ (core t g.val).flights = (core s g.val).flights.filter (fun x => decide (scOf s (g.val / 64) < x.land))
        ∧ t.mem = s.mem ∧ t.chans = s.chans ∧ t.doms = s.doms ∧ t.pending = s.pending
        ∧ (match f.act with
          | .vreg d v => t.csr = s.csr ∧ t.cmem = s.cmem
              ∧ ∀ (h : Gid) (n : Fin 32), d < 32 → vreg t h.val n.val = if h = g ∧ n.val = d then v else vreg s h.val n.val
          | .areg d v => t.vregs = s.vregs ∧ t.cmem = s.cmem
              ∧ ∀ a, rd t a = if d ≠ 0 ∧ a = CORE_AREGn g.val d then v else rd s a
          | .pred d b => t.vregs = s.vregs ∧ t.cmem = s.cmem ∧ otherRegs s t [CORE_PRED g.val]
              ∧ ∀ n : Fin 8, d < 8 → pred t g.val n.val = if n.val = d ∧ d ≠ 0 then b else pred s g.val n.val
          | .bytes a bs => t.csr = s.csr ∧ t.vregs = s.vregs
              ∧ (a + bs.length ≤ 0x10_0000 → ∀ (h : Gid) (b : Nat), b < 0x10_0000 →
                  cread t h.val b = if h = g ∧ a ≤ b ∧ b < a + bs.length then bs.getD (b - a) 0#8 else cread s h.val b)
          | .brd _ => t.csr = s.csr ∧ t.vregs = s.vregs ∧ t.cmem = s.cmem
          | .none => t.csr = s.csr ∧ t.vregs = s.vregs ∧ t.cmem = s.cmem
          | .imClr => t.vregs = s.vregs ∧ t.cmem = s.cmem ∧ otherRegs s t [CORE_IM_STATUS g.val]
              ∧ rf t (CORE_IM_STATUS g.val) Fd.CORE_IM_STATUS_IMOVF = 0 ∧ rf t (CORE_IM_STATUS g.val) Fd.CORE_IM_STATUS_HOVF = 0
          | .im es hc _ _ _ => t.vregs = s.vregs ∧ otherRegs s t [CORE_IM_STATUS g.val] ∧ (core t g.val).imEntries = es
              ∧ (es.length ≤ 1024 → rf t (CORE_IM_STATUS g.val) Fd.CORE_IM_STATUS_COUNT = es.length)
              ∧ rf t (CORE_IM_STATUS g.val) Fd.CORE_IM_STATUS_HCOUNT = hc % 2 ^ Fd.CORE_IM_STATUS_HCOUNT.len
          | .lanes d grp v => t.csr = s.csr ∧ t.cmem = s.cmem
              ∧ (d < 32 → grp < 8 → ∀ i, i < 16 → lane 32 (vreg t g.val d) (16 * grp + i) = v.toNat / 2 ^ (32 * i) % 2 ^ 32)
          | .desc d vs => t.vregs = s.vregs ∧ t.cmem = s.cmem ∧ ∀ i, i < vs.length → rd t (CORE_TUDESCn g.val (d + i)) = vs.getD i 0#64
          | .hclr _ => t.vregs = s.vregs ∧ otherRegs s t [CORE_IM_STATUS g.val] ∧ rf t (CORE_IM_STATUS g.val) Fd.CORE_IM_STATUS_HCOUNT = 0))
  ∧ ∀ (g : Gid) (s : State) (n : Nat),
    held s (g.val / 64) = false → (core s g.val).haltAt = some n → n ≤ scOf s (g.val / 64) → (site s (g.val / 64)).bankQ = [] →
    (core s g.val).flights = [] → (core s g.val).tu = [] → coreState s g.val = 3 →
      ∃ t, exec (.operationLand g) s = .next t ∧ rf t (CORE_STATUS g.val) Fd.CORE_STATUS_STATE = 5 ∧ otherRegs s t [CORE_STATUS g.val]
        ∧ t.mem = s.mem ∧ t.cmem = s.cmem ∧ t.vregs = s.vregs

/-- R76, R77, R181 to R184, R207, R208, R253, R320: what a transfer puts into flight and into the site's queues. -/
def Obligations.TransferSlotEffects : Prop :=
  ∀ (g : Gid) (f : XuF) (s : State),
    let r := ready s g.val
    let k := g.val / 64
    let sc := scOf s k
    let n := f.words.val + 1
    let c := areg r g.val f.rc.val
    let imm := f.imm.toNat
    let a := (areg r g.val f.ra.val + BitVec.ofNat 64 imm).toNat % 2 ^ 26
    let b := (areg r g.val f.rb.val).toNat
    let ws := basinWords f.mode.val a n c
    let local_ := wordsOf n (creads r g.val b (4 * n))
    let step := if f.mode.val = 1 then BitVec.ofNat 64 n * c else BitVec.ofNat 64 n
    let post : List Flight := if f.postinc then
      [⟨sc, sc + 1, 2, .areg f.ra.val (areg r g.val f.ra.val + step)⟩, ⟨sc, sc + 1, 2, .areg f.rb.val (areg r g.val f.rb.val + BitVec.ofNat 64 (4 * n))⟩]
      else []
    let row := tab r (cscKey k (imm % 1024))
    let fl := (core r g.val).flights
    let x := site r k
    let does := fun (i : Instr) (op : Nat) (p : State → Prop) =>
      issues s g.val (bundleOf 0 0 (xuWord op f) 0 0) = true → ∃ t, exec i s = .next t ∧ issueKeeps g.val r t ∧ p t
    pred r g.val f.hdr.pred.val ≠ f.hdr.pneg →
      does (.xuBrd g f) opBrd (fun t => (core t g.val).flights = fl ++ ⟨sc, sc + 3, 2, .brd b⟩ :: post
          ∧ (site t k).bankQ = x.bankQ ++ [⟨sc + 1, g.val % 64, false, ws, [], sc, if f.mode.val = 2 then some (c.toNat / 2 ^ 16 % 4) else Option.none, b⟩])
      ∧ does (.xuBwr g f) opBwr (fun t => (core t g.val).flights = fl ++ post
          ∧ (site t k).bankQ = x.bankQ ++ [⟨sc + 3, g.val % 64, true, ws, local_, sc, Option.none, b⟩])
      ∧ does (.xuRsend g f) opRsend (fun t => (core t g.val).flights = fl
          ∧ (site t k).chanQ = x.chanQ ++ [⟨sc + 1, imm % 1024, imm / 1024 % 64, local_, Option.none, false⟩])
      ∧ does (.xuCsend g f) opCsend (fun t => (core t g.val).flights = fl
          ∧ (site t k).chanQ = x.chanQ ++ [⟨sc + 1, row / 2 ^ 104 % 1024, imm / 1024 % 64, local_, some (row % 2 ^ 64, row / 2 ^ 64), false⟩])
      ∧ does (.xuStrm g f) opStrm (fun t => (core t g.val).flights = fl
          ∧ (site t k).strmQ = x.strmQ ++ [⟨sc + 1, g.val % 64, imm % 2 ^ 20, imm / 2 ^ 20 % 2 ^ 8, areg r g.val f.ra.val, areg r g.val f.rb.val⟩])
      ∧ ((x.chanR.all (fun y => !(y.1 == sc && y.2.1 % 64 == imm % 64)) && (crUsed (cfgNow r k)).all (fun p => p.2 % 64 != imm % 64)) = true →
          does (.xuRrecv g f) opRrecv (fun t => (core t g.val).flights = fl ++ [⟨sc, sc + 3, 2, .bytes b
              (((bytesOf 256 (chanRead (chan r k (imm % 1024)) sc).toNat).drop (4 * (imm / 1024 % 64))).take (4 * n))⟩]
            ∧ (sc, imm % 1024, g.val) ∈ (site t k).chanR))

/-- R63, R84 to R86, R89, R91, R95, R96: the control operations that issue, and fetch. -/
def Obligations.ControlSlotEffects : Prop :=
  ∀ (g : Gid) (s : State),
    let r := ready s g.val
    let k := g.val / 64
    let sc := scOf s k
    let pc := fetchPc r g.val
    let ls := loops r g.val
    let next := closeAt pc ls.reverse
    let ctl := fun (op : Nat) (arg : BitVec 29) => issues s g.val (bundleOf 0 0 0 0 (ctlWord op arg))
    let st := CORE_STATUS g.val
    (∀ arg : BitVec 29, ctl 1 arg = true →
      let len := arg.toNat / 2 ^ 17
      let n := if arg.getLsbD 16 then (areg r g.val (arg.toNat % 32)).toNat % 2 ^ 32 else arg.toNat % 2 ^ 16
      ∃ t, exec (.ctlLoop g arg) s = .next t ∧ issueKeeps g.val r t ∧ (core t g.val).flights = (core r g.val).flights
        ∧ (0 < n → rf t st Fd.CORE_STATUS_DEPTH = ls.length + 1 ∧ rf t st Fd.CORE_STATUS_PC = (pc + 1) % 4096
            ∧ rf t (CORE_LOOPn g.val ls.length) Fd.CORE_LOOPn_VALID = 1 ∧ rf t (CORE_LOOPn g.val ls.length) Fd.CORE_LOOPn_REMAIN = n - 1
            ∧ rf t (CORE_LOOPn g.val ls.length) Fd.CORE_LOOPn_START = (pc + 1) % 4096
            ∧ rf t (CORE_LOOPn g.val ls.length) Fd.CORE_LOOPn_END = (pc + len) % 4096)
        ∧ (n = 0 → rf t st Fd.CORE_STATUS_PC = (closeAt ((pc + len) % 4096) ls.reverse).2 % 4096))
    ∧ (∀ arg : BitVec 29, ctl 2 arg = true →
        ∃ t, exec (.ctlPhase g arg) s = .next t ∧ issueKeeps g.val r t ∧ rf t st Fd.CORE_STATUS_PHASE_ID = arg.toNat % 2 ^ 16
          ∧ rf t st Fd.CORE_STATUS_PC = (pc + 1) % 4096
          ∧ (core t g.val).vsel = if arg.getLsbD 28 then some (arg.toNat / 2 ^ 16 % 2 ^ 12) else Option.none)
    ∧ (∀ arg : BitVec 29, ctl 3 arg = true →
        ∃ t, exec (.ctlSleep g arg) s = .next t ∧ t.mem = r.mem ∧ t.cmem = r.cmem ∧ t.vregs = r.vregs
          ∧ rf t st Fd.CORE_STATUS_STATE = 4 ∧ rf t st Fd.CORE_STATUS_PC = next.2 % 4096
          ∧ (core t g.val).resume = sc + arg.toNat % 2 ^ 27 ∧ (core t g.val).awake = false)
    ∧ (∀ arg : BitVec 29, ctl 4 arg = true → 32 ≤ arg.toNat % 2 ^ 20 →
        ∃ t, exec (.ctlIdle g arg) s = .next t ∧ issueKeeps g.val r t ∧ rf t st Fd.CORE_STATUS_PC = next.2 % 4096
          ∧ (core t g.val).tuOff = ((core r g.val).tuOff || arg.getLsbD 28) ∧ (core t g.val).vuOff = ((core r g.val).vuOff || arg.getLsbD 27)
          ∧ (arg.getLsbD 28 = true → ∃ a b, (core t g.val).tuGate = some (a, b) ∧ sc + arg.toNat % 2 ^ 20 - 1 ≤ b)
          ∧ (arg.getLsbD 27 = true → ∃ a b, (core t g.val).vuGate = some (a, b) ∧ sc + arg.toNat % 2 ^ 20 - 1 ≤ b))
    ∧ (ctl 5 0#29 = true →
        ∃ t, exec (.ctlHalt g) s = .next t ∧ issueKeeps g.val r t ∧ rf t st Fd.CORE_STATUS_DEPTH = 0 ∧ rf t st Fd.CORE_STATUS_PC = (pc + 1) % 4096
          ∧ mayIssue t g.val = false ∧ (core t g.val).flights = (core r g.val).flights
          ∧ ((core r g.val).flights = [] → (core r g.val).tu = [] → (site r k).bankQ = [] → rf t st Fd.CORE_STATUS_STATE = 5))
    ∧ (mayIssue s g.val = true → mayIssue r g.val = true →
        exec (.bundleFetch g) s = .next (issueBundle (modCore r g.val (fun x => { x with vsel := Option.none })) g.val sc pc (storedBundle r g.val pc)))

/-- R91 to R95, R103, R105, R294, R446: the states of a core. -/
def Obligations.CoreStateTransitions : Prop :=
  ∀ (g : Gid) (s : State),
    let k := g.val / 64
    let sc := scOf s k
    let c := CORE_CTRL g.val
    let st := CORE_STATUS g.val
    let x := core s g.val
    (∀ (req : Requester) (v : W64), mayAccess s req c true = true → coreState s g.val = 1 → fget Fd.CORE_CTRL_CLEAR v = 0 → fget Fd.CORE_CTRL_ARM v = 1 →
      ∃ t, exec (.coreArm req g v) s = .next t ∧ sameStores s t ∧ sameUnits s t ∧ rf t c Fd.CORE_CTRL_ENTRY = fget Fd.CORE_CTRL_ENTRY v
        ∧ (sc < (rd s (CORE_START_SC g.val)).toNat →
            otherRegs s t [c, st] ∧ rf t st Fd.CORE_STATUS_STATE = 2 ∧ rf t c Fd.CORE_CTRL_ARM = 1)
        ∧ ((rd s (CORE_START_SC g.val)).toNat ≤ sc →
            otherRegs s t (c :: errorRegs) ∧ rf t c Fd.CORE_CTRL_ARM = rf s c Fd.CORE_CTRL_ARM ∧ rf t FLT_ACCESS Fd.FLT_ACCESS_VALID = 1))
    ∧ (∀ (req : Requester) (v : W64), mayAccess s req c true = true → coreState s g.val = 5 ∨ coreState s g.val = 6 →
        fget Fd.CORE_CTRL_CLEAR v = 1 → fget Fd.CORE_CTRL_ARM v = 0 → fget Fd.CORE_CTRL_ENTRY v = rf s c Fd.CORE_CTRL_ENTRY →
        ∃ t, exec (.coreClear req g v) s = .next t ∧ sameStores s t ∧ sameUnits s t ∧ otherRegs s t [st] ∧ rf t st Fd.CORE_STATUS_STATE = 1)
    ∧ (coreState s g.val = 2 → sc = (rd s (CORE_START_SC g.val)).toNat → held s k = false →
        ∃ u, exec (.coreStart g) s = .next (fetchIssue u g.val) ∧ rf u st Fd.CORE_STATUS_STATE = 3 ∧ rf u st Fd.CORE_STATUS_DEPTH = 0
          ∧ rf u st Fd.CORE_STATUS_PC = rf s c Fd.CORE_CTRL_ENTRY ∧ rf u c Fd.CORE_CTRL_ARM = 0 ∧ loops u g.val = [] ∧ (core u g.val).vsel = Option.none
          ∧ u.mem = s.mem ∧ u.cmem = s.cmem ∧ u.vregs = s.vregs)
    ∧ (coreState s g.val = 4 → x.resume ≤ sc + 64 → x.awake = false →
        ∃ t, exec (.sleepThawStart g) s = .next t ∧ sameStores s t ∧ t.csr = s.csr ∧ (core t g.val).thawing = true
          ∧ ((site s k).wake = 1 → (site t k).wake = 2 ∧ t.pnl.wakeQ = s.pnl.wakeQ ++ [k + 256 * s.pnl.wall])
          ∧ ((site s k).wake ≠ 1 → t.sites = s.sites ∧ t.pnl = s.pnl))
    ∧ (coreState s g.val = 4 → x.resume = sc → held s k = false →
        (coreReady s g.val = true → ∃ u, exec (.sleepResume g) s = .next (fetchIssue u g.val) ∧ rf u st Fd.CORE_STATUS_STATE = 3
          ∧ rf u st Fd.CORE_STATUS_PC = rf s st Fd.CORE_STATUS_PC ∧ u.mem = s.mem ∧ u.cmem = s.cmem ∧ u.vregs = s.vregs)
        ∧ (coreReady s g.val = false → x.issued ≠ some sc → ∃ t, exec (.sleepResume g) s = .next t ∧ sameStores s t ∧ held t k = true ∧ hWake ∈ (dom t k).causes
          ∧ (dom t k).stop = sc ∧ coreState t g.val = coreState s g.val))
    ∧ (∀ j : Site, (site s j.val).wake = 1 → 2 ≤ (site s j.val).sleep → (∃ h ∈ enabledCores s j.val, coreState s h = 4 ∧
          (core s h).resume ≤ scOf s j.val + wakeCycles s (site s j.val).sleep) →
        ∃ t, exec (.siteWakeStart j) s = .next t ∧ sameStores s t ∧ t.csr = s.csr ∧ (site t j.val).wake = 2
          ∧ t.pnl.wakeQ = s.pnl.wakeQ ++ [j.val + 256 * s.pnl.wall])
    ∧ (x.thawing = true → (site s k).wake = 0 → ∃ t, exec (.thawAck (.core g)) s = .next t ∧ sameStores s t ∧ (core t g.val).thawing = false
          ∧ (core t g.val).awake = true)
    ∧ (∀ j : Site, (site s j.val).wake = 3 → ∃ t, exec (.thawAck (.site j)) s = .next t ∧ sameStores s t ∧ (site t j.val).wake = 0 ∧ (site t j.val).sleep = 0)
    ∧ (∀ (vu : Bool) (a b : Nat), (if vu then x.vuGate else x.tuGate) = some (a, b) → b + 1 ≤ sc + 16 →
        ∃ t, exec (.idleUnitRestart g vu) s = .next t ∧ sameStores s t ∧ t.csr = s.csr
          ∧ core t g.val = if vu then { x with vuOff := false } else { x with tuOff := false })

/-- R181 to R192: scheduled and dynamic basin accesses. -/
def Obligations.BasinAccessEffects : Prop :=
  (∀ (k : Site) (s : State) (r : BankReq),
    let sc := scOf s k.val
    siteState s k.val ≠ 2 → held s k.val = false → (site s k.val).served ≤ sc → (site s k.val).maint = [] → routerReqs s k.val sc = [] →
    (site s k.val).bankQ = [r] → r.sc = sc →
      (bankFaults s k.val [r] = [] → r.wr = true → r.words.Nodup → r.data.length = r.words.length → r.words.all (fun w => decide (w < 2 ^ 26)) = true →
        ∃ t, exec (.basinBankAccess k []) s = .next t ∧ t.cores = s.cores ∧ t.cmem = s.cmem ∧ t.chans = s.chans ∧ t.doms = s.doms
          ∧ (∀ i, i < r.words.length → basinWord t k.val (r.words.getD i 0) = r.data.getD i 0#32)
          ∧ ∀ a, (∀ w ∈ r.words, ¬ (wordAddr k.val w ≤ a ∧ a < wordAddr k.val w + 4)) → memRead t a = memRead s a)
      ∧ (bankFaults s k.val [r] = [] → r.wr = false →
        ∃ t, exec (.basinBankAccess k []) s = .next t ∧ t.mem = s.mem ∧ t.cmem = s.cmem ∧ t.doms = s.doms
          ∧ (core t (k.val * 64 + r.port)).flights = (core s (k.val * 64 + r.port)).flights.map (fun f =>
              if f.issue = r.issue ∧ f.act = .brd r.dest then { f with act := .bytes r.dest (gathered r (r.words.map (basinWord s k.val))) } else f))
      ∧ (faulted (bankFaults s k.val [r]) r = true → (site s k.val).faultSc ≠ some sc → (site s k.val).retired = false →
        ∃ t, exec (.basinBankAccess k []) s = .next t ∧ t.mem = s.mem ∧ (∀ g, (core s g).issued ≠ some sc → core t g = core s g) ∧ held t k.val = true ∧ hFault ∈ (dom t k.val).causes
          ∧ rf t (BSN_STATUS k.val) Fd.BSN_STATUS_SFAULT = (if rf s (BSN_SFAULT k.val) Fd.BSN_SFAULT_VALID = 1 then rf s (BSN_STATUS k.val) Fd.BSN_STATUS_SFAULT else 1)
          ∧ (rf s (BSN_SFAULT k.val) Fd.BSN_SFAULT_VALID = 0 → rd t (BSN_SFAULT k.val) = sfaultWord (bankFaults s k.val [r]))))
  ∧ (∀ (req : Requester) (k : Site) (w : Bool) (word : BitVec 26) (data : List Byte) (s : State),
    let a := wordAddr k.val word.toNat
    let bs := data.take (64 - 4 * (word.toNat % 16))
    let region := regionOf word.toNat
    let m : MaintReq := ⟨req, w, word.toNat, bs⟩
    let free := !(site s k.val).mused.contains 512 && maintFree s k.val mDynamic (bankOfLine (word.toNat / 16)) (rowOfLine (word.toNat / 16))
    let used := fun (t : State) => ∀ j, site t j = if j = k.val then { site s j with mused := (site s j).mused ++ 512 :: maintBanks s j m } else site s j
    rejected s a = false → (clsOf s req).owns (partOfSite s k.val) = true →
      (free = true →
        (w = true → (regionDynWr s k.val region || !siteBusy s k.val) = true →
          ∃ t, exec (.basinDynamicAccess req k w word data []) s = .next t ∧ t.pnl.reply = some ⟨true, []⟩ ∧ unitsButSites s t ∧ used t ∧ t.cmem = s.cmem
            ∧ ∀ b, memRead t b = if a ≤ b ∧ b < a + bs.length then bs.getD (b - a) 0#8 else memRead s b)
        ∧ (w = false → zeroFilling s k.val region = false →
          ∃ t, exec (.basinDynamicAccess req k w word data []) s = .next t ∧ t.pnl.reply = some ⟨true, memReads s a bs.length⟩ ∧ sameStores s t ∧ unitsButSites s t ∧ used t))
      ∧ (w = false → zeroFilling s k.val region = true →
          ∃ t, exec (.basinDynamicAccess req k w word data []) s = .next t ∧ t.pnl.reply = some ⟨false, []⟩ ∧ sameStores s t ∧ sameUnits s t)
      ∧ (free = false → (w || !zeroFilling s k.val region) = true →
        ∃ t, exec (.basinDynamicAccess req k w word data []) s = .next t ∧ sameStores s t ∧ t.csr = s.csr
          ∧ (site t k.val).maint = (site s k.val).maint ++ [m]))
  ∧ ∀ (k : Site) (s : State) (m : MaintReq) (ms : List MaintReq), (site s k.val).maint = m :: ms →
      ∃ t, exec (.basinDynamicTimeout k) s = .next t ∧ sameStores s t ∧ (site t k.val).maint = ms ∧ t.pnl.reply = some ⟨false, []⟩
        ∧ otherRegs s t errorRegs ∧ rf t FLT_ACCESS Fd.FLT_ACCESS_VALID = 1

/-- R191 to R198: what the maintenance of a basin does. -/
def Obligations.BasinUpkeepEffects : Prop :=
  (∀ (k : Site) (bank : Fin 512) (s : State) (q : Nat), (site s k.val).rewriteQ.find? (fun x => x / 8192 == bank.val) = some q →
      maintFree s k.val mRewrite bank.val (q % 8192) = true →
        ∃ t, exec (.basinRowRewrite k bank) s = .next t ∧ sameStores s t ∧ otherRegs s t eventRegs
          ∧ (site t k.val).rewriteQ = (site s k.val).rewriteQ.filter (fun y => y != q))
  ∧ (∀ (k : Site) (s : State), rf s (BSN_CFG k.val) Fd.BSN_CFG_SCRUB_EN = 1 → rf s (CLK_STATUS k.val) Fd.CLK_STATUS_ALIGNED = 1 →
      let b := BSN_SCRUB_STATUS k.val
      ∃ t, exec (.scrubInterval k) s = .next t ∧ sameStores s t ∧ otherRegs s t [b] ∧ (site t k.val).scrubbed = []
        ∧ (site t k.val).scrubLog2 = rf s (BSN_CFG k.val) Fd.BSN_CFG_SCRUB_LOG2
        ∧ rf t b Fd.BSN_SCRUB_STATUS_ROW = (rf s b Fd.BSN_SCRUB_STATUS_ROW + 1) % 6144
        ∧ rf t b Fd.BSN_SCRUB_STATUS_STARVED = (if (site s k.val).scrubbed.length < 512 then 1 else rf s b Fd.BSN_SCRUB_STATUS_STARVED)
        ∧ rf t b Fd.BSN_SCRUB_STATUS_PASSES = (if rf s b Fd.BSN_SCRUB_STATUS_ROW = 6143 then
            (rf s b Fd.BSN_SCRUB_STATUS_PASSES + 1) % 2 ^ Fd.BSN_SCRUB_STATUS_PASSES.len else rf s b Fd.BSN_SCRUB_STATUS_PASSES))
  ∧ (∀ (k : Site) (bank : Fin 512) (s : State), rf s (BSN_CFG k.val) Fd.BSN_CFG_SCRUB_EN = 1 → rf s (CLK_STATUS k.val) Fd.CLK_STATUS_ALIGNED = 1 →
      bank.val ∉ (site s k.val).scrubbed → maintFree s k.val mScrub bank.val (rf s (BSN_SCRUB_STATUS k.val) Fd.BSN_SCRUB_STATUS_ROW) = true →
        ∃ t, exec (.scrubBankVisit k bank []) s = .next t ∧ sameStores s t ∧ otherRegs s t eventRegs
          ∧ (site t k.val).scrubbed = (site s k.val).scrubbed ++ [bank.val])
  ∧ (∀ (req : Requester) (k : Site) (v : W64) (s : State), mayAccess s req (BSN_ZF_CTRL k.val) true = true → siteBusy s k.val = false →
      fget Fd.BSN_ZF_CTRL_GO v = 1 →
        let n := fget Fd.BSN_ZF_CTRL_REGION v
        (fget Fd.BSN_ZF_CTRL_ALL v = 1 ∨ n < 192) →
        ∃ t, exec (.zeroFillGo req k v) s = .next t ∧ sameStores s t ∧ otherRegs s t [BSN_STATUS k.val] ∧ rf t (BSN_STATUS k.val) Fd.BSN_STATUS_ZF_BUSY = 1
          ∧ ∀ r, r ∈ (site t k.val).zfLeft ↔ (r ∈ (site s k.val).zfLeft ∨ (if fget Fd.BSN_ZF_CTRL_ALL v = 1 then r < 192 else r = n)))
  ∧ (∀ (k : Site) (s : State), (∀ n ∈ (site s k.val).zfLeft, n < 192) →
        ∃ t, exec (.zeroFillDone k) s = .next t ∧ otherRegs s t (BSN_STATUS k.val :: eventRegs) ∧ rf t (BSN_STATUS k.val) Fd.BSN_STATUS_ZF_BUSY = 0
          ∧ (site t k.val).zfLeft = [] ∧ t.cmem = s.cmem
          ∧ ∀ a, memRead t a = if (site s k.val).zfLeft.any (fun n => decide (basinBase k.val + n * 0x10_0000 ≤ a ∧ a < basinBase k.val + (n + 1) * 0x10_0000))
              then 0#8 else memRead s a)
  ∧ (∀ (req : Requester) (k : Site) (n : Fin 192) (v : W64) (s : State),
      let r := BSN_REGIONn k.val n.val
      mayAccess s req r true = true → siteBusy s k.val = false →
        ∃ t, exec (.bsnRegionWrite req k n v) s = .next t ∧ sameStores s t ∧ otherRegs s t [r, BSN_STATUS k.val]
          ∧ rf t r Fd.BSN_REGIONn_CLASS = fget Fd.BSN_REGIONn_CLASS v ∧ rf t r Fd.BSN_REGIONn_SCHED_WR = fget Fd.BSN_REGIONn_SCHED_WR v
          ∧ rf t r Fd.BSN_REGIONn_DYN_WR = fget Fd.BSN_REGIONn_DYN_WR v
          ∧ (sget (fun _ => 0) s.risen r = 0 → rf t r Fd.BSN_REGIONn_UE = if fget Fd.BSN_REGIONn_UE v = 1 then 0 else rf s r Fd.BSN_REGIONn_UE)
          ∧ (rf s r Fd.BSN_REGIONn_CLASS ≠ fget Fd.BSN_REGIONn_CLASS v → n.val ∈ (site t k.val).zfLeft ∧ rf t (BSN_STATUS k.val) Fd.BSN_STATUS_ZF_BUSY = 1))
  ∧ (∀ (req : Requester) (k : Site) (v : W64) (s : State), mayAccess s req (BSN_DIG_CTRL k.val) true = true → fget Fd.BSN_DIG_CTRL_GO v = 1 →
      rf s (BSN_STATUS k.val) Fd.BSN_STATUS_DIG_BUSY = 0 →
        let n := rf s (BSN_DIG_LINES k.val) Fd.BSN_DIG_LINES_COUNT
        let base := rf s (BSN_DIG_BASE k.val) Fd.BSN_DIG_BASE_LINE
        ∃ t, exec (.digestGo req k v) s = .next t ∧ sameStores s t ∧ unitsButSites s t
          ∧ (∀ j, site t j = if j = k.val ∧ 0 < n ∧ base + n ≤ 0x30_0000 then { site s j with digRange := some (base, n) } else site s j)
          ∧ (if 0 < n ∧ base + n ≤ 0x30_0000 then
              otherRegs s t [BSN_STATUS k.val] ∧ rf t (BSN_STATUS k.val) Fd.BSN_STATUS_DIG_BUSY = 1
            else otherRegs s t errorRegs ∧ rf t FLT_ACCESS Fd.FLT_ACCESS_VALID = 1))
  ∧ ∀ (k : Site) (s : State) (base n : Nat), (site s k.val).digRange = some (base, n) →
      let d := sha384 (memReads s (basinBase k.val + 64 * base) (64 * n))
      (∃ t, exec (.digestDone k []) s = .next t ∧ sameStores s t ∧ unitsButSites s t ∧ (site t k.val).digRange = Option.none ∧ rf t (BSN_STATUS k.val) Fd.BSN_STATUS_DIG_BUSY = 0
          ∧ otherRegs s t (BSN_STATUS k.val :: (List.range 6).map (BSN_DIG_RESULTn k.val))
          ∧ ∀ i, i < 6 → rd t (BSN_DIG_RESULTn k.val i) = BitVec.ofNat 64 (d.toNat / 2 ^ (64 * i)))
      ∧ ∀ e : BankErr, e.ue = true → ∃ t, exec (.digestDone k [e]) s = .next t ∧ sameStores s t ∧ rf t (BSN_STATUS k.val) Fd.BSN_STATUS_DIG_BUSY = 0
          ∧ rf t (BSN_STATUS k.val) Fd.BSN_STATUS_DIG_ERR = 1 ∧ ∀ i, i < 6 → rd t (BSN_DIG_RESULTn k.val i) = 0#64

/-- R206 to R220, R234, R271, R273: switching, the program, channels, links. -/
def Obligations.RouterSwitchingEffects : Prop :=
  (∀ (k : Site) (s : State),
    let sc := scOf s k.val
    let cfg := cfgNow s k.val
    let src := presented s k.val sc
    siteState s k.val ≠ 2 → frozen s k.val = false → (site s k.val).routed ≠ some sc →
    emptyProgram s k.val = false → sc < (site s k.val).entryStart + hopDuration (entryWord s k.val) → (site s k.val).chanQ = [] → (site s k.val).bankQ = [] →
    routerReqs s k.val sc = [] → crUsed cfg = [] → cwUsed cfg = [] →
      ∃ t, exec (.routerSc k []) s = .next t ∧ t.mem = s.mem ∧ t.cmem = s.cmem ∧ t.vregs = s.vregs ∧ t.chans = s.chans ∧ (∀ g, (core s g).issued ≠ some sc → core t g = core s g)
        ∧ (site t k.val).routed = some sc ∧ (site t k.val).ki = (site s k.val).ki.filter (fun p => p.2.1 == sc) ++ kiSlices cfg sc src
        ∧ (dom t k.val).ring = (dom s k.val).ring.filter (fun e => decide (sc < e.sc))
        ∧ ∀ o f, o < 8 → linkFar k.val o = some f → linkUsable s k.val o = true →
            (dom t f).wire = (dom s f).wire ++ (if groupSlices cfg src o = [] then []
              else [⟨linkBack o, sc + (if o < 4 then 3 else 4), groupSlices cfg src o, true⟩]))
  ∧ (∀ (k : Site) (s : State),
    let r := RIL_STATUS k.val
    let e := entryWord s k.val
    let due := (site s k.val).entryStart + hopDuration e
    let next := if hopLast e then (site s k.val).loopAt else (rf s r Fd.RIL_STATUS_ENTRY + 1) % 8192
    held s k.val = false → emptyProgram s k.val = false → next < 8192 →
      ∃ t, exec (.hopEntryAdvance k) s = .next t ∧ sameStores s t ∧ otherRegs s t [r]
        ∧ (scOf s k.val < due → t = s)
        ∧ (due ≤ scOf s k.val → rf t r Fd.RIL_STATUS_REP = (if hopLast e then (rf s r Fd.RIL_STATUS_REP + 1) % 2 ^ Fd.RIL_STATUS_REP.len else rf s r Fd.RIL_STATUS_REP)
            ∧ (if hopDuration (tab s (hopKey k.val next)) = 0 then rf t r Fd.RIL_STATUS_EMPTY = 1
               else rf t r Fd.RIL_STATUS_ENTRY = next ∧ (site t k.val).entryStart = due ∧ emptyProgram t k.val = false)))
  ∧ (∀ (k : Site) (s : State) (w : ChanWrite),
    let sc := scOf s k.val
    let c := chan s k.val w.chan
    frozen s k.val = false → emptyProgram s k.val = true → (site s k.val).chanQ = [w] → w.done = false → w.sc ≤ sc → w.chan < 1024 →
      (w.tag = Option.none ∨ c.tag = Option.none) →
      ∃ t, exec (.channelWriteLand k) s = .next t ∧ t.mem = s.mem ∧ t.cmem = s.cmem ∧ t.csr = s.csr
        ∧ (chan t k.val w.chan).val = putWords c.val w.ofs w.words ∧ (chan t k.val w.chan).prev = c.val ∧ (chan t k.val w.chan).wsc = w.sc
        ∧ (chan t k.val w.chan).tag = (if w.tag.isSome then w.tag else c.tag)
        ∧ ∀ (j : Site) (x : Fin 1024), (j, x.val) ≠ (k, w.chan) → chan t j.val x.val = chan s j.val x.val)
  ∧ (∀ (d : Dom) (w : Fin 10) (parity : Bool) (s : State) (e : WeirEntry), (dom s d.val).wire.find? (fun e => e.weir == w.val) = some e →
      ∃ t, exec (.linkSliceArrive d w parity) s = .next t ∧ t.mem = s.mem ∧ t.cmem = s.cmem ∧ t.chans = s.chans
        ∧ (∀ g, (core s g).issued ≠ some (scOf s d.val) → core t g = core s g) ∧ (dom t d.val).wire = (dom s d.val).wire.erase e
        ∧ (∀ j, j ≠ d.val → dom t j = dom s j)
        ∧ (weirOn s d.val w.val = false → (dom t d.val).ring = (dom s d.val).ring)
        ∧ (weirOn s d.val w.val = true → { e with ok := !parity } ∈ (dom t d.val).ring
            ∧ ∀ x, x ≠ { e with ok := !parity } → (x ∈ (dom t d.val).ring ↔ x ∈ (dom s d.val).ring ∧ ¬ (x.weir = e.weir ∧ x.sc % 32 = e.sc % 32)))
        ∧ (weirOn s d.val w.val = true → parity = true → (d.val < 144 → (site s d.val).retired = false) → held t d.val = true ∧ hError ∈ (dom t d.val).causes)
        ∧ (weirOn s d.val w.val = false ∨ parity = false → t.csr = s.csr ∧ t.pnl = s.pnl ∧ t.cores = s.cores ∧ t.sites = s.sites))
  ∧ (∀ (k : Site) (s : State), siteState s k.val = 2 →
      ∃ t, exec (.holePortFence k) s = .next t ∧ t.mem = s.mem ∧ t.cmem = s.cmem ∧ t.sites = s.sites ∧ t.doms = s.doms ∧ t.tables = s.tables
        ∧ otherRegs s t ((linksAcross k.val).map (fun p => RIL_LINK p.1))
        ∧ ∀ p ∈ linksAcross k.val, linkUsable t p.1 p.2 = false ∧ (rd t (RIL_LINK p.1)).getLsbD p.2 = false ∧ (rd t (RIL_LINK p.1)).getLsbD (8 + p.2) = true)
  ∧ ∀ (k : Site) (l : Fin 10) (slice : Fin 16) (group : Fin 8) (s : State),
      (if l.val < 8 then linkUsable s k.val l.val else edgePortUsable s k.val (l.val - 8)) = true → (l.val < 4 ∨ slice.val < 8) →
        ∃ t, exec (.siteLinkLaneFailure k l slice group) s = .next t ∧ t.mem = s.mem ∧ t.cmem = s.cmem ∧ t.vregs = s.vregs ∧ t.chans = s.chans
          ∧ failedLanes t k.val l.val slice.val group.val = failedLanes s k.val l.val slice.val group.val + 1
          ∧ (l.val < 8 → 2 ≤ failedLanes t k.val l.val slice.val group.val → (rd t (RIL_LINK k.val)).getLsbD (16 + l.val) = true)
          ∧ (sliceHolds t k.val l.val slice.val = false → held t k.val = true ∧ hError ∈ (dom t k.val).causes
              ∧ (if l.val < 8 then linkUsable t k.val l.val else edgePortUsable t k.val (l.val - 8)) = false)
          ∧ (sliceHolds t k.val l.val slice.val = true → otherRegs s t [RIL_LINK k.val] ∧ t.tables = s.tables)

/-- R241 to R259: the Cascade pipes of a site. -/
def Obligations.CascadePipeEffects : Prop :=
  ∀ (k : Site) (s : State),
    let now := scOf s k.val
    let x := site s k.val
    let faults := fun (t : State) (cause : Nat) => rf t (CSC_SFAULT k.val) Fd.CSC_SFAULT_VALID = 1
      ∧ (rf s (CSC_SFAULT k.val) Fd.CSC_SFAULT_VALID = 0 → rf t (CSC_SFAULT k.val) Fd.CSC_SFAULT_CAUSE = cause)
      ∧ (x.retired = false → x.cscSc = Option.none → held t k.val = true ∧ hFault ∈ (dom t k.val).causes)
    let late := fun (s : State) (i : Nat) => sget (fun _ => 0) (site s k.val).klate i
    frozen s k.val = false →
      (∀ (i : Fin 32) (v : Slice), kiSlice s k.val i.val now = some v → inProgress s k.val i.val now = Option.none → deadAt s k.val i.val now = false →
        let f : CFrame := ⟨now, v.toNat % 2 ^ 64, v.toNat / 2 ^ 64 % 2 ^ 36, [], Option.none⟩
        let mine := frames s k.val i.val
        let other := frames s k.val (otherIn i.val)
        ∃ t, exec (.cascadeTagArrive k i) s = .next t ∧ t.mem = s.mem ∧ t.cmem = s.cmem ∧ t.chans = s.chans
          ∧ (sliceValid v = false ∨ fMcast f.word = true → faults t 1 ∧ frames t k.val i.val = mine)
          ∧ (sliceValid v = true → fMcast f.word = false → late s i.val ≠ 0 →
              frames t k.val i.val = mine ∧ frames t k.val (otherIn i.val) = other ∧ t.csr = s.csr ∧ late t i.val = late s i.val - 1)
          ∧ (sliceValid v = true → fMcast f.word = false → late s i.val = 0 →
              (∀ g, other[mine.length]? = some g → g.sc + 64 < now →
                faults t 3 ∧ frames t k.val i.val = mine ∧ frames t k.val (otherIn i.val) = other.eraseIdx mine.length)
              ∧ (∀ g, other[mine.length]? = some g → now ≤ g.sc + 64 →
                (pairAgrees f g = true → frames t k.val i.val = mine ++ [{ f with pair := some (max now g.sc + 2) }]
                  ∧ frames t k.val (otherIn i.val) = other.set mine.length { g with pair := some (max now g.sc + 2) })
                ∧ (pairAgrees f g = false → faults t 2 ∧ frames t k.val i.val = mine ∧ frames t k.val (otherIn i.val) = other.eraseIdx mine.length))
              ∧ (other[mine.length]? = Option.none → frames t k.val i.val = mine ++ [f] ∧ frames t k.val (otherIn i.val) = other)))
      ∧ (∀ (i : Fin 32) (f : CFrame), inProgress s k.val i.val now = some f →
        (∀ v, x.routed = some now → cfgByte (cfgNow s k.val) (128 + i.val) ≠ 0 → kiSlice s k.val i.val now = some v → f.data.length = now - f.sc - 1 →
          ∃ t, exec (.cascadePayloadArrive k i) s = .next t ∧ t.mem = s.mem ∧ t.csr = s.csr
            ∧ frames t k.val i.val = (frames s k.val i.val).dropLast ++ [{ f with data := f.data ++ [v] }])
        ∧ (cfgByte (cfgNow s k.val) (128 + i.val) = 0 →
          ∃ t, exec (.cascadePayloadArrive k i) s = .next t ∧ t.mem = s.mem ∧ faults t 4
            ∧ frames t k.val i.val = (frames s k.val i.val).eraseIdx ((frames s k.val i.val).length - 1)
            ∧ frames t k.val (otherIn i.val) = (frames s k.val (otherIn i.val)).eraseIdx ((frames s k.val i.val).length - 1)))
      ∧ (∀ (j : Fin 16) (n : Nat) (a b : CFrame), presenting s k.val j.val now = some (n, a, b) → x.routed ≠ some now →
          x.ko.any (fun p => p.1 == j.val && p.2.1 == now) = false →
          let due := a.pair.getD 0
          let gap := [2 * j.val, 2 * j.val + 1].any (fun i => gapAt s k.val i now && (frames s k.val i).length == n + 1)
          (gap = true → exec (.cascadeOutput k j) s = .next s)
          ∧ (gap = false → ∃ t, exec (.cascadeOutput k j) s = .next t ∧ t.mem = s.mem ∧ t.cmem = s.cmem ∧ t.doms = s.doms
            ∧ (now = due → (site t k.val).ko = x.ko ++ [(j.val, now, outTag a)])
            ∧ (due < now → ∀ p q, a.data[now - due - 1]? = some p → b.data[now - due - 1]? = some q →
                (site t k.val).ko = x.ko ++ [(j.val, now, laneSlice (laneBits (fFmt a.word)) (combSlice (fFmt a.word) (fOp a.word) p q))])
            ∧ (now = due + fCount a.word → frames t k.val (2 * j.val) = (frames s k.val (2 * j.val)).eraseIdx n
                ∧ frames t k.val (2 * j.val + 1) = (frames s k.val (2 * j.val + 1)).eraseIdx n)
            ∧ (now < due + fCount a.word → frames t k.val (2 * j.val) = frames s k.val (2 * j.val))))
      ∧ ∀ (j : Fin 16) (i n : Nat) (f : CFrame), skewed s k.val j.val now = some (i, n, f) →
          ∃ t, exec (.skew k j) s = .next t ∧ t.mem = s.mem ∧ t.cmem = s.cmem ∧ faults t 3
            ∧ frames t k.val (2 * j.val) = (frames s k.val (2 * j.val)).eraseIdx n ∧ frames t k.val (2 * j.val + 1) = (frames s k.val (2 * j.val + 1)).eraseIdx n
            ∧ ((frames s k.val (otherIn i)).length ≤ n → late t (otherIn i) = late s (otherIn i) + 1)

/-- R205, R223 to R230, R234, R515: packets at a router. -/
def Obligations.DynamicClassPacketMoves : Prop :=
  ∀ (k : Site) (s : State),
    let x := site s k.val
    (∀ p, siteState s k.val ≠ 2 → offered s k.val 4 = some p → queued x 4 0 < 32 → (p.dstSite = k.val ∨ (viaOf s k.val p.dstSite).2 = true) →
        let i := tab s (injKey k.val 4)
        let q := sourceStamp s k.val 4 p
        ∃ t, exec (.dynFlitReceive k 4 0 false) s = .next t ∧ t.mem = s.mem ∧ t.csr = s.csr
          ∧ q.part.val = rf s (RIL_PART k.val) Fd.RIL_PART_PARTITION % 4 ∧ q.payload = p.payload
          ∧ (p.dstSite ≠ k.val → q.via = BitVec.ofNat 8 (viaOf s k.val p.dstSite).1 ∧ q.leg = false)
          ∧ (site t k.val).dynQ = x.dynQ ++ [⟨4, 0, q, i, false⟩]
          ∧ (if i + 1 = flitsOf p then (site t k.val).outQ = x.outQ.erase p ∧ tab t (injKey k.val 4) = 0
             else (site t k.val).outQ = x.outQ ∧ tab t (injKey k.val 4) = i + 1))
    ∧ (∀ p, siteState s k.val ≠ 2 → offered s k.val 4 = some p → queued x 4 0 < 32 → p.dstSite ≠ k.val → (viaOf s k.val p.dstSite).2 = false →
        tab s (injKey k.val 4) = 0 →
        ∃ t, exec (.dynFlitReceive k 4 0 false) s = .next t ∧ t.mem = s.mem ∧ otherRegs s t [RIL_DYN_ERR k.val] ∧ rf t (RIL_DYN_ERR k.val) Fd.RIL_DYN_ERR_UNREACHABLE = 1
          ∧ (site t k.val).dynQ = x.dynQ)
    ∧ (∀ (b : Fin 2) (parity : Bool) p, siteState s k.val ≠ 2 → offered s k.val (5 + b.val) = some p → queued x (5 + b.val) 0 < 32 →
        (p.dstSite = k.val ∨ (viaOf s k.val p.dstSite).2 = true) →
        ∃ t, exec (.dynFlitReceive k ⟨5 + b.val, by omega⟩ 0 parity) s = .next t ∧ t.mem = s.mem ∧ otherRegs s t [RIL_LINK_ERR k.val]
          ∧ (site t k.val).dynQ = x.dynQ ++ [⟨5 + b.val, 0, sourceStamp s k.val (5 + b.val) p, tab s (injKey k.val (5 + b.val)), parity⟩]
          ∧ (parity = true → (rd t (RIL_LINK_ERR k.val)).getLsbD (16 + b.val) = true) ∧ (parity = false → t.csr = s.csr))
    ∧ (∀ (inp : Fin 8) (vc : Fin 2) (f : QFlit) (d : Nat), headOf x inp.val vc.val = some f → dynOut k.val f.pkt = some d → linkUsable s k.val d = true →
        (x.moves.filter (fun m => m.out == d)).length < openSlices s k.val d → rrNext x k.val d = some (inp.val * 2 + vc.val) →
        ∃ t, exec (.dynPacketForward k inp vc) s = .next t ∧ t.mem = s.mem ∧ otherRegs s t eventRegs
          ∧ (site t k.val).moves = x.moves ++ [⟨inp.val, vc.val, d, dynVc k.val f.pkt, flitsOf f.pkt, f.pkt⟩] ∧ (site t k.val).dynQ = x.dynQ
          ∧ credUsed (site t k.val) d (dynVc k.val f.pkt) = credUsed x d (dynVc k.val f.pkt) + flitsOf f.pkt)
    ∧ (∀ (inp : Fin 8) (vc : Fin 2) (f : QFlit) (d : Nat), moveOf x inp.val vc.val = Option.none → headOf x inp.val vc.val = some f →
        dynOut k.val f.pkt = some d → linkUsable s k.val d = false → (headFlits x inp.val vc.val f).length = flitsOf f.pkt →
        ∃ t, exec (.dynPacketForward k inp vc) s = .next t ∧ t.mem = s.mem ∧ otherRegs s t [RIL_DYN_ERR k.val]
          ∧ rf t (RIL_DYN_ERR k.val) Fd.RIL_DYN_ERR_UNREACHABLE = 1 ∧ (site t k.val).moves = x.moves
          ∧ queued (site t k.val) inp.val vc.val + flitsOf f.pkt = queued x inp.val vc.val)
    ∧ (∀ (inp : Fin 8) (vc : Fin 2) (m : Move), moveOf x inp.val vc.val = some m → m.out < 4 → linkUsable s k.val m.out = false →
        m.left ≤ queued x inp.val vc.val →
        ∃ t, exec (.dynPacketForward k inp vc) s = .next t ∧ t.mem = s.mem ∧ otherRegs s t [RIL_DYN_ERR k.val]
          ∧ rf t (RIL_DYN_ERR k.val) Fd.RIL_DYN_ERR_UNREACHABLE = 1 ∧ (site t k.val).moves = x.moves.erase m
          ∧ queued (site t k.val) inp.val vc.val + m.left = queued x inp.val vc.val)
    ∧ (∀ c rest, x.credBack = c :: rest → ∃ t, exec (.dynCreditReturn k) s = .next t ∧ sameStores s t ∧ t.csr = s.csr ∧ (site t k.val).credBack = rest
        ∧ ∀ o vc, credUsed (site t k.val) o vc = if credKey o vc = c then credUsed x o vc - 1 else credUsed x o vc)
    ∧ ∀ (inp : Fin 8) (vc : Fin 2) (f : QFlit), moveOf x inp.val vc.val = Option.none → headOf x inp.val vc.val = some f →
        rrLeave x k.val (outClass f.pkt) = some (inp.val * 2 + vc.val) →
        let p := dynTurn k.val f.pkt
        let bad := (headFlits x inp.val vc.val f).any (fun g => g.bad)
        let dead := !p.crcOk || bad
        let lost := fun (flag : Fld) => ∃ t, exec (.dynPacketDeliver k inp vc) s = .next t ∧ t.mem = s.mem ∧ t.cmem = s.cmem ∧ t.chans = s.chans
          ∧ otherRegs s t (RIL_DYN_ERR k.val :: eventRegs) ∧ rf t (RIL_DYN_ERR k.val) flag = 1 ∧ (site t k.val).landQ = x.landQ
          ∧ queued (site t k.val) inp.val vc.val + flitsOf p = queued x inp.val vc.val
        (dead = true → lost Fd.RIL_DYN_ERR_CRC)
        ∧ (dead = false → (p.kind = 0#4 ∨ 8 ≤ p.kind.toNat ∨ hasUnit s k.val p.dstUnit.toNat = false) → lost Fd.RIL_DYN_ERR_NO_UNIT)
        ∧ (dead = false → 1 ≤ p.kind.toNat → p.kind.toNat ≤ 7 → hasUnit s k.val p.dstUnit.toNat = true →
            ((p.part.val ≠ partOfSite s k.val ∧ p.srcUnit ≠ 5#4) ∨ (p.dstUnit = 0#4 ∧ p.kind = 1#4 ∧ landingRefused s k.val p = true)) → lost Fd.RIL_DYN_ERR_REFUSED)
        ∧ (dropFlag s k.val p bad = Option.none → p.dstUnit = 0#4 → p.kind = 1#4 →
            ∃ t, exec (.dynPacketDeliver k inp vc) s = .next t ∧ t.mem = s.mem ∧ otherRegs s t eventRegs ∧ (site t k.val).landQ = x.landQ ++ [landingOf p])
        ∧ (dropFlag s k.val p bad = Option.none → p.dstUnit = 1#4 →
            ∃ t, exec (.dynPacketDeliver k inp vc) s = .next t ∧ t.mem = s.mem ∧ otherRegs s t eventRegs ∧ (site t k.val).inbox = x.inbox ++ [p])
        ∧ (dropFlag s k.val p bad = Option.none → p.dstUnit = 2#4 → p.kind = 4#4 →
            ∃ t, exec (.dynPacketDeliver k inp vc) s = .next t
              ∧ ∃ q ∈ (site t k.val).outQ, q.kind = 5#4 ∧ q.dstSite = p.srcSite ∧ q.dstUnit = p.srcUnit ∧ q.tag = p.tag)
        ∧ (dropFlag s k.val p bad = Option.none → (p.dstUnit = 3#4 ∨ p.dstUnit = 4#4) → edgeTaken s k.val p = true → exec (.dynPacketDeliver k inp vc) s = .next s)
        ∧ (dropFlag s k.val p bad = Option.none → (p.dstUnit = 3#4 ∨ p.dstUnit = 4#4) → edgeTaken s k.val p = false → issueWaits s k.val p = false → flitsOf p ≠ 1 →
            ∃ t, exec (.dynPacketDeliver k inp vc) s = .next t ∧ t.mem = s.mem ∧ otherRegs s t eventRegs ∧ t.edges = s.edges
              ∧ (site t k.val).moves = x.moves ++ [⟨inp.val, vc.val, outClass p, 0, flitsOf p - 1, p⟩]
              ∧ queued (site t k.val) inp.val vc.val + 1 = queued x inp.val vc.val)

/-- R219, R258, R281, R300, R340: loads of the router, descriptor, boundary and issue tables. -/
def Obligations.TableLoadProtocol : Prop :=
  let goes := fun (s t : State) (a : Nat) (j : Option LoadJob) (after : Option LoadJob) =>
    t.mem = s.mem ∧ t.tables = s.tables ∧ t.chans = s.chans ∧ t.cmem = s.cmem ∧ otherRegs s t [a]
      ∧ (j.isSome = true → rf t a ldBusy = 1 ∧ after = j) ∧ (j = Option.none → rf t a ldBusy = 0 ∧ rf t a ldErr = 1 ∧ rf t a ldCode = 1)
  let row := fun (s t : State) (a k key width : Nat) (extra : List Nat) (j : LoadJob) (blocked ue : Bool) (code : Nat → Nat) (after : Option LoadJob) =>
    let w := loadSource s k j width
    let c := if blocked then 6 else if ue then 7 else code w
    t.mem = s.mem ∧ t.chans = s.chans ∧ t.cmem = s.cmem
      ∧ (c ≠ 0 → t.tables = s.tables ∧ otherRegs s t [a] ∧ after = Option.none ∧ rf t a ldBusy = 0 ∧ rf t a ldErr = 1 ∧ rf t a ldCode = c % 2 ^ ldCode.len)
      ∧ (c = 0 → tab t key = w ∧ (∀ x, x ≠ key → tab t x = tab s x) ∧ after = loadNext j ∧ otherRegs s t (a :: extra ++ eventRegs)
          ∧ (j.next + 1 = j.count → rf t a ldBusy = 0) ∧ (j.next + 1 < j.count → otherRegs s t eventRegs))
  (∀ (req : Requester) (k : Site) (v : W64) (s : State),
      mayAccess s req (RIL_LOAD_CTRL k.val) true = true → rf s (RIL_LOAD_CTRL k.val) ldBusy = 0 → fget Fd.RIL_LOAD_CTRL_GO v = 1 → loadBlocked s k.val = false →
      ∃ t, exec (.rilLoadGo req k v) s = .next t ∧ goes s t (RIL_LOAD_CTRL k.val)
        (loadJob (rilLoader k.val (fget Fd.RIL_LOAD_CTRL_TABLE v)) (fget Fd.RIL_LOAD_CTRL_TABLE v) (fget Fd.RIL_LOAD_CTRL_FIRST v) (fget Fd.RIL_LOAD_CTRL_COUNT v)
          (rf s (RIL_LOAD_SRC k.val) Fd.RIL_LOAD_SRC_LINE)) (site t k.val).rilJob)
  ∧ (∀ (req : Requester) (k : Site) (v : W64) (s : State),
      mayAccess s req (CSC_LOAD_CTRL k.val) true = true → rf s (CSC_LOAD_CTRL k.val) ldBusy = 0 → fget Fd.CSC_LOAD_CTRL_GO v = 1 → loadBlocked s k.val = false →
      ∃ t, exec (.cscLoadGo req k v) s = .next t ∧ goes s t (CSC_LOAD_CTRL k.val)
        (loadJob (cscLoader k.val) 0 (fget Fd.CSC_LOAD_CTRL_FIRST v) (fget Fd.CSC_LOAD_CTRL_COUNT v) (rf s (CSC_LOAD_SRC k.val) Fd.CSC_LOAD_SRC_LINE))
        (site t k.val).cscJob)
  ∧ (∀ (req : Requester) (d : Dom) (v : W64) (s : State),
      mayAccess s req (CLK_BND_LOAD_CTRL d.val) true = true → rf s (CLK_BND_LOAD_CTRL d.val) ldBusy = 0 → fget Fd.CLK_BND_LOAD_CTRL_GO v = 1 → bndBusy s d.val = false →
      ∃ t, exec (.clkBndLoadGo req d v) s = .next t ∧ goes s t (CLK_BND_LOAD_CTRL d.val)
        (loadJob (bndLoader d.val) 0 (fget Fd.CLK_BND_LOAD_CTRL_FIRST v) (fget Fd.CLK_BND_LOAD_CTRL_COUNT v) (rf s (CLK_BND_LOAD_SRC d.val) Fd.CLK_BND_LOAD_SRC_LINE))
        (dom t d.val).bndJob)
  ∧ (∀ (req : Requester) (k : Site) (v : W64) (s : State),
      mayAccess s req (SITE_SIT_LOAD_CTRL k.val) true = true → rf s (SITE_SIT_LOAD_CTRL k.val) ldBusy = 0 → fget Fd.SITE_SIT_LOAD_CTRL_GO v = 1 → siteBusy s k.val = false →
      ∃ t, exec (.siteSitLoadGo req k v) s = .next t ∧ goes s t (SITE_SIT_LOAD_CTRL k.val)
        (loadJob ⟨SITE_SIT_LOAD_CTRL k.val, 256, 16⟩ 0 (fget Fd.SITE_SIT_LOAD_CTRL_FIRST v) (fget Fd.SITE_SIT_LOAD_CTRL_COUNT v)
          (rf s (SITE_SIT_LOAD_SRC k.val) Fd.SITE_SIT_LOAD_SRC_LINE)) (site t k.val).sitJob)
  ∧ (∀ (k : Site) (ue : Bool) (s : State) (j : LoadJob), (site s k.val).rilJob = some j → j.next < j.count → loadWaits s k.val j (rilLoader k.val j.table).bytes = false →
      ∃ t, exec (.rilLoadRow k ue) s = .next t ∧ row s t (RIL_LOAD_CTRL k.val) k.val (rilKey k.val j.table (j.first + j.next)) (rilLoader k.val j.table).bytes [] j
        (loadBlocked s k.val) ue (rilCheck s k.val j.table) (site t k.val).rilJob)
  ∧ (∀ (k : Site) (ue : Bool) (s : State) (j : LoadJob), (site s k.val).cscJob = some j → j.next < j.count → loadWaits s k.val j 16 = false →
      ∃ t, exec (.cscLoadRow k ue) s = .next t
        ∧ row s t (CSC_LOAD_CTRL k.val) k.val (cscKey k.val (j.first + j.next)) 16 [] j (loadBlocked s k.val) ue cscCheck (site t k.val).cscJob)
  ∧ (∀ (k : Site) (ue : Bool) (s : State) (j : LoadJob), (site s k.val).sitJob = some j → j.next < j.count → loadWaits s k.val j 16 = false →
      ∃ t, exec (.siteSitLoadRow k ue) s = .next t
        ∧ row s t (SITE_SIT_LOAD_CTRL k.val) k.val (sitKey k.val (j.first + j.next)) 16 [] j (loadBlocked s k.val) ue sitCheck (site t k.val).sitJob)
  ∧ ∀ (d : Dom) (ue : Bool) (s : State) (j : LoadJob), (dom s d.val).bndJob = some j → j.next < j.count → loadWaits s (bndBasin d.val) j 8 = false →
      ∃ t, exec (.clkBndLoadRow d ue) s = .next t
        ∧ row s t (CLK_BND_LOAD_CTRL d.val) (bndBasin d.val) (bndKey d.val (j.first + j.next)) 8 [CLK_BND_NEXT d.val, CLK_BND_NEXT_SC d.val] j (bndBusy s d.val) ue bndCheck (dom t d.val).bndJob

/-- R275 to R279, R302: the hold protocol. -/
def Obligations.HoldProtocol : Prop :=
  (∀ (d : Dom) (c : Fin 16) (w : Fin 10) (s : State), aligned s d.val = true →
      ∃ t, exec (.holdRaise d c w) s = .next t ∧ sameStores s t ∧ sparesIssues s t
        ∧ (c.val ∈ [hFault, hError, hDeadline, hWake, hBoundary, hOptical] → otherRegs s t (holdRegs d.val ++ stopRegs d.val) ∧ holdRaised s t d.val c.val (scOf s d.val))
        ∧ (c.val = hWeir → weirOn s d.val w.val = false → t = s)
        ∧ (c.val = hWeir → weirOn s d.val w.val = true → otherRegs s t (holdRegs d.val ++ stopRegs d.val ++ eventRegs) ∧ holdRaised s t d.val hWeir (scOf s d.val))
        ∧ (c.val ∉ [hFault, hError, hWeir, hDeadline, hWake, hBoundary, hOptical] → t = s))
  ∧ (∀ (d : Dom) (s : State), aligned s d.val = true → rf s CLK_HOLD_STATUS Fd.CLK_HOLD_STATUS_IN_FORCE = 1 →
      rf s CLK_HOLD_STATUS Fd.CLK_HOLD_STATUS_RELEASING = 0 → held s d.val = false →
      ∃ t, exec (.holdArrive d) s = .next t ∧ sameStores s t ∧ sparesIssues s t ∧ otherRegs s t ([CLK_STOP_SC d.val, CLK_STATUS d.val] ++ stopRegs d.val) ∧ t.pnl = s.pnl
        ∧ held t d.val = true ∧ (dom t d.val).stop = scOf s d.val ∧ scOf t d.val = scOf s d.val ∧ (dom t d.val).causes = (dom s d.val).causes
        ∧ rf t (CLK_STATUS d.val) Fd.CLK_STATUS_HELD = 1 ∧ (rd t (CLK_STOP_SC d.val)).toNat = scOf s d.val % 2 ^ 64)
  ∧ (∀ (d : Fin 161) (c : Fin 16) (s : State),
      ∃ t, exec (.holdCauseClear d c) s = .next t ∧ sameStores s t ∧ otherRegs s t [CLK_STATUS d.val, CLK_HOLD_STATUS]
        ∧ (c.val = hFault ∨ c.val = hError ∨ c.val = hBoundary → t = s)
        ∧ (d.val < 160 → causeOver s d.val c.val = true → (dom t d.val).causes = (dom s d.val).causes.filter (fun x => x != c.val) ∧ t.pnl = s.pnl
            ∧ rf t CLK_HOLD_STATUS Fd.CLK_HOLD_STATUS_ACTIVE = activeCauses t
            ∧ (rf t (CLK_STATUS d.val) Fd.CLK_STATUS_RAISING = 0 ↔ (dom t d.val).causes = []))
        ∧ (d.val = 160 → stewardCauseOver s c.val = true → t.pnl.causes = s.pnl.causes.filter (fun x => x != c.val) ∧ t.doms = s.doms
            ∧ rf t CLK_HOLD_STATUS Fd.CLK_HOLD_STATUS_ACTIVE = activeCauses t)
        ∧ (d.val < 160 → causeOver s d.val c.val = false → t = s) ∧ (d.val = 160 → stewardCauseOver s c.val = false → t = s))
  ∧ (∀ (s : State), rf s CLK_HOLD_STATUS Fd.CLK_HOLD_STATUS_IN_FORCE = 1 → s.pnl.release = Option.none → allStopped s = true → anyCause s = false →
      ∃ t h, exec .holdRelease s = .next t ∧ sameStores s t ∧ otherRegs s t [CLK_HOLD_STATUS] ∧ t.doms = s.doms ∧ t.pnl.release = some h
        ∧ rf t CLK_HOLD_STATUS Fd.CLK_HOLD_STATUS_RELEASING = 1 ∧ (∀ d ∈ lockstep s, (dom s d).stop ≤ h) ∧ (h = 0 ∨ ∃ d ∈ lockstep s, (dom s d).stop = h))
  ∧ (∀ (d : Dom) (s : State) (h : Nat), s.pnl.release = some h → held s d.val = true →
      ∃ t, exec (.domainResume d) s = .next t ∧ t.mem = s.mem ∧ t.cmem = s.cmem ∧ t.vregs = s.vregs ∧ held t d.val = false ∧ scOf t d.val = scOf s d.val
        ∧ (dom t d.val).debt = 0 ∧ rf t (CLK_STATUS d.val) Fd.CLK_STATUS_HELD = 0
        ∧ ((∃ x ∈ lockstep s, x ≠ d.val ∧ (held s x = true ∨ scOf s x ≠ h)) ∨ (d.val ∈ lockstep s ∧ scOf s d.val ≠ h) →
            otherRegs s t [CLK_STATUS d.val] ∧ t.pnl = s.pnl)
        ∧ ((∀ x ∈ lockstep s, scOf s x = h ∧ (x ≠ d.val → held s x = false)) → t.pnl.release = Option.none ∧ (∀ x ∈ lockstep s, (dom t x).debt = 0)
            ∧ rf t CLK_HOLD_STATUS Fd.CLK_HOLD_STATUS_IN_FORCE = 0 ∧ rf t CLK_HOLD_STATUS Fd.CLK_HOLD_STATUS_RELEASING = 0
            ∧ (rd t CLK_HOLD_LAST_REL).toNat = h % 2 ^ 64))
  ∧ ∀ (req : Requester) (v : W64) (s : State), mayAccess s req CLK_HOLD_CTRL true = true →
      ∃ t, exec (.softHoldWrite req v) s = .next t ∧ sameStores s t ∧ t.doms = s.doms ∧ otherRegs s t (CLK_HOLD_CTRL :: holdRecord)
        ∧ rf t CLK_HOLD_CTRL Fd.CLK_HOLD_CTRL_SOFT = fget Fd.CLK_HOLD_CTRL_SOFT v
        ∧ (fget Fd.CLK_HOLD_CTRL_SOFT v = 1 → hSoftware ∉ s.pnl.causes → hSoftware ∈ t.pnl.causes ∧ holdRecorded s t stewardDom hSoftware (scOf s 0))
        ∧ (fget Fd.CLK_HOLD_CTRL_SOFT v = 0 → t.pnl.causes = s.pnl.causes.filter (fun x => x != hSoftware))

/-- R265, R268, R269, R424: stretching. -/
def Obligations.StretchAddsDebt : Prop :=
  let stretched := fun (s t : State) (d n : Nat) =>
    t.mem = s.mem ∧ t.cmem = s.cmem ∧ t.vregs = s.vregs ∧ t.chans = s.chans ∧ t.tables = s.tables ∧ sparesIssues s t
      ∧ (dom t d).debt = min 6592 ((dom s d).debt + n) ∧ scOf t d = scOf s d
      ∧ (6592 ≤ (dom s d).debt + n → held t d = true ∧ hWeir ∈ (dom t d).causes)
  (∀ (d : Dom) (n : Fin 104) (s : State), aligned s d.val = true → held s d.val = false → (dom s d.val).droop = false →
      ∃ t, exec (.droopStretch d n) s = .next t ∧ stretched s t d.val n.val ∧ (dom t d.val).droop = true
        ∧ ((live s (CLK_STRETCHED d.val)).toNat + 1 < 2 ^ 48 → (live t (CLK_STRETCHED d.val)).toNat = (live s (CLK_STRETCHED d.val)).toNat + 1)
        ∧ (d.val < 144 → d.val ∈ t.pnl.pwr.drained)
        ∧ (d.val < 144 → d.val ∉ s.pnl.pwr.drained → (live s (PWR_SITE_BOOSTS d.val)).toNat + 1 < 2 ^ 48 →
            (live t (PWR_SITE_BOOSTS d.val)).toNat = (live s (PWR_SITE_BOOSTS d.val)).toNat + 1))
  ∧ (∀ (d : Dom) (s : State), aligned s d.val = true → held s d.val = false → awaited s d.val (scOf s d.val + 1) = true →
      ∃ t, exec (.weirWait d) s = .next t ∧ stretched s t d.val 103 ∧ (dom t d.val).wire = (dom s d.val).wire ∧ (dom t d.val).waited = true
        ∧ ((dom s d.val).waited = true → live t (CLK_WAIT d.val) = live s (CLK_WAIT d.val))
        ∧ ((dom s d.val).waited = false → (live s (CLK_WAIT d.val)).toNat + 1 < 2 ^ 48 → (live t (CLK_WAIT d.val)).toNat = (live s (CLK_WAIT d.val)).toNat + 1))
  ∧ ∀ (k : Site) (s : State), ∃ t, exec (.reservoirRecharged k) s = .next t ∧ sameStores s t ∧ sameUnits s t ∧ otherRegs s t []
      ∧ ∀ x, x ∈ t.pnl.pwr.drained ↔ x ∈ s.pnl.pwr.drained ∧ x ≠ k.val

/-- R263, R281 to R286, R440: alignment and phase boundaries. -/
def Obligations.PhaseBoundaryProtocol : Prop :=
  (∀ (bad : List (Dom × Fin 10)) (s : State), s.pnl.boot.running = true → s.pnl.boot.step < 9 → (∀ d ∈ domains s, rf s (CLK_STATUS d) Fd.CLK_STATUS_LOCKED = 1) →
      ∃ t, exec (.align bad) s = .next t ∧ t.mem = s.mem ∧ t.cmem = s.cmem ∧ t.vregs = s.vregs ∧ t.cores = s.cores
        ∧ (∀ d ∈ domains s, scOf t d = 0 ∧ held t d = false ∧ (dom t d).debt = 0 ∧ (dom t d).causes = [] ∧ (dom t d).ring = [] ∧ (dom t d).wire = []
            ∧ rf t (CLK_STATUS d) Fd.CLK_STATUS_HELD = 0 ∧ rf t (CLK_STATUS d) Fd.CLK_STATUS_DEBT = 0)
        ∧ (s.pnl.boot.warm = true → t.pnl.boot.trims = s.pnl.boot.trims)
        ∧ (bad = [] → otherRegs s t ((domains s).map CLK_STATUS) ∧ ∀ d ∈ domains s, aligned t d = true)
        ∧ ∀ d w, bad = [(d, w)] → d.val ∈ domains s → weirOn s d.val w.val = true → aligned t d.val = false ∧ unitCause t 4 (linkIndex d.val w.val) ≠ 0)
  ∧ (∀ (d : Dom) (s : State), let b := scOf s d.val
      aligned s d.val = true → bndValid s d.val = true → held s d.val = false → (rd s (CLK_BND_NEXT_SC d.val)).toNat = b → b + 1 < 2 ^ 64 →
      s.pnl.crossing ≠ some (b + 1) → (144 ≤ d.val ∨ emptyProgram s d.val = true ∨ (site s d.val).routed = some b) →
      ∃ t, exec (.boundaryStop d) s = .next t ∧ t.mem = s.mem ∧ t.cmem = s.cmem ∧ t.vregs = s.vregs
        ∧ (∀ g, (core s g).issued ≠ some (b + 1) → core t g = core s g)
        ∧ scOf t d.val = b + 1 ∧ held t d.val = true ∧ (dom t d.val).stop = b + 1 ∧ hBoundary ∈ (dom t d.val).causes
        ∧ ((144 ≤ d.val ∨ ∀ i, i < 32 → frames s d.val i = []) → otherRegs s t (holdRegs d.val ++ stopRegs d.val) ∧ holdRaised s t d.val hBoundary (b + 1)))
  ∧ (∀ (s : State) (d : Nat), allStopped s = true → boundaryDomain s = some d → s.pnl.release = Option.none → s.pnl.stepTo = Option.none →
      let c := chooseVariant s d (nextRow s d)
      let vo := s.pnl.choice.getD (c.variant, c.oppt)
      ∃ t, exec .boundaryStep s = .next t ∧ sameStores s t ∧ sameUnits s t ∧ t.pnl.choice = some vo
        ∧ (vo.2 = rf s CLK_PANEL Fd.CLK_PANEL_OPPT → t.pnl.stepTo = Option.none)
        ∧ (vo.2 ≠ rf s CLK_PANEL Fd.CLK_PANEL_OPPT → t.pnl.stepTo = some vo.2 ∧ ∀ x ∈ domains s, rf t (CLK_STATUS x) Fd.CLK_STATUS_LOCKED = 0)
        ∧ (s.pnl.choice = Option.none → rf t PWR_VSEL Fd.PWR_VSEL_VARIANT = c.variant % 4 ∧ rf t PWR_VSEL Fd.PWR_VSEL_OPPT = c.oppt % 4
            ∧ rf t PWR_VSEL Fd.PWR_VSEL_FALLBACK = b2n c.fallback ∧ rf t PWR_VSEL Fd.PWR_VSEL_PHASE_ID = rf s (CLK_BND_NEXT d) Fd.CLK_BND_NEXT_PHASE_ID
            ∧ otherRegs s t ([PWR_VSEL, PWR_STATUS, PWR_EVENTS] ++ eventRegs ++ (domains s).map CLK_STATUS))
        ∧ (s.pnl.choice.isSome = true → otherRegs s t ((domains s).map CLK_STATUS)))
  ∧ (∀ (s : State) (o : Nat), s.pnl.stepTo = some o → o < 4 →
      ∃ t, exec .pllRelockDone s = .next t ∧ sameStores s t ∧ sameUnits s t ∧ t.pnl.stepTo = Option.none ∧ rf t CLK_PANEL Fd.CLK_PANEL_OPPT = o
        ∧ otherRegs s t (CLK_PANEL :: (domains s).map CLK_STATUS ++ (List.range 144).map PWR_SITE_STATUS)
        ∧ (∀ d ∈ domains s, rf t (CLK_STATUS d) Fd.CLK_STATUS_LOCKED = 1 ∧ rf t (CLK_STATUS d) Fd.CLK_STATUS_OPPT = o)
        ∧ ∀ k ∈ domains s, k < 144 → rf s (PWR_SITE_STATUS k) Fd.PWR_SITE_STATUS_C_ON = 1 →
            rf t (PWR_SITE_STATUS k) Fd.PWR_SITE_STATUS_C_SET = bf (rd s (FUSE_VSETn k)).toNat (16 * o) 10)
  ∧ (∀ s : State, allStopped s = true → hBoundary ∈ s.pnl.causes → boundaryDomain s = Option.none → s.pnl.choice = Option.none → s.pnl.release = Option.none →
      s.pnl.stepTo = Option.none → otherCause s = false →
      ∃ t, exec .boundaryRelease s = .next t ∧ sameStores s t ∧ t.cores = s.cores ∧ t.sites = s.sites ∧ t.pnl.release = some (largestStop s)
        ∧ boundaryActive t = false ∧ rd t CLK_PANEL = rd s CLK_PANEL)
  ∧ ∀ (s : State) (v d : Nat), allStopped s = true → boundaryDomain s = some d → s.pnl.release = Option.none → s.pnl.stepTo = Option.none → otherCause s = false →
      s.pnl.choice = some (v, rf s CLK_PANEL Fd.CLK_PANEL_OPPT) → v < 4 →
      ∃ t, exec .boundaryRelease s = .next t ∧ t.mem = s.mem ∧ t.cmem = s.cmem ∧ t.vregs = s.vregs ∧ (∀ g, (core s g).vsel = Option.none → core t g = core s g)
        ∧ t.pnl.release = some (largestStop s) ∧ rf t CLK_HOLD_STATUS Fd.CLK_HOLD_STATUS_RELEASING = 1 ∧ boundaryActive t = false ∧ t.pnl.choice = Option.none
        ∧ rf t CLK_PANEL Fd.CLK_PANEL_VARIANT = v ∧ rf t CLK_PANEL Fd.CLK_PANEL_PHASE_ID = rf s (CLK_BND_NEXT d) Fd.CLK_BND_NEXT_PHASE_ID
        ∧ (∀ x ∈ lockstep s, scOf t x = scOf s x ∧ held t x = true)
        ∧ (∀ x ∈ lockstep s, (dom t x).variant = if bndValid s x && (dom s x).stop == largestStop s then v else (dom s x).variant)
        ∧ ∀ x ∈ lockstep s, x < 144 → bndValid s x = true → (dom s x).stop = largestStop s →
            rf t (RIL_STATUS x) Fd.RIL_STATUS_PHASE_ID = rf s (CLK_BND_NEXT x) Fd.CLK_BND_NEXT_PHASE_ID ∧ rf t (RIL_STATUS x) Fd.RIL_STATUS_VARIANT = v
              ∧ rf t (CLK_BND_NEXT x) Fd.CLK_BND_NEXT_ROW = nextRow s x

/-- R287 to R293, R496, R544: reference, stewards, crossings and marks. -/
def Obligations.ReferenceAndStewardSelection : Prop :=
  let refOnly := fun (s t : State) => sameStores s t ∧ sameUnits s t ∧ otherRegs s t [CLK_REF_STATUS, CLK_REF_OFFSET]
  let st := fun (s : State) (f : Fld) => rf s CLK_REF_STATUS f
  let takes := fun (s t : State) =>
    let old := rf s FLT_STEWARD Fd.FLT_STEWARD_ACTIVE
    sameStores s t ∧ t.cores = s.cores ∧ t.sites = s.sites ∧ t.doms = s.doms ∧ t.edges = s.edges ∧ t.hbms = s.hbms ∧ t.ports = s.ports
      ∧ ((∀ p l, (part s p).load = some l → l.recover = false ∧ (s.pnl.ld = some p → rf s STM_LD_STATUS Fd.STM_LD_STATUS_STATE ≠ 2)) → t.parts = s.parts)
      ∧ hSteward ∈ t.pnl.causes ∧ holdRecorded s t stewardDom hSteward (scOf s 0)
      ∧ rf t FLT_STEWARD Fd.FLT_STEWARD_ACTIVE = 1 - old ∧ rf t FLT_STEWARD Fd.FLT_STEWARD_STANDBY_OK = 0 ∧ rf t FLT_STEWARD Fd.FLT_STEWARD_TAKEOVER = 1
      ∧ rf t FLT_STEWARD Fd.FLT_STEWARD_LOCKSTEP = 0 ∧ st t Fd.CLK_REF_STATUS_SEL = 1 - old ∧ st t Fd.CLK_REF_STATUS_HOLDOVER = 0 ∧ t.pnl.sessions = [] ∧ st t Fd.CLK_REF_STATUS_OTHER_VALID = 0
      ∧ t.pnl.boot.update = Option.none
      ∧ otherRegs s t ([FLT_STEWARD, CLK_REF_STATUS, CLK_REF_OFFSET, MGT_PORTn_STATUS 0, MGT_PORTn_STATUS 1, BOOT_STATUS] ++ holdRecord ++ eventRegs)
      ∧ ∃ ev, t.pnl.events = s.pnl.events ++ [ev] ∧ ev.cls = 5 ∧ ev.kind = 10 ∧ ev.index = old ∧ ev.fence = some (10, old)
  (∀ (eo es : BitVec 32) (s : State),
      let other := st s Fd.CLK_REF_STATUS_OTHER_VALID = 1
      let a := if other then eo.toInt.natAbs else 0
      let b := es.toInt.natAbs
      let both := other ∧ 2000 ≤ a ∧ 2000 ≤ b ∧ eo.msb = es.msb
      ∃ t, exec (.refMeasure eo es) s = .next t ∧ refOnly s t ∧ rf t CLK_REF_OFFSET Fd.CLK_REF_OFFSET_E_OSC = es.toNat
        ∧ rf t CLK_REF_OFFSET Fd.CLK_REF_OFFSET_E_OTHER = (if other then eo.toNat else 0)
        ∧ (1000 ≤ a ∨ 1000 ≤ b → st t Fd.CLK_REF_STATUS_DEGRADED = 1) ∧ (a < 1000 → b < 1000 → st t Fd.CLK_REF_STATUS_DEGRADED = st s Fd.CLK_REF_STATUS_DEGRADED)
        ∧ (both → st s Fd.CLK_REF_STATUS_HOLDOVER = 0 → (st s Fd.CLK_REF_STATUS_DISAGREE = 0 ∨ b < 5000) →
            t.pnl.refSel = 1 - s.pnl.refSel % 2 ∧ st t Fd.CLK_REF_STATUS_SEL = 1 - s.pnl.refSel % 2 ∧ st t Fd.CLK_REF_STATUS_SWITCHED = 1)
        ∧ (¬ both → 2000 ≤ a ∨ 2000 ≤ b → st t Fd.CLK_REF_STATUS_DISAGREE = 1 ∧ t.pnl.refSel = s.pnl.refSel)
        ∧ (¬ both → 5000 ≤ b → st t Fd.CLK_REF_STATUS_HOLDOVER = 1 ∧ (st s Fd.CLK_REF_STATUS_HOLDOVER = 0 → st t Fd.CLK_REF_STATUS_SEL = 2))
        ∧ (a < 2000 → b < 2000 → st t Fd.CLK_REF_STATUS_SEL = st s Fd.CLK_REF_STATUS_SEL ∧ st t Fd.CLK_REF_STATUS_HOLDOVER = st s Fd.CLK_REF_STATUS_HOLDOVER))
  ∧ (∀ s : State, st s Fd.CLK_REF_STATUS_HOLDOVER = 1 → st s Fd.CLK_REF_STATUS_DISAGREE = 0 → st s Fd.CLK_REF_STATUS_OTHER_VALID = 1 → 100 ≤ s.pnl.refGood →
      ∃ t, exec .holdoverLeave s = .next t ∧ sameStores s t ∧ sameUnits s t ∧ otherRegs s t [CLK_REF_STATUS] ∧ t.pnl = s.pnl
        ∧ st t Fd.CLK_REF_STATUS_HOLDOVER = 0 ∧ st t Fd.CLK_REF_STATUS_SEL = s.pnl.refSel % 4)
  ∧ (∀ s : State, st s Fd.CLK_REF_STATUS_HOLDOVER = 0 →
      ∃ t, exec .refGeneratorLoss s = .next t ∧ refOnly s t ∧ rf t CLK_REF_OFFSET Fd.CLK_REF_OFFSET_E_OSC = rf s CLK_REF_OFFSET Fd.CLK_REF_OFFSET_E_OSC
        ∧ (st s Fd.CLK_REF_STATUS_OTHER_VALID = 1 → t.pnl.refSel = 1 - s.pnl.refSel % 2 ∧ st t Fd.CLK_REF_STATUS_SEL = 1 - s.pnl.refSel % 2
            ∧ st t Fd.CLK_REF_STATUS_OTHER_VALID = 0 ∧ rf t CLK_REF_OFFSET Fd.CLK_REF_OFFSET_E_OTHER = 0 ∧ st t Fd.CLK_REF_STATUS_HOLDOVER = 0)
        ∧ (st s Fd.CLK_REF_STATUS_OTHER_VALID = 0 → st t Fd.CLK_REF_STATUS_HOLDOVER = 1 ∧ st t Fd.CLK_REF_STATUS_SEL = 2 ∧ t.pnl.refSel = s.pnl.refSel))
  ∧ (∀ (x : Fin 2) (valid : Bool) (s : State), ∃ t, exec (.extRefValidityChange x valid) s = .next t ∧ sameStores s t ∧ sameUnits s t ∧ otherRegs s t [CLK_REF_STATUS]
      ∧ (valid = true → x.val ≠ s.pnl.refSel → unitCause s 10 x.val = 0 → st t Fd.CLK_REF_STATUS_OTHER_VALID = 1)
      ∧ (valid = false ∨ x.val = s.pnl.refSel ∨ unitCause s 10 x.val ≠ 0 → t.csr = s.csr)
      ∧ (x.val ∈ t.pnl.extValid ↔ valid = true) ∧ ∀ y, y ≠ x.val → (y ∈ t.pnl.extValid ↔ y ∈ s.pnl.extValid))
  ∧ (∀ s : State, standbyOk s = true → rf s FLT_STEWARD Fd.FLT_STEWARD_ACTIVE < 2 → s.pnl.boot.running = false → s.pnl.boot.checks = [] →
      (∃ t, exec .stewardTakeover s = .next t ∧ takes s t) ∧ ∃ t, exec .activeStewardFailure s = .next t ∧ takes s t)
  ∧ (∀ s : State, standbyOk s = true → rf s FLT_STEWARD Fd.FLT_STEWARD_ACTIVE < 2 → s.pnl.boot.running = true →
      ∃ t, exec .stewardTakeover s = .next t ∧ t.pnl.boot.start = some s.pnl.boot.warm ∧ t.pnl.boot.running = false ∧ t.pnl.boot.step = 0
        ∧ rf t FLT_STEWARD Fd.FLT_STEWARD_ACTIVE = 1 - rf s FLT_STEWARD Fd.FLT_STEWARD_ACTIVE ∧ rf t FLT_STEWARD Fd.FLT_STEWARD_TAKEOVER = 1)
  ∧ (∀ s : State, standbyOk s = true → rf s FLT_STEWARD Fd.FLT_STEWARD_ACTIVE < 2 →
      ∃ t, exec .lockstepMismatch s = .next t ∧ sameStores s t ∧ sameUnits s t ∧ otherRegs s t [FLT_STEWARD] ∧ t.pnl.causes = s.pnl.causes
        ∧ rf t FLT_STEWARD Fd.FLT_STEWARD_STANDBY_OK = 0 ∧ rf t FLT_STEWARD Fd.FLT_STEWARD_LOCKSTEP = 0 ∧ rf t FLT_STEWARD Fd.FLT_STEWARD_MISMATCH = 1
        ∧ rf t FLT_STEWARD Fd.FLT_STEWARD_ACTIVE = rf s FLT_STEWARD Fd.FLT_STEWARD_ACTIVE
        ∧ ∃ ev, t.pnl.events = s.pnl.events ++ [ev] ∧ ev.hold = Option.none ∧ ev.fence = some (10, 1 - rf s FLT_STEWARD Fd.FLT_STEWARD_ACTIVE))
  ∧ (∀ (d : Dom) (s : State), let x := dom s d.val
      (∃ t, exec (.controlCrossingEvent .attention d) s = .next t ∧ sameStores s t ∧ (dom t d.val).attnBusy = x.attnPending ∧ (dom t d.val).attnPending = false
        ∧ otherRegs s t [CLK_ATTN_MERGEDn (d.val / 64)] ∧ (x.attnPending = true → (rd t (CLK_ATTN_MERGEDn (d.val / 64))).getLsbD (d.val % 64) = true))
      ∧ (∃ t, exec (.controlCrossingEvent .thermalAlarm d) s = .next t ∧ sameStores s t ∧ (dom t d.val).alarmBusy = x.alarmPending
        ∧ (dom t d.val).alarmPending = false ∧ otherRegs s t [])
      ∧ ∃ t, exec (.controlCrossingEvent .timeMark d) s = .next t ∧ sameStores s t ∧ (dom t d.val).markBusy = x.markPending ∧ (dom t d.val).markPending = false
        ∧ otherRegs s t [CLK_STATUS d.val, CLK_MARK_SC d.val, CLK_MARK d.val]
        ∧ (x.markPending = true → rf t (CLK_STATUS d.val) Fd.CLK_STATUS_MARK_MERGED = 1 ∧ (rd t (CLK_MARK_SC d.val)).toNat = scOf s d.val % 2 ^ 64))
  ∧ ∀ s : State, timeNs s % 1_000_000 = 0 →
      let seq := (rf s TIME_MARK_SEQ Fd.TIME_MARK_SEQ_SEQ + 1) % 2 ^ 32
      ∃ t, exec .timeMark s = .next t ∧ sameStores s t
        ∧ otherRegs s t ([TIME_MARK_SEQ, TIME_MARK_SC, TIME_MARK_SEC, TIME_MARK_NS] ++ (lockstep s).flatMap (fun d => [CLK_MARK_SC d, CLK_MARK d]))
        ∧ rf t TIME_MARK_SEQ Fd.TIME_MARK_SEQ_SEQ = seq ∧ (rd t TIME_MARK_SC).toNat = scOf s (referenceDomain s) % 2 ^ 64
        ∧ rf t TIME_MARK_NS Fd.TIME_MARK_NS_NS = timeNs s ∧ rf t TIME_MARK_SEC Fd.TIME_MARK_SEC_SEC = timeSec s
        ∧ ∀ d ∈ lockstep s, (dom s d).markBusy = false → (rd t (CLK_MARK_SC d)).toNat = scOf s d % 2 ^ 64 ∧ rf t (CLK_MARK d) Fd.CLK_MARK_SEQ = seq
            ∧ (dom t d).markBusy = true

/-- R230, R322, R323, R331, R332, R337: the stream interface of a site. -/
def Obligations.SiteStreamProtocol : Prop :=
  (∀ (k : Site) (s : State) (q : StrmReq), held s k.val = false → (site s k.val).strmQ = [q] → q.sc ≤ scOf s k.val →
      let row := sitRow s k.val q.row
      let c := issueCause s k.val q
      ∃ t, exec (.streamIssueProcess k) s = .next t ∧ t.mem = s.mem ∧ t.cmem = s.cmem ∧ t.vregs = s.vregs ∧ t.chans = s.chans ∧ (site t k.val).strmQ = []
        ∧ (c = 0 → otherRegs s t eventRegs
            ∧ (site t k.val).arms = (site s k.val).arms ++ (if bf row 21 2 = 0 then [] else [⟨q.row, q.index, bf row 21 2, q.sc - 1 + bf row 32 32, 0, 0, false, false⟩])
            ∧ (site t k.val).outQ.length = (site s k.val).outQ.length + (issueTargets s k.val row).length
            ∧ ∀ p ∈ (site t k.val).outQ, p ∈ (site s k.val).outQ ∨ p.kind = 3#4 ∧ p.stream = BitVec.ofNat 20 q.index ∧ p.srcSite = k.val
                ∧ p.payload = bytesOf 8 q.ofsS.toNat ++ bytesOf 8 q.ofsD.toNat ++ bytesOf 8 (q.sc - 1 + bf row 32 32) ++ bytesOf 8 q.row)
        ∧ (c ≠ 0 → otherRegs s t ([SITE_STRM_SFAULT k.val, SITE_STRM_SFAULT_SC k.val] ++ holdRegs k.val ++ stopRegs k.val) ∧ (site t k.val).arms = (site s k.val).arms
            ∧ (site t k.val).outQ = (site s k.val).outQ
            ∧ (rf s (SITE_STRM_SFAULT k.val) Fd.SITE_STRM_SFAULT_VALID = 0 → rf t (SITE_STRM_SFAULT k.val) Fd.SITE_STRM_SFAULT_VALID = 1
                ∧ rf t (SITE_STRM_SFAULT k.val) Fd.SITE_STRM_SFAULT_CAUSE = c ∧ rf t (SITE_STRM_SFAULT k.val) Fd.SITE_STRM_SFAULT_ROW = q.row % 256)
            ∧ ((site s k.val).retired = false → holdRaised s t k.val hFault (scOf s k.val))))
  ∧ (∀ (k : Site) (s : State) (p : DynPkt) (rest : List DynPkt), (site s k.val).dropped = p :: rest →
      ∃ t, exec (.streamIssueResend k) s = .next t ∧ sameStores s t ∧ otherRegs s t [] ∧ t.cores = s.cores ∧ (site t k.val).dropped = rest
        ∧ (site t k.val).outQ = (site s k.val).outQ ++ [p])
  ∧ (∀ (k : Site) (s : State) (l : Landing), (site s k.val).landQ.find? (fun l => !l.busy) = some l →
      let r := landLines s k.val 4 l.lines
      (bwOpen s k.val = false ∨ r.2.2 = 0 → exec (.streamDataLand k) s = .next s)
      ∧ (bwOpen s k.val = true → r.2.2 ≠ 0 →
      ∃ t, exec (.streamDataLand k) s = .next t ∧ t.cmem = s.cmem ∧ t.vregs = s.vregs ∧ t.chans = s.chans ∧ otherRegs s t eventRegs
        ∧ (site t k.val).bwUsed = (site s k.val).bwUsed + 1
        ∧ (r.2.1 = [] → (site t k.val).landQ = (site s k.val).landQ.erase l)
        ∧ (r.2.1 ≠ [] → (site t k.val).landQ = (site s k.val).landQ.map (fun y => if y = l then ⟨l.pkt, r.2.1, true⟩ else y))
        ∧ (l.lines.Pairwise (fun p q => wordAddr k.val p.1 + p.2.length ≤ wordAddr k.val q.1 ∨ wordAddr k.val q.1 + q.2.length ≤ wordAddr k.val p.1) →
            ∀ p ∈ l.lines, p ∉ r.2.1 → memReads t (wordAddr k.val p.1) p.2.length = p.2)
        ∧ (∀ a, (∀ p ∈ l.lines, a < wordAddr k.val p.1 ∨ wordAddr k.val p.1 + p.2.length ≤ a) → memRead t a = memRead s a)
        ∧ (∀ a ∈ (site s k.val).arms, a.stream = l.pkt.stream.toNat → a.check = 1 →
            ∃ b ∈ (site t k.val).arms, b.row = a.row ∧ b.bytes = a.bytes + r.2.2
              ∧ b.complete = (!a.failed && decide (bf (sitRow s k.val a.row) 64 40 ≤ b.bytes)))
        ∧ ∀ a ∈ (site s k.val).arms, a.stream ≠ l.pkt.stream.toNat → a ∈ (site t k.val).arms))
  ∧ (∀ (e : Edge) (s : State) (k i : Nat) (fail : Bool) (rest : List (Nat × Nat × Bool)), (edge s e.val).notices = (k, i, fail) :: rest →
      ∃ t, exec (.siteSitNotify e) s = .next t ∧ sameStores s t ∧ otherRegs s t [] ∧ (edge t e.val).notices = rest
        ∧ ∀ a ∈ (site s k).arms, ∃ b ∈ (site t k).arms, b.row = a.row ∧ b.stream = a.stream ∧ (a.stream ≠ i → b = a)
            ∧ (a.stream = i → fail = true → b.failed = true ∧ b.complete = false)
            ∧ (a.stream = i → fail = false → a.check = 2 → b.notices = a.notices + 1 ∧ b.failed = a.failed
                ∧ b.complete = (!a.failed && decide (bf (sitRow s k a.row) 104 5 ≤ a.notices + 1))))
  ∧ (∀ (k : Site) (s : State), held s k.val = false →
      let live_ := fun (a : SitArm) => !(a.complete && Nat.ble a.deadline (scOf s k.val))
      ∃ t, exec (.deadlineCheck k) s = .next t ∧ t.mem = s.mem ∧ t.cmem = s.cmem ∧ t.vregs = s.vregs ∧ t.chans = s.chans
        ∧ (site t k.val).arms = (site s k.val).arms.filter live_
        ∧ ((∀ a ∈ (site s k.val).arms, live_ a = true → scOf s k.val < a.deadline) → otherRegs s t [] ∧ held t k.val = false)
        ∧ ∀ a, ((site s k.val).arms.filter live_).find? (fun a => Nat.ble a.deadline (scOf s k.val)) = some a →
            otherRegs s t (SITE_STRM_DL k.val :: holdRegs k.val ++ stopRegs k.val ++ eventRegs) ∧ holdRaised s t k.val hDeadline (scOf s k.val)
              ∧ rf t (SITE_STRM_DL k.val) Fd.SITE_STRM_DL_VALID = 1 ∧ rf t (SITE_STRM_DL k.val) Fd.SITE_STRM_DL_ROW = a.row % 256)
  ∧ (∀ (k : Site) (row : Fin 256) (s : State) (a : SitArm), armOf s k.val row.val = some a → a.complete = true → a.deadline ≤ scOf s k.val →
      hDeadline ∈ (dom s k.val).causes →
      let more := ((site s k.val).arms.erase a).any (fun b => Nat.ble b.deadline (scOf s k.val) && !b.complete)
      ∃ t, exec (.streamComplete k row) s = .next t ∧ sameStores s t ∧ otherRegs s t [CLK_STATUS k.val, CLK_HOLD_STATUS]
        ∧ (site t k.val).arms = (site s k.val).arms.erase a ∧ (more = true → (dom t k.val).causes = (dom s k.val).causes)
        ∧ (more = false → (dom t k.val).causes = (dom s k.val).causes.filter (fun c => c != hDeadline)))
  ∧ ∀ (k : Site) (s : State) (p : DynPkt), (site s k.val).inbox.find? (fun p => p.kind == 2#4) = some p →
      let n := natOf (p.payload.take 2)
      let ls := linesOf p.addr.toNat n
      let shut := ls.any (fun l => zeroFilling s k.val (l / 16384)) ∨ 0x300_0000 < p.addr.toNat + n / 4
      (∃ t, exec (.streamFetchServe k true []) s = .next t ∧ sameStores s t ∧ otherRegs s t [] ∧ (site t k.val).inbox = (site s k.val).inbox.erase p
          ∧ (site t k.val).outQ = (site s k.val).outQ ++ [answerPacket s k.val p (natOf ((p.payload.drop 2).take 8)) p.tag (errorAnswer 0#8 p)])
      ∧ (¬ shut → ls.all (fun l => maintFree s k.val mDynamic (bankOfLine l) (rowOfLine l)) = true →
          ∃ t, exec (.streamFetchServe k false []) s = .next t ∧ t.mem = s.mem ∧ t.cmem = s.cmem ∧ otherRegs s t eventRegs
            ∧ (site t k.val).inbox = (site s k.val).inbox.erase p
            ∧ (site t k.val).outQ = (site s k.val).outQ ++ answerPackets s k.val p (memReads s (wordAddr k.val p.addr.toNat) n))

/-- R317, R319, R324 to R327, R337, R343: the engine's control. -/
def Obligations.TransferEngineProtocol : Prop :=
  (∀ (e : Edge) (s : State) (p : DynPkt), let x := edge s e.val
      let i := issueOf p
      x.inbox.find? (fun p => p.kind == 3#4) = some p → x.waitQ = [] → x.lateQ = [] → x.strms.length < 64 → x.walks = [] → x.prefetch = Option.none →
      x.failQ.any (fun f => f.1 == i) = false →
      ∃ t, exec (.streamIssue e) s = .next t ∧ t.mem = s.mem ∧ t.cmem = s.cmem ∧ otherRegs s t (STM_ENG_STATUS e.val :: STM_CACHE_CTRL e.val :: eventRegs)
        ∧ (edge t e.val).inbox = x.inbox.erase p
        ∧ (i.index = 0 → (edge t e.val).failQ = x.failQ ++ [(i, 1, 1)])
        ∧ (i.index ≠ 0 → cacheGet x.cache i.index = Option.none → (edge t e.val).waitQ = [i] ∧ (edge t e.val).walks = [⟨i.index, false⟩])
        ∧ ∀ w, i.index ≠ 0 → cacheGet x.cache i.index = some w → (live s (STM_HITS e.val)).toNat + 1 < 2 ^ 48 →
            (live t (STM_HITS e.val)).toNat = (live s (STM_HITS e.val)).toNat + 1 ∧ (edge t e.val).waitQ = []
              ∧ (streamCheck s e.val i w = 0 → (edge t e.val).strms = x.strms ++ [⟨i, w, x.accepted, 0, 0, 0, [], 0⟩] ∧ (edge t e.val).failQ = x.failQ)
              ∧ (streamCheck s e.val i w ≠ 0 → (edge t e.val).failQ = x.failQ ++ [(i, 1, streamCheck s e.val i w)]))
  ∧ (∀ (e : Edge) (s : State) (p : DynPkt), (edge s e.val).inbox.find? (fun p => p.kind == 3#4) = some p → mayWait (edge s e.val) p.stream.toNat = false →
      exec (.streamIssue e) s = .next s)
  ∧ (∀ (e : Edge) (i : BitVec 20) (err : Fin 4) (sym : Fin 64) (s : State) (w : Walk), (edge s e.val).walks.find? (fun w => w.index == i.toNat) = some w →
      let a := tableBase s + 64 * i.toNat
      let bad := err.val = 2 ∨ (markedLine s a 64).isSome = true
      ∃ t, exec (.tableWalkDone e i err sym) s = .next t ∧ t.mem = s.mem ∧ t.cmem = s.cmem ∧ t.chans = s.chans
        ∧ (w.redo = true → otherRegs s t [] ∧ ⟨i.toNat, false⟩ ∈ (edge t e.val).walks ∧ (edge t e.val).cache = (edge s e.val).cache)
        ∧ (w.redo = false → ¬ bad → cacheGet (edge t e.val).cache i.toNat = some (natOf (hbmReads s 0 a 64).2))
        ∧ (w.redo = false → bad → ∀ q ∈ (edge s e.val).waitQ, q.index = i.toNat → q ∉ (edge t e.val).waitQ ∧ ∃ f ∈ (edge t e.val).failQ, f.1 = q))
  ∧ (∀ (e : Edge) (s : State) (i : IssueRec) (cause check : Nat) (rest : List (IssueRec × Nat × Nat)), (edge s e.val).failQ = (i, cause, check) :: rest → i.host = Option.none →
      cause < 6 →
      let h := if cause ≤ 2 then hFault else hError
      ∃ t, exec (.streamFail e) s = .next t ∧ t.mem = s.mem ∧ t.cmem = s.cmem ∧ t.chans = s.chans
        ∧ otherRegs s t ([STM_SERR e.val, STM_SERR_SC e.val, STM_ENG_STATUS e.val, STM_CACHE_CTRL e.val] ++ holdRegs (144 + e.val) ++ eventRegs)
        ∧ (edge t e.val).notices = (edge s e.val).notices ++ [(i.site, i.index, true)] ∧ holdRaised s t (144 + e.val) h (scOf s (144 + e.val))
        ∧ (rf s (STM_SERR e.val) Fd.STM_SERR_VALID = 0 → rf t (STM_SERR e.val) Fd.STM_SERR_VALID = 1 ∧ rf t (STM_SERR e.val) Fd.STM_SERR_CAUSE = cause
            ∧ rf t (STM_SERR e.val) Fd.STM_SERR_INDEX = i.index % 2 ^ Fd.STM_SERR_INDEX.len)
        ∧ ∃ ev, t.pnl.events = s.pnl.events ++ [ev] ∧ ev.kind = 5 ∧ ev.index = e.val ∧ ev.cause = cause ∧ ev.hold = some (144 + e.val, h) ∧ ev.part = some i.part)
  ∧ (∀ (req : Requester) (e : Edge) (v : W64) (s : State), mayAccess s req (STM_ISSUE e.val) true = true →
      ∃ t, exec (.stmIssue req e v) s = .next t ∧ t.mem = s.mem ∧ t.cmem = s.cmem ∧ t.chans = s.chans ∧ t.sites = s.sites
        ∧ otherRegs s t (STM_ISSUE_STATUS e.val :: (List.range 16).map STM_ENG_STATUS ++ (List.range 16).map STM_CACHE_CTRL ++ eventRegs)
        ∧ rf t (STM_ISSUE_STATUS e.val) Fd.STM_ISSUE_STATUS_BUSY = 1 ∧ (edge t e.val).hostNext = (edge s e.val).hostNext + 1
        ∧ ∃ left, 1 ≤ left ∧ (edge t e.val).hostJobs = (edge s e.val).hostJobs ++ [((edge s e.val).hostNext, left, false)])
  ∧ (∀ (req : Requester) (e : Edge) (v : W64) (s : State), mayAccess s req (STM_CACHE_CTRL e.val) true = true → fget Fd.STM_CACHE_CTRL_INV_ALL v = 1 →
      fget Fd.STM_CACHE_CTRL_PREFETCH v = 0 →
      ∃ t, exec (.stmCacheInvAll req e v) s = .next t ∧ sameStores s t ∧ otherRegs s t [STM_CACHE_CTRL e.val] ∧ (edge t e.val).cache = []
        ∧ (edge t e.val).strms = (edge s e.val).strms)
  ∧ (∀ (req : Requester) (e : Edge) (v : W64) (s : State), let first := fget Fd.STM_CACHE_CTRL_FIRST v
      let count := fget Fd.STM_CACHE_CTRL_COUNT v
      mayAccess s req (STM_CACHE_CTRL e.val) true = true → fget Fd.STM_CACHE_CTRL_PREFETCH v = 1 → 1 ≤ count → count ≤ 1024 → first + count ≤ 2 ^ 20 →
      (edge s e.val).waitQ = [] → (edge s e.val).lateQ = [] → (edge s e.val).walks = [] →
      ∃ t, exec (.stmCachePrefetch req e v) s = .next t ∧ t.mem = s.mem ∧ t.cmem = s.cmem ∧ otherRegs s t ([STM_CACHE_CTRL e.val, STM_ENG_STATUS e.val] ++ eventRegs)
        ∧ (edge t e.val).walks = (List.range (min count 8)).map (fun j => ⟨first + j, false⟩)
        ∧ (edge t e.val).prefetch = if count ≤ 8 then Option.none else some (first + 8, count - 8))
  ∧ ∀ (req : Requester) (v : W64) (s : State), let i := staged s req STM_TBL_WIDX % 2 ^ 20
      let w := stagedEntry s req
      let a := tableBase s + 64 * i
      let cur := hbmLine s 0 a
      let refused := (∃ p, clsOf s req = .tenant p ∧ (ePart w ≠ p ∨ i = 0 ∨ (eSrc cur ≠ 0 ∧ ePart cur ≠ p))) ∨ (i = 0 ∧ (bandMapClean w = false ∨ (bandsHeld s (fun _ => true) = true ∧ w ≠ cur)))
      mayAccess s req STM_TBL_WCTRL true = true → fget Fd.STM_TBL_WCTRL_GO v = 1 →
      ∃ t, exec (.stmTblWrite req v) s = .next t ∧ t.cmem = s.cmem ∧ t.chans = s.chans ∧ t.cores = s.cores ∧ t.sites = s.sites
        ∧ (refused → t.mem = s.mem ∧ rf t STM_TBL_WCTRL Fd.STM_TBL_WCTRL_ERR = 1 ∧ t.edges = s.edges ∧ otherRegs s t (STM_TBL_WCTRL :: errorRegs))
        ∧ (¬ refused → a % 64 = 0 → memReads t a 64 = bytesOf 64 w ∧ (∀ b, b < a ∨ a + 64 ≤ b → memRead t b = memRead s b) ∧ otherRegs s t (STM_TBL_WCTRL :: eventRegs)
            ∧ ∀ e, e < 16 → cacheGet (edge t e).cache i = Option.none ∧ ∀ y ∈ (edge t e).walks, y.index = i → y.redo = true)

/-- R306, R307, R328 to R331, R375: data in the engines. -/
def Obligations.StreamDataMoves : Prop :=
  (∀ (e : Edge) (errs : List LineErr) (s : State) (t0 : Strm), nextStrm (edge s e.val).strms = some t0 →
      let w := t0.entry
      let x := edge s e.val
      let a := byteAddr t0.issue w false t0.moved
      let b := byteAddr t0.issue w true t0.moved
      let spread := isSpread s t0.issue w
      let n := chunkLen w t0.moved a (spread && eDst w == 2)
      let bad := (meetErrors s a n 0 errs).2.isSome = true
      let bs := (hbmReads s (eKey w) a n).2
      ∃ t, exec (.streamMove e errs) s = .next t ∧ t.cmem = s.cmem ∧ t.chans = s.chans ∧ t.vregs = s.vregs ∧ t.cores = s.cores ∧ t.sites = s.sites
        ∧ (eSrc w ≠ 1 ∨ eDst w = 2 → t.mem = s.mem)
        ∧ (eSrc w = 1 → (eDst w ≠ 2 ∨ ownLine s e.val a spread = true) → bad → (∃ f ∈ (edge t e.val).failQ, f.1 = t0.issue) ∧ t.mem = s.mem
            ∧ ∀ y ∈ (edge t e.val).strms, y.issue ≠ t0.issue)
        ∧ (eSrc w = 1 → eDst w = 2 → ownLine s e.val a spread = true → ¬ bad → eComp w = 0 →
            (edge t e.val).outQ = x.outQ ++ [edgePacket s e.val 1 0 (eSite w) (b / 4) t0.issue.index 0 bs]
            ∧ (t0.moved + n < eTotal w → ∃ y ∈ (edge t e.val).strms, y.issue = t0.issue ∧ y.moved = t0.moved + n)
            ∧ (eTotal w ≤ t0.moved + n → x.waitQ = [] → x.lateQ = [] → ∀ y ∈ x.strms, y.issue ≠ t0.issue → y ∈ (edge t e.val).strms))
        ∧ (eSrc w = 1 → eDst w = 1 → ¬ bad → b % 64 = 0 → n % 64 = 0 → n ≠ 0 →
            memReads t b n = bs ∧ ∀ c, c < b ∨ b + n ≤ c → memRead t c = memRead s c)
        ∧ (eSrc w = 2 → eDst w = 1 → ownLine s e.val b spread = true →
            (edge t e.val).outQ = x.outQ ++ [fetchPacket s e.val t0 t0.moved (min 3840 (chunkLen w t0.moved b spread))])
        ∧ (eSrc w = 2 → eDst w = 3 → t0.moved < eTotal w → (edge t e.val).outQ = x.outQ ++ [fetchPacket s e.val t0 t0.moved (min 3840 (chunkLen w t0.moved 0 false))])
        ∧ (eSrc w = 2 → eDst w = 3 → eTotal w ≤ t0.moved → (x.unacked.filter (fun u => u.issue.index == t0.issue.index)).length < 4096 →
            let wire := wireBytes w (gatheredBytes t0.buf (eTotal w))
            let g := wireSegment w t0.out wire
            ∃ u, (edge t e.val).unacked = x.unacked ++ [u] ∧ u.issue = t0.issue ∧ u.drops = 0 ∧ u.pkt.dst = BitVec.ofNat 10 (ePanel w)
              ∧ u.pkt.payload = strmPayload (eMatch w) (eComp w + 256 * e.val) t0.out wire.length (eTotal w) g.1 g.2.1))
  ∧ (∀ (e : Edge) (s : State) (p : DynPkt) (rest : List DynPkt), (edge s e.val).dropped = p :: rest →
      let n := sget (fun _ => 0) (edge s e.val).drops (p.stream.toNat * 2 ^ 52 + p.kind.toNat * 2 ^ 48 + p.addr.toNat) + 1
      ∃ t, exec (.streamPacketResend e) s = .next t ∧ t.mem = s.mem ∧ t.cmem = s.cmem ∧ otherRegs s t eventRegs ∧ (edge t e.val).dropped = rest
        ∧ (n < 4 → (edge t e.val).outQ = (edge s e.val).outQ ++ [p])
        ∧ (4 ≤ n → (edge t e.val).outQ = (edge s e.val).outQ ∧ ∀ y, (if p.kind = 2#4 then fetchOwner (edge s e.val) p else (edge s e.val).strms.find? (fun t => t.issue.index == p.stream.toNat)) = some y →
            ∃ f ∈ (edge t e.val).failQ, f.1 = y.issue)
        ∧ (4 ≤ n → p.kind ≠ 2#4 → (edge s e.val).strms.find? (fun t => t.issue.index == p.stream.toNat) = Option.none →
            ∃ f ∈ (edge t e.val).failQ, f.1 = sentIssue p))
  ∧ (∀ (e : Edge) (s : State) (p : PanelPkt) (rest : List PanelPkt), let x := edge s e.val
      x.rend.find? (fun p => (pairOf x.strms p).isSome) = Option.none → x.arrived = p :: rest →
      let again := x.seen.contains (tagKey p)
      spComp p ≠ pairFailComp →
      ∃ t, exec (.remotePairing e) s = .next t ∧ sameStores s t ∧ otherRegs s t eventRegs ∧ (edge t e.val).arrived = rest
        ∧ (pairOf x.strms p = Option.none → (edge t e.val).rend = (if again then x.rend else x.rend ++ [p]) ∧ (edge t e.val).strms = x.strms)
        ∧ ∀ y, pairOf x.strms p = some y → (edge t e.val).rend = x.rend
            ∧ (pairBad y p = false → ∃ z ∈ (edge t e.val).strms, z.issue = y.issue ∧ (spPos p, spData p) ∈ z.buf
                ∧ (again = true → y.buf.any (fun b => b.1 == spPos p) = true → z.got = y.got))
            ∧ (pairBad y p = true → ∃ f ∈ (edge t e.val).failQ, f.1 = y.issue))
  ∧ (∀ (e : Edge) (s : State) (u : Unacked), (edge s e.val).unacked.find? (fun u => Nat.ble (u.since + strmTmoNs s) (nowNs s)) = some u →
      ∃ t, exec (.strmTmo e) s = .next t ∧ t.mem = s.mem ∧ t.cmem = s.cmem ∧ otherRegs s t eventRegs
        ∧ (u.drops < 3 → (edge t e.val).transit.length = (edge s e.val).transit.length + 1 ∧ (edge t e.val).unacked.length = (edge s e.val).unacked.length
            ∧ { u with since := nowNs s, drops := u.drops + 1 } ∈ (edge t e.val).unacked)
        ∧ (3 ≤ u.drops → (∃ f ∈ (edge t e.val).failQ, f.1 = u.issue) ∧ ∀ v ∈ (edge t e.val).unacked, v.issue ≠ u.issue))
  ∧ ∀ (h : Stack) (err : Fin 4) (sym : Fin 64) (s : State), rf s (HBM_CFG h.val) Fd.HBM_CFG_SCRUB_EN = 1 → stackEnabled s h.val = true →
      ∃ t, exec (.hbmPatrolScrub h err sym) s = .next t ∧ t.mem = s.mem ∧ t.cmem = s.cmem ∧ t.chans = s.chans
        ∧ (stack t h.val).scrub = ((stack s h.val).scrub + 1) % 2 ^ 30
        ∧ (err.val = 0 ∨ err.val = 3 → otherRegs s t eventRegs ∧ (stack t h.val).marks = (stack s h.val).marks)
        ∧ (∀ a x c, err.val = 3 → stackLine s h.val (stack s h.val).scrub = some a → homeOf s a = some (x, c) → (live s (HBM_CHc_ODECC x c)).toNat + 1 < 2 ^ 48 →
            (live t (HBM_CHc_ODECC x c)).toNat = (live s (HBM_CHc_ODECC x c)).toNat + 1)
        ∧ (∀ a x c, err.val = 1 → stackLine s h.val (stack s h.val).scrub = some a → homeOf s a = some (x, c) → rf s (HBM_ECC_LOG x) Fd.HBM_ECC_LOG_VALID = 0 →
            rf t (HBM_ECC_LOG x) Fd.HBM_ECC_LOG_TYPE = 1 ∧ rf t (HBM_ECC_LOG x) Fd.HBM_ECC_LOG_SYMBOL = sym.val ∧ t.doms = s.doms)
        ∧ ∀ a x c, err.val = 2 → stackLine s h.val (stack s h.val).scrub = some a → homeOf s a = some (x, c) →
            markedLine t a 1 = some (a / 64 * 64) ∧ rf t (HBM_ECC_LOG x) Fd.HBM_ECC_LOG_TYPE = 2 ∧ rf t (HBM_ECC_LOG x) Fd.HBM_ECC_LOG_SOURCE = 2
              ∧ holdRaised s t (144 + x / 2) hError (scOf s (144 + x / 2))

/-- R10 to R13, R514, R528 to R532: host and register access. -/
def Obligations.HostAccessEffects : Prop :=
  (∀ (req : Requester) (a : BitVec 49) (half : Fin 4) (v : W64) (f : Found) (s : State) (b : Blk) (u o : Nat) (r : RegRow), half.val ≠ 3 → b = .hbm ∨ b = .secE ∨ b = .pMgt →
      a.toNat < 2 ^ 48 → locate a.toNat = some (b, u, o) → o % 8 = 0 → findRow b o = some r → mayAccess s req a.toNat true = true →
      ∃ t, exec (.registerWrite req a half v f) s = .next t ∧ sameStores s t ∧ sameUnits s t ∧ otherRegs s t [a.toNat]
        ∧ rd t a.toNat = applyWrite r (rf s BOOT_LOCK Fd.BOOT_LOCK_LOCK == 1) (rd s a.toNat) (lateClear s a.toNat (fullWord r (rd s a.toNat) half.val v)))
  ∧ (∀ (req : Requester) (a : BitVec 49) (half : Fin 4) (v : W64) (f : Found) (s : State), half.val = 3 ∨ (a.toNat < 2 ^ 48 ∧ mayAccess s req a.toNat true = false) ∨ (2 ^ 48 ≤ a.toNat ∧ ownPage s req a.toNat = false) →
      ¬ (firmwareOf req = true ∧ inStewardWindow a.toNat = true) →
      ∃ t, exec (.registerWrite req a half v f) s = .next t ∧ sameStores s t ∧ sameUnits s t ∧ otherRegs s t errorRegs
        ∧ (rf s FLT_ACCESS Fd.FLT_ACCESS_VALID = 0 → rf t FLT_ACCESS Fd.FLT_ACCESS_VALID = 1 ∧ rf t FLT_ACCESS Fd.FLT_ACCESS_KIND = 1
            ∧ rf t FLT_ACCESS Fd.FLT_ACCESS_WRITE = 1 ∧ (rd t FLT_ACCESS_ADDR).toNat = a.toNat))
  ∧ (∀ (req : Requester) (a : BitVec 49) (half : Fin 4) (v : W64) (f : Found) (s : State), firmwareOf req = true → inStewardWindow a.toNat = true →
      exec (.registerWrite req a half v f) s = .refused .stewardWindow)
  ∧ (∀ (pt : Fin 2) (fn : Fin 5) (ofs : BitVec 24) (half : Fin 4) (f : Found) (s : State) (u o : Nat) (r : RegRow), half.val ≠ 3 → let a := panelCsr + ofs.toNat
      let req := Requester.host pt fn
      locate a = some (.pPwr, u, o) → o % 8 = 0 → findRow .pPwr o = some r →
      (mayAccess s req a false = true → ∃ t, exec (.bar0Access pt fn ofs half .read f) s = .next t ∧ sameStores s t ∧ sameUnits s t ∧ otherRegs s t []
          ∧ t.pnl.reply = some ⟨true, bytesOf (if half.val = 0 then 8 else 4) (halfOf half.val (readMask r (rd s a))).toNat⟩)
      ∧ (mayAccess s req a false = false → ∃ t, exec (.bar0Access pt fn ofs half .read f) s = .next t ∧ sameStores s t ∧ otherRegs s t errorRegs
          ∧ t.pnl.reply = some ⟨true, bytesOf (if half.val = 0 then 8 else 4) 0⟩))
  ∧ (∀ (pt : Fin 2) (fn : Fin 5) (n : Fin 4) (o : BitVec 30) (w : Bool) (data : List Byte) (err : Fin 4) (sym : Fin 64) (f : Found) (s : State),
      let ap := rd s (MGT_FN_APn (fnUnit pt.val fn.val) n.val)
      let a := fget Fd.MGT_FN_APn_BASE ap * 2 ^ 30 + o.toNat
      let key := fget Fd.MGT_FN_APn_KEY ap
      let len := data.length
      let shaped := len ≠ 0 ∧ len % 4 = 0 ∧ a % 4 = 0 ∧ a % 64 + len ≤ 64
      let mine := a < basinBase 0 ∧ rejected s a = false ∧ shaped ∧ panelData s a len = false ∧ homeEnabled s a = true
        ∧ ∃ p, clsOf s (.host pt fn) = .tenant p ∧ partOfData s a = p ∧ partOfKey s key = some p
      let bad := (meetError s a len 3 err sym).2.isSome = true ∧ ¬ (w = true ∧ len = 64)
      ((fget Fd.MGT_FN_APn_EN ap = 0 ∨ (isData a = true ∧ ¬ shaped)) →
          ∃ t, exec (.apertureAccess pt fn n o w data err sym f) s = .next t ∧ sameStores s t ∧ sameUnits s t ∧ otherRegs s t errorRegs
            ∧ t.pnl.reply = some ⟨false, []⟩)
      ∧ (fget Fd.MGT_FN_APn_EN ap = 1 → mine → ∃ t, exec (.apertureAccess pt fn n o w data err sym f) s = .next t ∧ t.cmem = s.cmem ∧ t.cores = s.cores
          ∧ (bad → t.mem = s.mem ∧ t.pnl.reply = some ⟨false, []⟩ ∧ t.doms = s.doms)
          ∧ (¬ bad → w = false → t.mem = s.mem ∧ t.pnl.reply = some ⟨true, (hbmReads s key a len).2⟩)
          ∧ (¬ bad → w = true → len = 64 → memReads t a 64 = data ∧ (∀ b, b < a ∨ a + 64 ≤ b → memRead t b = memRead s b)
              ∧ markedLine t a 64 = Option.none ∧ t.pnl.reply = some ⟨true, []⟩)
          ∧ (¬ bad → w = true → len < 64 → memReads t a len = data ∧ t.pnl.reply = some ⟨true, []⟩
              ∧ ∀ b, b < a ∨ a + len ≤ b → (b / 64 ≠ a / 64 ∨ lineOpens s key a = true) → memRead t b = memRead s b)))
  ∧ (∀ (pt : Fin 2) (fn : Fin 5) (s : State), let b := baseFn (fnUnit pt.val fn.val)
      ∃ t, exec (.functionLevelReset pt fn) s = .next t ∧ sameStores s t ∧ sameUnits s t ∧ t.pnl = s.pnl ∧ t.live = s.live
        ∧ ∀ a, rd t a = if b ≤ a ∧ a < b + 4096 then csrReset a else rd s a)
  ∧ ∀ (pt : Fin 2) (fn : Fin 5) (s : State) (q : Nat × Nat × Nat × List Byte), let u := fnUnit pt.val fn.val
      s.pnl.hostQ.find? (fun q => q.1 == pt.val && q.2.1 == fn.val) = some q →
      ∃ t, exec (.hostDelivery pt fn) s = .next t ∧ sameStores s t ∧ sameUnits s t ∧ t.pnl.hostQ = s.pnl.hostQ.erase q
        ∧ otherRegs s t [MGT_FN_IRQ u, MGT_FN_FR_CTL u, MGT_FN_PS_HEAD u]
        ∧ (fnTakes s u q.2.2.1 = false → t.csr = s.csr)
        ∧ (q.2.2.1 = 1 → fnTakes s u 1 = true → (rd t (MGT_FN_IRQ u)).getLsbD 1 = true
            ∧ t.pnl.reply = some ⟨true, bytesOf 8 (hostAddr s (MGT_FN_FPR_ADDR u)) ++ q.2.2.2⟩)
        ∧ (q.2.2.1 = 0 → fnTakes s u 0 = true →
            let c := rd s (MGT_FN_FR_CTL u)
            let n := 2 ^ fget Fd.MGT_FN_FR_CTL_LOG2 c
            let head := fget Fd.MGT_FN_FR_CTL_HEAD c
            if n ≤ (head + 65536 - fget Fd.MGT_FN_FR_CTL_TAIL c) % 65536 then (rd t (MGT_FN_IRQ u)).getLsbD 6 = true ∧ rd t (MGT_FN_FR_CTL u) = c
            else (rd t (MGT_FN_IRQ u)).getLsbD 0 = true ∧ rf t (MGT_FN_FR_CTL u) Fd.MGT_FN_FR_CTL_HEAD = (head + 1) % 65536
              ∧ t.pnl.reply = some ⟨true, bytesOf 8 (hostAddr s (MGT_FN_FR_BASE u) + 64 * (head % n)) ++ q.2.2.2⟩)

/-- R528 to R532, R10, R11, R192: the host's commands complete. -/
def Obligations.HostCommandsComplete : Prop :=
  (∀ (req : Requester) (a : BitVec 49) (half : Fin 4) (v : W64) (f : Found) (s : State), half.val ≠ 3 → inStewardWindow a.toNat = false →
      (if a.toNat < 2 ^ 48 then mayAccess s req a.toNat true else ownPage s req a.toNat) = true →
      exec (.registerWrite req a half v f) s = .next (storeReg s req f a.toNat half.val v))
  ∧ (∀ (pt : Fin 2) (fn : Fin 5) (a : BitVec 49) (half : Fin 4) (v : W64) (f : Found) (s : State) (u o : Nat) (r : RegRow), half.val ≠ 3 → 2 ^ 48 ≤ a.toNat →
      inStewardWindow a.toNat = false → ownPage s (.host pt fn) a.toNat = true → locate a.toNat = some (.fn, u, o) → o % 8 = 0 → o ≠ 0x48 → o ≠ 0x68 → findRow .fn o = some r →
      ∃ t, exec (.registerWrite (.host pt fn) a half v f) s = .next t ∧ sameStores s t ∧ sameUnits s t ∧ t.pnl = s.pnl ∧ otherRegs s t [a.toNat]
        ∧ rd t a.toNat = applyWrite r (rf s BOOT_LOCK Fd.BOOT_LOCK_LOCK == 1) (rd s a.toNat) (lateClear s a.toNat (fullWord r (rd s a.toNat) half.val v)))
  ∧ (∀ (pt : Fin 2) (fn : Fin 5) (ofs : BitVec 24) (half : Fin 4) (v : W64) (f : Found) (s : State), half.val ≠ 3 → let a := panelCsr + ofs.toNat
      let req := Requester.host pt fn
      (mayAccess s req a true = true → inStewardWindow a = false → exec (.bar0Access pt fn ofs half (.write v) f) s = .next (storeReg s req f a half.val v))
      ∧ (mayAccess s req a false = true → ∃ t, exec (.bar0Access pt fn ofs half .read f) s = .next t ∧ t.csr = (loadReg s req a half.val).1.csr ∧ t.mem = s.mem
          ∧ t.pnl.reply = some ⟨true, bytesOf (if half.val = 0 then 8 else 4) (loadReg s req a half.val).2.toNat⟩))
  ∧ (∀ (pt : Fin 2) (fn : Fin 5) (n : Fin 4) (o : BitVec 30) (w : Bool) (data : List Byte) (sym : Fin 64) (f : Found) (s : State) (p : Nat),
      let req := Requester.host pt fn
      let ap := rd s (MGT_FN_APn (fnUnit pt.val fn.val) n.val)
      let a := fget Fd.MGT_FN_APn_BASE ap * 2 ^ 30 + o.toNat
      let key := fget Fd.MGT_FN_APn_KEY ap
      let len := data.length
      let k := (a - basinBase 0) / 0x1000_0000
      let word := (a - basinBase k) / 4
      let m : MaintReq := ⟨req, w, word, data⟩
      let run := exec (.apertureAccess pt fn n o w data 0 sym f) s
      fget Fd.MGT_FN_APn_EN ap = 1 → clsOf s req = .tenant p →
      (isData a = true → len ≠ 0 → len % 4 = 0 → a % 4 = 0 → a % 64 + len ≤ 64 → rejected s a = false → partOfData s a = p →
        (a < basinBase 0 → partOfKey s key = some p → panelData s a len = false → homeEnabled s a = true →
          (w = true → ∃ t, run = .next t ∧ ((markedLine s a len = Option.none ∨ len = 64) → memReads t a len = data ∧ t.pnl.reply = some ⟨true, []⟩))
          ∧ (w = false → ∃ t, run = .next t ∧ t.mem = s.mem ∧ (markedLine s a len = Option.none → t.pnl.reply = some ⟨true, (hbmReads s key a len).2⟩)))
        ∧ (basinBase 0 ≤ a → maintReady s k m = true →
          (w = true → (regionDynWr s k (regionOf word) || !siteBusy s k) = true →
            ∃ t, run = .next t ∧ memReads t a len = data ∧ (∀ b, b < a ∨ a + len ≤ b → memRead t b = memRead s b) ∧ t.pnl.reply = some ⟨true, []⟩)
          ∧ (w = false → zeroFilling s k (regionOf word) = false → ∃ t, run = .next t ∧ t.mem = s.mem ∧ t.pnl.reply = some ⟨true, memReads s a len⟩))
        ∧ (basinBase 0 ≤ a → maintReady s k m = false → ∃ t, run = .next t ∧ sameStores s t ∧ t.csr = s.csr ∧ (site t k).maint = (site s k).maint ++ [m]))
      ∧ (isData a = false → len = 8 → a % 8 = 0 → w = false → mayAccess s req a false = true →
          ∃ t, run = .next t ∧ t.pnl.reply = some ⟨true, bytesOf 8 (loadReg s req a 0).2.toNat⟩)
      ∧ (isData a = false → len = 8 → a % 8 = 0 → w = true → mayAccess s req a true = true → inStewardWindow a = false →
          run = .next (storeReg s req f a 0 (BitVec.ofNat 64 (natOf data)))))
  ∧ (∀ (pt : Fin 2) (fn : Fin 5) (s : State) (kind : Nat) (bs : List Byte), let u := fnUnit pt.val fn.val
      let c := rd s (MGT_FN_FR_CTL u)
      let n := 2 ^ fget Fd.MGT_FN_FR_CTL_LOG2 c
      let head := fget Fd.MGT_FN_FR_CTL_HEAD c
      let ring := 2 ^ rf s (MGT_FN_PS_CTL u) Fd.MGT_FN_PS_CTL_LOG2
      let at_ := rf s (MGT_FN_PS_HEAD u) Fd.MGT_FN_PS_HEAD_HEAD
      let tail := rf s (MGT_FN_PS_TAIL u) Fd.MGT_FN_PS_TAIL_TAIL
      let cause := fun (t : State) (i : Nat) => (rd t (MGT_FN_IRQ u)).getLsbD i = true
      s.pnl.hostQ.find? (fun q => q.1 == pt.val && q.2.1 == fn.val) = some (pt.val, fn.val, kind, bs) → fnTakes s u kind = true →
      ∃ t, exec (.hostDelivery pt fn) s = .next t ∧ sameStores s t ∧ sameUnits s t ∧ t.pnl.hostQ = s.pnl.hostQ.erase (pt.val, fn.val, kind, bs)
        ∧ (kind = 0 → if n ≤ (head + 65536 - fget Fd.MGT_FN_FR_CTL_TAIL c) % 65536 then cause t 6
            else cause t 0 ∧ rf t (MGT_FN_FR_CTL u) Fd.MGT_FN_FR_CTL_HEAD = (head + 1) % 65536 ∧ t.pnl.reply = some ⟨true, bytesOf 8 (hostAddr s (MGT_FN_FR_BASE u) + 64 * (head % n)) ++ bs⟩)
        ∧ (kind = 1 → cause t 1 ∧ t.pnl.reply = some ⟨true, bytesOf 8 (hostAddr s (MGT_FN_FPR_ADDR u)) ++ bs⟩)
        ∧ (kind = 2 → let rec_ := snapFor s u
            if ring ≤ (at_ % ring + ring - tail % ring) % ring + rec_.length then cause t 7
            else cause t 3 ∧ rf t (MGT_FN_PS_HEAD u) Fd.MGT_FN_PS_HEAD_HEAD = (at_ + rec_.length) % ring % 2 ^ Fd.MGT_FN_PS_HEAD_HEAD.len
              ∧ t.pnl.reply = some ⟨true, bytesOf 8 (hostAddr s (MGT_FN_PS_BASE u) + at_ % ring) ++ rec_⟩))
  ∧ ∀ (pt : Fin 2) (fn : Fin 5) (s : State), let b := baseFn (fnUnit pt.val fn.val)
      ∃ t, exec (.functionLevelReset pt fn) s = .next t ∧ t.pnl = s.pnl ∧ ∀ a, rd t a = if b ≤ a ∧ a < b + 4096 then csrReset a else rd s a

/-- R344, R345, R378, R379, R381, R518: port states. -/
def Obligations.PortStateTransitions : Prop :=
  let keeps := fun (s t : State) (p : Nat) (more : List Nat) => sameStores s t ∧ t.cores = s.cores ∧ t.sites = s.sites ∧ t.edges = s.edges
    ∧ otherRegs s t ([portStat p, SUO_ENG_STATUS (pE p)] ++ readyRegs (BOOT_READY_PORTn (p / 64)) ++ more)
  let ready := fun (t : State) (p : Nat) => (rd t (BOOT_READY_PORTn (p / 64))).getLsbD (p % 64)
  let eng := fun (t : State) (p : Nat) (f : Fld) => (rd t (SUO_ENG_STATUS (pE p))).getLsbD (f.lo + pI p)
  (∀ (p : Port) (s : State), portState s p.val = 0 → portEnabled s p.val = true →
      rf s (SUO_PORTp_CFG (pE p.val) (pI p.val)) Fd.SUO_PORTp_CFG_ENABLE = 1 →
      ∃ t, exec (.portTrainStart p) s = .next t ∧ keeps s t p.val [SUO_PORTp_LAT (pE p.val) (pI p.val)] ∧ t.ports = s.ports ∧ portState t p.val = 1
        ∧ rf t (SUO_PORTp_LAT (pE p.val) (pI p.val)) Fd.SUO_PORTp_LAT_VALID = 0 ∧ ready t p.val = false
        ∧ eng t p.val Fd.SUO_ENG_STATUS_LASER_OK = true ∧ eng t p.val Fd.SUO_ENG_STATUS_TX_ON = true)
  ∧ (∀ (p : Port) (s : State), portState s p.val ≠ 0 →
      ∃ t, exec (.portTrainStart p) s = .next t ∧ sameStores s t ∧ sameUnits s t ∧ otherRegs s t [SUO_ENG_STATUS (pE p.val)]
        ∧ eng t p.val Fd.SUO_ENG_STATUS_LASER_OK = true)
  ∧ (∀ (p : Port) (s : State), portState s p.val = 1 →
      (∃ t, exec (.portTrainLock p) s = .next t ∧ keeps s t p.val [] ∧ portState t p.val = 2
          ∧ port t p.val = { PortX.init with faults := (port s p.val).faults })
      ∧ ∃ t, exec (.portTrainTimeout p) s = .next t ∧ keeps s t p.val [] ∧ portState t p.val = 0 ∧ ready t p.val = false
          ∧ rf t (portStat p.val) Fd.SUO_PORTp_STATUS_KEYED = 0 ∧ port t p.val = { PortX.init with faults := (port s p.val).faults })
  ∧ (∀ (p : Port) (s : State), portState s p.val = 2 → 3 ≤ (port s p.val).identRun →
      ∃ t, exec (.portIdentified p) s = .next t ∧ keeps s t p.val [] ∧ t.ports = s.ports ∧ portState t p.val = 3)
  ∧ (∀ (p : Port) (s : State), portState s p.val = 3 →
      let lat := SUO_PORTp_LAT (pE p.val) (pI p.val)
      let x := port s p.val
      let oneway := x.rtSum / (2 * x.rtCount) % 0x1_0000
      let f4 := oneway - 424
      let named := ∃ e i, linkMapOf s p.val = some e ∧ (port s p.val).ident = some i ∧ partnerMatches e i = true
      (64 ≤ x.rtCount → ∃ t, exec (.portMeasured p true) s = .next t ∧ t.mem = s.mem ∧ t.cmem = s.cmem
          ∧ otherRegs s t ([portStat p.val, lat] ++ readyRegs (BOOT_READY_PORTn (p.val / 64)))
          ∧ (named → portState t p.val = 5 ∧ (port t p.val).mapped = linkMapOf s p.val) ∧ (¬ named → portState t p.val = 4) ∧ ready t p.val = true
          ∧ rf t lat Fd.SUO_PORTp_LAT_VALID = 1 ∧ rf t lat Fd.SUO_PORTp_LAT_ONEWAY = oneway % 2 ^ Fd.SUO_PORTp_LAT_ONEWAY.len
          ∧ (f4 ≤ 600 → rf t lat Fd.SUO_PORTp_LAT_ALLOW = 600) ∧ (600 < f4 → f4 ≤ 4000 → rf t lat Fd.SUO_PORTp_LAT_ALLOW = (600 + f4 + 39) / 40 * 20)
          ∧ rf t (portStat p.val) Fd.SUO_PORTp_STATUS_KEYED = 1 ∧ (port t p.val).keyEpoch = 0 ∧ (port t p.val).rxEpoch = 0
          ∧ (port t p.val).cntS = 0 ∧ (port t p.val).cntD = 0 ∧ (port t p.val).txRec = 0)
      ∧ (x.rtCount < 64 → exec (.portMeasured p true) s = .next s)
      ∧ ∃ t, exec (.portMeasured p false) s = .next t ∧ sameStores s t ∧ portState t p.val = 6 ∧ ready t p.val = false
          ∧ nowNs s ∈ (port t p.val).faults)
  ∧ (∀ (p : Port) (s : State), portState s p.val = 6 →
      ∃ t, exec (.portFaultTimeout p) s = .next t ∧ keeps s t p.val [] ∧ portState t p.val = 0 ∧ ready t p.val = false)
  ∧ (∀ (p : Port) (s : State), portState s p.val < 8 →
      let d := 144 + pE p.val
      let lost := fun (t : State) => keeps s t p.val (holdRegs d) ∧ (portState s p.val ≠ 5 → portState t p.val = 0 ∧ t.doms = (attention s d).doms ∨ portState s p.val = 0)
        ∧ (portState s p.val = 5 → portState t p.val = 6 ∧ holdRaised s t d hError (scOf s d) ∧ ∃ ev, t.pnl.events = s.pnl.events ++ [ev] ∧ ev.kind = 8 ∧ ev.index = p.val)
      (∃ t, exec (.opticalLaneLoss p) s = .next t ∧ lost t)
      ∧ ∃ t, exec (.laserLoss p) s = .next t ∧ lost t ∧ (rd t (SUO_ENG_STATUS (pE p.val))).getLsbD (Fd.SUO_ENG_STATUS_LASER_OK.lo + pI p.val) = false
          ∧ (rd t (SUO_ENG_STATUS (pE p.val))).getLsbD (Fd.SUO_ENG_STATUS_TX_ON.lo + pI p.val) = false)
  ∧ ∀ (p : Port) (s : State), rf s (portStat p.val) Fd.SUO_PORTp_STATUS_KEYED = 1 →
      let x := port s p.val
      let at_ := fun (n : Nat) => n ≠ 0 ∧ n % 2 ^ 32 = 0
      ∃ t, exec (.linkKeyRatchet p) s = .next t ∧ sameStores s t ∧ otherRegs s t [] ∧ (∀ q, q ≠ p.val → port t q = port s q)
        ∧ (at_ x.slot → (port t p.val).keyEpoch = (x.keyEpoch + 1) % 2 ^ 32 ∧ (port t p.val).cntS = 0 ∧ (port t p.val).cntD = 0)
        ∧ (¬ at_ x.slot → (port t p.val).keyEpoch = x.keyEpoch ∧ (port t p.val).cntS = x.cntS ∧ (port t p.val).cntD = x.cntD)
        ∧ (port t p.val).rxEpoch = (if x.rxSlot ≠ 0 ∧ x.rxSlot % 2 ^ 32 = 0 then (x.rxEpoch + 1) % 2 ^ 32 else x.rxEpoch)

/-- R349 to R362, R485: the slot calendar of a port. -/
def Obligations.PortSlotProtocol : Prop :=
  (∀ (p : Port) (s : State), let x := port s p
      2 ≤ portState s p.val → ethernet s p.val = false → laserOk s p.val = false →
      ∃ t, exec (.slotSend p) s = .next t ∧ sameStores s t ∧ otherRegs s t [] ∧ port t p.val = { x with slot := x.slot + 1, sent := Option.none })
  ∧ (∀ (p : Port) (s : State), let x := port s p
      let n := x.slot
      2 ≤ portState s p.val → ethernet s p.val = false → laserOk s p.val = true →
      ∃ t g, exec (.slotSend p) s = .next t ∧ t.mem = s.mem ∧ t.cmem = s.cmem ∧ t.sites = s.sites ∧ t.edges = s.edges ∧ (port t p.val).slot = n + 1
        ∧ (port t p.val).sent = some g ∧ g.hcrc = hcrcOf g
        ∧ (g.resend = false → (port t p.val).naks = x.naks.drop 1 ∧ g.credit = BitVec.ofNat 16 x.freed ∧ g.dcvc = Fin.ofNat 4 x.dcvc
            ∧ g.nak = (match x.naks with | [] => Option.none | q :: _ => some (q.1 % 65536, q.2)))
        ∧ (portState s p.val ≠ 4 → portState s p.val ≠ 5 → (port t p.val).txq = x.txq ∧ (x.resendQ = [] → g.body = .control (identityOf s p.val) (timingOf x n)))
        ∧ (∀ f fs d, portState s p.val = 5 → x.resendQ = [] → x.txq = f :: fs → f.elig = some d → d ≤ n → f.due ≤ n → isSched s p.val n = true → x.lastOut ≠ some n →
            g.body = .scheduled (BitVec.ofNat 32 (rf s (SUO_PORTp_EPOCH (pE p.val) (pI p.val)) Fd.SUO_PORTp_EPOCH_TX)) ⟨x.keyEpoch, 1, x.cntS⟩ f.chunks
              ∧ g.seq = BitVec.ofNat 16 x.txSeq ∧ g.due = f.due % 65536 ∧ g.resend = false ∧ (port t p.val).txq = fs ∧ (port t p.val).txSeq = (x.txSeq + 1) % 65536
              ∧ (port t p.val).credits = x.credits - 1 ∧ (port t p.val).cntS = x.cntS + 1
              ∧ ∃ k ∈ (port t p.val).kept, k.slot = n ∧ k.frame = g ∧ k.resends = 0)
        ∧ (portState s p.val = 5 → x.resendQ = [] → x.txq = [] → isSched s p.val n = true → g.body = .idle ∧ (port t p.val).txSeq = x.txSeq)
        ∧ (portState s p.val = 4 ∨ portState s p.val = 5 → x.resendQ = [] → isOpen s p.val n = true →
            (∃ vc tag stream, g.body = .dynamic vc tag ⟨x.keyEpoch, 2, x.cntD⟩ stream ∧ stream.length = 4064 ∧ tag = ⟨x.txRec, x.txCover.length, x.keyEpoch, x.txCover⟩)
              ∧ g.seq = BitVec.ofNat 16 x.dynSeq ∧ (port t p.val).txCover = [coverOf g] ∧ (port t p.val).cntD = x.cntD + 1 ∧ (port t p.val).txq = x.txq)
        ∧ (∀ k m rest, portState s p.val = 4 ∨ portState s p.val = 5 → x.resendQ = m :: rest → x.kept.find? (fun k => k.slot == m) = some k → isFixedOpen n = false →
            g = sealHeader { k.frame with resend := true } ∧ (port t p.val).txq = x.txq ∧ (port t p.val).naks = x.naks
              ∧ ∃ k' ∈ (port t p.val).kept, k'.slot = n ∧ k'.frame = g ∧ k'.resends = k.resends + 1))
  ∧ (∀ (p : Port) (cwc : Fin 8) (cwu : BitVec 7) (at_ : BitVec 64) (f : Frame) (s : State), let x := port s p
      let bad := (sharesFirst x.rxSlot && x.cwBad) || badWords cwu x.rxSlot != 0 || f.hcrc != hcrcOf f
      2 ≤ portState s p.val → ethernet s p.val = false →
      ∃ t, exec (.slotReceive p cwc cwu at_ f) s = .next t ∧ t.mem = s.mem ∧ t.cmem = s.cmem ∧ t.sites = s.sites
        ∧ (bad = true → (port t p.val).rxSlot = x.rxSlot + 1 ∧ otherRegs s t eventRegs ∧ (port t p.val).rxw = x.rxw
            ∧ ((x.rxSlot, false) ∈ (port t p.val).naks ∨ (x.rxSlot - 1, true) ∈ (port t p.val).naks))
        ∧ (bad = false → bodyKind f.body = 1 ∨ bodyKind f.body = 2 → portState s p.val ≠ 4 → portState s p.val ≠ 5 →
            (port t p.val).rxSlot = x.rxSlot + 1 ∧ (port t p.val).rxw = x.rxw ∧ (port t p.val).dynRx = x.dynRx ∧ otherRegs s t eventRegs)
        ∧ (∀ epoch iv chunks, bad = false → f.nak = Option.none → f.resend = false → f.body = .scheduled epoch iv chunks → portState s p.val = 5 → f.seq.toNat = x.rxSeq →
            x.rxw = [] → ∃ cs : List Slice, cs.length = chunks.length ∧ (ivHolds { x with rxSlot := x.rxSlot + 1 } iv = true → cs = chunks)
              ∧ (port t p.val).rxw = (if rf s (SUO_PORTp_EPOCH (pE p.val) (pI p.val)) Fd.SUO_PORTp_EPOCH_RX = epoch.toNat
                  then [⟨f.seq.toNat, cs, absSlot x.rxSlot f.due, 0, false⟩] else []) ∧ (port t p.val).rxSlot = x.rxSlot + 1 ∧ (port t p.val).rxSeq = x.rxSeq)
        ∧ (∀ i tm, bad = false → f.nak = Option.none → f.resend = false → f.body = .control i tm → portState s p.val = 2 ∨ portState s p.val = 3 →
            (port t p.val).ident = some i ∧ rf t (SUO_PORTp_PARTNER (pE p.val) (pI p.val)) Fd.SUO_PORTp_PARTNER_PANEL = i.panel.toNat
              ∧ (port t p.val).identRun = (if x.ident = some i then x.identRun + 1 else 1) ∧ portState t p.val = portState s p.val
              ∧ (port t p.val).ctlStamp = tm.stamp % 2 ^ 64 ∧ (port t p.val).ctlAt = at_.toNat
              ∧ (portState s p.val = 3 → tm.echo ≠ 0 → x.rtCount < 64 → (port t p.val).rtCount = x.rtCount + 1
                  ∧ (port t p.val).rtSum = x.rtSum + (at_.toNat + 2 ^ 65 - tm.echo % 2 ^ 64 - tm.turn % 2 ^ 64) % 2 ^ 64)))
  ∧ (∀ (p : Port) (s : State) (q : Nat × Nat), (port s p.val).nakSent.find? (fun q => Nat.ble (q.2 + 64) (port s p.val).slot) = some q →
      ∃ t, exec (.nakRetry p) s = .next t ∧ sameStores s t ∧ otherRegs s t [] ∧ (port t p.val).naks = (port s p.val).naks ++ [(q.1, false)]
        ∧ (port t p.val).nakSent = (port s p.val).nakSent.erase q)
  ∧ (∀ (p : Port) (s : State), let e := pE p.val
      let sc := scOf s (144 + e)
      let s1 := edgeAdvance s e sc (sc + 1)
      let v := edgeSource s1 e sc (edgeByte s1 e (24 + pI p.val))
      let close := edgeByte s1 e (32 + pI p.val) != 0
      let x := port s p.val
      held s (144 + e) = false → x.appended ≠ some sc →
      ∃ t, exec (.txQueueAppend p) s = .next t ∧ t.mem = s.mem ∧ t.cmem = s.cmem ∧ t.sites = s.sites
        ∧ (v.isSome = true → 64 ≤ x.txq.length → portRetired s p.val = false →
            holdRaised s t (144 + e) hOptical sc ∧ (port t p.val).txWait = true ∧ (port t p.val).txq = x.txq ∧ (port t p.val).appended = x.appended)
        ∧ (∀ c, v = some c → x.txq.length < 64 → (port t p.val).appended = some sc
            ∧ (if close = true ∨ 16 ≤ x.opn.length + 1 then (port t p.val).opn = [] ∧ (port t p.val).txq = x.txq ++ [⟨x.opn ++ [c], Option.none, 0⟩]
               else (port t p.val).opn = x.opn ++ [c] ∧ (port t p.val).txq = x.txq))
        ∧ (v = Option.none → weirWaits s1 e sc (edgeByte s1 e (24 + pI p.val)) = true → t = s1)
        ∧ (v = Option.none → weirWaits s1 e sc (edgeByte s1 e (24 + pI p.val)) = false → close = false → x.opn.length < 16 → (port t p.val).appended = some sc ∧ (port t p.val).opn = x.opn ∧ (port t p.val).txq = x.txq))
  ∧ (∀ (p : Port) (s : State) (ready fs : List TxFrame) (f : TxFrame) (d : Nat), let x := port s p.val
      x.txq = ready ++ f :: fs → (∀ g ∈ ready, g.elig.isSome = true) → f.elig = Option.none → portState s p.val = 5 → ready.length < x.credits →
      nextSched s p.val (match x.lastDue with | some d => max x.slot (d + 1) | Option.none => x.slot) = some d →
      ∃ t, exec (.frameEligible p) s = .next t ∧ sameStores s t ∧ otherRegs s t [] ∧ (port t p.val).lastDue = some d
        ∧ (port t p.val).txq = ready ++ { f with elig := some x.slot, due := d } :: fs)
  ∧ (∀ (p : Port) (at_ : BitVec 64) (s : State), let x := port s p.val
      let w := x.rxw.map (fun f => if allowancePassed s p.val at_.toNat x f then { f with ready := true } else f)
      let up := match w.find? (fun f => f.seq == x.rxSeq) with | some f => f.ready | Option.none => false
      ∃ t, exec (.frameConsumable p at_) s = .next t ∧ sameStores s t ∧ otherRegs s t [CLK_STATUS (144 + pE p.val), CLK_HOLD_STATUS] ∧ (port t p.val).rxw = w
        ∧ (port t p.val).rxWait = (x.rxWait && !up) ∧ (x.rxWait = false ∨ up = false → t.csr = s.csr ∧ t.doms = s.doms))
  ∧ (∀ (p : Port) (s : State), let e := pE p.val
      let sc := scOf s (144 + e)
      let s1 := edgeAdvance s e sc (sc + 1)
      let x := port s p.val
      held s (144 + e) = false → x.presented ≠ some sc →
      ∃ t, exec (.rxWeirPresent p) s = .next t ∧ t.mem = s.mem ∧ t.cmem = s.cmem ∧ t.sites = s.sites
        ∧ ((List.range 32).any (fun i => edgeByte s1 e i == 0x30 + pI p.val) = false → t = s1)
        ∧ ((List.range 32).any (fun i => edgeByte s1 e i == 0x30 + pI p.val) = true →
            (∀ f, headFrame x = some f → f.ready = true → (port t p.val).presented = some sc
                ∧ (0x30 + pI p.val, sc, f.chunks.getD f.used 0#2048) ∈ (edge t e).latch
                ∧ (f.chunks.length ≤ f.used + 1 → (port t p.val).rxSeq = (x.rxSeq + 1) % 65536 ∧ (port t p.val).freed = (x.freed + 1) % 65536)
                ∧ (f.used + 1 < f.chunks.length → (port t p.val).rxSeq = x.rxSeq ∧ (port t p.val).freed = x.freed))
            ∧ ((∀ f, headFrame x = some f → f.ready = false) → portRetired s p.val = false →
                (port t p.val).rxWait = true ∧ holdRaised s t (144 + e) hOptical sc ∧ (port t p.val).rxSeq = x.rxSeq)))
  ∧ ∀ (req : Requester) (p : Port) (dirs : Fin 3) (v : W64) (s : State), let a := SUO_PORTp_EPOCH (pE p.val) (pI p.val)
      mayAccess s req a true = true →
      ∃ t, exec (.epochWrite req p dirs v) s = .next t ∧ sameStores s t ∧ t.cores = s.cores ∧ t.sites = s.sites
        ∧ (portState s p.val = 5 → held s (144 + pE p.val) = false → otherRegs s t errorRegs ∧ t.ports = s.ports)
        ∧ (portState s p.val ≠ 5 ∨ held s (144 + pE p.val) = true →
            otherRegs s t [a, portStat p.val, CLK_STATUS (144 + pE p.val), CLK_HOLD_STATUS]
            ∧ (dirs.val ≠ 1 → rf t a Fd.SUO_PORTp_EPOCH_TX = fget Fd.SUO_PORTp_EPOCH_TX v ∧ (port t p.val).txq = [] ∧ (port t p.val).opn = [] ∧ (port t p.val).txSeq = 0
                ∧ (port t p.val).kept = [] ∧ (port t p.val).resendQ = []
                ∧ (port t p.val).credits = 256 ∧ (part t (partOfEdge s (pE p.val))).epoch = BitVec.ofNat 32 (fget Fd.SUO_PORTp_EPOCH_TX v))
            ∧ (dirs.val ≠ 0 → rf t a Fd.SUO_PORTp_EPOCH_RX = fget Fd.SUO_PORTp_EPOCH_RX v ∧ (port t p.val).rxw = [] ∧ (port t p.val).rxSeq = 0 ∧ (port t p.val).freed = 0)
            ∧ (dirs.val = 0 → rf t a Fd.SUO_PORTp_EPOCH_RX = rf s a Fd.SUO_PORTp_EPOCH_RX) ∧ (dirs.val = 1 → rf t a Fd.SUO_PORTp_EPOCH_TX = rf s a Fd.SUO_PORTp_EPOCH_TX))

/-- R355, R370 to R377, R385, R519: the edge die's packets and tables. -/
def Obligations.PanelPacketRouting : Prop :=
  (∀ (e : Edge) (s : State) (x : Transit), (edge s e.val).transit.find? (fun x => !isLocal s e.val x) = some x →
      let q := turnLeg s x.pkt
      let hop := routePacket s q
      let inPort := x.port.getD (8 * e.val)
      ∃ t, exec (.panelPacketRoute e) s = .next t ∧ t.mem = s.mem ∧ t.cmem = s.cmem ∧ t.sites = s.sites ∧ otherRegs s t eventRegs
        ∧ (edge t e.val).transit = (edge s e.val).transit.erase x
        ∧ ((q.crcOk = false ∨ tooOld s x.since = true ∨ hop = .drop) → t.ports = s.ports ∧ (edge t e.val).outQ = (edge s e.val).outQ
            ∧ ((live s (SUO_DYN_DROP (pE inPort) (pI inPort))).toNat + 1 < 2 ^ 48 →
                (live t (SUO_DYN_DROP (pE inPort) (pI inPort))).toNat = (live s (SUO_DYN_DROP (pE inPort) (pI inPort))).toNat + 1))
        ∧ (∀ d, q.crcOk = true → tooOld s x.since = false → hop = .port d → pE d = e.val →
            (port t d).dynOut = (port s d).dynOut ++ [(packetVc (onTrunk s x d q), x.since, onTrunk s x d q)] ∧ (edge t e.val).outQ = (edge s e.val).outQ)
        ∧ (∀ a b, q.crcOk = true → tooOld s x.since = false → hop = .deliver → edgeSeat s e.val = some a → edgeSeat s q.dedge.val = some b → t.ports = s.ports
            ∧ (edge t e.val).outQ = (edge s e.val).outQ ++ piecesOf a b (partOfSite s b.1) (edge s e.val).pieceTag q))
  ∧ (∀ (e : Edge) (s : State) (x : Transit), (edge s e.val).transit.find? (fun x => tooOld s x.since) = some x →
      ∃ t, exec (.panelPacketAgeDrop e) s = .next t ∧ t.mem = s.mem ∧ t.cmem = s.cmem ∧ t.ports = s.ports ∧ otherRegs s t eventRegs
        ∧ (edge t e.val).transit = (edge s e.val).transit.erase x)
  ∧ (∀ (e : Edge) (s : State) (q : Nat) (u : Nat × Nat × PanelPkt), (edge s e.val).transit.find? (fun x => tooOld s x.since) = Option.none →
      (List.range 8).findSome? (fun i => (oldOut s (8 * e.val + i)).map (fun u => (8 * e.val + i, u))) = some (q, u) →
      ∃ t, exec (.panelPacketAgeDrop e) s = .next t ∧ t.mem = s.mem ∧ t.cmem = s.cmem ∧ t.edges = s.edges ∧ otherRegs s t eventRegs
        ∧ port t q = { port s q with dynOut := (port s q).dynOut.erase u } ∧ ∀ r, r ≠ q → port t r = port s r)
  ∧ (∀ (e : Edge) (s : State) (x : Transit),
      (edge s e.val).transit.find? (fun x => isLocal s e.val x && (tooOld s x.since || !rendFull s e.val x.pkt)) = some x →
      let p := x.pkt
      let good := tooOld s x.since = false ∧ p.crcOk = true ∧ epochOk s e.val p = true
      ∃ t, exec (.panelPacketDeliver e) s = .next t ∧ t.mem = s.mem ∧ t.cmem = s.cmem ∧ t.ports = s.ports ∧ otherRegs s t eventRegs
        ∧ (¬ good → (edge t e.val).arrived = (edge s e.val).arrived ∧ t.pnl.stIn = s.pnl.stIn)
        ∧ (good → p.dkind = 1#2 → (edge t e.val).arrived = (edge s e.val).arrived ++ [p] ∧ ∃ y ∈ (edge t e.val).transit, y.pkt.dkind = 3#2 ∧ y.pkt.dst = p.src
            ∧ y.pkt.tag = p.tag ∧ y.pkt.epoch = p.epoch)
        ∧ (good → p.dkind = 2#2 → stewardWired s e.val = true → t.pnl.stIn = s.pnl.stIn ++ [mgmtIn e.val p])
        ∧ (good → p.dkind = 2#2 → stewardWired s e.val = false → t.pnl.stIn = s.pnl.stIn ∧ ∃ y, (edge t e.val).outQ = (edge s e.val).outQ ++ [y]
            ∧ y.kind = 6#4 ∧ y.dstSite = stewardSite s ∧ y.payload = p.payload)
        ∧ (good → p.dkind = 0#2 → (edge t e.val).arrived = (edge s e.val).arrived ∧ t.pnl.stIn = s.pnl.stIn ∧ (edge t e.val).unacked = (edge s e.val).unacked)
        ∧ (∀ u, good → p.dkind = 3#2 → (edge s e.val).unacked.find? (fun u => u.pkt.tag == p.tag && u.pkt.dst == p.src && u.pkt.epoch == p.epoch) = some u →
            (edge t e.val).unacked = (edge s e.val).unacked.erase u))
  ∧ (∀ (req : Requester) (v : W64) (s : State), mayAccess s req SUO_RT_CTRL true = true →
      ∃ t, exec (.rtCurFlip req v) s = .next t ∧ sameStores s t ∧ sameUnits s t ∧ otherRegs s t [SUO_RT_CTRL] ∧ routeCur t = fget Fd.SUO_RT_CTRL_CUR v
        ∧ (fget Fd.SUO_RT_CTRL_ERR v = 1 → sget (fun _ => 0) s.risen SUO_RT_CTRL = 0 → rf t SUO_RT_CTRL Fd.SUO_RT_CTRL_ERR = 0)
        ∧ (fget Fd.SUO_RT_CTRL_ERR v = 0 → rf t SUO_RT_CTRL Fd.SUO_RT_CTRL_ERR = rf s SUO_RT_CTRL Fd.SUO_RT_CTRL_ERR))
  ∧ (∀ (e : Edge) (errs : List LineErr) (s : State) (d : Nat × Nat × Nat × Nat), gwOn s e.val = true → headDesc s (SUO_GW_TXCTL e.val) (SUO_GW_TXBASE e.val) = some d →
      let len := bf d.2.2.1 48 14
      let buf := bf d.2.2.1 0 48
      let slot := bf d.2.2.2 0 5
      let r := hbmReads (readDesc s d).1 slot buf len
      let fit := descOk s e.val d len = true ∧ panelRange s buf len = false ∧ 64 ≤ len ∧ len ≤ 9216
      ∃ t, exec (.gatewayTxFrame e errs) s = .next t ∧ t.cmem = s.cmem ∧ t.sites = s.sites ∧ t.edges = s.edges ∧ t.ports = s.ports
        ∧ (∀ a, a < d.2.1 ∨ d.2.1 + 8 ≤ a → memRead t a = memRead s a)
        ∧ (descBarred s d = true → t.mem = s.mem ∧ otherRegs s t errorRegs)
        ∧ (descBarred s d = false → (readDesc s d).2 = Option.none →
            (errs = [] → markedLine s buf len = Option.none → otherRegs s t (SUO_GW_TXCTL e.val :: errorRegs))
            ∧ (¬ fit → bf (natOf (memReads t d.2.1 8)) 63 1 = 1 ∧ bf (natOf (memReads t d.2.1 8)) 62 1 = 0)
            ∧ (fit → pausedFrame s e.val r.2 = true → t.mem = s.mem ∧ rd t (SUO_GW_TXCTL e.val) = rd s (SUO_GW_TXCTL e.val))
            ∧ (fit → pausedFrame s e.val r.2 = false → (markedLine s buf len).isSome = true → bf (natOf (memReads t d.2.1 8)) 63 1 = 1)
            ∧ (fit → pausedFrame s e.val r.2 = false → markedLine s buf len = Option.none → (∀ x ∈ errs, x.err.val ≠ 2) →
                bf (natOf (memReads t d.2.1 8)) 62 1 = 1 ∧ t.pnl.reply = some ⟨true, sealFrame s slot d.1 r.2⟩
                  ∧ tab t (slotSent slot) = tab s (slotSent slot) + 1 ∧ rf t (SUO_GW_TXCTL e.val) Fd.SUO_GW_RXCTL_HEAD ≠ rf s (SUO_GW_TXCTL e.val) Fd.SUO_GW_RXCTL_HEAD)))
  ∧ (∀ (e : Edge) (fr : EthFrame) (s : State), gwOn s e.val = true → fr.fcsOk = true → 64 ≤ fr.bytes.length → fr.bytes.length ≤ 9216 →
      let desc := headDesc s (SUO_GW_RXCTL e.val) (SUO_GW_RXBASE e.val)
      let len := fr.bytes.length
      let dropped := fun (t : State) => t.mem = s.mem ∧ otherRegs s t eventRegs
        ∧ ((live s (SUO_GW_DROPS e.val)).toNat + 1 < 2 ^ 48 → (live t (SUO_GW_DROPS e.val)).toNat = (live s (SUO_GW_DROPS e.val)).toNat + 1)
      ∃ t, exec (.gatewayRxFrame e fr) s = .next t ∧ t.cmem = s.cmem ∧ t.sites = s.sites ∧ t.edges = s.edges
        ∧ (∀ p, gatewayOf s e.val = some p → (port t p).xoff = (gwOn t e.val && fewFree t e.val) ∧ ∀ q, q ≠ p → port t q = port s q)
        ∧ (desc = Option.none → dropped t)
        ∧ ∀ d, desc = some d → let buf := bf d.2.2.1 0 48
            let fit := descOk s e.val d len = true ∧ panelRange s buf len = false
            (descBarred s d = true → t.mem = s.mem ∧ otherRegs s t errorRegs)
            ∧ (descBarred s d = false → (readDesc s d).2 = Option.none →
                (fr.tagOk = false → dropped t)
                ∧ (fr.tagOk = true → otherRegs s t (SUO_GW_RXCTL e.val :: errorRegs))
                ∧ (fr.tagOk = true → ¬ fit → bf (natOf (memReads t d.2.1 8)) 63 1 = 1 ∧ ∀ a, a < d.2.1 ∨ d.2.1 + 8 ≤ a → memRead t a = memRead s a)
                ∧ (fr.tagOk = true → fit → bf (natOf (memReads t d.2.1 8)) 62 1 = 1
                    ∧ (d.2.1 + 8 ≤ buf ∨ buf + len ≤ d.2.1 → memReads t buf len = fr.bytes))))
  ∧ (∀ (e : Edge) (prio : Fin 8) (xoff : Bool) (s : State) (p : Nat), gatewayOf s e.val = some p → ethernet s p = true →
      ∃ t, exec (.pfcReceive e prio xoff) s = .next t ∧ sameStores s t ∧ otherRegs s t []
        ∧ (port t p).paused = (if rf s (SUO_GW_CFG e.val) Fd.SUO_GW_CFG_PFC_PRIO = prio.val then xoff else (port s p).paused))
  ∧ ∀ (req : Requester) (e : Edge) (off : Fin 0x4_0000) (v : W64) (s : State), let o := 8 * off.val
      rejected s (baseSuo e.val + o) = false → permitted s (clsOf s req) true .suo e.val 0x3000 = true →
      ∃ t, exec (.suoProgRowWrite req e off v) s = .next t ∧ t.mem = s.mem ∧ t.cmem = s.cmem ∧ t.edges = s.edges
        ∧ (rf s (SUO_PROG_ERR e.val) Fd.SUO_PROG_ERR_LOCK = 1 → t.tables = s.tables ∧ otherRegs s t errorRegs)
        ∧ (rf s (SUO_PROG_ERR e.val) Fd.SUO_PROG_ERR_LOCK = 0 → otherRegs s t [SUO_PROG_ERR e.val]
            ∧ (∀ row, 0x10_0000 ≤ o → o < 0x12_0000 → row = (o - 0x10_0000) / 256 →
                (edgeCfgCheck s e.val (o % 256) v.toNat = 0 → tab t (edgeCfgKey e.val row (o % 256 / 8)) = v.toNat ∧ t.csr = s.csr)
                ∧ (edgeCfgCheck s e.val (o % 256) v.toNat ≠ 0 → t.tables = s.tables ∧ rf t (SUO_PROG_ERR e.val) Fd.SUO_PROG_ERR_ERR = 1
                    ∧ rf t (SUO_PROG_ERR e.val) Fd.SUO_PROG_ERR_ERR_CODE = edgeCfgCheck s e.val (o % 256) v.toNat))
            ∧ (0x8_0000 ≤ o → o < 0x8_8000 → edgeHopCheck (bf v.toNat 0 32) = 0 → edgeHopCheck (bf v.toNat 32 32) = 0 →
                tab t (edgeHopKey e.val ((o - 0x8_0000) / 4)) = bf v.toNat 0 32 ∧ tab t (edgeHopKey e.val ((o - 0x8_0000) / 4 + 1)) = bf v.toNat 32 32 ∧ t.csr = s.csr))

/-- R393, R398 to R407, R417: loads. -/
def Obligations.ModelLoadProtocol : Prop :=
  let shown := fun (t : State) (st code i : Nat) => rf t STM_LD_STATUS Fd.STM_LD_STATUS_STATE = st ∧ rf t STM_LD_STATUS Fd.STM_LD_STATUS_CODE = code
    ∧ rf t STM_LD_STATUS Fd.STM_LD_STATUS_INDEX = i % 2 ^ Fd.STM_LD_STATUS_INDEX.len
  let plc := fun (t : State) (i : Nat) => (curLd t).bind (fun q => q.2.plcs[i]?)
  let may := fun (s : State) (req : Requester) (check : Bool) => mayAccess s req STM_LD_CMD true = true ∧ ldAllowed s req (ldTarget s check) = true
  let engRegs := (List.range 16).flatMap (fun e => [STM_ISSUE_STATUS e, STM_ENG_STATUS e, STM_CACHE_CTRL e])
  let homesOk := fun (l : LoadX) => ∀ y ∈ l.slots, y.home < 16
  let failed := fun (s t : State) (code i : Nat) => sameStores s t ∧ t.sites = s.sites ∧ otherRegs s t (STM_LD_STATUS :: engRegs) ∧ shown t 5 code i
    ∧ (curLd t).map (fun q => q.2.slots) = some []
  let loading := fun (s : State) (p : Nat) (l : LoadX) => curLd s = some (p, l) ∧ ldState s = 2
  (∀ (req : Requester) (v : Verdict) (s : State), may s req true →
      ∃ t, exec (.ldCheck req v) s = .next t ∧ sameStores s t ∧ t.edges = s.edges ∧ t.sites = s.sites ∧ otherRegs s t [STM_LD_STATUS]
        ∧ (ldTest s v = Option.none → shown t 1 0 0 ∧ t.pnl.ld = some (manifestOf s).partition
            ∧ ∃ l, loadOf t (manifestOf s).partition = some l ∧ l.man = manifestOf s ∧ l.done = false ∧ l.plcs.length = (manifestOf s).placements.length)
        ∧ ∀ c i, ldTest s v = some (c, i) → t.parts = s.parts ∧ t.pnl = s.pnl ∧ (ldState s ≠ 1 → ldState s ≠ 2 → shown t 4 c i))
  ∧ (∀ (req : Requester) (s : State) (p : Nat) (l : LoadX), may s req false → curLd s = some (p, l) → ldState s = 1 → (∀ x ∈ l.plcs, x.pl.home < 16) →
      ∃ t, exec (.ldStart req) s = .next t ∧ t.cmem = s.cmem ∧ t.vregs = s.vregs ∧ t.pending = s.pending
        ∧ (fprMatches s l.man.fprGen l.man.fprDigest = false → sameStores s t ∧ t.edges = s.edges ∧ t.sites = s.sites ∧ otherRegs s t [STM_LD_STATUS] ∧ shown t 4 3 0
            ∧ t.parts = s.parts)
        ∧ (fprMatches s l.man.fprGen l.man.fprDigest = true → shown t 2 0 0
            ∧ (∀ i x, l.plcs[i]? = some x → plc t i = some { x with state := if x.state = 3 then 2 else 1 })
            ∧ ∀ x ∈ l.plcs, ∀ n, n < 4 → rf t (BSN_REGIONn (landSite x.pl.home) (188 + n)) Fd.BSN_REGIONn_CLASS = 0
                ∧ rf t (BSN_REGIONn (landSite x.pl.home) (188 + n)) Fd.BSN_REGIONn_DYN_WR = 1))
  ∧ (∀ (req : Requester) (v : Verdict) (s : State) (p : Nat) (l : LoadX), may s req false → curLd s = some (p, l) → (∀ x ∈ l.plcs, x.pl.home < 16) → homesOk l →
      let bad := firstBad (fun x : SetEntry × Nat => v.sets.getD x.2 false && sigHolds s v) l.man.sets.zipIdx
      ∃ t, exec (.ldVerify req v) s = .next t ∧ t.mem = s.mem ∧ t.cmem = s.cmem ∧ t.sites = s.sites
        ∧ (∀ i, bad = some i → failed s t 2 i)
        ∧ (bad = Option.none → (∀ x ∈ l.plcs, x.state = 3 → x.pl.dest = 1 →
              sha384 (memReads s x.pl.addr x.pl.bytes) = x.pl.digest ∧ markedLine s x.pl.addr x.pl.bytes = Option.none) →
            rd t STM_LD_STATUS = rd s STM_LD_STATUS ∧ t.parts = s.parts ∧ t.edges = s.edges ∧ sameStores s t))
  ∧ (∀ (req : Requester) (s : State) (p : Nat) (l : LoadX), may s req false → curLd s = some (p, l) → (ldState s = 1 ∨ ldState s = 2) → homesOk l →
      ∃ t, exec (.ldAbort req) s = .next t ∧ failed s t 0x12 0
        ∧ ∀ i x, l.plcs[i]? = some x → plc t i = some (if x.state = 1 ∨ x.state = 2 then { x with state := 0, blocks := 0, out := 0 } else x))
  ∧ (∀ (req : Requester) (v : W64) (s : State) (p : Nat) (l : LoadX) (set i b e n : Nat), mayAccess s req STM_LD_FEED true = true →
      ldAllowed s req p = true → loading s p l → fedSet l = some set → nextBlock l set = some (i, b, e, n) →
      ∃ t, exec (.ldFeedFilled req v) s = .next t ∧ sameStores s t ∧ otherRegs s t []
        ∧ (v.getLsbD n = true → slotFree l e n = true → (curLd t).map (fun q => q.2.slots) = some (l.slots ++ [⟨e, n, set, i, b, false, Option.none, []⟩]))
        ∧ (v.getLsbD n = false ∨ slotFree l e n = false → t = s))
  ∧ (∀ (set : Fin 64) (s : State) (p : Nat) (l : LoadX), loading s p l → homesOk l →
      (chainLost s l = true → ∃ t, exec (.ldBlockLanded set) s = .next t ∧ failed s t 0x12 0)
      ∧ ∀ x y m, chainLost s l = false → l.plcs[x.plc]? = some y → l.man.sets[x.set]? = some m →
          l.slots.find? (fun x => x.set == set.val && !x.issued && (match x.inJob with
            | some n => (edge s x.home).jobsFailed.contains n || jobDone s x.home (loadEntries + (4 * x.home + x.slot) * 4) n
            | Option.none => true)) = some x →
          let lost := match x.inJob with | some n => (edge s x.home).jobsFailed.contains n | Option.none => false
          ∃ t, exec (.ldBlockLanded set) s = .next t ∧ t.cmem = s.cmem ∧ t.sites = s.sites
            ∧ (lost = true → failed s t 0x11 x.plc)
            ∧ (lost = false → (plc t x.plc) = some { y with blocks := y.blocks + 1, state := if y.state = 4 then 1 else y.state }
                ∧ rd t STM_LD_STATUS = rd s STM_LD_STATUS
                ∧ (edge t x.home).hostNext = (edge s x.home).hostNext + b2n (decide (y.pl.dest = 1 ∧ (y.state = 1 ∨ y.state = 4))) + b2n (decide (m.down ≠ 0xFFFF))
                ∧ ∃ z ∈ ((curLd t).map (fun q => q.2.slots)).getD [], z.home = x.home ∧ z.slot = x.slot ∧ z.issued = true))
  ∧ (∀ (e : Edge) (n : Fin 4) (s : State) (p : Nat) (l : LoadX), loading s p l → homesOk l →
      (chainLost s l = true → ∃ t, exec (.ldSlotFreed e n) s = .next t ∧ failed s t 0x12 0)
      ∧ ∀ x y, chainLost s l = false → l.slots.find? (fun x => x.home == e.val && x.slot == n.val && x.issued) = some x → l.plcs[x.plc]? = some y →
          let lost := x.outJobs.any (fun j => (edge s e.val).jobsFailed.contains j)
          let runs := x.outJobs.any (fun j => (edge s e.val).hostJobs.any (fun h => h.1 == j))
          ∃ t, exec (.ldSlotFreed e n) s = .next t ∧ t.cmem = s.cmem ∧ t.sites = s.sites
            ∧ (lost = true → failed s t 0x11 x.plc) ∧ (lost = false → runs = true → t = s)
            ∧ (lost = false → runs = false →
                plc t x.plc = some { y with out := y.out + 1, state := if y.state = 1 ∧ blocksOf y.pl ≤ y.out + 1 then (if y.pl.dest = 1 then 2 else 5) else y.state }))
  ∧ (∀ (i : Fin 16384) (s : State) (p : Nat) (l : LoadX) (x : PlcX), loading s p l → l.plcs[i.val]? = some x → x.state = 2 → x.pl.home < 16 →
      markedLine s x.pl.addr x.pl.bytes = Option.none →
      let d := sha384 (memReads s x.pl.addr x.pl.bytes)
      ∃ t, exec (.ldPlacementDigest i) s = .next t ∧ t.cmem = s.cmem ∧ t.sites = s.sites
        ∧ (d = x.pl.digest → (plc t i.val).map (fun z => z.state) = some 3 ∧ sameStores s t
            ∧ otherRegs s t (STM_LD_STATUS :: (List.range 6).map (STM_EC_DIGESTn x.pl.home) ++ eventRegs))
        ∧ (d ≠ x.pl.digest → 2 ≤ x.tries → (plc t i.val).map (fun z => z.state) = some 4 ∧ shown t 5 0x10 i.val)
        ∧ (d ≠ x.pl.digest → x.tries < 2 → plc t i.val = some { x with state := 1, tries := x.tries + 1, blocks := 0, out := 0 }
            ∧ rd t STM_LD_STATUS = rd s STM_LD_STATUS
            ∧ ∀ m, l.man.sets[x.pl.set]? = some m → t.pnl.ldMsgs = s.pnl.ldMsgs ++ (if m.up = 0xFFFF then [] else [⟨true, m.up, x.pl.set, x.pl.index⟩])))
  ∧ (∀ (p : Part) (set : Fin 64) (index : Fin 65536) (s : State) (l : LoadX) (i : Nat) (x : PlcX) (e : SetEntry), loadOf s p.val = some l →
      l.plcs.findIdx? (fun x => x.pl.set == set.val && x.pl.index == index.val) = some i → l.plcs[i]? = some x → l.man.sets[set.val]? = some e →
      ∃ t, exec (.ldShardRequest p set index) s = .next t ∧ t.cmem = s.cmem
        ∧ (x.state = 3 ∧ x.pl.dest = 1 → t.pnl.ldMsgs = s.pnl.ldMsgs ++ [⟨false, e.down, set.val, index.val⟩]
            ∧ ∃ l', loadOf t p.val = some l' ∧ l'.plcs = l.plcs)
        ∧ (¬ (x.state = 3 ∧ x.pl.dest = 1) → (∃ l', loadOf t p.val = some l' ∧ l'.plcs[i]? = some { x with blocks := 0, out := 0 })
            ∧ t.pnl.ldMsgs = s.pnl.ldMsgs ++ (if e.up = 0xFFFF then [] else [⟨true, e.up, set.val, index.val⟩])))
  ∧ ∀ (units : List Stripe) (s : State), rf s STM_RD_CFG Fd.STM_RD_CFG_EN = 1 → s.pnl.rdLast + redigestSeconds s ≤ timeSec s →
      (∀ p l, p < 4 → loadOf s p = some l → ∀ x ∈ l.plcs, x.pl.home < 16) →
      ∃ t, exec (.redigestInterval units) s = .next t ∧ t.pnl.rdLast = timeSec s
        ∧ rf t STM_RD_STATUS Fd.STM_RD_STATUS_PASSES = (rf s STM_RD_STATUS Fd.STM_RD_STATUS_PASSES + 1) % 2 ^ Fd.STM_RD_STATUS_PASSES.len
        ∧ ((∀ p l, p < 4 → loadOf s p = some l → ∀ x ∈ l.plcs, x.state = 3 → x.pl.frozen = true → x.pl.dest = 1 →
              sha384 (memReads s x.pl.addr x.pl.bytes) = x.pl.digest ∧ markedLine s x.pl.addr x.pl.bytes = Option.none) →
            sameStores s t ∧ t.sites = s.sites ∧ t.parts = s.parts ∧ t.pnl.events = s.pnl.events
            ∧ otherRegs s t ([STM_RD_STATUS, STM_EG_STATUS] ++ (List.range 16).flatMap (fun e => (List.range 6).map (STM_EC_DIGESTn e)) ++ eventRegs))

/-- R412 to R416, R418: erasure coding. -/
def Obligations.ErasureGroupProtocol : Prop :=
  let egOnly := fun (s t : State) => t.cmem = s.cmem ∧ t.chans = s.chans ∧ t.lineKey = s.lineKey ∧ sameUnits s t ∧ otherRegs s t (STM_EG_STATUS :: eventRegs)
  let losses := fun (t : State) => rf t STM_EG_STATUS Fd.STM_EG_STATUS_LOSSES
  (∀ (req : Requester) (s : State), mayAccess s req STM_EG_CMD true = true → (egRec s).isSome = true → (egState s = 0 ∨ egState s = 1 ∨ egState s = 5) →
      ∃ t, exec (.egCommit req) s = .next t ∧ t.mem = s.mem ∧ egOnly s t ∧ egState t = 2 ∧ t.pnl.eg.ready = [] ∧ t.pnl.eg.digs = s.pnl.eg.digs)
  ∧ (∀ (pos : Fin 16) (digs : List (BitVec 384)) (s : State) (g : GroupRec), egRec s = some g → egState s = 2 → pos.val ≤ g.k + 1 →
      let bank := 1 - rf s STM_EG_STATUS Fd.STM_EG_STATUS_BANK
      let all := ∀ i, i < g.k + 2 → i = pos.val ∨ i ∈ s.pnl.eg.ready
      ∃ t, exec (.egReady pos digs) s = .next t ∧ t.mem = s.mem ∧ egOnly s t
        ∧ (∀ x st, x < g.slices.length → st < g.k + 2 → pos.val ≠ g.pos → g.k ≤ 14 → g.slices.length ≤ 16 → digOf t bank x st pos.val = digs.getD (x * (g.k + 2) + st) 0#384)
        ∧ (¬ all → rd t STM_EG_STATUS = rd s STM_EG_STATUS ∧ pos.val ∈ t.pnl.eg.ready)
        ∧ (all → egState t = 1 ∧ rf t STM_EG_STATUS Fd.STM_EG_STATUS_BANK = bank % 2
            ∧ rf t STM_EG_STATUS Fd.STM_EG_STATUS_GEN = (rf s STM_EG_STATUS Fd.STM_EG_STATUS_GEN + 1) % 2 ^ Fd.STM_EG_STATUS_GEN.len))
  ∧ (∀ (req : Requester) (pos : Fin 16) (s : State) (g : GroupRec), mayAccess s req STM_EG_CMD true = true → egRec s = some g →
      ∃ t, exec (.egLoss req pos) s = .next t ∧ t.mem = s.mem ∧ egOnly s t
        ∧ (g.k + 1 < pos.val ∨ egState s = 6 ∨ pos.val ∈ s.pnl.eg.lost → t = s)
        ∧ (pos.val ≤ g.k + 1 → egState s ≠ 6 → pos.val ∉ s.pnl.eg.lost → t.pnl.eg.lost = s.pnl.eg.lost ++ [pos.val] ∧ t.pnl.eg.ready = []
            ∧ t.pnl.eg.win = (if pos.val ∈ s.pnl.eg.win then s.pnl.eg.win else s.pnl.eg.win ++ [pos.val])
            ∧ losses t = t.pnl.eg.win.length % 2 ^ Fd.STM_EG_STATUS_LOSSES.len ∧ egState t = if 3 ≤ t.pnl.eg.win.length then 6 else 3))
  ∧ (∀ (req : Requester) (pos : Fin 16) (force : Bool) (xs : List Stripe) (s : State) (g : GroupRec), mayAccess s req STM_EG_CMD true = true → egRec s = some g →
      pos.val ∈ s.pnl.eg.lost → 2 ≤ s.pnl.eg.lost.length → egState s ≠ 6 → (egState s ≠ 5 ∨ force = true) →
      let bank := rf s STM_EG_STATUS Fd.STM_EG_STATUS_BANK
      let ys := ownUnits s g xs
      let good := ys.length = g.slices.length * (g.k + 2) ∧ ∀ x ∈ ys, ∃ u, rebuildUnit g pos.val x = some u ∧ sha384 u = digOf s bank x.slice x.stripe pos.val
      ∃ t, exec (.egRebuild req pos force xs) s = .next t ∧ egOnly s t
        ∧ (∀ x u sl, ys = [x] → rebuildUnit g pos.val x = some u → g.slices[x.slice]? = some sl →
            memReads t (bankBase s true sl + x.stripe * g.unit) u.length = u
            ∧ ∀ a, a < bankBase s true sl + x.stripe * g.unit ∨ bankBase s true sl + x.stripe * g.unit + u.length ≤ a → memRead t a = memRead s a)
        ∧ (¬ good → egState t = 4 ∧ t.pnl.eg.lost = s.pnl.eg.lost)
        ∧ (good → t.pnl.eg.lost = s.pnl.eg.lost.filter (fun q => q != pos.val) ∧ (egState t = if t.pnl.eg.lost = [] then 1 else 3)
            ∧ t.pnl.eg.win = if t.pnl.eg.lost = [] then [] else s.pnl.eg.win))
  ∧ (∀ (req : Requester) (xs : List Stripe) (s : State) (g : GroupRec), mayAccess s req STM_EG_CMD true = true → egRec s = some g →
      let ys := ownUnits s g xs
      let bad := digestsHold s (rf s STM_EG_STATUS Fd.STM_EG_STATUS_BANK) ys = true ∧ s.pnl.eg.lost.length ≤ 1 ∧ ys.all (parityHolds g) = false
      ∃ t, exec (.egVerify req xs) s = .next t ∧ t.mem = s.mem ∧ egOnly s t ∧ t.pnl = s.pnl ∧ (bad → egState t = 5) ∧ (¬ bad → t = s))
  ∧ (∀ (e : Edge) (acc : Bool) (coef : BitVec 8) (s : State), let a := STM_EC_CTRL e.val
      let n := ecLen s e.val
      let src := n ≠ 0 ∧ n % 4096 = 0 ∧ n ≤ 0x10_0000_0000 ∧ ecSrc s e.val % 4096 = 0 ∧ ecRange s e.val (ecSrc s e.val) n = true
      let dst := ecDst s e.val % 4096 = 0 ∧ ecRange s e.val (ecDst s e.val) n = true
      mayAccess s .steward a true = true → (edge s e.val).ecBusy = Option.none →
      (∃ t, exec (.ecMulxor e acc coef) s = .next t ∧ sameStores s t ∧ otherRegs s t [a] ∧ rf t a Fd.STM_EC_CTRL_ACC = b2n acc ∧ rf t a Fd.STM_EC_CTRL_COEF = coef.toNat
          ∧ (src ∧ dst → (edge t e.val).ecBusy = some ⟨1, acc, coef.toNat, ecSrc s e.val, ecDst s e.val, n⟩ ∧ rf t a Fd.STM_EC_CTRL_BUSY = 1)
          ∧ (¬ (src ∧ dst) → (edge t e.val).ecBusy = Option.none ∧ rf t a Fd.STM_EC_CTRL_ERR = 1))
      ∧ ∃ t, exec (.ecDigest e) s = .next t ∧ sameStores s t ∧ otherRegs s t [a] ∧ (src → (edge t e.val).ecBusy = some ⟨2, false, 0, ecSrc s e.val, ecDst s e.val, n⟩ ∧ rf t a Fd.STM_EC_CTRL_BUSY = 1)
          ∧ (¬ src → (edge t e.val).ecBusy = Option.none ∧ rf t a Fd.STM_EC_CTRL_ERR = 1))
  ∧ (∀ (e : Edge) (acc : Bool) (coef : BitVec 8) (s : State), mayAccess s .steward (STM_EC_CTRL e.val) true = true → (edge s e.val).ecBusy.isSome = true →
      (∃ t, exec (.ecMulxor e acc coef) s = .next t ∧ sameStores s t ∧ t.edges = s.edges ∧ otherRegs s t [STM_EC_CTRL e.val]
          ∧ rf t (STM_EC_CTRL e.val) Fd.STM_EC_CTRL_BUSY = rf s (STM_EC_CTRL e.val) Fd.STM_EC_CTRL_BUSY)
      ∧ ∃ t, exec (.ecDigest e) s = .next t ∧ sameStores s t ∧ t.edges = s.edges ∧ otherRegs s t [STM_EC_CTRL e.val]
          ∧ rf t (STM_EC_CTRL e.val) Fd.STM_EC_CTRL_BUSY = rf s (STM_EC_CTRL e.val) Fd.STM_EC_CTRL_BUSY)
  ∧ ∀ (e : Edge) (ue : Bool) (s : State) (o : EcOp), (edge s e.val).ecBusy = some o → (o.op = 1 ∨ o.op = 2) →
      let good := ue = false ∧ markedLine s o.src o.len = Option.none ∧ (o.op = 1 → o.acc = true → markedLine s o.dst o.len = Option.none)
      ∃ t, exec (.ecDone e ue) s = .next t ∧ t.cmem = s.cmem ∧ t.chans = s.chans ∧ (edge t e.val).ecBusy = Option.none ∧ rf t (STM_EC_CTRL e.val) Fd.STM_EC_CTRL_BUSY = 0
        ∧ (good → otherRegs s t (STM_EC_CTRL e.val :: (List.range 6).map (STM_EC_DIGESTn e.val) ++ eventRegs)
            ∧ rf t (STM_EC_CTRL e.val) Fd.STM_EC_CTRL_ERR = rf s (STM_EC_CTRL e.val) Fd.STM_EC_CTRL_ERR)
        ∧ (¬ good → rf t (STM_EC_CTRL e.val) Fd.STM_EC_CTRL_ERR = 1)
        ∧ (good → o.op = 1 → memReads t o.dst (mulxor s o).length = mulxor s o)
        ∧ (o.op = 2 → t.mem = s.mem) ∧ (∀ a, a < o.dst ∨ o.dst + o.len ≤ a → memRead t a = memRead s a)
        ∧ (good → o.op = 2 → ∀ i, i < 6 → (rd t (STM_EC_DIGESTn e.val i)).toNat = (sha384 (memReads s o.src o.len)).toNat / 2 ^ (64 * i) % 2 ^ 64)

/-- R419 to R430, R446, R449, R568, R570, R583: the supply. -/
def Obligations.SupplyResponses : Prop :=
  let only := fun (s t : State) (as : List Nat) => sameStores s t ∧ sameUnits s t ∧ otherRegs s t as
  let siteRails := fun (t : State) (k : Nat) (f : Fld) => rf t (PWR_SITE_STATUS k) f
  (∀ s : State, s.pnl.pwr.down = false → s.pnl.pwr.step < 7 → powerBarred s = false →
      ∃ t, exec .powerOnStep s = .next t ∧ only s t ((List.range 4).map PWR_IBCq ++ [PWR_STATUS]) ∧ t.pnl.pwr.step = s.pnl.pwr.step + 1
        ∧ (s.pnl.pwr.step = 2 → ∀ q, q < 4 → rf t (PWR_IBCq q) Fd.PWR_IBCq_PHASES = 255) ∧ (s.pnl.pwr.step ≠ 2 → t.csr = s.csr))
  ∧ (∀ s : State, s.pnl.pwr.down = false → s.pnl.pwr.step = 7 → s.pnl.pwr.wave < 8 →
      ∃ t, exec .sitePowerWave s = .next t ∧ only s t ((List.range 144).map PWR_SITE_STATUS) ∧ t.pnl.pwr.wave = s.pnl.pwr.wave + 1
        ∧ ∀ k, k < 144 → (k % 8 = s.pnl.pwr.wave → siteState s k ≠ 2 → siteRails t k Fd.PWR_SITE_STATUS_N_ON = 1 ∧ siteRails t k Fd.PWR_SITE_STATUS_S_ON = 1
              ∧ (siteState s k = 0 → siteRails t k Fd.PWR_SITE_STATUS_C_ON = 1
                  ∧ siteRails t k Fd.PWR_SITE_STATUS_C_SET = bf (rd s (FUSE_VSETn k)).toNat (16 * rf s CLK_PANEL Fd.CLK_PANEL_OPPT) 10)
              ∧ (siteState s k ≠ 0 → siteRails t k Fd.PWR_SITE_STATUS_C_ON = siteRails s k Fd.PWR_SITE_STATUS_C_ON))
            ∧ (k % 8 ≠ s.pnl.pwr.wave ∨ siteState s k = 2 → rd t (PWR_SITE_STATUS k) = rd s (PWR_SITE_STATUS k)))
  ∧ (∀ s : State, s.pnl.pwr.down = true →
      ∃ t, exec .powerDown s = .next t ∧ t.mem = s.mem ∧ t.pnl.pwr.step = 1 ∧ t.pnl.pwr.wave = 0
        ∧ (∀ k, k < 144 → siteRails t k Fd.PWR_SITE_STATUS_C_ON = 0 ∧ siteRails t k Fd.PWR_SITE_STATUS_N_ON = 0 ∧ siteRails t k Fd.PWR_SITE_STATUS_S_ON = 0)
        ∧ (∀ q, q < 4 → rf t (PWR_IBCq q) Fd.PWR_IBCq_PHASES = 0) ∧ (∀ p, p < 128 → portState t p = 0) ∧ (∀ d, d < 160 → aligned t d = false)
        ∧ (s.pnl.nvmLog.length + s.pnl.log.length ≤ 65536 → ∀ r ∈ s.pnl.log, ∃ q ∈ t.pnl.nvmLog, q.seq = r.seq))
  ∧ (∀ (mv : Int) (s : State),
      (mv < -60_000 ∨ 60_000 < mv → exec (.inputRange mv) s = .fault .beyondAbsoluteRating)
      ∧ (42_000 ≤ mv → mv ≤ 56_000 → ∃ t, exec (.inputRange mv) s = .next t ∧ only s t [PWR_INPUT] ∧ rf t PWR_INPUT Fd.PWR_INPUT_VIN = mv.toNat / 10
          ∧ 4 ∉ t.pnl.pwr.trig)
      ∧ ((38_000 ≤ mv ∧ mv < 42_000) ∨ (56_000 < mv ∧ mv ≤ 58_000) → ∃ t, exec (.inputRange mv) s = .next t
          ∧ only s t ([PWR_INPUT, PWR_EVENTS] ++ holdRecord) ∧ 4 ∈ t.pnl.pwr.trig ∧ (rd t PWR_EVENTS).getLsbD 4 = true ∧ t.pnl.pwr.down = true
          ∧ (s.pnl.pwr.down = false → holdRecorded s t stewardDom hThrottle (scOf s 0)))
      ∧ ((-60_000 ≤ mv ∧ mv < 38_000) ∨ (58_000 < mv ∧ mv ≤ 60_000) → ∃ t, exec (.inputRange mv) s = .next t ∧ t.mem = s.mem ∧ t.pnl.pwr.step = 1
          ∧ t.pnl.pwr.down = true ∧ ∀ p, p < 128 → portState t p = 0))
  ∧ (∀ s : State,
      (∃ t, exec (.offL true) s = .next t ∧ only s t holdRecord ∧ t.pnl.pwr.down = true ∧ t.pnl.pwr.offLow = true)
      ∧ (s.pnl.pwr.offLow = true → ∃ t, exec (.offL false) s = .next t ∧ t.pending = s.pending ∧ t.pnl.pwr.offLow = false ∧ t.pnl.pwr.down = false
          ∧ t.pnl.pwr.step = 1 ∧ t.pnl.pwr.wave = 0 ∧ t.pnl.boot.start = some false ∧ stage t = 0 ∧ t.pnl.log = s.pnl.log ∧ t.pnl.nvmLog = s.pnl.nvmLog)
      ∧ (s.pnl.pwr.down = false → ∃ t, exec (.throttleL true) s = .next t ∧ only s t [] ∧ t.pnl.pwr.lows = s.pnl.pwr.lows + 1
          ∧ (1 ≤ s.pnl.pwr.lows → 1 ∈ t.pnl.pwr.trig) ∧ (s.pnl.pwr.lows = 0 → t.pnl.pwr.trig = s.pnl.pwr.trig))
      ∧ (s.pnl.pwr.down = false → ∃ t, exec (.throttleL false) s = .next t ∧ only s t [] ∧ t.pnl.pwr.lows = 0 ∧ 1 ∉ t.pnl.pwr.trig)
      ∧ (standbyOk s = false → ∃ t, exec .activeStewardFailure s = .next t ∧ only s t holdRecord ∧ t.pnl.pwr.down = true)
      ∧ ∀ b vin, ∃ t, exec (.inputSenseOpen b vin) s = .next t ∧ only s t [PWR_INPUT] ∧ rf t PWR_INPUT Fd.PWR_INPUT_VIN = vin.toNat ∧ t.pnl.pwr.senseOpen = b)
  ∧ (∀ (q : Fin 4) (phase : Option (Fin 8)) (s : State),
      ∃ t ev, exec (.ibcPhaseLoss q phase) s = .next t ∧ only s t [PWR_IBCq q.val, PWR_EVENTS, PWR_STATUS] ∧ t.pnl.events = s.pnl.events ++ [ev]
        ∧ ev.cls = 5 ∧ ev.kind = 11 ∧ ev.index = q.val
        ∧ (∀ i, phase = some i → (rd t (PWR_IBCq q.val)).getLsbD i.val = false ∧ (rd t PWR_EVENTS).getLsbD 8 = true)
        ∧ (phase = Option.none → rf t (PWR_IBCq q.val) Fd.PWR_IBCq_FAILED = 1 ∧ rf t (PWR_IBCq q.val) Fd.PWR_IBCq_PHASES = 0)
        ∧ (phasesOf t q.val < 7 → (rd t PWR_EVENTS).getLsbD 9 = true) ∧ rf t PWR_STATUS Fd.PWR_STATUS_CAP_EFF = capEff t % 2 ^ Fd.PWR_STATUS_CAP_EFF.len)
  ∧ (∀ (d : Dom) (rail : Fin 4) (s : State),
      (if d.val < 144 then rf s (PWR_SITE_STATUS d.val) Fd.PWR_SITE_STATUS_N_ON = 1 ∧ (rail.val = 0 → rf s (PWR_SITE_STATUS d.val) Fd.PWR_SITE_STATUS_C_ON = 1)
       else unitCause s 5 (d.val - 144) = 0) →
      ∃ t ev, exec (.railTrip d rail) s = .next t ∧ sameStores s t ∧ sparesIssues s t
        ∧ otherRegs s t ((if d.val < 144 then [PWR_SITE_STATUS d.val] else []) ++ [PWR_EVENTS] ++ holdRegs d.val ++ stopRegs d.val)
        ∧ holdRaised s t d.val hError (scOf s d.val) ∧ t.pnl.events = s.pnl.events ++ [ev] ∧ ev.cls = 4 ∧ ev.fence.isSome = true
        ∧ (rd t PWR_EVENTS).getLsbD (if rail.val = 3 then 11 else 10) = true
        ∧ (d.val < 144 → siteRails t d.val Fd.PWR_SITE_STATUS_C_ON = 0 ∧ (rail.val = 0 → siteRails t d.val Fd.PWR_SITE_STATUS_N_ON = 1)
            ∧ (rail.val ≠ 0 → siteRails t d.val Fd.PWR_SITE_STATUS_N_ON = 0)))
  ∧ (∀ (r : Option (Site × Fin 3)) (x : RailSample) (req : Requester) (v : W64) (s : State), let a := minvReg r
      (∃ t, exec (.minvSample r x) s = .next t ∧ only s t ([a, a + 8, a + 16] ++ (if r.isNone then [PWR_INPUT] else []))
          ∧ (x.volts % 65536 < rf s a Fd.PWR_MINVr_MINV → rf t a Fd.PWR_MINVr_MINV = x.volts % 65536 ∧ rf t a Fd.PWR_MINVr_AMPS = x.amps % 2 ^ Fd.PWR_MINVr_AMPS.len)
          ∧ (rf s a Fd.PWR_MINVr_MINV ≤ x.volts % 65536 → rd t a = rd s a))
      ∧ (mayAccess s req a true = true → ∃ t, exec (.minvRearm req r v) s = .next t ∧ only s t [a]
          ∧ (fget Fd.PWR_MINVr_REARM v = 1 → rf t a Fd.PWR_MINVr_MINV = 65535) ∧ (fget Fd.PWR_MINVr_REARM v = 0 → t = s)))
  ∧ (∀ (k : Site) (r : Fin 3) (est : BitVec 16) (s : State), let a := PWR_RDYNr k.val r.val
      ∃ t, exec (.rdynUpdate k r est) s = .next t ∧ only s t [a, PWR_EVENTS] ∧ rf t a Fd.PWR_RDYNr_EST = est.toNat
        ∧ (deployed s = false → rf s a Fd.PWR_RDYNr_BASE_VALID = 0 → rf t a Fd.PWR_RDYNr_CRACK = rf s a Fd.PWR_RDYNr_CRACK ∧ t.pnl.events = s.pnl.events)
        ∧ (rf s a Fd.PWR_RDYNr_BASE_VALID = 1 → 1440 ≤ (sget (fun _ => RunAvg.init) s.pnl.pwr.rdyn (k.val * 3 + r.val)).cnt →
            130 * rf s a Fd.PWR_RDYNr_BASE ≤ 100 * est.toNat → 9 ≤ (sget (fun _ => RunAvg.init) s.pnl.pwr.rdyn (k.val * 3 + r.val)).run → rf t a Fd.PWR_RDYNr_CRACK = 1))
  ∧ (∀ (q : Nat) (qs : List Nat) (s : State), s.pnl.wakeQ = q :: qs →
      let recent := s.pnl.wakeAt.filter (fun x => Nat.blt s.pnl.wall (x + 64))
      ∃ t best, exec .siteWakeGrant s = .next t ∧ sameStores s t ∧ t.cores = s.cores ∧ otherRegs s t eventRegs ∧ best ∈ s.pnl.wakeQ ∧ (∀ x ∈ s.pnl.wakeQ, best ≤ x)
        ∧ (recent.length < 18 → t.pnl.wakeQ = s.pnl.wakeQ.erase best ∧ t.pnl.wakeAt = recent ++ [s.pnl.wall] ∧ (site t (best % 256)).wake = 3)
        ∧ (18 ≤ recent.length → t.pnl.wakeQ = s.pnl.wakeQ ∧ t.sites = s.sites ∧ best % 256 ∈ t.pnl.pwr.wakeDef))
  ∧ ∀ (req : Requester) (v : W64) (s : State), mayAccess s req PWR_CAP true = true →
      let cap := fget Fd.PWR_CAP_CAP v
      let trip := fget Fd.PWR_CAP_TRIP v
      ∃ t, exec (.pwrCapWrite req v) s = .next t ∧ sameStores s t ∧ sameUnits s t
        ∧ (cap ≤ trip → trip ≤ 24_000 → otherRegs s t [PWR_CAP, PWR_STATUS] ∧ rf t PWR_CAP Fd.PWR_CAP_CAP = cap ∧ rf t PWR_CAP Fd.PWR_CAP_TRIP = trip
            ∧ rf t PWR_STATUS Fd.PWR_STATUS_CAP_EFF = capEff t % 2 ^ Fd.PWR_STATUS_CAP_EFF.len)
        ∧ (trip < cap ∨ 24_000 < trip → otherRegs s t errorRegs)

/-- R431 to R437: heat. -/
def Obligations.ThermalResponses : Prop :=
  let only := fun (s t : State) (as : List Nat) => t.mem = s.mem ∧ t.cmem = s.cmem ∧ t.chans = s.chans ∧ t.vregs = s.vregs ∧ t.cores = s.cores ∧ t.sites = s.sites
    ∧ t.edges = s.edges ∧ t.ports = s.ports ∧ t.parts = s.parts ∧ otherRegs s t as
  (∀ (i : Fin 354) (x inlet outlet : BitVec 8) (s : State),
      ∃ t, exec (.sensorSample [(i, x)] inlet outlet) s = .next t
        ∧ only s t ([THM_STATUS, THM_EVENTS, PWR_STATUS] ++ (List.range 144).flatMap (fun k => [THM_SITE k, THM_SITE_HEAD k])
            ++ (List.range 32).map HBM_TEMP ++ (List.range 16).map SUO_ENG_STATUS)
        ∧ dieTemp t i.val = x.toNat ∧ rf t THM_STATUS Fd.THM_STATUS_INLET = inlet.toNat ∧ rf t THM_STATUS Fd.THM_STATUS_OUTLET = outlet.toNat
        ∧ (i.val < 144 → rf t (THM_SITE i.val) Fd.THM_SITE_C_DEGC = x.toNat)
        ∧ (∀ k, i.val = 144 + k → k < 144 → rf t (THM_SITE k) Fd.THM_SITE_B_DEGC = x.toNat
            ∧ (rf s THM_CFG Fd.THM_CFG_THR_B < x.toNat → rf t (THM_SITE k) Fd.THM_SITE_THROTTLE = 1))
        ∧ (∀ c, dieLimits i.val = some c → c.1 ≤ x.toNat → atTrip s i.val = false → 2 ∈ t.pnl.pwr.trig ∧ (rd t THM_EVENTS).getLsbD 1 = true
            ∧ t.pnl.events.length = s.pnl.events.length + 1)
        ∧ t.pnl.pwr.inletRun = (if 40 < inlet.toNat then s.pnl.pwr.inletRun + 1 else 0))
  ∧ (∀ (k : Site) (s : State), rf s (THM_SITE k.val) Fd.THM_SITE_THROTTLE = 1 → 100 ≤ sget (fun _ => 0) s.pnl.pwr.thrLow k.val →
      ∃ t, exec (.throttleClear k) s = .next t ∧ sameStores s t ∧ sameUnits s t ∧ otherRegs s t [THM_SITE k.val, THM_STATUS, PWR_STATUS]
        ∧ rf t (THM_SITE k.val) Fd.THM_SITE_THROTTLE = 0
        ∧ ((∀ j, j < 144 → j ≠ k.val → rf s (THM_SITE j) Fd.THM_SITE_THROTTLE = 0) → rf t THM_STATUS Fd.THM_STATUS_THROTTLE = 0 ∧ rf t PWR_STATUS Fd.PWR_STATUS_THERMAL = 0)
        ∧ ((∃ j, j < 144 ∧ j ≠ k.val ∧ rf s (THM_SITE j) Fd.THM_SITE_THROTTLE = 1) → rf t THM_STATUS Fd.THM_STATUS_THROTTLE = 1))
  ∧ (∀ (i : Fin 354) (c : Nat × Nat) (s : State), dieLimits i.val = some c → (c.2 ≤ dieTemp s i.val ∨ 10_000 ≤ sget (fun _ => 0) s.pnl.pwr.tripRun i.val) → s.pnl.pwr.down = false →
      ∃ t, exec (.thermalCritical i) s = .next t ∧ sameStores s t ∧ sameUnits s t ∧ otherRegs s t (THM_EVENTS :: holdRecord) ∧ t.pnl.pwr.down = true
        ∧ (rd t THM_EVENTS).getLsbD 2 = true ∧ holdRecorded s t stewardDom hThrottle (scOf s 0))
  ∧ (∀ s : State,
      (∃ t, exec .inletHigh s = .next t ∧ sameStores s t ∧ sameUnits s t ∧ otherRegs s t [THM_EVENTS]
          ∧ (100_000 ≤ s.pnl.pwr.inletRun → (rd t THM_EVENTS).getLsbD 3 = true) ∧ (s.pnl.pwr.inletRun < 100_000 → t = s))
      ∧ (∃ t, exec .flowLow s = .next t ∧ sameStores s t ∧ sameUnits s t ∧ otherRegs s t [THM_EVENTS]
          ∧ (1_000_000 ≤ s.pnl.pwr.flowRun → (rd t THM_EVENTS).getLsbD 4 = true) ∧ (s.pnl.pwr.flowRun < 1_000_000 → t = s))
      ∧ (∃ t, exec .cycleCountSave s = .next t ∧ sameUnits s t ∧ t.mem = s.mem ∧ t.cmem = s.cmem ∧ t.chans = s.chans ∧ t.vregs = s.vregs ∧ t.pnl = s.pnl ∧ otherRegs s t []
          ∧ (swf (fun _ => 0) s.tables = true → (∀ a, tk 18 ≤ a → a < tk 19 → tab t (a + tk 1) = tab s a) ∧ ∀ a, a < tk 19 ∨ tk 20 ≤ a → tab t a = tab s a))
      ∧ ∃ t, exec .rainflowSample s = .next t ∧ sameUnits s t ∧ t.mem = s.mem ∧ t.cmem = s.cmem ∧ t.chans = s.chans ∧ t.vregs = s.vregs ∧ otherRegs s t []
          ∧ ∀ i x, s.pnl.pwr.dieT = [(i, x)] → (sget (fun _ => []) t.pnl.pwr.rain i).head? = some x ∧ ∀ a, (a < cycKey i 0 ∨ cycKey i 15 < a) → tab t a = tab s a)
  ∧ (∀ (siteP : List (Site × BitVec 48)) (edgeP : List (Edge × BitVec 16)) (s : State),
      ∃ t, exec (.thermalModelUpdate siteP edgeP) s = .next t
        ∧ only s t (THM_STATUS :: (List.range 144).flatMap (fun k => [THM_SITE k, THM_SITE_HEAD k, PWR_SITE_POWER k]) ++ eventRegs)
        ∧ (∀ k w, siteP = [(k, w)] → (rd t (PWR_SITE_POWER k.val)).toNat = w.toNat)
        ∧ (∀ e w, edgeP = [(e, w)] → edgeDraw t e.val = w.toNat)
        ∧ ∀ k, k < 144 → siteState s k ≠ 2 → rf s (THM_SITE k) Fd.THM_SITE_THROTTLE = 1 → siteP = [] →
            rf t (THM_SITE_HEAD k) Fd.THM_SITE_HEAD_HEAD = siteDraw s k * 9 / 100 % 2 ^ Fd.THM_SITE_HEAD_HEAD.len)
  ∧ ∀ (i : Fin 354) (x p inlet : Nat) (s : State),
      ∃ t, exec (.rthUpdate [(i, x, p)] inlet) s = .next t ∧ only s t [THM_EVENTS, THM_STATUS]
        ∧ (2 * p < 1000 * dieBudget i.val → t = s)
        ∧ (1000 * dieBudget i.val ≤ 2 * p → p ≠ 0 →
            fget Fd.THM_DIE_RTH_RTH (BitVec.ofNat 64 (tab t (rthKey i.val))) = min 65535 ((x - inlet) * 1000 / p) % 2 ^ Fd.THM_DIE_RTH_RTH.len)

/-- R441 to R444: floor work, duty and emergencies. -/
def Obligations.ThrottleControl : Prop :=
  let st := fun (s : State) (f : Fld) => rf s PWR_STATUS f
  (∀ (able : Bool) (s : State),
      ∃ t, exec (.floorWorkUpdate able) s = .next t ∧ sameStores s t ∧ sameUnits s t ∧ otherRegs s t ([PWR_STATUS, PWR_EVENTS] ++ eventRegs)
        ∧ t.pnl.pwr.tau = s.pnl.pwr.tau + 1
        ∧ (∀ f, f = floorW (modPwr s (fun p => { p with tau := p.tau + 1 })) →
            st t Fd.PWR_STATUS_FLOOR_W = f % 2 ^ Fd.PWR_STATUS_FLOOR_W.len
            ∧ (st t Fd.PWR_STATUS_FLOOR_ON = 1 ↔ draw s < f ∧ st s Fd.PWR_STATUS_DUTY_PCT = 0 ∧ st s Fd.PWR_STATUS_EMERG = 0)
            ∧ (draw s < f → st s Fd.PWR_STATUS_DUTY_PCT = 0 → st s Fd.PWR_STATUS_EMERG = 0 → able = false → (rd t PWR_EVENTS).getLsbD 6 = true)))
  ∧ (∀ (d : BitVec 16) (s : State),
      let h := st s Fd.PWR_STATUS_DUTY_PCT
      let hot := capEff s < d.toNat ∨ ∃ k, k < 144 ∧ siteOver s k = true
      ∃ t, exec (.dutyUpdate d) s = .next t ∧ sameStores s t ∧ sameUnits s t ∧ otherRegs s t ([PWR_STATUS, PWR_INPUT] ++ eventRegs)
        ∧ st t Fd.PWR_STATUS_DRAW = d.toNat ∧ rf t PWR_INPUT Fd.PWR_INPUT_PIN = d.toNat ∧ t.pnl.pwr.dutyN = (s.pnl.pwr.dutyN + 1) % 10
        ∧ ((s.pnl.pwr.dutyN + 1) % 10 ≠ 0 → st t Fd.PWR_STATUS_DUTY_PCT = h)
        ∧ ((s.pnl.pwr.dutyN + 1) % 10 = 0 → hot → 1 ≤ s.pnl.pwr.hot → st t Fd.PWR_STATUS_DUTY_PCT = min 90 (h + 5) ∧ st t Fd.PWR_STATUS_DUTY = 1)
        ∧ ((s.pnl.pwr.dutyN + 1) % 10 = 0 → ¬ hot → 100 * d.toNat < 95 * capEff s → st t Fd.PWR_STATUS_DUTY_PCT = h - 5))
  ∧ (∀ s : State, st s Fd.PWR_STATUS_DUTY_PCT ≠ 0 →
      ∃ t, exec .dutyHold s = .next t ∧ sameStores s t ∧ sameUnits s t ∧ otherRegs s t (holdRecord ++ eventRegs) ∧ hThrottle ∈ t.pnl.causes
        ∧ holdRecorded s t stewardDom hThrottle (scOf s 0)
        ∧ ((live s PWR_DUTY_NS).toNat + 2000 < 2 ^ 48 → (live t PWR_DUTY_NS).toNat = (live s PWR_DUTY_NS).toNat + 2000))
  ∧ (∀ (pin : BitVec 16) (breach : Bool) (s : State), (s.pnl.pwr.trig ≠ [] ∨ rf s PWR_CAP Fd.PWR_CAP_TRIP < pin.toNat) → st s Fd.PWR_STATUS_EMERG = 0 →
      ∃ t, exec (.emergencyThrottle pin breach) s = .next t ∧ sameStores s t ∧ sameUnits s t ∧ otherRegs s t ([PWR_STATUS, PWR_EVENTS] ++ holdRecord ++ eventRegs)
        ∧ st t Fd.PWR_STATUS_EMERG = 1 ∧ st t Fd.PWR_STATUS_FLOOR_ON = 0 ∧ holdRecorded s t stewardDom hThrottle (scOf s 0) ∧ hThrottle ∈ t.pnl.causes
        ∧ (rf s PWR_CAP Fd.PWR_CAP_TRIP < pin.toNat → 0 ∈ t.pnl.pwr.trig ∧ (rd t PWR_EVENTS).getLsbD 0 = true)
        ∧ (∀ c ∈ s.pnl.pwr.trig, c < 5 → (rd t PWR_EVENTS).getLsbD c = true))
  ∧ ∀ (pin : BitVec 16) (s : State), (∀ c ∈ s.pnl.pwr.trig, (c = 0 ∧ pin.toNat ≤ rf s PWR_CAP Fd.PWR_CAP_TRIP) ∨ (c = 2 ∧ thermalLasts s = false) ∨ c = 3) →
      (capacityLost s = false ∨ draw s ≤ capEff s) → st s Fd.PWR_STATUS_EMERG = 1 →
      ∃ t, exec (.emergencyClear pin) s = .next t ∧ sameStores s t ∧ sameUnits s t ∧ otherRegs s t [PWR_STATUS, CLK_HOLD_STATUS] ∧ t.pnl.pwr.trig = []
        ∧ st t Fd.PWR_STATUS_EMERG = 0 ∧ st t Fd.PWR_STATUS_DUTY_PCT = 90 ∧ t.pnl.causes = s.pnl.causes.filter (fun c => c != hThrottle)

/-- R455 to R467, R473: bring-up. What a start does to slot keys rests on log entry 4. -/
def Obligations.BringUpProtocol : Prop :=
  let stores := fun (s t : State) => t.mem = s.mem ∧ t.lineKey = s.lineKey ∧ t.cmem = s.cmem ∧ t.chans = s.chans ∧ t.vregs = s.vregs ∧ t.pending = s.pending
  let units := fun (s t : State) => t.cores = s.cores ∧ t.sites = s.sites ∧ t.edges = s.edges ∧ t.hbms = s.hbms ∧ t.ports = s.ports ∧ t.parts = s.parts
  let good := fun (s : State) (i : Nat) => slotOk s i && !slotFailed s i
  let recovers := fun (t : State) (c : Nat) => stage t = 7 ∧ rf t BOOT_STATUS Fd.BOOT_STATUS_RECOVERY_CAUSE = c
  let booted := fun (t : State) (i : Nat) => stage t = 2 ∧ rf t BOOT_STATUS Fd.BOOT_STATUS_SLOT = i
  let netBit := fun (s : State) (k : Nat) => (rd s (BOOT_READY_NETn (k / 64))).getLsbD (k % 64)
  let siteBit := fun (s : State) (k : Nat) => (rd s (BOOT_READY_SITEn (k / 64))).getLsbD (k % 64)
  (∀ s : State, s.pnl.boot.running = true → stage s < 2 →
      ∃ t, exec .slotSelection s = .next t ∧ sameStores s t ∧ sameUnits s t ∧ otherRegs s t [BOOT_STATUS, BOOT_IMG]
        ∧ (slotFailed s 0 = true ∧ slotFailed s 1 = true → recovers t 3)
        ∧ (¬ (slotFailed s 0 = true ∧ slotFailed s 1 = true) → good s 0 = false → good s 1 = false → recovers t 1)
        ∧ (∀ i, i < 2 → good s i = true → good s (1 - i) = false → booted t i)
        ∧ (good s 0 = true → good s 1 = true → ∀ x y, slotImage s 0 = some x → slotImage s 1 = some y →
            (x.secVersion.toNat < y.secVersion.toNat → booted t 1) ∧ (y.secVersion.toNat < x.secVersion.toNat → booted t 0)
            ∧ (x.secVersion = y.secVersion → (x.buildSeq.toNat < y.buildSeq.toNat → booted t 1) ∧ (y.buildSeq.toNat < x.buildSeq.toNat → booted t 0)
                ∧ (x.buildSeq = y.buildSeq → if headDigest x = headDigest y then booted t 0 else recovers t 2))))
  ∧ (∀ s : State, s.pnl.boot.running = true → 2 ≤ stage s → stage s ≤ 5 → rf s BOOT_LOCK Fd.BOOT_LOCK_LOCK = 0 →
      let slot := rf s BOOT_STATUS Fd.BOOT_STATUS_SLOT
      ∃ t, exec .bootWatchdog s = .next t ∧ sameStores s t ∧ sameUnits s t ∧ otherRegs s t ([BOOT_STATUS, BOOT_IMG] ++ readyRegs BOOT_READY_SVC)
        ∧ slotFailed t slot = true ∧ t.pnl.boot.step = min s.pnl.boot.step 1 ∧ (∀ i, i < 3 → (rd t BOOT_READY_SVC).getLsbD i = false)
        ∧ (slotFailed s (1 - slot) = true → recovers t 3) ∧ (good s (1 - slot) = true → booted t (1 - slot))
        ∧ (slotFailed s (1 - slot) = false → slotOk s (1 - slot) = false → recovers t 1))
  ∧ (∀ (i : Fin 2) (im : CfgImage) (s : State), stage s = 7 → imageVerifies s im = true →
      ∃ t, exec (.romRecoveryImage i im) s = .next t ∧ sameStores s t ∧ sameUnits s t ∧ otherRegs s t [BOOT_STATUS] ∧ slotImage t i.val = some im
        ∧ slotImage t (1 - i.val) = slotImage s (1 - i.val) ∧ slotFailed t i.val = false ∧ (rd t BOOT_STATUS).getLsbD (7 + i.val) = true)
  ∧ (∀ s : State, s.pnl.boot.start = some false →
      ∃ t, exec .coldStart s = .next t ∧ stores s t ∧ sameUnits s t
        ∧ otherRegs s t ([BOOT_STATUS, CLK_PANEL, SEC_SLOTS] ++ (List.range 16).map SEC_EDGE_STATUS) ∧ t.pnl.boot.start = Option.none
        ∧ t.pnl.boot.running = true ∧ t.pnl.boot.warm = false ∧ t.pnl.boot.step = 0 ∧ stage t = 1 ∧ rf t CLK_PANEL Fd.CLK_PANEL_OPPT = 3 ∧ t.pnl.relReq = []
        ∧ (∀ i, i < 32 → (rd t SEC_SLOTS).getLsbD i = true ∧ (rd t SEC_SLOTS).getLsbD (32 + i) = false ∧ tab t (slotKey i) = tab s (slotKey i) + 1 ∧ tab t (slotImport i) = 0)
        ∧ (swf (fun _ => 0) s.tables = true →
            (∀ a, tk 1 ≤ a → a < tk 2 → (∀ k, k < 144 → a ≠ unitKey 2 k) →
              tab t a = if (storedRecord s).isSome = true ∧ goesCold s a (tab s a) = false then tab s a else 0)
            ∧ (∀ k, k < 144 → (siteState t k = 0 → 52 ≤ (enabledCores t k).length)
                ∧ ((storedRecord s).isSome = true → tab s (unitKey 2 k) ≠ 0 → goesCold s (unitKey 2 k) (tab s (unitKey 2 k)) = false → tab t (unitKey 2 k) = tab s (unitKey 2 k)))
            ∧ (∀ a, tk 23 ≤ a → a < tk 24 → tab t a = 0)
            ∧ ∀ a, (a < tk 1 ∨ tk 2 ≤ a) → (a < tk 23 ∨ tk 24 ≤ a) → (∀ i, i < 32 → a ≠ slotKey i ∧ a ≠ slotImport i) → tab t a = tab s a))
  ∧ (∀ s : State, s.pnl.boot.start = some true →
      ∃ t, exec .warmStart s = .next t ∧ stores s t ∧ sameUnits s t
        ∧ otherRegs s t ([BOOT_STATUS, CLK_PANEL, SEC_SLOTS] ++ (List.range 16).map SEC_EDGE_STATUS) ∧ t.pnl.boot.start = Option.none
        ∧ t.pnl.boot.running = true ∧ t.pnl.boot.warm = true ∧ t.pnl.boot.step = 0 ∧ stage t = 1 ∧ rf t BOOT_STATUS Fd.BOOT_STATUS_WARM = 1
        ∧ rf t CLK_PANEL Fd.CLK_PANEL_OPPT = 3 ∧ ∀ a, (∀ i, i < 32 → a ≠ slotKey i ∧ a ≠ slotImport i) → tab t a = tab s a)
  ∧ (∀ (n : Fin 15) (r : BringResult) (s : State), s.pnl.boot.running = true → stage s ≠ 7 → stage s ≠ 8 → s.pnl.boot.step < n.val → (n.val < 2 ∨ 2 ≤ stage s) →
      let s1 := if s.pnl.boot.warm then s else restoreCauses s
      let digest := bytesOf 48 (sha384 (fprBody s1 (Config.freeBits 8 s.fresh).toNat)).toNat
      let reason := if s.pnl.boot.warm then 2 else if s.pnl.boot.released.any (fun u => unitEnabled s u.1 u.2) then 4 else 1
      ∃ t, exec (.bringupStepDone n .panel r) s = .next t ∧ (n.val = 14 → t = applyPresets (modBoot s (fun b => { b with step := 14 })))
        ∧ (n.val ≠ 14 → t.pnl.boot.step = n.val ∧ t.cmem = s.cmem ∧ t.chans = s.chans ∧ t.vregs = s.vregs ∧ t.pending = s.pending ∧ t.cores = s.cores)
        ∧ (n.val ≠ 12 → n.val ≠ 14 → stores s t ∧ units s t ∧ otherRegs s t ([BOOT_STATUS, FLT_STEWARD, CLK_REF_STATUS, CLK_REF_OFFSET] ++ readyRegs BOOT_READY_SVC
            ++ (List.range 3).flatMap (fun i => readyRegs (BOOT_READY_NETn i))))
        ∧ (n.val = 1 → stage t = 1) ∧ (n.val = 2 → (rd t BOOT_READY_SVC).getLsbD 0 = true)
        ∧ (n.val = 3 → let up := b2n (decide (unitCause s 10 (standby s) = 0))
            rf t FLT_STEWARD Fd.FLT_STEWARD_STANDBY_OK = up ∧ rf t FLT_STEWARD Fd.FLT_STEWARD_LOCKSTEP = up ∧ rf t CLK_REF_STATUS Fd.CLK_REF_STATUS_OTHER_VALID = up)
        ∧ (n.val = 4 → stage t = if (s.pnl.boot.warm || fuseLegal s) = true then 3 else 8)
        ∧ (n.val = 9 → stage t = 4 ∧ ∀ k, k < 144 → siteState s k ≠ 2 → aligned s k = true → netBit t k = true)
        ∧ (n.val = 12 → storedRecord s = Option.none → stores s t ∧ otherRegs s t [] ∧ t.pnl.pubWant = some reason)
        ∧ (n.val = 12 → ∀ b, storedRecord s = some b → let keeps := bodyDigest b = digest ∧ (s.pnl.boot.warm = true ∨ natOf ((b.drop 8).take 4) = highWater s)
            (¬ keeps → stores s t ∧ otherRegs s t [] ∧ t.pnl.pubWant = some reason)
            ∧ (keeps → rf t BOOT_FPR_GEN Fd.BOOT_FPR_GEN_GEN = natOf ((b.drop 8).take 4) ∧ t.pnl.slices = sliceOrder s)))
  ∧ (∀ (n : Fin 15) (u : BringUnit) (r : BringResult) (s : State), s.pnl.boot.running = true → stage s ≠ 7 → stage s ≠ 8 → 4 ≤ s.pnl.boot.step → u ≠ .panel →
      sget (fun _ => 0) s.pnl.boot.units (bringKey u) < n.val → stepWaits s n.val u = false →
      let test := ¬ (s.pnl.boot.warm = true ∧ n.val ≤ 6)
      ∃ t, exec (.bringupStepDone n u r) s = .next t ∧ t.lineKey = s.lineKey ∧ t.cmem = s.cmem ∧ t.chans = s.chans ∧ t.vregs = s.vregs ∧ t.pending = s.pending
        ∧ t.cores = s.cores ∧ sget (fun _ => 0) t.pnl.boot.units (bringKey u) = n.val ∧ ((∀ k, u ≠ .site k) → t.mem = s.mem)
        ∧ (¬ test → otherRegs s t [] ∧ t.tables = s.tables)
        ∧ (∀ k v, test → n.val = 5 → u = .site k → r = .strap v →
            if v.val % 2 = (k.val % 12 + k.val / 12) % 2 then otherRegs s t [] ∧ t.tables = s.tables else siteState t k.val = 2)
        ∧ (∀ e v, test → n.val = 5 → u = .edge e → r = .strap v → if v.val = e.val / 4 then otherRegs s t [] ∧ t.tables = s.tables else edgeInService t e.val = false)
        ∧ (∀ g, test → (n.val = 6 ∨ n.val = 8) → u = .core g → r = .fail → coreEnabled t g.val = false)
        ∧ (∀ k, test → n.val = 6 → u = .site k → r = .shared → siteState t k.val ≠ 0)
        ∧ (∀ k b, (n.val = 7 ∨ n.val = 9) → u = .link k b → r = .fail → if b.val < 8 then linkUsable t k.val b.val = false else unitCause t 4 (1152 + 2 * k.val + (b.val - 8)) ≠ 0)
        ∧ (∀ k, n.val = 8 → u = .site k → (r = .fail → siteState t k.val = 2)
            ∧ (r = .pass → rf t (CLK_STATUS k.val) Fd.CLK_STATUS_LOCKED = 1 ∧ otherRegs s t [CLK_STATUS k.val] ∧ t.tables = s.tables))
        ∧ (∀ e, n.val = 8 → u = .edge e → (r = .fail → edgeInService t e.val = false)
            ∧ (r = .pass → rf t (SEC_EDGE_STATUS e.val) Fd.SEC_EDGE_STATUS_SELFTEST_OK = 1 ∧ otherRegs s t [CLK_STATUS (144 + e.val), SEC_EDGE_STATUS e.val] ∧ t.tables = s.tables))
        ∧ (∀ h, n.val = 10 → u = .stack h → (r = .fail → stackEnabled t h.val = false)
            ∧ (r = .pass → stackEnabled s h.val = true → otherRegs s t (readyRegs (BOOT_READY_HBMn (h.val / 2))) ∧ t.tables = s.tables
                ∧ ∀ c, c < 32 → (rd t (BOOT_READY_HBMn (h.val / 2))).getLsbD (h.val % 2 * 32 + c) = true))
        ∧ (∀ e, n.val = 11 → u = .engine e → r = .fail → unitCause t 9 e.val ≠ 0 ∧ ∀ i, i < 8 → portEnabled t (8 * e.val + i) = false))
  ∧ (∀ (k : Site) (r : BringResult) (s : State), s.pnl.boot.running = false → k.val ∈ s.pnl.boot.checks →
      ∃ t, exec (.bringupStepDone 8 (.site k) r) s = .next t ∧ stores s t ∧ t.cores = s.cores ∧ t.pnl.boot.checks = s.pnl.boot.checks.filter (fun x => x != k.val)
        ∧ (r = .pass → otherRegs s t (BOOT_RESET :: readyRegs (BOOT_READY_SITEn (k.val / 64))) ∧ t.tables = s.tables
            ∧ (siteState s k.val = 0 → netBit s k.val = true → siteBit t k.val = true))
        ∧ (r ≠ .pass → siteState t k.val ≠ 0)
        ∧ ((∀ x ∈ s.pnl.boot.checks, x = k.val) → s.pnl.boot.scope < 5 → rf t BOOT_RESET Fd.BOOT_RESET_BUSY = 0))
  ∧ (∀ (n : Fin 15) (u : BringUnit) (r : BringResult) (s : State), s.pnl.boot.running = true → u ≠ .panel → stepWaits s n.val u = true → exec (.bringupStepDone n u r) s = .next s)
  ∧ (∀ (stale : List Site) (s : State), s.pnl.boot.running = true → 9 ≤ s.pnl.boot.step →
      let gets := fun (k : Nat) => k < 144 ∧ netBit s k = true ∧ (s.pnl.boot.warm = false ∨ ∃ x ∈ stale, x.val = k)
      (∀ k, gets k → siteBusy s k = false) →
      ∃ t, exec (.firmwareBroadcast stale) s = .next t ∧ t.cmem = s.cmem ∧ t.chans = s.chans ∧ t.vregs = s.vregs ∧ t.tables = s.tables ∧ units s t ∧ stage t = 5
        ∧ otherRegs s t (BOOT_STATUS :: (List.range 144).map (fun k => BSN_REGIONn k 187) ++ (List.range 3).flatMap (fun i => readyRegs (BOOT_READY_SITEn i)))
        ∧ (∀ k, gets k → rf t (BSN_REGIONn k 187) Fd.BSN_REGIONn_SCHED_WR = 1)
        ∧ (scpFirmware s = Option.none → t.mem = s.mem)
        ∧ (∀ x, scpFirmware s = some x → x.body.length ≤ 0x10_0000 → (∀ k, gets k → memReads t (region187 k).1 x.body.length = x.body)
            ∧ ∀ a, (∀ k, gets k → a < (region187 k).1 ∨ (region187 k).1 + 0x10_0000 ≤ a) → memRead t a = memRead s a)
        ∧ (∀ k, k < 144 → ¬ gets k → rd t (BSN_REGIONn k 187) = rd s (BSN_REGIONn k 187) ∧ (netBit s k = true → siteState s k = 0 → siteBit t k = true)))
  ∧ (∀ (k : Site) (good : Bool) (s : State), s.pnl.boot.running = true → rf s (BSN_REGIONn k.val 187) Fd.BSN_REGIONn_SCHED_WR = 1 →
      let n := sget (fun _ => 0) s.pnl.boot.fwTries k.val + 1
      let holds := good = true ∧ firmwareHolds s k.val = true
      ∃ t, exec (.firmwareDigestResult k good) s = .next t ∧ t.lineKey = s.lineKey ∧ t.cmem = s.cmem ∧ t.chans = s.chans ∧ t.vregs = s.vregs ∧ t.cores = s.cores
        ∧ (holds → t.mem = s.mem ∧ units s t ∧ t.tables = s.tables
            ∧ otherRegs s t (BSN_REGIONn k.val 187 :: readyRegs (BOOT_READY_SITEn (k.val / 64))) ∧ rf t (BSN_REGIONn k.val 187) Fd.BSN_REGIONn_SCHED_WR = 0
            ∧ (siteState s k.val = 0 → siteBit t k.val = true))
        ∧ (¬ holds → sget (fun _ => 0) t.pnl.boot.fwTries k.val = n
            ∧ (n < 3 → t.csr = s.csr ∧ t.tables = s.tables ∧ ∀ x, scpFirmware s = some x → memReads t (region187 k.val).1 x.body.length = x.body)
            ∧ (3 ≤ n → t.mem = s.mem ∧ siteState t k.val ≠ 0 ∧ siteBit t k.val = false ∧ rf t (BSN_REGIONn k.val 187) Fd.BSN_REGIONn_SCHED_WR = 0)))
  ∧ ∀ (req : Requester) (v : W64) (s : State), mayAccess s req BOOT_LOCK true = true →
      let sv := rf s FUSE_INFO Fd.FUSE_INFO_MIN_SV
      ∃ t, exec (.bootLock req v) s = .next t ∧ sameStores s t ∧ sameUnits s t
        ∧ (fget Fd.BOOT_LOCK_LOCK v = 0 ∨ rf s BOOT_LOCK Fd.BOOT_LOCK_LOCK = 1 → t = s)
        ∧ (fget Fd.BOOT_LOCK_LOCK v = 1 → rf s BOOT_LOCK Fd.BOOT_LOCK_LOCK = 0 →
            otherRegs s t ([BOOT_LOCK, BOOT_STATUS, BOOT_RESET, FUSE_INFO] ++ readyRegs BOOT_READY_SVC) ∧ rf t BOOT_LOCK Fd.BOOT_LOCK_LOCK = 1 ∧ stage t = 6
            ∧ rf t BOOT_RESET Fd.BOOT_RESET_BUSY = 0 ∧ t.pnl.boot.running = false
            ∧ (rf s FLT_LEASE Fd.FLT_LEASE_FENCED = 0 → (rd t BOOT_READY_SVC).getLsbD 4 = true)
            ∧ rf t FUSE_INFO Fd.FUSE_INFO_MIN_SV = (match slotImage s (rf s BOOT_STATUS Fd.BOOT_STATUS_SLOT) with
                | some im => if im.advance then max sv im.secVersion.toNat else sv
                | Option.none => sv))

/-- R40 to R51, R475: the record's publication. That an announcement is event type 0 is log entry 15. -/
def Obligations.RecordPublication : Prop :=
  (∀ (s : State) (reason : Nat), s.pnl.pubWant = some reason →
      ∃ t, exec .fprPublicationStart s = .next t ∧ sameStores s t ∧ sameUnits s t ∧ otherRegs s t [BOOT_FPR_GEN, BOOT_FPR_HWM]
        ∧ t.pnl.pub = some (highWater s + 1, reason) ∧ t.pnl.pubWant = Option.none ∧ highWater t = highWater s + 1
        ∧ rf t BOOT_FPR_GEN Fd.BOOT_FPR_GEN_PUB_BUSY = 1 ∧ rf t BOOT_FPR_HWM Fd.BOOT_FPR_HWM_HWM = (highWater s + 1) % 2 ^ 32)
  ∧ (∀ (s : State) (gen reason : Nat), s.pnl.pub = some (gen, reason) → (∀ p l, curLd s = some (p, l) → ∀ y ∈ l.slots, y.home < 16) →
      let r := (fprRecord s gen reason).2
      ∃ t, exec .fprPublicationVisible s = .next t ∧ (s.pnl.slices = sliceOrder s → t.mem = s.mem ∧ t.lineKey = s.lineKey) ∧ t.cmem = s.cmem ∧ t.chans = s.chans ∧ t.vregs = s.vregs ∧ t.tables = s.tables
        ∧ t.cores = s.cores ∧ t.sites = s.sites ∧ t.doms = s.doms ∧ t.ports = s.ports
        ∧ otherRegs s t ([BOOT_FPR_GEN, BOOT_FPR_HWM, STM_LD_STATUS] ++ (List.range 2).flatMap (fun b => (List.range 512).map (BOOT_FPR_BUFb_n b))
            ++ (List.range 16).flatMap (fun e => [STM_ISSUE_STATUS e, STM_ENG_STATUS e, STM_CACHE_CTRL e]) ++ (List.range 144).map RIL_LINK ++ readyRegs BOOT_READY_SVC ++ eventRegs)
        ∧ currentFpr t = r ∧ rf t BOOT_FPR_GEN Fd.BOOT_FPR_GEN_GEN = gen % 2 ^ 32
        ∧ rf t BOOT_FPR_GEN Fd.BOOT_FPR_GEN_BUF = 1 - rf s BOOT_FPR_GEN Fd.BOOT_FPR_GEN_BUF ∧ rf t BOOT_FPR_GEN Fd.BOOT_FPR_GEN_PUB_BUSY = 0
        ∧ t.pnl.pub = Option.none ∧ t.pnl.slices = sliceOrder s ∧ storedRecord t = some r ∧ (rd t BOOT_READY_SVC).getLsbD 3 = true
        ∧ (∀ k, k < 144 → rf t (RIL_LINK k) Fd.RIL_LINK_FENCED = 0)
        ∧ t.pnl.log = s.pnl.log.map (fun x => if x.wait then { x with gen := gen, wait := false } else x)
        ∧ (∀ i, i < 512 → rd t (BOOT_FPR_BUFb_n (rf s BOOT_FPR_GEN Fd.BOOT_FPR_GEN_BUF) i) = rd s (BOOT_FPR_BUFb_n (rf s BOOT_FPR_GEN Fd.BOOT_FPR_GEN_BUF) i))
        ∧ ∀ u, u < 10 → fnTakes s u 1 = true → (u / 5, u % 5, 1, r) ∈ t.pnl.hostQ)
  ∧ ∀ (req : Requester) (v : W64) (s : State), mayAccess s req BOOT_NET_ANNOUNCE true = true →
      let arm := fget Fd.BOOT_NET_ANNOUNCE_ARM v
      ∃ t, exec (.netAnnounce req v) s = .next t ∧ sameStores s t ∧ sameUnits s t ∧ otherRegs s t [BOOT_NET_ANNOUNCE]
        ∧ rf t BOOT_NET_ANNOUNCE Fd.BOOT_NET_ANNOUNCE_ARM = arm
        ∧ (arm = rf s BOOT_NET_ANNOUNCE Fd.BOOT_NET_ANNOUNCE_ARM → t = s)
        ∧ (arm ≠ rf s BOOT_NET_ANNOUNCE Fd.BOOT_NET_ANNOUNCE_ARM → t.pnl.boot.armedMs = (if arm = 1 then some (timeMs s) else Option.none)
            ∧ t.pnl.sessions = s.pnl.sessions.map (fun x => if x.kind = 1 then { x with queue := x.queue ++ [(0, bytesOf 8 arm)] } else x))

/-- R459, R473 to R477: resets. -/
def Obligations.ResetScopes : Prop :=
  let refused := fun (s t : State) (c : Nat) => sameStores s t ∧ sameUnits s t ∧ otherRegs s t [BOOT_RESET] ∧ rf t BOOT_RESET Fd.BOOT_RESET_ERR = 1
    ∧ rf t BOOT_RESET Fd.BOOT_RESET_ERR_CODE = c
  let may := fun (s : State) (req : Requester) => mayAccess s req BOOT_RESET true = true
  let ready := fun (s : State) (req : Requester) => mayAccess s req BOOT_RESET true = true ∧ rf s BOOT_LOCK Fd.BOOT_LOCK_LOCK = 1 ∧ resetBusy s = false
  let ofCore := fun (g a : Nat) => baseCore g ≤ a ∧ a < baseCore g + 0x240
  let woken := fun (s t : State) (k : Nat) => (∀ j, j ≠ k → site t j = site s j) ∧ (site t k = site s k ∨ site t k = { site s k with wake := 2 })
  let busy := fun (t : State) (scope : Nat) => rf t BOOT_RESET Fd.BOOT_RESET_BUSY = 1 ∧ t.pnl.boot.scope = scope
  let baselines := fun (s t : State) => swf csrReset s.csr = true → ∀ k r, k < 144 → r < 3 → rd t (PWR_RDYNr k r) = rd s (PWR_RDYNr k r) &&& 0x1_FFFF_0000#64
  let cleared := fun (t : State) (r : Nat × Nat) => ∀ a, r.1 ≤ a → a < r.1 + r.2 → tab t a = 0
  (∀ (req : Requester) (g : Gid) (force : Bool) (s : State),
      (may s req → rf s BOOT_LOCK Fd.BOOT_LOCK_LOCK = 0 → ∃ t, exec (.resetCore req g force) s = .next t ∧ refused s t 2)
      ∧ (ready s req → coreEnabled s g.val = false → ∃ t, exec (.resetCore req g force) s = .next t ∧ refused s t 3)
      ∧ (ready s req → coreEnabled s g.val = true → targetParts s 1 g.val ≠ [] → force = false → ∃ t, exec (.resetCore req g force) s = .next t ∧ refused s t 1)
      ∧ (ready s req → coreEnabled s g.val = true → (targetParts s 1 g.val = [] ∨ force = true) →
          ∃ t, exec (.resetCore req g force) s = .next t ∧ sameStores s t ∧ (∀ a, ofCore g.val a → rd t a = csrReset a)
            ∧ (core t g.val).flights = [] ∧ (core t g.val).tu = [] ∧ (∀ h, h ≠ g.val → core t h = core s h)
            ∧ rd t (CORE_IM_STATUS g.val) = csrReset (CORE_IM_STATUS g.val)
            ∧ (targetParts s 1 g.val = [] → t.doms = s.doms ∧ t.edges = s.edges ∧ woken s t (g.val / 64)
                ∧ ∀ a, ¬ ofCore g.val a → a ∉ [CORE_IM_STATUS g.val, CLK_STATUS (g.val / 64)] → (∀ i, i < 64 → a ≠ CORE_STATUS (g.val / 64 * 64 + i)) → rd t a = rd s a)
            ∧ ∀ p ∈ targetParts s 1 g.val, loadState t p = 6))
  ∧ (∀ (req : Requester) (k : Site) (force : Bool) (s : State), ready s req →
      (siteState s k.val ≠ 0 → ∃ t, exec (.resetSiteCompute req k force) s = .next t ∧ refused s t 3)
      ∧ (siteState s k.val = 0 → targetParts s 2 k.val ≠ [] → force = false → ∃ t, exec (.resetSiteCompute req k force) s = .next t ∧ refused s t 1)
      ∧ (siteState s k.val = 0 → targetParts s 2 k.val = [] →
          ∃ t, exec (.resetSiteCompute req k force) s = .next t ∧ sameStores s t ∧ woken s t k.val ∧ (∀ d, d ≠ k.val → dom t d = dom s d) ∧ busy t 2 ∧ t.pnl.boot.checks = [k.val]
            ∧ (∀ i a, i < 64 → ofCore (64 * k.val + i) a → rd t a = csrReset a) ∧ (rd t (BOOT_READY_SITEn (k.val / 64))).getLsbD (k.val % 64) = false
            ∧ (∀ i, i < 64 → rd t (CORE_IM_STATUS (64 * k.val + i)) = csrReset (CORE_IM_STATUS (64 * k.val + i)))
            ∧ (∀ a, (∀ i, i < 64 → ¬ ofCore (64 * k.val + i) a ∧ a ≠ CORE_IM_STATUS (64 * k.val + i)) → a ∉ BOOT_RESET :: CLK_STATUS k.val :: readyRegs (BOOT_READY_SITEn (k.val / 64)) → rd t a = rd s a)
            ∧ ∀ h, h / 64 ≠ k.val → core t h = core s h))
  ∧ (∀ (req : Requester) (force : Bool) (s : State), ready s req →
      (targetParts s 3 0 ≠ [] → force = false → ∃ t, exec (.resetPanelCompute req force) s = .next t ∧ refused s t 1)
      ∧ (targetParts s 3 0 = [] → ∃ t, exec (.resetPanelCompute req force) s = .next t ∧ t.mem = s.mem ∧ t.cmem = s.cmem ∧ t.chans = s.chans ∧ t.vregs = s.vregs
          ∧ t.edges = s.edges ∧ t.ports = s.ports ∧ t.hbms = s.hbms ∧ ((∃ k, k < 144 ∧ siteState s k = 0) → busy t 3)
          ∧ (∀ k i a, k < 144 → i < 64 → siteState s k = 0 → ofCore (64 * k + i) a → rd t a = csrReset a)
          ∧ (∀ k, k < 144 → cleared t (issueRange k) ∧ (site t k).arms = []) ∧ (∀ d, d < 160 → cleared t (bndRange d) ∧ rf t (CLK_BND_CFG d) Fd.CLK_BND_CFG_VALID = 0)
          ∧ ((∃ k, k < 144 ∧ siteState s k = 0) → t.pnl.boot.checks = (List.range 144).filter (fun k => siteState s k == 0))))
  ∧ (∀ (req : Requester) (force : Bool) (s : State), ready s req →
      let due := ∃ x, s.pnl.boot.armedMs = some x ∧ max 100 (rf s BOOT_CFG Fd.BOOT_CFG_NET_NOTICE_MS) ≤ timeMs s - x
      let inUse := (∃ p, p < 128 ∧ portState s p = 5) ∨ ∃ e, e < 16 ∧ rf s (SUO_PROG_ERR e) Fd.SUO_PROG_ERR_LOCK = 1
      (¬ due → ∃ t, exec (.resetNetwork req force) s = .next t ∧ refused s t 4)
      ∧ (due → inUse → force = false → ∃ t, exec (.resetNetwork req force) s = .next t ∧ refused s t 5)
      ∧ (due → (¬ inUse ∨ force = true) → ∃ t, exec (.resetNetwork req force) s = .next t ∧ t.mem = s.mem ∧ t.cmem = s.cmem ∧ t.vregs = s.vregs ∧ t.hbms = s.hbms
          ∧ ((∃ k, k < 144 ∧ siteState s k = 0) → busy t 4) ∧ (∀ p, p < 128 → portState t p = 0) ∧ (∀ p, p < 4 → inService s p = true → loadState t p = 6)
          ∧ (∀ k, k < 144 → (∀ r ∈ routerRanges k, cleared t r) ∧ cleared t (cascadeRange k) ∧ cleared t (issueRange k) ∧ rf t (RIL_STATUS k) Fd.RIL_STATUS_EMPTY = 1
              ∧ (∀ c, c < 1024 → chan t k c = Chan.init) ∧ (∀ a, baseCsc k ≤ a → a < baseCsc k + 0x1_0000 → rd t a = csrReset a))
          ∧ ∀ e, e < 16 → (edge t e).progEmpty = true ∧ (edge t e).outQ = [] ∧ ∀ r ∈ edgeRanges e, cleared t r))
  ∧ (∀ (req : Requester) (cold intact : Bool) (s : State), may s req →
      let warm := cold = false ∧ rf s BOOT_CFG Fd.BOOT_CFG_WARM_EN = 1 ∧ intact = true
      let denied := cold = false ∧ rf s BOOT_CFG Fd.BOOT_CFG_WARM_EN = 1 ∧ intact = false
      ∃ t, exec (.resetFullPanel req cold intact) s = .next t ∧ t.pending = s.pending ∧ t.fresh = s.fresh ∧ t.cores = State.reset.cores ∧ t.sites = State.reset.sites
        ∧ t.edges = State.reset.edges ∧ t.hbms = State.reset.hbms ∧ t.ports = State.reset.ports ∧ t.parts = State.reset.parts ∧ t.chans = State.reset.chans
        ∧ t.cmem = State.reset.cmem ∧ t.vregs = State.reset.vregs ∧ t.pnl.log = s.pnl.log ∧ t.pnl.boot.running = false ∧ stage t = 0 ∧ busy t 5
        ∧ (warm → t.pnl.boot.start = some true) ∧ (¬ warm → t.pnl.boot.start = some false)
        ∧ (denied → rf t BOOT_STATUS Fd.BOOT_STATUS_WARM_DENIED = 1 ∧ t.pnl.events.length = 1) ∧ (¬ denied → rf t BOOT_STATUS Fd.BOOT_STATUS_WARM_DENIED = 0 ∧ t.pnl.events = [])
        ∧ (∀ a, a ∉ [BOOT_STATUS, BOOT_FPR_GEN, BOOT_RESET] → isRdyn a = false → rd t a = if inRanges alwaysOn a = true then rd s a else csrReset a)
        ∧ baselines s t
        ∧ (∀ k a, k < 144 → (region187 k).1 ≤ a → a < (region187 k).1 + 0x10_0000 → memRead t a = memRead s a)
        ∧ ∀ a, (∀ k, k < 144 → a < (region187 k).1 ∨ (region187 k).1 + 0x10_0000 ≤ a) → memRead t a = 0)
  ∧ ∀ (req : Requester) (s : State),
      (∃ t, exec (.resetPowerOn Option.none) s = .next t ∧ t.pending = s.pending ∧ t.mem = [] ∧ t.cmem = [] ∧ t.cores = State.reset.cores ∧ t.sites = State.reset.sites
          ∧ t.ports = State.reset.ports ∧ t.parts = State.reset.parts ∧ t.pnl.log = [] ∧ t.pnl.nvmLog = s.pnl.nvmLog ∧ t.pnl.boot.start = some false
          ∧ t.pnl.boot.slotA = s.pnl.boot.slotA ∧ t.pnl.boot.slotB = s.pnl.boot.slotB
          ∧ baselines s t ∧ ∀ a, isRdyn a = false → rd t a = if inRanges nonVolatile a = true then rd s a else csrReset a)
      ∧ (may s req → exec (.resetPowerOn (some req)) s = exec (.resetPowerOn Option.none) s)

/-- R469 to R472: schedule images. What the sections carry is the model's form of them (log entry 6). -/
def Obligations.ScheduleImageLifecycle : Prop :=
  let may := fun (s : State) (req : Requester) (v : Nat) => mayAccess s req BOOT_LOAD_CMD true = true ∧ loadCmdAllowed s req (BitVec.ofNat 64 v) = true
  let shown := fun (t : State) (p c d : Nat) => rf t (BOOT_LOAD_STATUSp p) Fd.BOOT_LOAD_STATUSp_CODE = c
    ∧ rf t (BOOT_LOAD_STATUSp p) Fd.BOOT_LOAD_STATUSp_DETAIL = d % 2 ^ 32
  let kept := fun (s t : State) => t.chans = s.chans ∧ t.vregs = s.vregs ∧ t.cores = s.cores ∧ t.pending = s.pending
  let cleared := fun (t : State) (r : Nat × Nat) => ∀ a, r.1 ≤ a → a < r.1 + r.2 → tab t a = 0
  (∀ (req : Requester) (p : Part) (im : SchedImage) (s : State), may s req (1 + 16 * p.val) → inPartition s p.val (staged s req BOOT_LOAD_SRC) 256 = true →
      let s1 := if loadState s p.val = 6 then unloadPart s p.val else s
      (loadBusy s p.val im = true → ∃ t, exec (.bootLoad req p im) s = .next t ∧ sameStores s t ∧ sameUnits s t ∧ otherRegs s t [BOOT_LOAD_STATUSp p.val]
          ∧ shown t p.val 0x0F 0 ∧ loadState t p.val = loadState s p.val)
      ∧ (loadBusy s p.val im = false → ∀ c d, c < 256 → loadTest s1 p.val im = some (c, d) → ∃ t, exec (.bootLoad req p im) s = .next t ∧ kept s t ∧ t.mem = s.mem
          ∧ t.cmem = s.cmem ∧ shown t p.val c d ∧ loadState t p.val = 5 ∧ (loadState s p.val ≠ 6 → otherRegs s t [BOOT_LOAD_STATUSp p.val] ∧ t.tables = s.tables))
      ∧ (loadBusy s p.val im = false → loadTest s1 p.val im = Option.none → ∃ t, exec (.bootLoad req p im) s = .next t ∧ kept s t ∧ shown t p.val 0 0
          ∧ loadState t p.val = 2 ∧ (part t p.val).image = some im ∧ (part t p.val).uses = imageUses im
          ∧ (∀ x, im.hop = [x] → tab t (hopKey x.1 x.2.1) = x.2.2) ∧ (∀ x, im.cascade = [x] → tab t (cscKey x.1 x.2.1) = x.2.2)
          ∧ (∀ x, im.issue = [x] → tab t (sitKey x.1 x.2.1) = x.2.2)
          ∧ (∀ k r, k ∈ sitesOf s p.val → siteState s k ≠ 2 → r < im.boundary.length → tab t (bndKey k r) = bndWord (imageBnd im r))
          ∧ (im.seeds = [] → ∀ g ∈ imageCores im, rd t (CORE_SR_SEED g) = BitVec.ofNat 64 im.seed)
          ∧ (∀ x, im.coreBytes = [x] → cread t x.1 x.2.1 = x.2.2) ∧ (∀ x, im.basin = [x] → memRead t (basinBase x.1 + x.2.1) = x.2.2)
          ∧ (∀ g a, (∀ x ∈ im.coreBytes, ckey x.1 x.2.1 ≠ ckey g a) → cread t g a = cread s g a)
          ∧ (∀ x, im.descs = [x] → rd t (CORE_TUDESCn x.1 (x.2.1 % 64)) = BitVec.ofNat 64 x.2.2)
          ∧ (∀ x, im.regions = [x] → rf t (BSN_REGIONn x.1 x.2.1) Fd.BSN_REGIONn_CLASS = x.2.2 % 2)
          ∧ (tableBase s % 64 = 0 → ∀ a, (∀ x ∈ im.basin, a ≠ basinBase x.1 + x.2.1) → (a < tableBase s ∨ tableBase s + 0x400_0000 ≤ a) →
              (∀ k ∈ sitesOf s p.val, ∀ n, (n ∈ (site s k).zfLeft ∨ ∃ x ∈ im.regions, x.1 = k ∧ x.2.1 = n) →
                a < basinBase k + 0x10_0000 * n ∨ basinBase k + 0x10_0000 * (n + 1) ≤ a) → memRead t a = memRead s a)
          ∧ ∀ e ∈ imageEdges im, rf t (SUO_PROG_ERR e) Fd.SUO_PROG_ERR_LOCK = 1))
  ∧ (∀ (req : Requester) (p : Part) (mask : Fin 16) (s : State), mask.val = 2 ^ p.val → may s req (2 + 256 * mask.val) →
      let ready := loadState s p.val = 2 ∧ (rd s BOOT_READY_SVC).getLsbD 4 = true ∧ (part s p.val).zero = Option.none
      let doms := (sitesOf s p.val).filter (fun k => siteState s k != 2) ++ ((edgesOf s p.val).filter (edgeInService s)).map (fun e => 144 + e)
      (¬ ready → ∃ t, exec (.bootStart req mask) s = .next t ∧ sameStores s t ∧ sameUnits s t ∧ otherRegs s t [BOOT_LOAD_STATUSp p.val] ∧ shown t p.val 0x0F 0
          ∧ loadState t p.val = loadState s p.val)
      ∧ (ready → ∀ im, (part s p.val).image = some im →
          (∀ c d, c < 256 → startTest s p.val im = some (c, d) → ∃ t, exec (.bootStart req mask) s = .next t ∧ kept s t ∧ t.mem = s.mem ∧ t.cmem = s.cmem
              ∧ shown t p.val c d ∧ loadState t p.val = 5 ∧ (part t p.val).image = Option.none)
          ∧ (startTest s p.val im = Option.none → (im.entries.map (fun x => x.1)).Nodup → (∀ x ∈ im.entries, x.1 < 9216) →
              ∃ t s0, exec (.bootStart req mask) s = .next t ∧ kept s t ∧ t.mem = s.mem ∧ t.cmem = s.cmem ∧ t.tables = s.tables ∧ loadState t p.val = 3
                ∧ (runningDomain s = Option.none → panelSc s + 2 ^ 20 ≤ s0 ∧ s0 < panelSc s + 2 ^ 21)
                ∧ (∀ d ∈ doms, rd t (CLK_BND_BASE d) = BitVec.ofNat 64 s0 ∧ rf t (CLK_BND_CFG d) Fd.CLK_BND_CFG_VALID = 1
                    ∧ rf t (CLK_BND_NEXT d) Fd.CLK_BND_NEXT_ROW = 0)
                ∧ hBoundary ∈ t.pnl.causes ∧ holdRecorded s t stewardDom hBoundary (scOf s 0)
                ∧ (∀ x ∈ im.entries, rd t (CORE_START_SC x.1) = BitVec.ofNat 64 (s0 + x.2.2)
                    ∧ (coreState s x.1 = 1 → coreState t x.1 = 2 ∧ rf t (CORE_CTRL x.1) Fd.CORE_CTRL_ARM = 1))
                ∧ otherRegs s t ([BOOT_LOAD_STATUSp p.val, PWR_VSEL, PWR_STATUS, PWR_EVENTS] ++ holdRecord ++ eventRegs
                    ++ (List.range 160).flatMap (fun d => [CLK_BND_BASE d, CLK_BND_CFG d, CLK_BND_NEXT d, CLK_BND_NEXT_SC d])
                    ++ im.entries.flatMap (fun x => [CORE_START_SC x.1, CORE_CTRL x.1, CORE_STATUS x.1])))))
  ∧ ∀ (req : Requester) (p : Part) (s : State), may s req (3 + 16 * p.val) →
      (imageLoaded s p.val = false → ∃ t, exec (.bootUnload req p) s = .next t ∧ t = s)
      ∧ (imageLoaded s p.val = true → ∃ t, exec (.bootUnload req p) s = .next t ∧ kept s t ∧ t.mem = s.mem ∧ t.cmem = s.cmem ∧ loadState t p.val = 0
          ∧ (part t p.val).image = Option.none ∧ (part t p.val).uses = []
          ∧ (∀ k ∈ sitesOf s p.val, (∀ r ∈ routerRanges k, cleared t r) ∧ cleared t (cascadeRange k) ∧ cleared t (issueRange k) ∧ cleared t (bndRange k)
              ∧ rf t (RIL_STATUS k) Fd.RIL_STATUS_EMPTY = 1 ∧ ∀ i, i < 64 → coreState s (64 * k + i) ≠ 0 → coreState t (64 * k + i) = 1)
          ∧ ∀ e ∈ edgesOf s p.val, (∀ r ∈ edgeRanges e, cleared t r) ∧ cleared t (bndRange (144 + e)) ∧ (edge t e).progEmpty = true
              ∧ ∀ i, i < 8 → portState t (8 * e + i) ≠ 5)

/-- R479 to R487, R492: fault records. -/
def Obligations.FaultRecordHandling : Prop :=
  let stores := fun (s t : State) (evs : List FaultEv) => t.cmem = s.cmem ∧ t.vregs = s.vregs ∧ t.cores = s.cores ∧ t.pending = s.pending
    ∧ ∀ a, (∀ ev ∈ evs, ∀ i, ev.fence = some (3, i) → a < basinBase i ∨ basinBase (i + 1) ≤ a) → memRead t a = memRead s a
  let concerns := fun (s : State) (ev : FaultEv) => if ev.sev = 0 then [] else (concerned s ev).filter (inService s)
  let opens := fun (s : State) (ev : FaultEv) => s.pnl.log.find? (fun r => Nat.blt (ackSeq s) r.seq && sameFault r.ev ev)
  (∀ (s : State) (ev : FaultEv), nextEvent s = some ev →
      ∃ t, exec .faultRecord s = .next t ∧ stores s t [ev] ∧ t.pnl.events = s.pnl.events.erase ev
        ∧ (∀ x ∈ s.pnl.events, evBefore x ev = false)
        ∧ (∀ p, p < 4 → loadState t p = if p ∈ concerns s ev then 6 else loadState s p)
        ∧ (∀ k i, ev.fence = some (k, i) → unitCause s k i = 0 → k ∈ [1, 2, 3, 5, 6, 8, 9, 10] → i < unitCount k → unitCause t k i = 4 ∧ t.pnl.pubWant = some 3 ∧ t.pnl.pub = Option.none)
        ∧ (opens s ev = Option.none → ∃ r, t.pnl.log.getLast? = some r ∧ r.ev = ev ∧ r.seq = (rf s FLT_STATUS Fd.FLT_STATUS_SEQ + 1) % 2 ^ 32
            ∧ rf t FLT_STATUS Fd.FLT_STATUS_SEQ = r.seq ∧ r.merged = 0 ∧ r.action = actionOf ev (concerns s ev) ∧ r.wait = ev.fence.isSome
            ∧ (∀ p, p < 4 → (r.parts / 2 ^ p % 2 = 1 ↔ p ∈ concerns s ev)) ∧ (s.pnl.log.length < 1024 → t.pnl.log = s.pnl.log ++ [r])
            ∧ (2 ≤ ev.sev → t.pnl.ibi = true) ∧ ∀ u, u < 10 → fnTakes t u 0 = true → (u / 5, u % 5, 0, recordBytes r) ∈ t.pnl.hostQ)
        ∧ (∀ r, opens s ev = some r → t.pnl.log.length = s.pnl.log.length ∧ rf t FLT_STATUS Fd.FLT_STATUS_SEQ = rf s FLT_STATUS Fd.FLT_STATUS_SEQ
            ∧ ∃ q ∈ t.pnl.log, q.seq = r.seq ∧ q.merged = min (r.merged + 1) 65535 ∧ q.ev.sev = max r.ev.sev ev.sev)
        ∧ (∀ h, ev.hold = some h → needsRelease ev = true → t.pnl.toClear = s.pnl.toClear ++ [h])
        ∧ (ev.fence = Option.none → concerns s ev = [] → otherRegs s t (FLT_STATUS :: eventRegs) ∧ sameStores s t ∧ sameUnits s t))
  ∧ (∀ (req : Requester) (v : W64) (s : State), mayAccess s req FLT_LOG_ACK true = true →
      ∃ t, exec (.fltLogAck req v) s = .next t ∧ sameStores s t ∧ sameUnits s t ∧ t.pnl = s.pnl ∧ otherRegs s t [FLT_LOG_ACK, FLT_STATUS]
        ∧ ackSeq t = fget Fd.FLT_LOG_ACK_SEQ v
        ∧ ((∀ r ∈ s.pnl.log, r.ev.sev < 8) → (∀ r ∈ s.pnl.log, ackSeq t < r.seq → r.ev.sev ≤ rf t FLT_STATUS Fd.FLT_STATUS_OPEN_SEV)
            ∧ (rf t FLT_STATUS Fd.FLT_STATUS_OPEN_SEV = 0 ∨ ∃ r ∈ s.pnl.log, ackSeq t < r.seq ∧ rf t FLT_STATUS Fd.FLT_STATUS_OPEN_SEV = r.ev.sev)))
  ∧ (∀ s : State, ∃ t, exec .faultLogNvmCopy s = .next t ∧ sameStores s t ∧ sameUnits s t ∧ t.csr = s.csr ∧ t.pnl.log = s.pnl.log ∧ t.pnl.nvmLog.length ≤ 65536
      ∧ (s.pnl.nvmLog = [] → (∀ r ∈ s.pnl.log, 0 < r.seq) → s.pnl.log.length ≤ 65536 → t.pnl.nvmLog = s.pnl.log)
      ∧ ∀ l, s.pnl.nvmLog.getLast? = some l → s.pnl.nvmLog.length + s.pnl.log.length ≤ 65536 →
          t.pnl.nvmLog = s.pnl.nvmLog ++ s.pnl.log.filter (fun r => Nat.blt l.seq r.seq))
  ∧ ∀ s : State,
      (s.pnl.events.any needsRelease = false → ∃ t, exec .faultHoldRelease s = .next t ∧ sameStores s t ∧ t.cores = s.cores ∧ t.sites = s.sites ∧ t.edges = s.edges
          ∧ otherRegs s t ([FLT_STATUS, CLK_HOLD_STATUS] ++ s.pnl.toClear.map (fun h => CLK_STATUS h.1)) ∧ t.pnl.toClear = [] ∧ t.pnl.events = s.pnl.events
          ∧ rf t FLT_STATUS Fd.FLT_STATUS_RETIRING = 0 ∧ ∀ d c, c ∈ (dom t d).causes ↔ c ∈ (dom s d).causes ∧ (d, c) ∉ s.pnl.toClear)
      ∧ (∀ ev h, s.pnl.events.filter needsRelease = [ev] → ev.hold = some h → ∃ t, exec .faultHoldRelease s = .next t ∧ stores s t s.pnl.events
          ∧ t.pnl.events = s.pnl.events.erase ev ∧ t.pnl.toClear = [] ∧ rf t FLT_STATUS Fd.FLT_STATUS_RETIRING = 0 ∧ h.2 ∉ (dom t h.1).causes
          ∧ ∀ p, p < 4 → loadState t p = if p ∈ concerns s ev then 6 else loadState s p)
      ∧ (2 ≤ (s.pnl.events.filter needsRelease).length → ∃ t, exec .faultHoldRelease s = .next t ∧ stores s t s.pnl.events ∧ t.pnl.events.length + 1 = s.pnl.events.length
          ∧ rf t FLT_STATUS Fd.FLT_STATUS_RETIRING = 1 ∧ t.pnl.toClear.length = s.pnl.toClear.length + 1)

/-- R34 to R38, R479, R488 to R490: fences. -/
def Obligations.FenceAndRelease : Prop :=
  let only := fun (s t : State) (as : List Nat) => sameStores s t ∧ sameUnits s t ∧ otherRegs s t as
  let fenced := fun (s t : State) (kind i cause : Nat) (hold : Bool) => t.cmem = s.cmem ∧ t.vregs = s.vregs ∧ t.pending = s.pending
    ∧ (∀ a, (kind = 3 → a < basinBase i ∨ basinBase (i + 1) ≤ a) → memRead t a = memRead s a) ∧ (∀ g, issuedNow s g = false → core t g = core s g)
    ∧ unitEnabled t kind i = false ∧ t.pnl.pubWant = some 3 ∧ t.pnl.pub = Option.none
    ∧ rf t BOOT_FPR_GEN Fd.BOOT_FPR_GEN_PUB_BUSY = 0
    ∧ ∃ ev, t.pnl.events = s.pnl.events ++ [ev] ∧ ev.cls = 3 ∧ ev.kind = kind ∧ ev.index = i ∧ ev.cause = cause ∧ ev.sev = (if kind = 5 ∧ cause = 0 then 3 else 2) ∧ ev.fence = some (if kind = 7 then (6, i / 32) else (kind, i))
      ∧ (hold = true → ∀ d, unitDomain kind i = some d → ev.hold = some (d, hError) ∧ hError ∈ (dom t d).causes ∧ holdRecorded s t d hError (scOf s d))
      ∧ (hold = false → ev.hold = Option.none ∧ t.pnl.causes = s.pnl.causes ∧ t.cores = s.cores)
  (∀ (u : UnitRef) (s : State), u.index < unitCount u.kind.val → unitEnabled s u.kind.val u.index = true →
      ∃ t, exec (.fence u) s = .next t ∧ fenced s t u.kind.val u.index 0 true)
  ∧ ∀ (req : Requester) (v : W64) (c : Instr) (s : State), (c = .fltFence req v ∨ c = .fltRelease req v) → mayAccess s req FLT_FENCE_CMD true = true →
      let op := fget Fd.FLT_FENCE_CMD_OP v
      let kind := fget Fd.FLT_FENCE_CMD_KIND v
      let i := fget Fd.FLT_FENCE_CMD_INDEX v
      let known := kind ≠ 7 ∧ i < unitCount kind
      let refusal := fun (n : Nat) => ∃ t, exec c s = .next t ∧ only s t [FLT_FENCE_CMD] ∧ rf t FLT_FENCE_CMD Fd.FLT_FENCE_CMD_ERR = 1
        ∧ rf t FLT_FENCE_CMD Fd.FLT_FENCE_CMD_ERR_CODE = n
      (op = 0 ∨ op = 3 → ∃ t, exec c s = .next t ∧ t = clear1 s FLT_FENCE_CMD Fd.FLT_FENCE_CMD_ERR v)
      ∧ ((op = 1 ∨ op = 2) → ¬ known → refusal 1) ∧ ((op = 1 ∨ op = 2) → known → resetBusy s = true → refusal 4)
      ∧ (op = 1 → known → resetBusy s = false → unitEnabled s kind i = false → refusal 2)
      ∧ (op = 1 → known → resetBusy s = false → unitEnabled s kind i = true → ∃ t, exec c s = .next t ∧ fenced s t kind i 6 (!(usersOf s kind i).isEmpty))
      ∧ (op = 2 → known → resetBusy s = false → unitFused s kind i = false → refusal 3)
      ∧ (op = 2 → known → resetBusy s = false → unitFused s kind i = true → (unitCause s kind i ≠ 4 ∧ unitCause s kind i ≠ 6) → refusal 2)
      ∧ (op = 2 → known → resetBusy s = false → unitFused s kind i = true → (unitCause s kind i = 4 ∨ unitCause s kind i = 6) →
          ∃ t, exec c s = .next t ∧ only s t [FLT_FENCE_CMD] ∧ (fget Fd.FLT_FENCE_CMD_ERR v = 0 → rd t FLT_FENCE_CMD = rd s FLT_FENCE_CMD) ∧ (kind, i) ∈ t.pnl.relReq ∧ ∀ x ∈ s.pnl.relReq, x ∈ t.pnl.relReq)

/-- R493, R494: the lease. -/
def Obligations.LeaseLifecycle : Prop :=
  let lease := fun (t : State) (f : Fld) => rf t FLT_LEASE f
  let told := fun (s t : State) => ∀ x ∈ s.pnl.sessions, x.kind = 1 → x.mask / 2 ^ 6 % 2 = 1 →
    ∃ y ∈ t.pnl.sessions, y.port = x.port ∧ y.idx = x.idx ∧ (6, bytesOf 8 (rd t FLT_LEASE).toNat) ∈ y.queue
  (∀ (req : Requester) (v : W64) (s : State), mayAccess s req FLT_LEASE_RENEW true = true →
      ∃ t, exec (.leaseRenew req v) s = .next t ∧ sameStores s t ∧ sameUnits s t ∧ otherRegs s t ([FLT_LEASE, FLT_LEASE_EXPIRY] ++ readyRegs BOOT_READY_SVC)
        ∧ leaseExpiry t = max (leaseExpiry s) (min (fget Fd.FLT_LEASE_RENEW_UNTIL_MS v) (timeMs s + leasePeriod s)) % 2 ^ 58
        ∧ lease t Fd.FLT_LEASE_EXPIRED = 0 ∧ lease t Fd.FLT_LEASE_FENCED = 0 ∧ lease t Fd.FLT_LEASE_EN = lease s Fd.FLT_LEASE_EN ∧ told s t
        ∧ (lease s Fd.FLT_LEASE_FENCED = 1 → rf s BOOT_LOCK Fd.BOOT_LOCK_LOCK = 1 → (rd t BOOT_READY_SVC).getLsbD 4 = true))
  ∧ (∀ (req : Requester) (v : W64) (s : State), mayAccess s req FLT_LEASE true = true →
      let en := fget Fd.FLT_LEASE_EN v
      let bad := en = 1 ∧ lease s Fd.FLT_LEASE_EN = 0 ∧ rf s TIME_STATUS Fd.TIME_STATUS_VALID = 0
      ∃ t, exec (.leaseEnable req v) s = .next t ∧ sameStores s t ∧ sameUnits s t
        ∧ (bad → otherRegs s t errorRegs)
        ∧ (¬ bad → otherRegs s t ([FLT_LEASE, FLT_LEASE_EXPIRY] ++ readyRegs BOOT_READY_SVC) ∧ lease t Fd.FLT_LEASE_EN = en ∧ told s t
            ∧ lease t Fd.FLT_LEASE_PERIOD_MS = fget Fd.FLT_LEASE_PERIOD_MS v
            ∧ (en = 1 → lease s Fd.FLT_LEASE_EN = 0 → leaseExpiry t = (timeMs s + max 500 (fget Fd.FLT_LEASE_PERIOD_MS v)) % 2 ^ 58)
            ∧ (en = 1 → lease s Fd.FLT_LEASE_EN = 1 → leaseExpiry t = leaseExpiry s ∧ lease t Fd.FLT_LEASE_FENCED = lease s Fd.FLT_LEASE_FENCED)
            ∧ (en = 0 → lease t Fd.FLT_LEASE_EXPIRED = 0 ∧ lease t Fd.FLT_LEASE_FENCED = 0
                ∧ (lease s Fd.FLT_LEASE_FENCED = 1 → rf s BOOT_LOCK Fd.BOOT_LOCK_LOCK = 1 → (rd t BOOT_READY_SVC).getLsbD 4 = true))))
  ∧ ∀ s : State,
      let due := lease s Fd.FLT_LEASE_EN = 1 ∧ lease s Fd.FLT_LEASE_EXPIRED = 0 ∧ leaseExpiry s ≤ timeMs s ∧ resetBusy s = false
      ∃ t, exec .leaseExpiry s = .next t ∧ t.mem = s.mem ∧ t.cmem = s.cmem ∧ t.vregs = s.vregs ∧ t.chans = s.chans ∧ t.tables = s.tables ∧ t.cores = s.cores
        ∧ (¬ due → t = s)
        ∧ (due → lease t Fd.FLT_LEASE_EXPIRED = 1 ∧ lease t Fd.FLT_LEASE_FENCED = 1 ∧ (rd t BOOT_READY_SVC).getLsbD 4 = false ∧ told s t
            ∧ (∀ p, p < 4 → loadState t p = if inService s p then 6 else loadState s p)
            ∧ ∃ ev, t.pnl.events = s.pnl.events ++ [ev] ∧ ev.cls = 6 ∧ ev.sev = 3 ∧ ev.hold = Option.none ∧ ev.fence = Option.none)

/-- R501 to R509, R512: lifecycle, keys, attestation. Keys as identifiers are log entry 4, attestation's functions log entry 17. -/
def Obligations.LifecycleAndKeyEffects : Prop :=
  let only := fun (s t : State) (as : List Nat) => sameStores s t ∧ sameUnits s t ∧ otherRegs s t as
  let answer := fun (t : State) (b : Bool) (bs : List Byte) => t.pnl.reply = some ⟨b, bs⟩
  let coldReset := fun (s t : State) => t.pnl.boot.start = some false ∧ t.pending = s.pending ∧ t.cmem = [] ∧ t.cores = State.reset.cores ∧ t.parts = State.reset.parts
    ∧ stage t = 0 ∧ ∀ a, (∀ k, k < 144 → a < (region187 k).1 ∨ (region187 k).1 + 0x10_0000 ≤ a) → memRead t a = 0
  (∀ (req : Requester) (target : Fin 4) (tk : Token) (s : State), mayAccess s req SEC_LC_CMD true = true →
      ∃ t, exec (.lcTransition req target tk) s = .next t
        ∧ (target.val = 0 → only s t [] ∧ t.pnl = s.pnl)
        ∧ (target.val ≠ 0 → tokenOpens s target.val tk = false → only s t [SEC_LC_CMD] ∧ rf t SEC_LC_CMD Fd.SEC_LC_CMD_ERR = 1)
        ∧ (target.val ≠ 0 → tokenOpens s target.val tk = true → coldReset s t ∧ lifecycle t = target.val
            ∧ (target.val = 1 → t.pnl.sec.keys = keyChange s.pnl.sec.keys (.add tk.ownerRoot 1)) ∧ (target.val = 2 → t.pnl.sec.keys = s.pnl.sec.keys)
            ∧ (target.val = 3 → t.pnl.sec.keys = [] ∧ t.pnl.sec.udsBlown = true)))
  ∧ (∀ (req : Requester) (tk : Token) (s : State), mayAccess s req SEC_LC_CMD true = true →
      let opens := tk.serialOk = true ∧ tk.state.val = lifecycle s ∧ (lifecycle s = 1 ∨ lifecycle s = 2) ∧ tk.manufacturingSig = true ∧ tk.ownerSig = true ∧ hasOwnerRoot s = true
      ∃ t, exec (.openDebug req tk) s = .next t
        ∧ (opens → coldReset s t ∧ rf t SEC_LIFECYCLE Fd.SEC_LIFECYCLE_DEBUG_OPENED = 1 ∧ lifecycle t = lifecycle s ∧ t.pnl.sec.keys = [] ∧ t.pnl.sec.udsBlown = true)
        ∧ (¬ opens → only s t [SEC_LC_CMD] ∧ rf t SEC_LC_CMD Fd.SEC_LC_CMD_ERR = 1))
  ∧ (∀ (req : Requester) (tk : Token) (s : State), mayAccess s req (SEC_TOKEN 0) true = true →
      let opens := tk.serialOk = true ∧ tk.state.val = lifecycle s ∧ (lifecycle s = 1 ∨ lifecycle s = 2) ∧ tk.ownerSig = true ∧ hasOwnerRoot s = true
      ∃ t, exec (.keyStoreUpdate req tk) s = .next t
        ∧ (opens → only s t [] ∧ (∀ id, tk.changes = [.remove id] → ∀ k, k ∈ t.pnl.sec.keys ↔ k ∈ s.pnl.sec.keys ∧ k.2.2 ≠ id)
            ∧ (∀ id (role : Fin 5) e, tk.changes = [.add id role] → role.val ≠ 0 → (∀ k ∈ s.pnl.sec.keys, k.2.2 ≠ id) → freeEntry s.pnl.sec.keys = some e →
                t.pnl.sec.keys = s.pnl.sec.keys ++ [(e, role.val, id)]))
        ∧ (¬ opens → only s t [SEC_LC_CMD] ∧ rf t SEC_LC_CMD Fd.SEC_LC_CMD_ERR = 1))
  ∧ (∀ (pt : Fin 5) (i : Fin 8) (slot : Fin 32) (c : Instr) (keys : Option (BitVec 768)) (s : State),
      (c = .keyGenerate pt i slot ∧ keys = Option.none) ∨ (c = .keyImport pt i slot keys ∧ keys.isSome = true) →
      ∃ t, exec c s = .next t ∧ t.mem = s.mem ∧ t.cmem = s.cmem ∧ sameUnits s t
        ∧ (mayFill s pt.val i.val slot.val = true → otherRegs s t (SEC_SLOTS :: (List.range 16).map SEC_EDGE_STATUS) ∧ tab t (slotKey slot.val) = tab s (slotKey slot.val) + 1
            ∧ keyOf t slot.val = (match keys with | some k => .imported k.toNat | Option.none => .drawn (slot.val + 32 * (tab s (slotKey slot.val) + 1)))
            ∧ (∀ a, a ≠ slotKey slot.val → a ≠ slotImport slot.val → tab t a = tab s a)
            ∧ (rd t SEC_SLOTS).getLsbD slot.val = true ∧ (rd t SEC_SLOTS).getLsbD (32 + slot.val) = keys.isSome
            ∧ (∀ j, j < 32 → j ≠ slot.val → (rd t SEC_SLOTS).getLsbD j = (rd s SEC_SLOTS).getLsbD j) ∧ answer t true [])
        ∧ (mayFill s pt.val i.val slot.val = false → otherRegs s t eventRegs ∧ t.tables = s.tables ∧ answer t false []))
  ∧ (∀ (pt : Fin 5) (i : Fin 8) (slot : Fin 32) (s : State), mayFill s pt.val i.val slot.val = true →
      ∃ t, exec (.keyImport pt i slot Option.none) s = .next t ∧ only s t [] ∧ answer t false [])
  ∧ (∀ (pt : Fin 5) (i : Fin 8) (m : SpdmMsg) (s : State), portOn s pt.val = false → ∃ t, exec (.spdmRequest pt i m) s = .next t ∧ only s t [] ∧ answer t false [])
  ∧ (∀ (pt : Fin 5) (i : Fin 8) (s : State), portOn s pt.val = true →
      (∃ t, exec (.spdmRequest pt i .challenge) s = .next t ∧ only s t [] ∧ answer t true (signAlias s []))
      ∧ (∃ t, exec (.spdmRequest pt i (.getCertificate 0)) s = .next t ∧ only s t [] ∧ answer t true (Config.deviceChain s.pnl.sec.udsBlown))
      ∧ (∀ x, ∃ t, exec (.spdmRequest pt i (.getMeasurement x)) s = .next t ∧ only s t [] ∧ t.pnl.sessions = s.pnl.sessions
          ∧ (∀ d, measure s x = some d → answer t true (dgBytes d ++ signAlias s (dgBytes d))) ∧ (measure s x = Option.none → answer t false []))
      ∧ (∀ auth leaf rooted, let mgmt := auth = true ∧ rooted = true ∧ mgmtPort pt.val = true ∧ hasOwnerRoot s = true
          let room := sessionAt s pt.val i.val = Option.none ∧ (mgmt → mgmtCount s pt.val < 4)
          ∃ t, exec (.spdmRequest pt i (.keyExchange auth leaf rooted)) s = .next t ∧ only s t [MGT_PORTn_STATUS 0, MGT_PORTn_STATUS 1]
            ∧ (room → answer t true [] ∧ ∃ x, sessionAt t pt.val i.val = some x ∧ x.leaf = (if auth then leaf else 0#384) ∧ x.queue = [] ∧ x.mask = 0
                ∧ (mgmt → x.kind = 1) ∧ (¬ mgmt → x.kind = 0))
            ∧ (¬ room → answer t false [] ∧ t.pnl.sessions = s.pnl.sessions))
      ∧ (∃ t, exec (.spdmRequest pt i .endSession) s = .next t ∧ only s t [MGT_PORTn_STATUS 0, MGT_PORTn_STATUS 1, BOOT_STATUS] ∧ sessionAt t pt.val i.val = Option.none
          ∧ answer t (sessionAt s pt.val i.val).isSome [] ∧ (hasUpdate s pt.val i.val = true → (sessionAt s pt.val i.val).isSome = true → t.pnl.boot.update = Option.none))
      ∧ ∀ p on, p < 4 → ownerOfPart s pt.val i.val p = true →
          ∃ t, exec (.spdmRequest pt i (.pmuGrant on)) s = .next t ∧ only s t [SEC_PARTp p] ∧ rf t (SEC_PARTp p) Fd.SEC_PARTp_PMU_GRANT = b2n on ∧ answer t true [])

/-- R510 to R524: partitions. -/
def Obligations.PartitionLifecycle : Prop :=
  let only := fun (s t : State) (as : List Nat) => sameStores s t ∧ sameUnits s t ∧ otherRegs s t as
  let answer := fun (t : State) (b : Bool) => t.pnl.reply = some ⟨b, []⟩
  let zeroing := fun (s : State) (p a : Nat) => ∃ k n, k < 144 ∧ partOfSite s k = p ∧ siteState s k ≠ 2 ∧ n ∈ (site s k).zfLeft
    ∧ basinBase k + 0x10_0000 * n ≤ a ∧ a < basinBase k + 0x10_0000 * (n + 1)
  let st := fun (t : State) (p : Nat) => rf t (SEC_PARTp p) Fd.SEC_PARTp_STATE
  (∀ (req : Requester) (p : Part) (v : W64) (s : State), let a := SEC_PART_BINDp_n p.val 5
      mayAccess s req a true = true →
      let free := st s p.val = 0 ∧ (rd s SEC_ZEROIZE).getLsbD (4 + p.val) = false
      ∃ t, exec (.partBindDigest req p v) s = .next t ∧ sameStores s t ∧ sameUnits s t
        ∧ (¬ free → otherRegs s t errorRegs)
        ∧ (free → rd t a = v ∧ (bindDigest t p.val = 0#384 → otherRegs s t (a :: errorRegs))
            ∧ (bindDigest t p.val ≠ 0#384 → otherRegs s t [a, SEC_PARTp p.val, SEC_ZEROIZE] ∧ st t p.val = 1 ∧ (rd t SEC_ZEROIZE).getLsbD (8 + p.val) = false)))
  ∧ (∀ (pt : Fin 5) (i : Fin 8) (p : Part) (s : State),
      let fits := ∃ x, sessionAt s pt.val i.val = some x ∧ x.leaf ≠ 0#384 ∧ x.leaf = bindDigest s p.val ∧ (st s p.val = 1 ∨ st s p.val = 2) ∧ hasOwner s p.val = false
      ∃ t, exec (.bindPart pt i p) s = .next t
        ∧ (¬ fits → only s t [] ∧ answer t false ∧ t.pnl.sessions = s.pnl.sessions)
        ∧ (fits → only s t [SEC_PARTp p.val, MGT_PORTn_STATUS 0, MGT_PORTn_STATUS 1] ∧ answer t true ∧ ownerOfPart t pt.val i.val p.val = true
            ∧ ∀ q j, ¬ (q = pt.val ∧ j = i.val) → sessionAt t q j = sessionAt s q j))
  ∧ (∀ (pt : Fin 5) (i : Fin 8) (hp : Fin 2) (p : Part) (s : State), let key := hp.val * 4 + p.val
      (ownerOfPart s pt.val i.val p.val = true → ∃ t, exec (.tdiLockInterface pt i hp p) s = .next t ∧ only s t [] ∧ answer t true ∧ key ∈ t.pnl.sec.tdiLocked)
      ∧ (ownerOfPart s pt.val i.val p.val = true → key ∈ s.pnl.sec.tdiLocked → ∃ t, exec (.tdiStartInterface pt i hp p) s = .next t ∧ only s t [SEC_PARTp p.val]
          ∧ answer t true ∧ key ∉ t.pnl.sec.tdiLocked ∧ (rd t (SEC_PARTp p.val)).getLsbD (3 + hp.val) = true)
      ∧ (ownerOfPart s pt.val i.val p.val = true → key ∉ s.pnl.sec.tdiLocked → ∃ t, exec (.tdiStartInterface pt i hp p) s = .next t ∧ only s t [] ∧ answer t false)
      ∧ (ownerOfPart s pt.val i.val p.val = false → ∀ c, c = .tdiLockInterface pt i hp p ∨ c = .tdiStartInterface pt i hp p →
          ∃ t, exec c s = .next t ∧ only s t eventRegs ∧ answer t false ∧ t.pnl.sec = s.pnl.sec))
  ∧ (∀ (req : Requester) (p : Part) (v : W64) (s : State), mayAccess s req SEC_ZEROIZE true = true → (∀ q, q < 4 → (v.getLsbD q = true ↔ q = p.val)) →
      (mayZeroise s req p.val = false → ∃ t, exec (.secZeroize req v) s = .next t ∧ only s t errorRegs)
      ∧ (mayZeroise s req p.val = true → ((part s p.val).zero.isSome = true ∨ partCount s ≤ p.val) → ∃ t, exec (.secZeroize req v) s = .next t ∧ t = s)
      ∧ (mayZeroise s req p.val = true → (part s p.val).zero = Option.none → p.val < partCount s →
          ∃ t, exec (.secZeroize req v) s = .next t ∧ t.pending = s.pending ∧ st t p.val = 3 ∧ (rd t SEC_ZEROIZE).getLsbD (4 + p.val) = true
            ∧ (rd t SEC_ZEROIZE).getLsbD (8 + p.val) = false ∧ (part t p.val).zero.isSome = true ∧ (part t p.val).image = Option.none ∧ (part t p.val).load = Option.none
            ∧ loadState t p.val = 0 ∧ (∀ x ∈ t.pnl.sessions, x.kind ≠ 2 + p.val)
            ∧ (∀ k, k < 144 → partOfSite s k = p.val → siteState s k ≠ 2 →
                (∀ i a, i < 64 → a < 0x10_0000 → cread t (64 * k + i) a = 0) ∧ (∀ i n, i < 64 → n < 32 → vreg t (64 * k + i) n = 0) ∧ (∀ c, c < 1024 → chan t k c = Chan.init)
                ∧ rf t (BSN_STATUS k) Fd.BSN_STATUS_ZF_BUSY = 1 ∧ ∀ n, n < 192 → n ≠ 187 → n ∈ (site t k).zfLeft)
            ∧ (∀ k, k < 144 → partOfSite s k ≠ p.val → (∀ i a, i < 64 → a < 0x10_0000 → cread t (64 * k + i) a = cread s (64 * k + i) a) ∧ ∀ c, c < 1024 → chan t k c = chan s k c)
            ∧ ∀ i, i < 32 → (partOfKey s i = some p.val → tab t (slotKey i) = tab s (slotKey i) + 1 ∧ (rd t SEC_SLOTS).getLsbD i = true ∧ (rd t SEC_SLOTS).getLsbD (32 + i) = false)
                ∧ (partOfKey s i ≠ some p.val → tab t (slotKey i) = tab s (slotKey i) ∧ (rd t SEC_SLOTS).getLsbD i = (rd s SEC_SLOTS).getLsbD i)))
  ∧ (∀ (p : Part) (s : State), ((part s p.val).zero = Option.none → ∃ t, exec (.zeroizeDone p) s = .next t ∧ t = s)
      ∧ ((part s p.val).zero.isSome = true → ∃ t, exec (.zeroizeDone p) s = .next t ∧ t.cmem = s.cmem ∧ t.chans = s.chans ∧ t.vregs = s.vregs ∧ t.cores = s.cores
          ∧ t.edges = s.edges ∧ t.ports = s.ports ∧ t.pending = s.pending
          ∧ (∀ a, (∀ i ∈ slicesOf s p.val, ∀ q, q < 64 → a ≠ fillKey i q) → tab t a = tab s a)
          ∧ (∀ k, site t k = if k < 144 ∧ partOfSite s k = p.val ∧ siteState s k ≠ 2 then { site s k with zfLeft := [] } else site s k)
          ∧ (∀ a, (fillsOf s p.val (fillKeeps s) a = true ∨ zeroing s p.val a → memRead t a = 0)
              ∧ (fillsOf s p.val (fillKeeps s) a = false → ¬ zeroing s p.val a → memRead t a = memRead s a))
          ∧ st t p.val = 0 ∧ rf t (SEC_PARTp p.val) Fd.SEC_PARTp_PMU_GRANT = 0 ∧ rf t (SEC_PARTp p.val) Fd.SEC_PARTp_TDI_RUN = 0 ∧ (part t p.val).zero = Option.none
          ∧ (rd t SEC_ZEROIZE).getLsbD (4 + p.val) = false ∧ (rd t SEC_ZEROIZE).getLsbD (8 + p.val) = true
          ∧ ∀ k, k < 144 → partOfSite s k = p.val → siteState s k = 0 → (rd t (BOOT_READY_SITEn (k / 64))).getLsbD (k % 64) = true))
  ∧ ∀ (req : Requester) (v : W64) (s : State),
      (mayAccess s req SEC_PART_CFG true = true → let good := partCfgOpen s = true ∧ fget Fd.SEC_PART_CFG_PMODE v ≠ 3
        ∃ t, exec (.secPartCfgWrite req false v) s = .next t ∧ (¬ good → only s t errorRegs)
          ∧ (good → (fget Fd.SEC_PART_CFG_PMODE v = pmode s → sameStores s t ∧ sameUnits s t)
              ∧ t.cmem = s.cmem ∧ t.chans = s.chans ∧ t.vregs = s.vregs ∧ t.tables = s.tables ∧ t.cores = s.cores ∧ t.sites = s.sites ∧ t.doms = s.doms
              ∧ t.edges = s.edges ∧ t.ports = s.ports ∧ t.parts = s.parts ∧ t.pending = s.pending
              ∧ (∀ a, 0x0400_0000_0000 ≤ a → memRead t a = memRead s a)
              ∧ otherRegs s t ([SEC_PART_CFG, SEC_SLOTS] ++ (List.range 16).map SEC_EDGE_STATUS
              ++ (List.range 144).flatMap (fun k => RIL_PART k :: (List.range 4).map (RIL_CORRIDORn k)))
              ∧ pmode t = fget Fd.SEC_PART_CFG_PMODE v ∧ rd t SEC_SLOTS = rd s SEC_SLOTS
              ∧ ∀ k, k < 144 → rf t (RIL_PART k) Fd.RIL_PART_PARTITION = partOfSite t k))
      ∧ (mayAccess s req SEC_CORRIDOR true = true →
        ∃ t, exec (.secPartCfgWrite req true v) s = .next t ∧ (partCfgOpen s = false → only s t errorRegs)
          ∧ (partCfgOpen s = true → only s t (SEC_CORRIDOR :: (List.range 144).flatMap (fun k => RIL_PART k :: (List.range 4).map (RIL_CORRIDORn k)))
              ∧ (∀ f ∈ [Fd.SEC_CORRIDOR_MESH, Fd.SEC_CORRIDOR_SPAN, Fd.SEC_CORRIDOR_HOLDER, Fd.SEC_CORRIDOR_READERS, Fd.SEC_CORRIDOR_EN], rf t SEC_CORRIDOR f = fget f v)
              ∧ ∀ k n, k < 144 → n < 4 → rf t (RIL_CORRIDORn k n) Fd.RIL_CORRIDORn_MESH = (if corridorLink t k n then fget Fd.SEC_CORRIDOR_MESH v else 0)
                  ∧ rf t (RIL_CORRIDORn k n) Fd.RIL_CORRIDORn_SPAN = (if corridorLink t k (4 + n) then fget Fd.SEC_CORRIDOR_SPAN v else 0)))

/-- R493, R534 to R539, R572: management. -/
def Obligations.ManagementRequests : Prop :=
  let only := fun (s t : State) (as : List Nat) => sameStores s t ∧ sameUnits s t ∧ otherRegs s t as
  let tells := fun (t : State) (op st : Nat) (tag : BitVec 16) (x : Nat) (bs : List Byte) => t.pnl.reply = some ⟨st == stOk, mgtBytes op st tag x bs⟩
  (∀ (pt : Fin 5) (i : Fin 8) (tag : BitVec 16) (s : State) (gpas : List W64) (pairs : List (W64 × W64)) (f : Found) (first count : BitVec 32) (w : W64) (data : List Byte)
      (sig : Bool), isMgmt s pt.val i.val = false →
      ∀ c ∈ ([.mgtRead pt i tag gpas, .mgtWrite pt i tag pairs f, .mgtFpr pt i tag, .mgtLog pt i tag first count, .mgtSubscribe pt i tag w, .mgtLease pt i tag w,
          .updateBegin pt i tag w, .updateData pt i tag w data, .updateEnd pt i tag sig] : List Instr),
        ∃ t, exec c s = .next t ∧ only s t [] ∧ t.pnl.reply = some ⟨false, []⟩ ∧ t.pnl.sessions = s.pnl.sessions)
  ∧ (∀ (pt : Fin 5) (i : Fin 8) (tag : BitVec 16) (s : State), isMgmt s pt.val i.val = true → let req := Requester.mgmt pt i
      (∀ gpas : List W64, (gpas = [] ∨ 64 < gpas.length → ∃ t, exec (.mgtRead pt i tag gpas) s = .next t ∧ only s t [] ∧ tells t 1 stMalformed tag 0 [])
          ∧ (gpas ≠ [] → gpas.length ≤ 64 → ∃ t x bs, exec (.mgtRead pt i tag gpas) s = .next t ∧ tells t 1 stOk tag x bs ∧ bs.length = 8 * gpas.length
              ∧ ((∀ a ∈ gpas, mgtRefused s req false a.toNat = true ∧ isData a.toNat = true) → x = 1 ∧ only s t errorRegs ∧ ∀ b ∈ bs, b = 0)))
      ∧ (∀ (a : W64) (u o : Nat) (r : RegRow), locate a.toNat = some (.pPwr, u, o) → o % 8 = 0 → findRow .pPwr o = some r → mayAccess s req a.toNat false = true →
          ∃ t, exec (.mgtRead pt i tag [a]) s = .next t ∧ only s t [] ∧ tells t 1 stOk tag 0 (bytesOf 8 (readMask r (rd s a.toNat)).toNat))
      ∧ (∀ (f : Found) (pairs : List (W64 × W64)), (pairs = [] ∨ 64 < pairs.length) →
          ∃ t, exec (.mgtWrite pt i tag pairs f) s = .next t ∧ only s t [] ∧ tells t 2 stMalformed tag 0 [])
      ∧ (∀ (f : Found) (a v : W64) (ps : List (W64 × W64)), isData a.toNat = true → ps.length < 64 →
          ∃ t, exec (.mgtWrite pt i tag ((a, v) :: ps) f) s = .next t ∧ only s t errorRegs ∧ tells t 2 stRefused tag 0 [])
      ∧ (∀ (f : Found) (a v : W64) (u o : Nat) (r : RegRow), locate a.toNat = some (.hbm, u, o) → o % 8 = 0 → findRow .hbm o = some r → mayAccess s req a.toNat true = true →
          ∃ t, exec (.mgtWrite pt i tag [(a, v)] f) s = .next t ∧ only s t [a.toNat] ∧ tells t 2 stOk tag 0 []
            ∧ rd t a.toNat = applyWrite r (rf s BOOT_LOCK Fd.BOOT_LOCK_LOCK == 1) (rd s a.toNat) (lateClear s a.toNat v))
      ∧ (∃ t, exec (.mgtFpr pt i tag) s = .next t ∧ only s t [] ∧ tells t 3 stOk tag 0 (currentFpr s))
      ∧ (∀ first count : BitVec 32, ∃ t, exec (.mgtLog pt i tag first count) s = .next t ∧ only s t [] ∧ t.pnl.log = s.pnl.log
          ∧ (count.toNat = 0 ∨ 64 < count.toNat → tells t 4 stMalformed tag 0 [])
          ∧ (count.toNat ≠ 0 → count.toNat ≤ 64 → ∃ rs : List FltRec, tells t 4 stOk tag 0 (rs.flatMap recordBytes) ∧ rs.Sublist s.pnl.log
              ∧ ∀ r, r ∈ rs ↔ r ∈ s.pnl.log ∧ first.toNat ≤ r.seq ∧ r.seq < first.toNat + count.toNat))
      ∧ (∀ mask : W64, ∃ t, exec (.mgtSubscribe pt i tag mask) s = .next t ∧ only s t [] ∧ tells t 5 stOk tag 0 []
          ∧ (sessionAt t pt.val i.val).map (fun x => x.mask) = some mask.toNat ∧ ∀ q j, ¬ (q = pt.val ∧ j = i.val) → sessionAt t q j = sessionAt s q j)
      ∧ ∀ w : W64, ∃ t, exec (.mgtLease pt i tag w) s = .next t ∧ only s t ([FLT_LEASE, FLT_LEASE_EXPIRY] ++ readyRegs BOOT_READY_SVC)
          ∧ leaseExpiry t = max (leaseExpiry s) (min (w.toNat % 2 ^ 58) (timeMs s + leasePeriod s)) % 2 ^ 58 ∧ rf t FLT_LEASE Fd.FLT_LEASE_EXPIRED = 0
          ∧ tells t 6 stOk tag 0 (bytesOf 8 (rd t FLT_LEASE_EXPIRY).toNat))
  ∧ (∀ (pt : Fin 5) (i : Fin 8) (tag : BitVec 16) (s : State), isMgmt s pt.val i.val = true → let n := otherSlot s
      (∀ len : W64, let busy := s.pnl.boot.update.isSome = true ∨ resetBusy s = true ∨ stage s = 7
          ∃ t, exec (.updateBegin pt i tag len) s = .next t ∧ (busy → only s t [] ∧ tells t 7 stBusy tag 0 [] ∧ t.pnl.boot = s.pnl.boot)
            ∧ (¬ busy → 0x600_0000 < len.toNat → only s t [] ∧ tells t 7 stMalformed tag 0 [] ∧ t.pnl.boot = s.pnl.boot)
            ∧ (¬ busy → len.toNat ≤ 0x600_0000 → only s t [BOOT_STATUS] ∧ tells t 7 stOk tag 0 [] ∧ t.pnl.boot.update = some (pt.val, i.val, len.toNat)
                ∧ slotImage t n = Option.none ∧ slotImage t (1 - n) = slotImage s (1 - n) ∧ (rd t BOOT_STATUS).getLsbD (7 + n) = false
                ∧ ∀ a, a < 0x1_0000 → sget (fun _ => 0#8) t.pnl.boot.nvm (slotBase n + a) = 0))
      ∧ (∀ (ofs : W64) (data : List Byte) (len : Nat), s.pnl.boot.update = some (pt.val, i.val, len) →
          let fits := data ≠ [] ∧ data.length ≤ 0x4000 ∧ ofs.toNat + data.length ≤ len
          ∃ t, exec (.updateData pt i tag ofs data) s = .next t ∧ only s t [] ∧ (¬ fits → tells t 8 stMalformed tag 0 [] ∧ t.pnl.boot = s.pnl.boot)
            ∧ (fits → tells t 8 stOk tag 0 [] ∧ (∀ x, x < data.length → sget (fun _ => 0#8) t.pnl.boot.nvm (slotBase n + ofs.toNat + x) = data.getD x 0)
                ∧ ∀ a, (a < slotBase n + ofs.toNat ∨ slotBase n + ofs.toNat + data.length ≤ a) →
                    sget (fun _ => 0#8) t.pnl.boot.nvm a = sget (fun _ => 0#8) s.pnl.boot.nvm a))
      ∧ (hasUpdate s pt.val i.val = false → ∀ (ofs : W64) (data : List Byte) (sig : Bool),
          (∃ t, exec (.updateData pt i tag ofs data) s = .next t ∧ only s t [] ∧ tells t 8 stRefused tag 0 [])
          ∧ ∃ t, exec (.updateEnd pt i tag sig) s = .next t ∧ only s t [] ∧ tells t 9 stRefused tag 0 [])
      ∧ ∀ sig : Bool, hasUpdate s pt.val i.val = true → let im := slotBytes s n sig
          let good := imageVerifies s im = true ∧ clashes s im = false
          ∃ t, exec (.updateEnd pt i tag sig) s = .next t ∧ only s t [BOOT_STATUS] ∧ t.pnl.boot.update = Option.none ∧ slotImage t (1 - n) = slotImage s (1 - n)
            ∧ (good → slotImage t n = some im ∧ (rd t BOOT_STATUS).getLsbD (7 + n) = true ∧ (rd t BOOT_STATUS).getLsbD (9 + n) = false
                ∧ tells t 9 stOk tag 0 (bytesOf 8 (rd t BOOT_STATUS).toNat))
            ∧ (¬ good → slotImage t n = Option.none ∧ (rd t BOOT_STATUS).getLsbD (7 + n) = false ∧ tells t 9 stVerify tag 0 (bytesOf 8 (rd t BOOT_STATUS).toNat)))
  ∧ (∀ (pt : Fin 5) (i : Fin 8) (s : State) (x : Session) (e : Nat × List Byte) (rest : List (Nat × List Byte)), sessionAt s pt.val i.val = some x → x.queue = e :: rest →
      (∃ t, exec (.mgtEventSend pt i) s = .next t ∧ only s t [] ∧ sessionAt t pt.val i.val = some { x with queue := rest, events := x.events + 1 }
          ∧ t.pnl.reply = some ⟨true, mgtBytes 10 stOk 0 (x.events + 1) (bytesOf 1 e.1 ++ bytesOf 7 0 ++ if e.1 = 5 then snapshot s (granted s) else e.2)⟩)
      ∧ ∃ t, exec (.mgtEventDrop pt i) s = .next t ∧ only s t eventRegs ∧ sessionAt t pt.val i.val = some { x with queue := rest, events := x.events + 1 })
  ∧ ∀ (addr dyn : BitVec 7) (s : State),
      (s.pnl.i3c = some addr.toNat → ∃ t, exec (.i3cPrivateRead addr) s = .next t ∧ only s t [] ∧ t.pnl.ibi = false ∧ t.pnl.reply = some ⟨true, healthSummary s⟩)
      ∧ (s.pnl.i3c ≠ some addr.toNat → ∃ t, exec (.i3cPrivateRead addr) s = .next t ∧ only s t [] ∧ t.pnl.ibi = s.pnl.ibi ∧ t.pnl.reply = some ⟨false, []⟩)
      ∧ (∃ t, exec (.i3cAddressAssign Option.none dyn) s = .next t ∧ only s t [] ∧ t.pnl.i3c = some dyn.toNat)
      ∧ (∃ t, exec (.i3cAddressAssign (some 0x4A#7) dyn) s = .next t ∧ only s t [] ∧ t.pnl.i3c = some dyn.toNat)
      ∧ (addr ≠ 0x4A#7 → ∃ t, exec (.i3cAddressAssign (some addr) dyn) s = .next t ∧ t = s)

/-- R540 to R544: time. The servo's law and the rounding below a nanosecond are the model's (log entries 97 and 98). -/
def Obligations.TimeCommandsAndTick : Prop :=
  let stores := fun (s t : State) => t.mem = s.mem ∧ t.lineKey = s.lineKey ∧ t.cmem = s.cmem ∧ t.chans = s.chans ∧ t.vregs = s.vregs ∧ t.pending = s.pending ∧ sameUnits s t
  let ts := fun (t : State) (f : Fld) => rf t TIME_STATUS f
  let moved := fun (s t : State) (sl : Int) =>
    let d := max (-(slewLimit s)) (min (slewLimit s) sl)
    let total := (s.pnl.time.frac : Int) + tick40 + tick40 * s.pnl.time.rate / 1_000_000_000 + d
    let n := (total / 2 ^ 32).toNat
    t.pnl.time.slew = sl - d ∧ (t.pnl.time.frac : Int) = total % 2 ^ 32 ∧ (ts t Fd.TIME_STATUS_SLEWING = 1 ↔ sl - d ≠ 0)
      ∧ (timeNs s < 1_000_000_000 → n < 1_000_000_000 → timeSec s + 1 < 2 ^ 48 →
          timeSec t * 1_000_000_000 + timeNs t = timeSec s * 1_000_000_000 + timeNs s + n ∧ timeNs t < 1_000_000_000)
  (∀ (req : Requester) (s : State), mayAccess s req TIME_CMD true = true →
      ∀ c ∈ ([(.timeSet req, 1), (.timeSlew req, 2), (.timeCancel req, 3)] : List (Instr × Nat)),
        ∃ t, exec c.1 s = .next t ∧ sameStores s t ∧ sameUnits s t ∧ otherRegs s t [TIME_STATUS] ∧ ts t Fd.TIME_STATUS_BUSY = 1
          ∧ t.pnl.time.cmds = s.pnl.time.cmds ++ [(req, c.2)] ∧ timeNs t = timeNs s ∧ timeSec t = timeSec s)
  ∧ (∀ s : State, ∃ t, exec .timeTick s = .next t ∧ sameStores s t ∧ sameUnits s t ∧ otherRegs s t ([TIME_SEC, TIME_NS, TIME_STATUS, TIME_OFFSET] ++ errorRegs)
      ∧ t.pnl.time.cmds = [] ∧ ts t Fd.TIME_STATUS_BUSY = 0 ∧ t.pnl.time.rate = s.pnl.time.rate
      ∧ (s.pnl.time.cmds = [] → moved s t s.pnl.time.slew)
      ∧ (∀ req, s.pnl.time.cmds = [(req, 1)] → ts s Fd.TIME_STATUS_VALID = 0 → ts t Fd.TIME_STATUS_VALID = 1 ∧ t.pnl.time.frac = 0
          ∧ timeSec t = staged s req TIME_SET_SEC % 2 ^ 48 ∧ timeNs t = staged s req TIME_SET_NS % 2 ^ 30)
      ∧ (∀ req, s.pnl.time.cmds = [(req, 1)] → ts s Fd.TIME_STATUS_VALID = 1 → ts t Fd.TIME_STATUS_STEP_REFUSED = 1 ∧ moved s t s.pnl.time.slew
          ∧ rf t FLT_ACCESS Fd.FLT_ACCESS_VALID = 1)
      ∧ (∀ req, s.pnl.time.cmds = [(req, 2)] → moved s t ((BitVec.ofNat 64 (staged s req TIME_ADJ)).toInt * 2 ^ 32))
      ∧ ∀ req, s.pnl.time.cmds = [(req, 3)] → moved s t 0)
  ∧ (∀ (req : Requester) (s : State),
      (mayAccess s req TIME_NS false = true → ∃ t, exec (.timeNsRead req) s = .next t ∧ stores s t ∧ otherRegs s t [] ∧ staged t req TIME_SEC_SHADOW = timeSec s
          ∧ (∀ a, a ≠ stagedKey req TIME_SEC_SHADOW → tab t a = tab s a) ∧ t.pnl.reply = some ⟨true, bytesOf 8 (rd s TIME_NS).toNat⟩)
      ∧ (mayAccess s req TIME_MARK_SEQ false = true → ∃ t, exec (.timeMarkSeqRead req) s = .next t ∧ stores s t ∧ otherRegs s t []
          ∧ (∀ r ∈ [TIME_MARK_SC, TIME_MARK_SEC, TIME_MARK_NS], staged t req r = (rd s r).toNat)
          ∧ (∀ a, (∀ r ∈ [TIME_MARK_SC, TIME_MARK_SEC, TIME_MARK_NS], a ≠ stagedKey req r) → tab t a = tab s a)
          ∧ t.pnl.reply = some ⟨true, bytesOf 8 (rd s TIME_MARK_SEQ).toNat⟩)
      ∧ ∀ d : Dom, mayAccess s req (CLK_MARK d.val) false = true → ∃ t, exec (.clkMarkRead req d) s = .next t ∧ stores s t ∧ otherRegs s t []
          ∧ tab t (markKey req d.val) = (rd s (CLK_MARK_SC d.val)).toNat ∧ (∀ a, a ≠ markKey req d.val → tab t a = tab s a)
          ∧ t.pnl.reply = some ⟨true, bytesOf 8 (rd s (CLK_MARK d.val)).toNat⟩)
  ∧ (∀ (pt : Fin 2) (m : PtpMsg) (s : State),
      let locked := m.offsetNs.natAbs < 1000 ∧ 10_000 ≤ m.stableMs
      let first := ts s Fd.TIME_STATUS_VALID = 0 ∧ s.pnl.time.ptpSet = false
      ∃ t, exec (.ptpMessage pt m) s = .next t ∧ stores s t ∧ t.tables = s.tables
        ∧ (rf s TIME_CFG Fd.TIME_CFG_PTP_EN = 0 ∨ portOn s pt.val = false → t = s)
        ∧ (rf s TIME_CFG Fd.TIME_CFG_PTP_EN = 1 → portOn s pt.val = true →
            otherRegs s t ([MGT_PORTn_STATUS 0, MGT_PORTn_STATUS 1, TIME_OFFSET, TIME_UTC, TIME_SEC, TIME_NS, TIME_STATUS] ++ (List.range 10).map MGT_FN_IRQ)
            ∧ (∀ n, n < 2 → rf t (MGT_PORTn_STATUS n) Fd.MGT_PORTn_STATUS_PTP_SRC = b2n (n == pt.val))
            ∧ rf t TIME_OFFSET Fd.TIME_OFFSET_OFFSET = (BitVec.ofInt 32 m.offsetNs).toNat
            ∧ (∀ u, m.utc = some u → rf t TIME_UTC Fd.TIME_UTC_OFFSET = u.toNat ∧ rf t TIME_UTC Fd.TIME_UTC_VALID = 1)
            ∧ (first → timeSec t = m.seconds.toNat ∧ timeNs t = m.nanos % 1_000_000_000 ∧ t.pnl.time.ptpSet = true ∧ t.pnl.time.rate = s.pnl.time.rate)
            ∧ (¬ first → timeSec t = timeSec s ∧ timeNs t = timeNs s ∧ -(1000 * (slewPpm s : Int)) ≤ t.pnl.time.rate ∧ t.pnl.time.rate ≤ 1000 * (slewPpm s : Int))
            ∧ (locked → ts t Fd.TIME_STATUS_LOCKED = 1 ∧ ts t Fd.TIME_STATUS_VALID = 1)
            ∧ (¬ locked → ts t Fd.TIME_STATUS_LOCKED = 0 ∧ ts t Fd.TIME_STATUS_VALID = ts s Fd.TIME_STATUS_VALID) ∧ ts t Fd.TIME_STATUS_HOLDOVER = 0
            ∧ (ts t Fd.TIME_STATUS_LOCKED ≠ ts s Fd.TIME_STATUS_LOCKED → ∀ u, u < 10 → (rd t (MGT_FN_IRQ u)).getLsbD 5 = true)))
  ∧ ∀ s : State, ∃ t, exec .ptpHoldover s = .next t ∧ sameStores s t ∧ sameUnits s t ∧ t.pnl = s.pnl ∧ otherRegs s t (TIME_STATUS :: (List.range 10).map MGT_FN_IRQ)
      ∧ (rf s TIME_CFG Fd.TIME_CFG_PTP_EN = 0 → t = s)
      ∧ (rf s TIME_CFG Fd.TIME_CFG_PTP_EN = 1 → ts t Fd.TIME_STATUS_HOLDOVER = 1 ∧ ts t Fd.TIME_STATUS_LOCKED = ts s Fd.TIME_STATUS_LOCKED
          ∧ (ts s Fd.TIME_STATUS_HOLDOVER = 0 → ∀ u, u < 10 → (rd t (MGT_FN_IRQ u)).getLsbD 5 = true))

/-- R546 to R560: performance monitoring. -/
def Obligations.CounterFreezeAndSamples : Prop :=
  let stores := fun (s t : State) => t.cmem = s.cmem ∧ t.chans = s.chans ∧ t.tables = s.tables ∧ t.vregs = s.vregs ∧ t.pending = s.pending ∧ t.sites = s.sites ∧ t.ports = s.ports
  let counter := fun (a : Nat) => ∃ b u o, locate a = some (b, u, o) ∧ isCounter b o = true
  (∀ (d : Dom) (s : State), let f := freezeSc s d.val
      let lo := if d.val < 144 then siteCsr d.val else edgeCsr (d.val - 144)
      let n := if d.val < 144 then 0x10_0000 else 0x100_0000
      let mine := freezeOn s = false ∨ (freezeAt s = f ∧ (dom s d.val).frozen = false)
      (atFreeze s d.val = false → ∃ t, exec (.freezeLatch d) s = .next t ∧ t = s)
      ∧ (atFreeze s d.val = true → mine → ∃ t, exec (.freezeLatch d) s = .next t ∧ stores s t ∧ t.mem = s.mem ∧ freezeOn t = true ∧ (dom t d.val).frozen = true
          ∧ (freezeOn s = false → freezeAt t = f % 2 ^ 64
              ∧ rf t PMU_STATUS Fd.PMU_STATUS_FREEZE_SEQ = (rf s PMU_STATUS Fd.PMU_STATUS_FREEZE_SEQ + 1) % 2 ^ 32)
          ∧ (freezeOn s = true → freezeAt t = freezeAt s ∧ rf t PMU_STATUS Fd.PMU_STATUS_FREEZE_SEQ = rf s PMU_STATUS Fd.PMU_STATUS_FREEZE_SEQ)
          ∧ (∀ a, lo ≤ a → a < lo + n → counter a → rd t a = live s a)
          ∧ (∀ a, (a < lo ∨ lo + n ≤ a) → (a < panelCsr ∨ panelCsr + 0x100_0000 ≤ a) → a ∉ eventRegs → rd t a = rd s a)
          ∧ (d.val = referenceDomain s → t.pnl.pmu.sec = timeSec s ∧ t.pnl.pmu.ns = timeNs s)
          ∧ ∀ i, d.val < 144 → i < 64 → (core t (64 * d.val + i)).evtSel = (core s (64 * d.val + i)).evtStaged.getD (core s (64 * d.val + i)).evtSel
              ∧ (core t (64 * d.val + i)).evtStaged = Option.none
              ∧ rd t (CORE_EVT_SEL (64 * d.val + i)) = (core s (64 * d.val + i)).evtSel ∧ rd t (CORE_SAMP_CFG (64 * d.val + i)) = (core s (64 * d.val + i)).sampCfg
              ∧ (core t (64 * d.val + i)).marked = (live s (CORE_SAMP_WRITTEN (64 * d.val + i))).toNat % 2 ^ 32)
      ∧ (atFreeze s d.val = true → freezeOn s = true → freezeAt s ≠ f → ∃ t, exec (.freezeLatch d) s = .next t ∧ stores s t ∧ t.mem = s.mem ∧ t.doms = s.doms
          ∧ otherRegs s t (PMU_EVENTS :: eventRegs) ∧ t.pnl.pmu.skipAt = some f ∧ (s.pnl.pmu.skipAt ≠ some f → rf t PMU_EVENTS Fd.PMU_EVENTS_SKIPPED = 1)
          ∧ ∀ i, d.val < 144 → i < 64 → (core t (64 * d.val + i)).evtStaged = Option.none)
      ∧ (atFreeze s d.val = true → freezeOn s = true → freezeAt s = f → (dom s d.val).frozen = true → ∃ t, exec (.freezeLatch d) s = .next t ∧ t = s))
  ∧ (∀ s : State, let due := freezeOn s = true ∧ s.pnl.pmu.sent = false ∧ ∀ d ∈ lockstep s, (dom s d).frozen = true
      let r := (snapshot (modPmu s (fun x => { x with blocks := allBlocks s, sent := true })) (fun _ => true)).take 0x400_0000
      ∃ t, exec .collectorGather s = .next t ∧ stores s t ∧ (¬ due → t = s)
        ∧ (due → otherRegs s t (PMU_STATUS :: eventRegs) ∧ t.pnl.pmu.blocks = allBlocks s ∧ t.pnl.pmu.sent = true ∧ rf t PMU_STATUS Fd.PMU_STATUS_COLLECTING = 1
            ∧ memReads t (collectorBase s) r.length = r
            ∧ (∀ a, (a < collectorBase s ∨ collectorBase s + 0x400_0000 ≤ a) → memRead t a = memRead s a)
            ∧ (∀ u ∈ snapFns s, (u / 5, u % 5, 2, []) ∈ t.pnl.hostQ)
            ∧ ∀ x ∈ s.pnl.sessions, x.kind = 1 → x.mask / 2 ^ 5 % 2 = 1 → ∃ y ∈ t.pnl.sessions, y.port = x.port ∧ y.idx = x.idx ∧ y.queue = x.queue ++ [(5, [])]))
  ∧ (∀ s : State, let due := freezeOn s = true ∧ s.pnl.pmu.sent = true ∧ awaits s = false
      ∃ t, exec .freezeRelease s = .next t ∧ stores s t ∧ t.mem = s.mem ∧ t.cores = s.cores ∧ (¬ due → t = s)
        ∧ (due → otherRegs s t (PMU_STATUS :: eventRegs) ∧ freezeOn t = false ∧ rf t PMU_STATUS Fd.PMU_STATUS_COLLECTING = 0 ∧ (∀ d, (dom t d).frozen = false)
            ∧ t.pnl.pmu.blocks = [] ∧ t.pnl.pmu.sent = false ∧ t.pnl.ovfPend = []
            ∧ (s.pnl.ovfPend ≠ [] → ∀ u, u < 10 → (rd t (MGT_FN_IRQ u)).getLsbD 4 = true)))
  ∧ (∀ (a : BitVec 48) (s : State), let top := counter a.toNat ∧ (live s a.toNat).toNat % 2 ^ 63 = 2 ^ counterWidth a.toNat - 1
      ∃ t, exec (.counterOverflow a) s = .next t ∧ sameStores s t ∧ sameUnits s t ∧ otherRegs s t eventRegs ∧ (¬ top → t = s)
        ∧ (top → (live t a.toNat).toNat = 2 ^ 63 ∧ (∀ b, b ≠ a.toNat → live t b = live s b)
            ∧ (freezeOn s = true → t.csr = s.csr ∧ t.pnl.ovfPend = s.pnl.ovfPend ++ [a.toNat])
            ∧ (freezeOn s = false → (rd t PMU_EVENTS).getLsbD (if counterWidth a.toNat = 32 then 1 else 0) = true ∧ ∀ u, u < 10 → (rd t (MGT_FN_IRQ u)).getLsbD 4 = true)))
  ∧ (∀ (g : Gid) (s : State) (p : PendSample), (core s g.val).samples.find? (fun p => Nat.ble p.due (scOf s (g.val / 64))) = some p →
      let seq := (live s (CORE_SAMP_WRITTEN g.val)).toNat % 2 ^ 32
      let w := fun (t : State) (i : Nat) => (rd t (CORE_SAMPn g.val (seq % 64 * 8 + i))).toNat
      ∃ t, exec (.sampleWrite g) s = .next t ∧ sameStores s t ∧ t.sites = s.sites ∧ t.doms = s.doms ∧ otherRegs s t ((List.range 8).map (fun i => CORE_SAMPn g.val (seq % 64 * 8 + i)) ++ eventRegs)
        ∧ core t g.val = { core s g.val with samples := (core s g.val).samples.erase p } ∧ (∀ h, h ≠ g.val → core t h = core s h)
        ∧ w t 0 = p.issue % 2 ^ 64 ∧ w t 1 % 2 ^ 32 = seq ∧ w t 1 / 2 ^ 32 % 2 ^ 12 = p.pc % 4096 ∧ (∀ i, i < 4 → w t (4 + i) = p.bundle.toNat / 2 ^ (64 * i) % 2 ^ 64)
        ∧ (live t (CORE_SAMP_WRITTEN g.val)).toNat % 2 ^ 32 = (seq + 1) % 2 ^ 32
        ∧ (64 ≤ (seq + 2 ^ 32 - (core s g.val).collected) % 2 ^ 32 →
            (live t (CORE_SAMP_LOST g.val)).toNat % 2 ^ 32 = ((live s (CORE_SAMP_LOST g.val)).toNat + 1) % 2 ^ 32))
  ∧ ∀ (req : Requester) (g : Gid) (samp : Bool) (v : W64) (s : State), mayAccess s req (if samp then CORE_SAMP_CFG g.val else CORE_EVT_SEL g.val) true = true →
      ∃ t, exec (.programmeRegisterWrite req g samp v) s = .next t ∧ sameStores s t ∧ t.sites = s.sites ∧ t.doms = s.doms
        ∧ (coreState s g.val = 0 → otherRegs s t errorRegs ∧ t.cores = s.cores)
        ∧ (coreState s g.val ≠ 0 → otherRegs s t [] ∧ (∀ h, h ≠ g.val → core t h = core s h) ∧ (core t g.val).evtSel = (core s g.val).evtSel
            ∧ (samp = true → (core t g.val).sampStaged = some (v &&& BitVec.ofNat 64 (2 ^ 51 - 1)) ∧ (core t g.val).evtStaged = (core s g.val).evtStaged)
            ∧ (samp = false → (core t g.val).evtStaged = some (v &&& BitVec.ofNat 64 (2 ^ 32 - 1)) ∧ (core t g.val).sampStaged = (core s g.val).sampStaged))

/-- R511, and R586 for what it means to have an image loaded. -/
def Obligations.PartitionModeLocked : Prop :=
  ∀ (req : Requester) (corridor : Bool) (v : W64) (s : State),
    let a := if corridor then SEC_CORRIDOR else SEC_PART_CFG
    let free := (∀ p, p < 4 → rf s (SEC_PARTp p) Fd.SEC_PARTp_STATE = 0) ∧ rf s SEC_ZEROIZE Fd.SEC_ZEROIZE_BUSY = 0
      ∧ ∀ p, p < 4 → rf s (BOOT_LOAD_STATUSp p) Fd.BOOT_LOAD_STATUSp_STATE = 0 ∨ rf s (BOOT_LOAD_STATUSp p) Fd.BOOT_LOAD_STATUSp_STATE = 5
    (¬ free → ∃ t, exec (.secPartCfgWrite req corridor v) s = .next t ∧ sameStores s t ∧ sameUnits s t ∧ otherRegs s t errorRegs
        ∧ (live t FLT_ACCESS_ERRS).toNat % 2 ^ 48 = ((live s FLT_ACCESS_ERRS).toNat + 1) % 2 ^ 48
        ∧ (rf s FLT_ACCESS Fd.FLT_ACCESS_VALID = 0 → rf t FLT_ACCESS Fd.FLT_ACCESS_VALID = 1 ∧ rf t FLT_ACCESS Fd.FLT_ACCESS_KIND = 1
            ∧ rf t FLT_ACCESS Fd.FLT_ACCESS_WRITE = 1 ∧ (rd t FLT_ACCESS_ADDR).toNat = a))
    ∧ (free → mayAccess s req a true = true →
        ∃ t, exec (.secPartCfgWrite req corridor v) s = .next t
          ∧ ((corridor = true ∨ fget Fd.SEC_PART_CFG_PMODE v = pmode s ∨ fget Fd.SEC_PART_CFG_PMODE v = 3) → sameStores s t ∧ sameUnits s t)
          ∧ (corridor = false → fget Fd.SEC_PART_CFG_PMODE v ≠ 3 → rf t SEC_PART_CFG Fd.SEC_PART_CFG_PMODE = fget Fd.SEC_PART_CFG_PMODE v)
          ∧ (corridor = true → ∀ f ∈ [Fd.SEC_CORRIDOR_MESH, Fd.SEC_CORRIDOR_SPAN, Fd.SEC_CORRIDOR_HOLDER, Fd.SEC_CORRIDOR_READERS, Fd.SEC_CORRIDOR_EN],
              rf t SEC_CORRIDOR f = fget f v))

/-- R5: the check of code 0x04. -/
def Obligations.FusedMaximumRefused : Prop :=
  ∀ (req : Requester) (p : Part) (im : SchedImage) (s : State) (x : PwrRow), mayAccess s req BOOT_LOAD_CMD true = true →
    loadCmdAllowed s req (BitVec.ofNat 64 (1 + 16 * p.val)) = true → inPartition s p.val (staged s req BOOT_LOAD_SRC) 256 = true → loadBusy s p.val im = false →
    x ∈ im.power → x.present = true → x.oppt.val < fusedMax s →
      ∃ t, exec (.bootLoad req p im) s = .next t ∧ t.mem = s.mem ∧ t.cmem = s.cmem ∧ loadState t p.val = 5
        ∧ rf t (BOOT_LOAD_STATUSp p.val) Fd.BOOT_LOAD_STATUSp_CODE ≠ 0
        ∧ (loadState s p.val ≠ 6 → ckFormat s p.val im = Option.none → im.signaturesOk = true → rf s SEC_LIFECYCLE Fd.SEC_LIFECYCLE_STATE ≠ 3 →
            fprMatches s im.fprGen im.fprDigest = true → rf t (BOOT_LOAD_STATUSp p.val) Fd.BOOT_LOAD_STATUSp_CODE = 4)

/-- R55: the check of code 0x03. The current record's BODY_DIGEST is bytes 0x30 to 0x5F of the buffer in use (R41, R51). -/
def Obligations.FloorPlanMismatch : Prop :=
  ∀ (req : Requester) (p : Part) (im : SchedImage) (s : State), mayAccess s req BOOT_LOAD_CMD true = true →
    loadCmdAllowed s req (BitVec.ofNat 64 (1 + 16 * p.val)) = true → inPartition s p.val (staged s req BOOT_LOAD_SRC) 256 = true → loadBusy s p.val im = false →
      let buf := rf s BOOT_FPR_GEN Fd.BOOT_FPR_GEN_BUF
      let word := fun i => im.fprDigest / 2 ^ (64 * i) % 2 ^ 64
      let current := im.fprGen = rf s BOOT_FPR_GEN Fd.BOOT_FPR_GEN_GEN ∧ im.fprDigest < 2 ^ 384 ∧ (∀ i, i < 6 → (rd s (BOOT_FPR_BUFb_n buf (6 + i))).toNat = word i)
        ∧ rf s BOOT_FPR_GEN Fd.BOOT_FPR_GEN_PUB_BUSY = 0
      ∃ t, exec (.bootLoad req p im) s = .next t
        ∧ (¬ current → t.mem = s.mem ∧ t.cmem = s.cmem ∧ loadState t p.val = 5 ∧ rf t (BOOT_LOAD_STATUSp p.val) Fd.BOOT_LOAD_STATUSp_CODE ≠ 0
            ∧ (loadState s p.val ≠ 6 → ckFormat s p.val im = Option.none → im.signaturesOk = true → rf s SEC_LIFECYCLE Fd.SEC_LIFECYCLE_STATE ≠ 3 →
                rf t (BOOT_LOAD_STATUSp p.val) Fd.BOOT_LOAD_STATUSp_CODE = 3))
        ∧ (loadState t p.val = 2 → current)

/-- R56: R55 again at START. -/
def Obligations.StartChecksFloorPlan : Prop :=
  ∀ (req : Requester) (mask : Fin 16) (s : State) (p : Part) (im : SchedImage), mayAccess s req BOOT_LOAD_CMD true = true →
    loadCmdAllowed s req (BitVec.ofNat 64 (2 + 256 * mask.val)) = true → (rd s BOOT_READY_SVC).getLsbD 4 = true →
    (∀ q, q < 4 → mask.val / 2 ^ q % 2 = 1 → loadState s q = 2 ∧ (part s q).zero = Option.none) → mask.val / 2 ^ p.val % 2 = 1 →
    (part s p.val).image = some im → (im.fprGen ≠ rf s BOOT_FPR_GEN Fd.BOOT_FPR_GEN_GEN ∨ im.fprDigest ≠ fprDigest s ∨ rf s BOOT_FPR_GEN Fd.BOOT_FPR_GEN_PUB_BUSY = 1) →
      ∃ t, exec (.bootStart req mask) s = .next t ∧ loadState t p.val = 5 ∧ rf t (BOOT_LOAD_STATUSp p.val) Fd.BOOT_LOAD_STATUSp_CODE = 3
        ∧ (part t p.val).image = Option.none ∧ t.mem = s.mem ∧ t.cmem = s.cmem ∧ ∀ g : Gid, coreState t g.val = 2 → coreState s g.val = 2

/-- R318, for entries with a destination on this panel (R330; log entry 11). -/
def Obligations.OverlapRefused : Prop :=
  ∀ (req : Requester) (p : Part) (im : SchedImage) (s : State) (i w a b a' b' : Nat),
    let row := fun (m n : Nat) => (eDstAddr w : Int) + 64 * (n * signed 32 (ew w 5 0 32) + m * signed 32 (ew w 5 32 32))
    mayAccess s req BOOT_LOAD_CMD true = true →
    loadCmdAllowed s req (BitVec.ofNat 64 (1 + 16 * p.val)) = true → inPartition s p.val (staged s req BOOT_LOAD_SRC) 256 = true → loadBusy s p.val im = false →
    (i, w) ∈ im.streams → eDst w ≠ 3 → a < eN2 w → b < eN1 w → a' < eN2 w → b' < eN1 w → (a, b) ≠ (a', b') →
    row a b < row a' b' + eRowBytes w → row a' b' < row a b + eRowBytes w →
      ∃ t, exec (.bootLoad req p im) s = .next t ∧ t.mem = s.mem ∧ t.cmem = s.cmem ∧ loadState t p.val = 5
        ∧ rf t (BOOT_LOAD_STATUSp p.val) Fd.BOOT_LOAD_STATUSp_CODE ≠ 0
        ∧ (loadState s p.val ≠ 6 → firstFail [ckFormat s p.val im, failIf 2 0 (!im.signaturesOk || rf s SEC_LIFECYCLE Fd.SEC_LIFECYCLE_STATE == 3), ckFpr s im, ckOppt s im,
            ckPhases im, ckOpen s im, ckWakes im, ckBoundary s p.val im, ckLinks s im, ckCanonical s im] = Option.none →
            rf t (BOOT_LOAD_STATUSp p.val) Fd.BOOT_LOAD_STATUSp_CODE = 0x0B)

/-- R177. 512 banks of 6,144 rows hold the 0x30_0000 lines of a basin. -/
def Obligations.BankMapIsOneToOne : Prop :=
  (∀ w, w < 0x300_0000 → w / 16 < 0x30_0000 ∧ w = w / 16 * 16 + w % 16)
    ∧ (∀ l, l < 0x30_0000 → bankOfLine l = Nat.xor (Nat.xor (l % 512) (l / 512 % 512)) (l / 2 ^ 18 % 16) ∧ rowOfLine l = l / 512 % 8192
        ∧ bankOfLine l < 512 ∧ rowOfLine l < 6144)
    ∧ (∀ bank row, bank < 512 → row < 6144 → ∃ l, (l < 0x30_0000 ∧ bankOfLine l = bank ∧ rowOfLine l = row)
        ∧ ∀ m, m < 0x30_0000 → bankOfLine m = bank → rowOfLine m = row → m = l)
    ∧ ∀ w n, (w + 8192 * n) / 16 % 512 = w / 16 % 512

/-- R160, R162. -/
def Obligations.MaskPatternOrder : Prop :=
  let two := fun (m : Nat) (at_ : Nat → Nat × Nat) => ((List.range 4).filter (fun n => kept m (at_ n).1 (at_ n).2)).length = 2
  (∀ m i j, i < 4 → j < 4 → kept m i j = m.testBit (15 - 4 * i - j))
    ∧ (∀ m, m ∈ patterns ↔ m < 2 ^ 16 ∧ (∀ i, i < 4 → two m (fun j => (i, j))) ∧ ∀ j, j < 4 → two m (fun i => (i, j)))
    ∧ patterns.Pairwise (fun x y => x < y) ∧ patterns.length = 90
    ∧ (patterns.map (fun m => m / 4096)) = [3, 5, 6, 9, 10, 12].flatMap (fun n => List.replicate 15 n)
    ∧ patterns.take 15 = [0x33CC, 0x35AC, 0x35CA, 0x369C, 0x36C9, 0x396C, 0x39C6, 0x3A5C, 0x3AC5, 0x3C3C, 0x3C5A, 0x3C69, 0x3C96, 0x3CA5, 0x3CC3]
    ∧ patterns[15]? = some 0x53AC ∧ patterns[30]? = some 0x639C ∧ patterns[89]? = some 0xCC33
    ∧ (∀ i, i < 90 → patterns[i]?.map (fun m => 0xFFFF - m) = patterns[89 - i]?)
    ∧ ∀ (bytes : List Byte) (q : Nat) (b : Byte), bytes[q]? = some b → b.toNat < 90 → some (maskOf bytes q) = patterns[b.toNat]?
end

