-- ==== Sys2Proof/Laws/Sparse.lean ====
section
/-!
SUPPORT. The laws of the sparse stores: a read after a write, and that every write keeps the canonical form.
-/
namespace Sys2Proof.Machine

theorem sget_cons {α : Type} (d : Nat → α) (e : Nat × α) (t : Sparse α) (k : Nat) :
    sget d (e :: t) k = if e.1 = k then e.2 else sget d t k := by
  simp only [sget, Bool.cond_eq_ite, beq_iff_eq]

theorem sins_cons {α : Type} (k : Nat) (v : α) (e : Nat × α) (t : Sparse α) :
    sins k v (e :: t) = if k < e.1 then (k, v) :: e :: t else if e.1 = k then (k, v) :: t else e :: sins k v t := by
  simp only [sins, Bool.cond_eq_ite, beq_iff_eq, Nat.blt_eq]

theorem sget_sins {α : Type} (d : Nat → α) (k j : Nat) (v : α) (m : Sparse α) :
    sget d (sins k v m) j = if k = j then v else sget d m j := by
  induction m with
  | nil => simp [sins, sget_cons, sget]
  | cons e t ih =>
    rw [sins_cons]
    split
    · simp [sget_cons]
    · split
      · next h => subst h; simp only [sget_cons]; split <;> simp_all
      · next h =>
        simp only [sget_cons, ih]
        split <;> split <;> simp_all

theorem sget_filter_ne {α : Type} (d : Nat → α) (k j : Nat) (m : Sparse α) :
    sget d (m.filter (fun e => !(e.1 == k))) j = if k = j then d j else sget d m j := by
  induction m with
  | nil => simp [sget]
  | cons e t ih =>
    by_cases h1 : e.1 = k
    · simp only [List.filter_cons, h1, beq_self_eq_true, Bool.not_true, Bool.false_eq_true, if_false, ih, sget_cons]
      split <;> rfl
    · simp only [List.filter_cons, beq_eq_false_iff_ne.mpr h1, Bool.not_false, if_true, sget_cons, ih]
      split <;> split <;> simp_all

/-- A read after a write: the key written gives the value, every other key reads as before. -/
theorem sget_sput {α : Type} [DecidableEq α] (d : Nat → α) (k j : Nat) (v : α) (m : Sparse α) :
    sget d (sput d k v m) j = if k = j then v else sget d m j := by
  unfold sput
  split
  · next h => rw [sget_filter_ne]; by_cases hk : k = j <;> simp_all
  · exact sget_sins d k j v m

theorem sget_smod {α : Type} [DecidableEq α] (d : Nat → α) (k j : Nat) (f : α → α) (m : Sparse α) :
    sget d (smod d k f m) j = if k = j then f (sget d m k) else sget d m j := sget_sput d k j _ m

@[simp] theorem sget_sput_same {α : Type} [DecidableEq α] (d : Nat → α) (k : Nat) (v : α) (m : Sparse α) :
    sget d (sput d k v m) k = v := by simp [sget_sput]

theorem sget_sput_other {α : Type} [DecidableEq α] (d : Nat → α) {k j : Nat} (h : k ≠ j) (v : α) (m : Sparse α) :
    sget d (sput d k v m) j = sget d m j := by simp [sget_sput, h]

/-- What a dropped key reads as. -/
theorem sget_sdrop {α : Type} (d : Nat → α) (p : Nat → Bool) (j : Nat) (m : Sparse α) :
    sget d (sdrop p m) j = if p j then d j else sget d m j := by
  induction m with
  | nil => simp [sdrop, sget]
  | cons e t ih =>
    simp only [sdrop] at ih ⊢
    by_cases h1 : p e.1 = true
    · simp only [List.filter_cons, h1, Bool.not_true, Bool.false_eq_true, if_false, ih, sget_cons]
      by_cases hj : p j = true
      · simp only [hj, if_true]
      · have : e.1 ≠ j := fun h => hj (h ▸ h1)
        simp only [hj, this, if_false]
    · simp only [List.filter_cons, h1, Bool.not_false, if_true, ih, sget_cons]
      split <;> split <;> simp_all

/-! The canonical form. -/

theorem swfFrom_weaken {α : Type} [DecidableEq α] (d : Nat → α) {lo lo' : Option Nat} (m : Sparse α)
    (h : ∀ l, lo' = some l → ∃ l', lo = some l' ∧ l ≤ l') (hm : swfFrom d lo m = true) : swfFrom d lo' m = true := by
  cases m with
  | nil => rfl
  | cons e t =>
    simp only [swfFrom, Bool.and_eq_true] at hm ⊢
    refine ⟨⟨?_, hm.1.2⟩, hm.2⟩
    cases hlo : lo' with
    | none => rfl
    | some l =>
      obtain ⟨l', h1, h2⟩ := h l hlo
      have h3 := hm.1.1
      simp only [h1, Nat.blt_eq] at h3 ⊢
      omega

theorem swfFrom_sins {α : Type} [DecidableEq α] (d : Nat → α) (k : Nat) (v : α) (hv : v ≠ d k) (m : Sparse α) :
    ∀ lo : Option Nat, (∀ l, lo = some l → l < k) → swfFrom d lo m = true → swfFrom d lo (sins k v m) = true := by
  induction m with
  | nil =>
    intro lo hlo _
    cases lo with
    | none => simp [sins, swfFrom, hv]
    | some l => simp [sins, swfFrom, hv, hlo l rfl]
  | cons e t ih =>
    intro lo hlo hm
    simp only [swfFrom, Bool.and_eq_true] at hm
    rw [sins_cons]
    split
    · next h1 =>
      simp only [swfFrom, Bool.and_eq_true]
      refine ⟨⟨?_, by simp [hv]⟩, ⟨by simp [h1], hm.1.2⟩, hm.2⟩
      cases lo with
      | none => rfl
      | some l => simp [hlo l rfl]
    · split
      · next h2 =>
        subst h2
        simp only [swfFrom, Bool.and_eq_true]
        exact ⟨⟨hm.1.1, by simp [hv]⟩, hm.2⟩
      · simp only [swfFrom, Bool.and_eq_true]
        refine ⟨hm.1, ih (some e.1) ?_ hm.2⟩
        intro l hl
        cases hl
        omega

theorem swfFrom_filter {α : Type} [DecidableEq α] (d : Nat → α) (p : Nat × α → Bool) (m : Sparse α) :
    ∀ lo : Option Nat, swfFrom d lo m = true → swfFrom d lo (m.filter p) = true := by
  induction m with
  | nil => intro lo _; rfl
  | cons e t ih =>
    intro lo hm
    simp only [swfFrom, Bool.and_eq_true] at hm
    by_cases hp : p e = true
    · simp only [List.filter_cons, hp, if_true, swfFrom, Bool.and_eq_true]
      exact ⟨hm.1, ih _ hm.2⟩
    · simp only [List.filter_cons, hp]
      refine ih lo (swfFrom_weaken d t ?_ hm.2)
      intro l hl
      subst hl
      have := hm.1.1
      simp only [Nat.blt_eq] at this
      exact ⟨e.1, rfl, Nat.le_of_lt this⟩

/-- A write keeps the canonical form. -/
theorem swf_sput {α : Type} [DecidableEq α] (d : Nat → α) (k : Nat) (v : α) {m : Sparse α} (h : swf d m = true) :
    swf d (sput d k v m) = true := by
  unfold sput
  split
  · exact swfFrom_filter d _ m none h
  · next hv => exact swfFrom_sins d k v hv m none (fun _ h => by cases h) h

theorem swf_smod {α : Type} [DecidableEq α] (d : Nat → α) (k : Nat) (f : α → α) {m : Sparse α} (h : swf d m = true) :
    swf d (smod d k f m) = true := swf_sput d k _ h

theorem swf_sdrop {α : Type} [DecidableEq α] (d : Nat → α) (p : Nat → Bool) {m : Sparse α} (h : swf d m = true) :
    swf d (sdrop p m) = true := swfFrom_filter d _ m none h

theorem swf_sputs {α : Type} [DecidableEq α] (d : Nat → α) (es : List (Nat × α)) {m : Sparse α} (h : swf d m = true) :
    swf d (sputs d es m) = true := by
  unfold sputs
  induction es generalizing m with
  | nil => exact h
  | cons e t ih => exact ih (swf_sput d e.1 e.2 h)

end Sys2Proof.Machine
end

