-- ==== Sys2Proof/Laws/State.lean ====
section
/-!
SUPPORT. One lemma per field per setter: what each setter changes and what it leaves.
-/
namespace Sys2Proof.Machine

@[simp] theorem State.setCsr_csr (s : State) (v : Sparse W64) : (s.setCsr v).csr = v := rfl
@[simp] theorem State.setCsr_risen (s : State) (v : Sparse W64) : (s.setCsr v).risen = s.risen := rfl
@[simp] theorem State.setCsr_live (s : State) (v : Sparse W64) : (s.setCsr v).live = s.live := rfl
@[simp] theorem State.setCsr_mem (s : State) (v : Sparse W64) : (s.setCsr v).mem = s.mem := rfl
@[simp] theorem State.setCsr_lineKey (s : State) (v : Sparse W64) : (s.setCsr v).lineKey = s.lineKey := rfl
@[simp] theorem State.setCsr_cmem (s : State) (v : Sparse W64) : (s.setCsr v).cmem = s.cmem := rfl
@[simp] theorem State.setCsr_chans (s : State) (v : Sparse W64) : (s.setCsr v).chans = s.chans := rfl
@[simp] theorem State.setCsr_tables (s : State) (v : Sparse W64) : (s.setCsr v).tables = s.tables := rfl
@[simp] theorem State.setCsr_vregs (s : State) (v : Sparse W64) : (s.setCsr v).vregs = s.vregs := rfl
@[simp] theorem State.setCsr_cores (s : State) (v : Sparse W64) : (s.setCsr v).cores = s.cores := rfl
@[simp] theorem State.setCsr_undo (s : State) (v : Sparse W64) : (s.setCsr v).undo = s.undo := rfl
@[simp] theorem State.setCsr_sites (s : State) (v : Sparse W64) : (s.setCsr v).sites = s.sites := rfl
@[simp] theorem State.setCsr_doms (s : State) (v : Sparse W64) : (s.setCsr v).doms = s.doms := rfl
@[simp] theorem State.setCsr_edges (s : State) (v : Sparse W64) : (s.setCsr v).edges = s.edges := rfl
@[simp] theorem State.setCsr_hbms (s : State) (v : Sparse W64) : (s.setCsr v).hbms = s.hbms := rfl
@[simp] theorem State.setCsr_ports (s : State) (v : Sparse W64) : (s.setCsr v).ports = s.ports := rfl
@[simp] theorem State.setCsr_parts (s : State) (v : Sparse W64) : (s.setCsr v).parts = s.parts := rfl
@[simp] theorem State.setCsr_pnl (s : State) (v : Sparse W64) : (s.setCsr v).pnl = s.pnl := rfl
@[simp] theorem State.setCsr_fresh (s : State) (v : Sparse W64) : (s.setCsr v).fresh = s.fresh := rfl
@[simp] theorem State.setCsr_pending (s : State) (v : Sparse W64) : (s.setCsr v).pending = s.pending := rfl
@[simp] theorem State.setRisen_csr (s : State) (v : Sparse Nat) : (s.setRisen v).csr = s.csr := rfl
@[simp] theorem State.setRisen_risen (s : State) (v : Sparse Nat) : (s.setRisen v).risen = v := rfl
@[simp] theorem State.setRisen_live (s : State) (v : Sparse Nat) : (s.setRisen v).live = s.live := rfl
@[simp] theorem State.setRisen_mem (s : State) (v : Sparse Nat) : (s.setRisen v).mem = s.mem := rfl
@[simp] theorem State.setRisen_lineKey (s : State) (v : Sparse Nat) : (s.setRisen v).lineKey = s.lineKey := rfl
@[simp] theorem State.setRisen_cmem (s : State) (v : Sparse Nat) : (s.setRisen v).cmem = s.cmem := rfl
@[simp] theorem State.setRisen_chans (s : State) (v : Sparse Nat) : (s.setRisen v).chans = s.chans := rfl
@[simp] theorem State.setRisen_tables (s : State) (v : Sparse Nat) : (s.setRisen v).tables = s.tables := rfl
@[simp] theorem State.setRisen_vregs (s : State) (v : Sparse Nat) : (s.setRisen v).vregs = s.vregs := rfl
@[simp] theorem State.setRisen_cores (s : State) (v : Sparse Nat) : (s.setRisen v).cores = s.cores := rfl
@[simp] theorem State.setRisen_undo (s : State) (v : Sparse Nat) : (s.setRisen v).undo = s.undo := rfl
@[simp] theorem State.setRisen_sites (s : State) (v : Sparse Nat) : (s.setRisen v).sites = s.sites := rfl
@[simp] theorem State.setRisen_doms (s : State) (v : Sparse Nat) : (s.setRisen v).doms = s.doms := rfl
@[simp] theorem State.setRisen_edges (s : State) (v : Sparse Nat) : (s.setRisen v).edges = s.edges := rfl
@[simp] theorem State.setRisen_hbms (s : State) (v : Sparse Nat) : (s.setRisen v).hbms = s.hbms := rfl
@[simp] theorem State.setRisen_ports (s : State) (v : Sparse Nat) : (s.setRisen v).ports = s.ports := rfl
@[simp] theorem State.setRisen_parts (s : State) (v : Sparse Nat) : (s.setRisen v).parts = s.parts := rfl
@[simp] theorem State.setRisen_pnl (s : State) (v : Sparse Nat) : (s.setRisen v).pnl = s.pnl := rfl
@[simp] theorem State.setRisen_fresh (s : State) (v : Sparse Nat) : (s.setRisen v).fresh = s.fresh := rfl
@[simp] theorem State.setRisen_pending (s : State) (v : Sparse Nat) : (s.setRisen v).pending = s.pending := rfl
@[simp] theorem State.setLive_csr (s : State) (v : Sparse W64) : (s.setLive v).csr = s.csr := rfl
@[simp] theorem State.setLive_risen (s : State) (v : Sparse W64) : (s.setLive v).risen = s.risen := rfl
@[simp] theorem State.setLive_live (s : State) (v : Sparse W64) : (s.setLive v).live = v := rfl
@[simp] theorem State.setLive_mem (s : State) (v : Sparse W64) : (s.setLive v).mem = s.mem := rfl
@[simp] theorem State.setLive_lineKey (s : State) (v : Sparse W64) : (s.setLive v).lineKey = s.lineKey := rfl
@[simp] theorem State.setLive_cmem (s : State) (v : Sparse W64) : (s.setLive v).cmem = s.cmem := rfl
@[simp] theorem State.setLive_chans (s : State) (v : Sparse W64) : (s.setLive v).chans = s.chans := rfl
@[simp] theorem State.setLive_tables (s : State) (v : Sparse W64) : (s.setLive v).tables = s.tables := rfl
@[simp] theorem State.setLive_vregs (s : State) (v : Sparse W64) : (s.setLive v).vregs = s.vregs := rfl
@[simp] theorem State.setLive_cores (s : State) (v : Sparse W64) : (s.setLive v).cores = s.cores := rfl
@[simp] theorem State.setLive_undo (s : State) (v : Sparse W64) : (s.setLive v).undo = s.undo := rfl
@[simp] theorem State.setLive_sites (s : State) (v : Sparse W64) : (s.setLive v).sites = s.sites := rfl
@[simp] theorem State.setLive_doms (s : State) (v : Sparse W64) : (s.setLive v).doms = s.doms := rfl
@[simp] theorem State.setLive_edges (s : State) (v : Sparse W64) : (s.setLive v).edges = s.edges := rfl
@[simp] theorem State.setLive_hbms (s : State) (v : Sparse W64) : (s.setLive v).hbms = s.hbms := rfl
@[simp] theorem State.setLive_ports (s : State) (v : Sparse W64) : (s.setLive v).ports = s.ports := rfl
@[simp] theorem State.setLive_parts (s : State) (v : Sparse W64) : (s.setLive v).parts = s.parts := rfl
@[simp] theorem State.setLive_pnl (s : State) (v : Sparse W64) : (s.setLive v).pnl = s.pnl := rfl
@[simp] theorem State.setLive_fresh (s : State) (v : Sparse W64) : (s.setLive v).fresh = s.fresh := rfl
@[simp] theorem State.setLive_pending (s : State) (v : Sparse W64) : (s.setLive v).pending = s.pending := rfl
@[simp] theorem State.setMem_csr (s : State) (v : List Host.Cell) : (s.setMem v).csr = s.csr := rfl
@[simp] theorem State.setMem_risen (s : State) (v : List Host.Cell) : (s.setMem v).risen = s.risen := rfl
@[simp] theorem State.setMem_live (s : State) (v : List Host.Cell) : (s.setMem v).live = s.live := rfl
@[simp] theorem State.setMem_mem (s : State) (v : List Host.Cell) : (s.setMem v).mem = v := rfl
@[simp] theorem State.setMem_lineKey (s : State) (v : List Host.Cell) : (s.setMem v).lineKey = s.lineKey := rfl
@[simp] theorem State.setMem_cmem (s : State) (v : List Host.Cell) : (s.setMem v).cmem = s.cmem := rfl
@[simp] theorem State.setMem_chans (s : State) (v : List Host.Cell) : (s.setMem v).chans = s.chans := rfl
@[simp] theorem State.setMem_tables (s : State) (v : List Host.Cell) : (s.setMem v).tables = s.tables := rfl
@[simp] theorem State.setMem_vregs (s : State) (v : List Host.Cell) : (s.setMem v).vregs = s.vregs := rfl
@[simp] theorem State.setMem_cores (s : State) (v : List Host.Cell) : (s.setMem v).cores = s.cores := rfl
@[simp] theorem State.setMem_undo (s : State) (v : List Host.Cell) : (s.setMem v).undo = s.undo := rfl
@[simp] theorem State.setMem_sites (s : State) (v : List Host.Cell) : (s.setMem v).sites = s.sites := rfl
@[simp] theorem State.setMem_doms (s : State) (v : List Host.Cell) : (s.setMem v).doms = s.doms := rfl
@[simp] theorem State.setMem_edges (s : State) (v : List Host.Cell) : (s.setMem v).edges = s.edges := rfl
@[simp] theorem State.setMem_hbms (s : State) (v : List Host.Cell) : (s.setMem v).hbms = s.hbms := rfl
@[simp] theorem State.setMem_ports (s : State) (v : List Host.Cell) : (s.setMem v).ports = s.ports := rfl
@[simp] theorem State.setMem_parts (s : State) (v : List Host.Cell) : (s.setMem v).parts = s.parts := rfl
@[simp] theorem State.setMem_pnl (s : State) (v : List Host.Cell) : (s.setMem v).pnl = s.pnl := rfl
@[simp] theorem State.setMem_fresh (s : State) (v : List Host.Cell) : (s.setMem v).fresh = s.fresh := rfl
@[simp] theorem State.setMem_pending (s : State) (v : List Host.Cell) : (s.setMem v).pending = s.pending := rfl
@[simp] theorem State.setLineKey_csr (s : State) (v : Sparse (Option LineTag)) : (s.setLineKey v).csr = s.csr := rfl
@[simp] theorem State.setLineKey_risen (s : State) (v : Sparse (Option LineTag)) : (s.setLineKey v).risen = s.risen := rfl
@[simp] theorem State.setLineKey_live (s : State) (v : Sparse (Option LineTag)) : (s.setLineKey v).live = s.live := rfl
@[simp] theorem State.setLineKey_mem (s : State) (v : Sparse (Option LineTag)) : (s.setLineKey v).mem = s.mem := rfl
@[simp] theorem State.setLineKey_lineKey (s : State) (v : Sparse (Option LineTag)) : (s.setLineKey v).lineKey = v := rfl
@[simp] theorem State.setLineKey_cmem (s : State) (v : Sparse (Option LineTag)) : (s.setLineKey v).cmem = s.cmem := rfl
@[simp] theorem State.setLineKey_chans (s : State) (v : Sparse (Option LineTag)) : (s.setLineKey v).chans = s.chans := rfl
@[simp] theorem State.setLineKey_tables (s : State) (v : Sparse (Option LineTag)) : (s.setLineKey v).tables = s.tables := rfl
@[simp] theorem State.setLineKey_vregs (s : State) (v : Sparse (Option LineTag)) : (s.setLineKey v).vregs = s.vregs := rfl
@[simp] theorem State.setLineKey_cores (s : State) (v : Sparse (Option LineTag)) : (s.setLineKey v).cores = s.cores := rfl
@[simp] theorem State.setLineKey_undo (s : State) (v : Sparse (Option LineTag)) : (s.setLineKey v).undo = s.undo := rfl
@[simp] theorem State.setLineKey_sites (s : State) (v : Sparse (Option LineTag)) : (s.setLineKey v).sites = s.sites := rfl
@[simp] theorem State.setLineKey_doms (s : State) (v : Sparse (Option LineTag)) : (s.setLineKey v).doms = s.doms := rfl
@[simp] theorem State.setLineKey_edges (s : State) (v : Sparse (Option LineTag)) : (s.setLineKey v).edges = s.edges := rfl
@[simp] theorem State.setLineKey_hbms (s : State) (v : Sparse (Option LineTag)) : (s.setLineKey v).hbms = s.hbms := rfl
@[simp] theorem State.setLineKey_ports (s : State) (v : Sparse (Option LineTag)) : (s.setLineKey v).ports = s.ports := rfl
@[simp] theorem State.setLineKey_parts (s : State) (v : Sparse (Option LineTag)) : (s.setLineKey v).parts = s.parts := rfl
@[simp] theorem State.setLineKey_pnl (s : State) (v : Sparse (Option LineTag)) : (s.setLineKey v).pnl = s.pnl := rfl
@[simp] theorem State.setLineKey_fresh (s : State) (v : Sparse (Option LineTag)) : (s.setLineKey v).fresh = s.fresh := rfl
@[simp] theorem State.setLineKey_pending (s : State) (v : Sparse (Option LineTag)) : (s.setLineKey v).pending = s.pending := rfl
@[simp] theorem State.setCmem_csr (s : State) (v : List Host.Cell) : (s.setCmem v).csr = s.csr := rfl
@[simp] theorem State.setCmem_risen (s : State) (v : List Host.Cell) : (s.setCmem v).risen = s.risen := rfl
@[simp] theorem State.setCmem_live (s : State) (v : List Host.Cell) : (s.setCmem v).live = s.live := rfl
@[simp] theorem State.setCmem_mem (s : State) (v : List Host.Cell) : (s.setCmem v).mem = s.mem := rfl
@[simp] theorem State.setCmem_lineKey (s : State) (v : List Host.Cell) : (s.setCmem v).lineKey = s.lineKey := rfl
@[simp] theorem State.setCmem_cmem (s : State) (v : List Host.Cell) : (s.setCmem v).cmem = v := rfl
@[simp] theorem State.setCmem_chans (s : State) (v : List Host.Cell) : (s.setCmem v).chans = s.chans := rfl
@[simp] theorem State.setCmem_tables (s : State) (v : List Host.Cell) : (s.setCmem v).tables = s.tables := rfl
@[simp] theorem State.setCmem_vregs (s : State) (v : List Host.Cell) : (s.setCmem v).vregs = s.vregs := rfl
@[simp] theorem State.setCmem_cores (s : State) (v : List Host.Cell) : (s.setCmem v).cores = s.cores := rfl
@[simp] theorem State.setCmem_undo (s : State) (v : List Host.Cell) : (s.setCmem v).undo = s.undo := rfl
@[simp] theorem State.setCmem_sites (s : State) (v : List Host.Cell) : (s.setCmem v).sites = s.sites := rfl
@[simp] theorem State.setCmem_doms (s : State) (v : List Host.Cell) : (s.setCmem v).doms = s.doms := rfl
@[simp] theorem State.setCmem_edges (s : State) (v : List Host.Cell) : (s.setCmem v).edges = s.edges := rfl
@[simp] theorem State.setCmem_hbms (s : State) (v : List Host.Cell) : (s.setCmem v).hbms = s.hbms := rfl
@[simp] theorem State.setCmem_ports (s : State) (v : List Host.Cell) : (s.setCmem v).ports = s.ports := rfl
@[simp] theorem State.setCmem_parts (s : State) (v : List Host.Cell) : (s.setCmem v).parts = s.parts := rfl
@[simp] theorem State.setCmem_pnl (s : State) (v : List Host.Cell) : (s.setCmem v).pnl = s.pnl := rfl
@[simp] theorem State.setCmem_fresh (s : State) (v : List Host.Cell) : (s.setCmem v).fresh = s.fresh := rfl
@[simp] theorem State.setCmem_pending (s : State) (v : List Host.Cell) : (s.setCmem v).pending = s.pending := rfl
@[simp] theorem State.setChans_csr (s : State) (v : Sparse Chan) : (s.setChans v).csr = s.csr := rfl
@[simp] theorem State.setChans_risen (s : State) (v : Sparse Chan) : (s.setChans v).risen = s.risen := rfl
@[simp] theorem State.setChans_live (s : State) (v : Sparse Chan) : (s.setChans v).live = s.live := rfl
@[simp] theorem State.setChans_mem (s : State) (v : Sparse Chan) : (s.setChans v).mem = s.mem := rfl
@[simp] theorem State.setChans_lineKey (s : State) (v : Sparse Chan) : (s.setChans v).lineKey = s.lineKey := rfl
@[simp] theorem State.setChans_cmem (s : State) (v : Sparse Chan) : (s.setChans v).cmem = s.cmem := rfl
@[simp] theorem State.setChans_chans (s : State) (v : Sparse Chan) : (s.setChans v).chans = v := rfl
@[simp] theorem State.setChans_tables (s : State) (v : Sparse Chan) : (s.setChans v).tables = s.tables := rfl
@[simp] theorem State.setChans_vregs (s : State) (v : Sparse Chan) : (s.setChans v).vregs = s.vregs := rfl
@[simp] theorem State.setChans_cores (s : State) (v : Sparse Chan) : (s.setChans v).cores = s.cores := rfl
@[simp] theorem State.setChans_undo (s : State) (v : Sparse Chan) : (s.setChans v).undo = s.undo := rfl
@[simp] theorem State.setChans_sites (s : State) (v : Sparse Chan) : (s.setChans v).sites = s.sites := rfl
@[simp] theorem State.setChans_doms (s : State) (v : Sparse Chan) : (s.setChans v).doms = s.doms := rfl
@[simp] theorem State.setChans_edges (s : State) (v : Sparse Chan) : (s.setChans v).edges = s.edges := rfl
@[simp] theorem State.setChans_hbms (s : State) (v : Sparse Chan) : (s.setChans v).hbms = s.hbms := rfl
@[simp] theorem State.setChans_ports (s : State) (v : Sparse Chan) : (s.setChans v).ports = s.ports := rfl
@[simp] theorem State.setChans_parts (s : State) (v : Sparse Chan) : (s.setChans v).parts = s.parts := rfl
@[simp] theorem State.setChans_pnl (s : State) (v : Sparse Chan) : (s.setChans v).pnl = s.pnl := rfl
@[simp] theorem State.setChans_fresh (s : State) (v : Sparse Chan) : (s.setChans v).fresh = s.fresh := rfl
@[simp] theorem State.setChans_pending (s : State) (v : Sparse Chan) : (s.setChans v).pending = s.pending := rfl
@[simp] theorem State.setTables_csr (s : State) (v : Sparse Nat) : (s.setTables v).csr = s.csr := rfl
@[simp] theorem State.setTables_risen (s : State) (v : Sparse Nat) : (s.setTables v).risen = s.risen := rfl
@[simp] theorem State.setTables_live (s : State) (v : Sparse Nat) : (s.setTables v).live = s.live := rfl
@[simp] theorem State.setTables_mem (s : State) (v : Sparse Nat) : (s.setTables v).mem = s.mem := rfl
@[simp] theorem State.setTables_lineKey (s : State) (v : Sparse Nat) : (s.setTables v).lineKey = s.lineKey := rfl
@[simp] theorem State.setTables_cmem (s : State) (v : Sparse Nat) : (s.setTables v).cmem = s.cmem := rfl
@[simp] theorem State.setTables_chans (s : State) (v : Sparse Nat) : (s.setTables v).chans = s.chans := rfl
@[simp] theorem State.setTables_tables (s : State) (v : Sparse Nat) : (s.setTables v).tables = v := rfl
@[simp] theorem State.setTables_vregs (s : State) (v : Sparse Nat) : (s.setTables v).vregs = s.vregs := rfl
@[simp] theorem State.setTables_cores (s : State) (v : Sparse Nat) : (s.setTables v).cores = s.cores := rfl
@[simp] theorem State.setTables_undo (s : State) (v : Sparse Nat) : (s.setTables v).undo = s.undo := rfl
@[simp] theorem State.setTables_sites (s : State) (v : Sparse Nat) : (s.setTables v).sites = s.sites := rfl
@[simp] theorem State.setTables_doms (s : State) (v : Sparse Nat) : (s.setTables v).doms = s.doms := rfl
@[simp] theorem State.setTables_edges (s : State) (v : Sparse Nat) : (s.setTables v).edges = s.edges := rfl
@[simp] theorem State.setTables_hbms (s : State) (v : Sparse Nat) : (s.setTables v).hbms = s.hbms := rfl
@[simp] theorem State.setTables_ports (s : State) (v : Sparse Nat) : (s.setTables v).ports = s.ports := rfl
@[simp] theorem State.setTables_parts (s : State) (v : Sparse Nat) : (s.setTables v).parts = s.parts := rfl
@[simp] theorem State.setTables_pnl (s : State) (v : Sparse Nat) : (s.setTables v).pnl = s.pnl := rfl
@[simp] theorem State.setTables_fresh (s : State) (v : Sparse Nat) : (s.setTables v).fresh = s.fresh := rfl
@[simp] theorem State.setTables_pending (s : State) (v : Sparse Nat) : (s.setTables v).pending = s.pending := rfl
@[simp] theorem State.setVregs_csr (s : State) (v : Sparse VReg) : (s.setVregs v).csr = s.csr := rfl
@[simp] theorem State.setVregs_risen (s : State) (v : Sparse VReg) : (s.setVregs v).risen = s.risen := rfl
@[simp] theorem State.setVregs_live (s : State) (v : Sparse VReg) : (s.setVregs v).live = s.live := rfl
@[simp] theorem State.setVregs_mem (s : State) (v : Sparse VReg) : (s.setVregs v).mem = s.mem := rfl
@[simp] theorem State.setVregs_lineKey (s : State) (v : Sparse VReg) : (s.setVregs v).lineKey = s.lineKey := rfl
@[simp] theorem State.setVregs_cmem (s : State) (v : Sparse VReg) : (s.setVregs v).cmem = s.cmem := rfl
@[simp] theorem State.setVregs_chans (s : State) (v : Sparse VReg) : (s.setVregs v).chans = s.chans := rfl
@[simp] theorem State.setVregs_tables (s : State) (v : Sparse VReg) : (s.setVregs v).tables = s.tables := rfl
@[simp] theorem State.setVregs_vregs (s : State) (v : Sparse VReg) : (s.setVregs v).vregs = v := rfl
@[simp] theorem State.setVregs_cores (s : State) (v : Sparse VReg) : (s.setVregs v).cores = s.cores := rfl
@[simp] theorem State.setVregs_undo (s : State) (v : Sparse VReg) : (s.setVregs v).undo = s.undo := rfl
@[simp] theorem State.setVregs_sites (s : State) (v : Sparse VReg) : (s.setVregs v).sites = s.sites := rfl
@[simp] theorem State.setVregs_doms (s : State) (v : Sparse VReg) : (s.setVregs v).doms = s.doms := rfl
@[simp] theorem State.setVregs_edges (s : State) (v : Sparse VReg) : (s.setVregs v).edges = s.edges := rfl
@[simp] theorem State.setVregs_hbms (s : State) (v : Sparse VReg) : (s.setVregs v).hbms = s.hbms := rfl
@[simp] theorem State.setVregs_ports (s : State) (v : Sparse VReg) : (s.setVregs v).ports = s.ports := rfl
@[simp] theorem State.setVregs_parts (s : State) (v : Sparse VReg) : (s.setVregs v).parts = s.parts := rfl
@[simp] theorem State.setVregs_pnl (s : State) (v : Sparse VReg) : (s.setVregs v).pnl = s.pnl := rfl
@[simp] theorem State.setVregs_fresh (s : State) (v : Sparse VReg) : (s.setVregs v).fresh = s.fresh := rfl
@[simp] theorem State.setVregs_pending (s : State) (v : Sparse VReg) : (s.setVregs v).pending = s.pending := rfl
@[simp] theorem State.setCores_csr (s : State) (v : Sparse CoreX) : (s.setCores v).csr = s.csr := rfl
@[simp] theorem State.setCores_risen (s : State) (v : Sparse CoreX) : (s.setCores v).risen = s.risen := rfl
@[simp] theorem State.setCores_live (s : State) (v : Sparse CoreX) : (s.setCores v).live = s.live := rfl
@[simp] theorem State.setCores_mem (s : State) (v : Sparse CoreX) : (s.setCores v).mem = s.mem := rfl
@[simp] theorem State.setCores_lineKey (s : State) (v : Sparse CoreX) : (s.setCores v).lineKey = s.lineKey := rfl
@[simp] theorem State.setCores_cmem (s : State) (v : Sparse CoreX) : (s.setCores v).cmem = s.cmem := rfl
@[simp] theorem State.setCores_chans (s : State) (v : Sparse CoreX) : (s.setCores v).chans = s.chans := rfl
@[simp] theorem State.setCores_tables (s : State) (v : Sparse CoreX) : (s.setCores v).tables = s.tables := rfl
@[simp] theorem State.setCores_vregs (s : State) (v : Sparse CoreX) : (s.setCores v).vregs = s.vregs := rfl
@[simp] theorem State.setCores_cores (s : State) (v : Sparse CoreX) : (s.setCores v).cores = v := rfl
@[simp] theorem State.setCores_undo (s : State) (v : Sparse CoreX) : (s.setCores v).undo = s.undo := rfl
@[simp] theorem State.setCores_sites (s : State) (v : Sparse CoreX) : (s.setCores v).sites = s.sites := rfl
@[simp] theorem State.setCores_doms (s : State) (v : Sparse CoreX) : (s.setCores v).doms = s.doms := rfl
@[simp] theorem State.setCores_edges (s : State) (v : Sparse CoreX) : (s.setCores v).edges = s.edges := rfl
@[simp] theorem State.setCores_hbms (s : State) (v : Sparse CoreX) : (s.setCores v).hbms = s.hbms := rfl
@[simp] theorem State.setCores_ports (s : State) (v : Sparse CoreX) : (s.setCores v).ports = s.ports := rfl
@[simp] theorem State.setCores_parts (s : State) (v : Sparse CoreX) : (s.setCores v).parts = s.parts := rfl
@[simp] theorem State.setCores_pnl (s : State) (v : Sparse CoreX) : (s.setCores v).pnl = s.pnl := rfl
@[simp] theorem State.setCores_fresh (s : State) (v : Sparse CoreX) : (s.setCores v).fresh = s.fresh := rfl
@[simp] theorem State.setCores_pending (s : State) (v : Sparse CoreX) : (s.setCores v).pending = s.pending := rfl
@[simp] theorem State.setUndo_csr (s : State) (v : Sparse CoreUndo) : (s.setUndo v).csr = s.csr := rfl
@[simp] theorem State.setUndo_risen (s : State) (v : Sparse CoreUndo) : (s.setUndo v).risen = s.risen := rfl
@[simp] theorem State.setUndo_live (s : State) (v : Sparse CoreUndo) : (s.setUndo v).live = s.live := rfl
@[simp] theorem State.setUndo_mem (s : State) (v : Sparse CoreUndo) : (s.setUndo v).mem = s.mem := rfl
@[simp] theorem State.setUndo_lineKey (s : State) (v : Sparse CoreUndo) : (s.setUndo v).lineKey = s.lineKey := rfl
@[simp] theorem State.setUndo_cmem (s : State) (v : Sparse CoreUndo) : (s.setUndo v).cmem = s.cmem := rfl
@[simp] theorem State.setUndo_chans (s : State) (v : Sparse CoreUndo) : (s.setUndo v).chans = s.chans := rfl
@[simp] theorem State.setUndo_tables (s : State) (v : Sparse CoreUndo) : (s.setUndo v).tables = s.tables := rfl
@[simp] theorem State.setUndo_vregs (s : State) (v : Sparse CoreUndo) : (s.setUndo v).vregs = s.vregs := rfl
@[simp] theorem State.setUndo_cores (s : State) (v : Sparse CoreUndo) : (s.setUndo v).cores = s.cores := rfl
@[simp] theorem State.setUndo_undo (s : State) (v : Sparse CoreUndo) : (s.setUndo v).undo = v := rfl
@[simp] theorem State.setUndo_sites (s : State) (v : Sparse CoreUndo) : (s.setUndo v).sites = s.sites := rfl
@[simp] theorem State.setUndo_doms (s : State) (v : Sparse CoreUndo) : (s.setUndo v).doms = s.doms := rfl
@[simp] theorem State.setUndo_edges (s : State) (v : Sparse CoreUndo) : (s.setUndo v).edges = s.edges := rfl
@[simp] theorem State.setUndo_hbms (s : State) (v : Sparse CoreUndo) : (s.setUndo v).hbms = s.hbms := rfl
@[simp] theorem State.setUndo_ports (s : State) (v : Sparse CoreUndo) : (s.setUndo v).ports = s.ports := rfl
@[simp] theorem State.setUndo_parts (s : State) (v : Sparse CoreUndo) : (s.setUndo v).parts = s.parts := rfl
@[simp] theorem State.setUndo_pnl (s : State) (v : Sparse CoreUndo) : (s.setUndo v).pnl = s.pnl := rfl
@[simp] theorem State.setUndo_fresh (s : State) (v : Sparse CoreUndo) : (s.setUndo v).fresh = s.fresh := rfl
@[simp] theorem State.setUndo_pending (s : State) (v : Sparse CoreUndo) : (s.setUndo v).pending = s.pending := rfl
@[simp] theorem State.setSites_csr (s : State) (v : Sparse SiteX) : (s.setSites v).csr = s.csr := rfl
@[simp] theorem State.setSites_risen (s : State) (v : Sparse SiteX) : (s.setSites v).risen = s.risen := rfl
@[simp] theorem State.setSites_live (s : State) (v : Sparse SiteX) : (s.setSites v).live = s.live := rfl
@[simp] theorem State.setSites_mem (s : State) (v : Sparse SiteX) : (s.setSites v).mem = s.mem := rfl
@[simp] theorem State.setSites_lineKey (s : State) (v : Sparse SiteX) : (s.setSites v).lineKey = s.lineKey := rfl
@[simp] theorem State.setSites_cmem (s : State) (v : Sparse SiteX) : (s.setSites v).cmem = s.cmem := rfl
@[simp] theorem State.setSites_chans (s : State) (v : Sparse SiteX) : (s.setSites v).chans = s.chans := rfl
@[simp] theorem State.setSites_tables (s : State) (v : Sparse SiteX) : (s.setSites v).tables = s.tables := rfl
@[simp] theorem State.setSites_vregs (s : State) (v : Sparse SiteX) : (s.setSites v).vregs = s.vregs := rfl
@[simp] theorem State.setSites_cores (s : State) (v : Sparse SiteX) : (s.setSites v).cores = s.cores := rfl
@[simp] theorem State.setSites_undo (s : State) (v : Sparse SiteX) : (s.setSites v).undo = s.undo := rfl
@[simp] theorem State.setSites_sites (s : State) (v : Sparse SiteX) : (s.setSites v).sites = v := rfl
@[simp] theorem State.setSites_doms (s : State) (v : Sparse SiteX) : (s.setSites v).doms = s.doms := rfl
@[simp] theorem State.setSites_edges (s : State) (v : Sparse SiteX) : (s.setSites v).edges = s.edges := rfl
@[simp] theorem State.setSites_hbms (s : State) (v : Sparse SiteX) : (s.setSites v).hbms = s.hbms := rfl
@[simp] theorem State.setSites_ports (s : State) (v : Sparse SiteX) : (s.setSites v).ports = s.ports := rfl
@[simp] theorem State.setSites_parts (s : State) (v : Sparse SiteX) : (s.setSites v).parts = s.parts := rfl
@[simp] theorem State.setSites_pnl (s : State) (v : Sparse SiteX) : (s.setSites v).pnl = s.pnl := rfl
@[simp] theorem State.setSites_fresh (s : State) (v : Sparse SiteX) : (s.setSites v).fresh = s.fresh := rfl
@[simp] theorem State.setSites_pending (s : State) (v : Sparse SiteX) : (s.setSites v).pending = s.pending := rfl
@[simp] theorem State.setDoms_csr (s : State) (v : Sparse DomX) : (s.setDoms v).csr = s.csr := rfl
@[simp] theorem State.setDoms_risen (s : State) (v : Sparse DomX) : (s.setDoms v).risen = s.risen := rfl
@[simp] theorem State.setDoms_live (s : State) (v : Sparse DomX) : (s.setDoms v).live = s.live := rfl
@[simp] theorem State.setDoms_mem (s : State) (v : Sparse DomX) : (s.setDoms v).mem = s.mem := rfl
@[simp] theorem State.setDoms_lineKey (s : State) (v : Sparse DomX) : (s.setDoms v).lineKey = s.lineKey := rfl
@[simp] theorem State.setDoms_cmem (s : State) (v : Sparse DomX) : (s.setDoms v).cmem = s.cmem := rfl
@[simp] theorem State.setDoms_chans (s : State) (v : Sparse DomX) : (s.setDoms v).chans = s.chans := rfl
@[simp] theorem State.setDoms_tables (s : State) (v : Sparse DomX) : (s.setDoms v).tables = s.tables := rfl
@[simp] theorem State.setDoms_vregs (s : State) (v : Sparse DomX) : (s.setDoms v).vregs = s.vregs := rfl
@[simp] theorem State.setDoms_cores (s : State) (v : Sparse DomX) : (s.setDoms v).cores = s.cores := rfl
@[simp] theorem State.setDoms_undo (s : State) (v : Sparse DomX) : (s.setDoms v).undo = s.undo := rfl
@[simp] theorem State.setDoms_sites (s : State) (v : Sparse DomX) : (s.setDoms v).sites = s.sites := rfl
@[simp] theorem State.setDoms_doms (s : State) (v : Sparse DomX) : (s.setDoms v).doms = v := rfl
@[simp] theorem State.setDoms_edges (s : State) (v : Sparse DomX) : (s.setDoms v).edges = s.edges := rfl
@[simp] theorem State.setDoms_hbms (s : State) (v : Sparse DomX) : (s.setDoms v).hbms = s.hbms := rfl
@[simp] theorem State.setDoms_ports (s : State) (v : Sparse DomX) : (s.setDoms v).ports = s.ports := rfl
@[simp] theorem State.setDoms_parts (s : State) (v : Sparse DomX) : (s.setDoms v).parts = s.parts := rfl
@[simp] theorem State.setDoms_pnl (s : State) (v : Sparse DomX) : (s.setDoms v).pnl = s.pnl := rfl
@[simp] theorem State.setDoms_fresh (s : State) (v : Sparse DomX) : (s.setDoms v).fresh = s.fresh := rfl
@[simp] theorem State.setDoms_pending (s : State) (v : Sparse DomX) : (s.setDoms v).pending = s.pending := rfl
@[simp] theorem State.setEdges_csr (s : State) (v : Sparse EdgeX) : (s.setEdges v).csr = s.csr := rfl
@[simp] theorem State.setEdges_risen (s : State) (v : Sparse EdgeX) : (s.setEdges v).risen = s.risen := rfl
@[simp] theorem State.setEdges_live (s : State) (v : Sparse EdgeX) : (s.setEdges v).live = s.live := rfl
@[simp] theorem State.setEdges_mem (s : State) (v : Sparse EdgeX) : (s.setEdges v).mem = s.mem := rfl
@[simp] theorem State.setEdges_lineKey (s : State) (v : Sparse EdgeX) : (s.setEdges v).lineKey = s.lineKey := rfl
@[simp] theorem State.setEdges_cmem (s : State) (v : Sparse EdgeX) : (s.setEdges v).cmem = s.cmem := rfl
@[simp] theorem State.setEdges_chans (s : State) (v : Sparse EdgeX) : (s.setEdges v).chans = s.chans := rfl
@[simp] theorem State.setEdges_tables (s : State) (v : Sparse EdgeX) : (s.setEdges v).tables = s.tables := rfl
@[simp] theorem State.setEdges_vregs (s : State) (v : Sparse EdgeX) : (s.setEdges v).vregs = s.vregs := rfl
@[simp] theorem State.setEdges_cores (s : State) (v : Sparse EdgeX) : (s.setEdges v).cores = s.cores := rfl
@[simp] theorem State.setEdges_undo (s : State) (v : Sparse EdgeX) : (s.setEdges v).undo = s.undo := rfl
@[simp] theorem State.setEdges_sites (s : State) (v : Sparse EdgeX) : (s.setEdges v).sites = s.sites := rfl
@[simp] theorem State.setEdges_doms (s : State) (v : Sparse EdgeX) : (s.setEdges v).doms = s.doms := rfl
@[simp] theorem State.setEdges_edges (s : State) (v : Sparse EdgeX) : (s.setEdges v).edges = v := rfl
@[simp] theorem State.setEdges_hbms (s : State) (v : Sparse EdgeX) : (s.setEdges v).hbms = s.hbms := rfl
@[simp] theorem State.setEdges_ports (s : State) (v : Sparse EdgeX) : (s.setEdges v).ports = s.ports := rfl
@[simp] theorem State.setEdges_parts (s : State) (v : Sparse EdgeX) : (s.setEdges v).parts = s.parts := rfl
@[simp] theorem State.setEdges_pnl (s : State) (v : Sparse EdgeX) : (s.setEdges v).pnl = s.pnl := rfl
@[simp] theorem State.setEdges_fresh (s : State) (v : Sparse EdgeX) : (s.setEdges v).fresh = s.fresh := rfl
@[simp] theorem State.setEdges_pending (s : State) (v : Sparse EdgeX) : (s.setEdges v).pending = s.pending := rfl
@[simp] theorem State.setStacks_csr (s : State) (v : Sparse StackX) : (s.setStacks v).csr = s.csr := rfl
@[simp] theorem State.setStacks_risen (s : State) (v : Sparse StackX) : (s.setStacks v).risen = s.risen := rfl
@[simp] theorem State.setStacks_live (s : State) (v : Sparse StackX) : (s.setStacks v).live = s.live := rfl
@[simp] theorem State.setStacks_mem (s : State) (v : Sparse StackX) : (s.setStacks v).mem = s.mem := rfl
@[simp] theorem State.setStacks_lineKey (s : State) (v : Sparse StackX) : (s.setStacks v).lineKey = s.lineKey := rfl
@[simp] theorem State.setStacks_cmem (s : State) (v : Sparse StackX) : (s.setStacks v).cmem = s.cmem := rfl
@[simp] theorem State.setStacks_chans (s : State) (v : Sparse StackX) : (s.setStacks v).chans = s.chans := rfl
@[simp] theorem State.setStacks_tables (s : State) (v : Sparse StackX) : (s.setStacks v).tables = s.tables := rfl
@[simp] theorem State.setStacks_vregs (s : State) (v : Sparse StackX) : (s.setStacks v).vregs = s.vregs := rfl
@[simp] theorem State.setStacks_cores (s : State) (v : Sparse StackX) : (s.setStacks v).cores = s.cores := rfl
@[simp] theorem State.setStacks_undo (s : State) (v : Sparse StackX) : (s.setStacks v).undo = s.undo := rfl
@[simp] theorem State.setStacks_sites (s : State) (v : Sparse StackX) : (s.setStacks v).sites = s.sites := rfl
@[simp] theorem State.setStacks_doms (s : State) (v : Sparse StackX) : (s.setStacks v).doms = s.doms := rfl
@[simp] theorem State.setStacks_edges (s : State) (v : Sparse StackX) : (s.setStacks v).edges = s.edges := rfl
@[simp] theorem State.setStacks_hbms (s : State) (v : Sparse StackX) : (s.setStacks v).hbms = v := rfl
@[simp] theorem State.setStacks_ports (s : State) (v : Sparse StackX) : (s.setStacks v).ports = s.ports := rfl
@[simp] theorem State.setStacks_parts (s : State) (v : Sparse StackX) : (s.setStacks v).parts = s.parts := rfl
@[simp] theorem State.setStacks_pnl (s : State) (v : Sparse StackX) : (s.setStacks v).pnl = s.pnl := rfl
@[simp] theorem State.setStacks_fresh (s : State) (v : Sparse StackX) : (s.setStacks v).fresh = s.fresh := rfl
@[simp] theorem State.setStacks_pending (s : State) (v : Sparse StackX) : (s.setStacks v).pending = s.pending := rfl
@[simp] theorem State.setPorts_csr (s : State) (v : Sparse PortX) : (s.setPorts v).csr = s.csr := rfl
@[simp] theorem State.setPorts_risen (s : State) (v : Sparse PortX) : (s.setPorts v).risen = s.risen := rfl
@[simp] theorem State.setPorts_live (s : State) (v : Sparse PortX) : (s.setPorts v).live = s.live := rfl
@[simp] theorem State.setPorts_mem (s : State) (v : Sparse PortX) : (s.setPorts v).mem = s.mem := rfl
@[simp] theorem State.setPorts_lineKey (s : State) (v : Sparse PortX) : (s.setPorts v).lineKey = s.lineKey := rfl
@[simp] theorem State.setPorts_cmem (s : State) (v : Sparse PortX) : (s.setPorts v).cmem = s.cmem := rfl
@[simp] theorem State.setPorts_chans (s : State) (v : Sparse PortX) : (s.setPorts v).chans = s.chans := rfl
@[simp] theorem State.setPorts_tables (s : State) (v : Sparse PortX) : (s.setPorts v).tables = s.tables := rfl
@[simp] theorem State.setPorts_vregs (s : State) (v : Sparse PortX) : (s.setPorts v).vregs = s.vregs := rfl
@[simp] theorem State.setPorts_cores (s : State) (v : Sparse PortX) : (s.setPorts v).cores = s.cores := rfl
@[simp] theorem State.setPorts_undo (s : State) (v : Sparse PortX) : (s.setPorts v).undo = s.undo := rfl
@[simp] theorem State.setPorts_sites (s : State) (v : Sparse PortX) : (s.setPorts v).sites = s.sites := rfl
@[simp] theorem State.setPorts_doms (s : State) (v : Sparse PortX) : (s.setPorts v).doms = s.doms := rfl
@[simp] theorem State.setPorts_edges (s : State) (v : Sparse PortX) : (s.setPorts v).edges = s.edges := rfl
@[simp] theorem State.setPorts_hbms (s : State) (v : Sparse PortX) : (s.setPorts v).hbms = s.hbms := rfl
@[simp] theorem State.setPorts_ports (s : State) (v : Sparse PortX) : (s.setPorts v).ports = v := rfl
@[simp] theorem State.setPorts_parts (s : State) (v : Sparse PortX) : (s.setPorts v).parts = s.parts := rfl
@[simp] theorem State.setPorts_pnl (s : State) (v : Sparse PortX) : (s.setPorts v).pnl = s.pnl := rfl
@[simp] theorem State.setPorts_fresh (s : State) (v : Sparse PortX) : (s.setPorts v).fresh = s.fresh := rfl
@[simp] theorem State.setPorts_pending (s : State) (v : Sparse PortX) : (s.setPorts v).pending = s.pending := rfl
@[simp] theorem State.setParts_csr (s : State) (v : Sparse PartX) : (s.setParts v).csr = s.csr := rfl
@[simp] theorem State.setParts_risen (s : State) (v : Sparse PartX) : (s.setParts v).risen = s.risen := rfl
@[simp] theorem State.setParts_live (s : State) (v : Sparse PartX) : (s.setParts v).live = s.live := rfl
@[simp] theorem State.setParts_mem (s : State) (v : Sparse PartX) : (s.setParts v).mem = s.mem := rfl
@[simp] theorem State.setParts_lineKey (s : State) (v : Sparse PartX) : (s.setParts v).lineKey = s.lineKey := rfl
@[simp] theorem State.setParts_cmem (s : State) (v : Sparse PartX) : (s.setParts v).cmem = s.cmem := rfl
@[simp] theorem State.setParts_chans (s : State) (v : Sparse PartX) : (s.setParts v).chans = s.chans := rfl
@[simp] theorem State.setParts_tables (s : State) (v : Sparse PartX) : (s.setParts v).tables = s.tables := rfl
@[simp] theorem State.setParts_vregs (s : State) (v : Sparse PartX) : (s.setParts v).vregs = s.vregs := rfl
@[simp] theorem State.setParts_cores (s : State) (v : Sparse PartX) : (s.setParts v).cores = s.cores := rfl
@[simp] theorem State.setParts_undo (s : State) (v : Sparse PartX) : (s.setParts v).undo = s.undo := rfl
@[simp] theorem State.setParts_sites (s : State) (v : Sparse PartX) : (s.setParts v).sites = s.sites := rfl
@[simp] theorem State.setParts_doms (s : State) (v : Sparse PartX) : (s.setParts v).doms = s.doms := rfl
@[simp] theorem State.setParts_edges (s : State) (v : Sparse PartX) : (s.setParts v).edges = s.edges := rfl
@[simp] theorem State.setParts_hbms (s : State) (v : Sparse PartX) : (s.setParts v).hbms = s.hbms := rfl
@[simp] theorem State.setParts_ports (s : State) (v : Sparse PartX) : (s.setParts v).ports = s.ports := rfl
@[simp] theorem State.setParts_parts (s : State) (v : Sparse PartX) : (s.setParts v).parts = v := rfl
@[simp] theorem State.setParts_pnl (s : State) (v : Sparse PartX) : (s.setParts v).pnl = s.pnl := rfl
@[simp] theorem State.setParts_fresh (s : State) (v : Sparse PartX) : (s.setParts v).fresh = s.fresh := rfl
@[simp] theorem State.setParts_pending (s : State) (v : Sparse PartX) : (s.setParts v).pending = s.pending := rfl
@[simp] theorem State.setPnl_csr (s : State) (v : PanelX) : (s.setPnl v).csr = s.csr := rfl
@[simp] theorem State.setPnl_risen (s : State) (v : PanelX) : (s.setPnl v).risen = s.risen := rfl
@[simp] theorem State.setPnl_live (s : State) (v : PanelX) : (s.setPnl v).live = s.live := rfl
@[simp] theorem State.setPnl_mem (s : State) (v : PanelX) : (s.setPnl v).mem = s.mem := rfl
@[simp] theorem State.setPnl_lineKey (s : State) (v : PanelX) : (s.setPnl v).lineKey = s.lineKey := rfl
@[simp] theorem State.setPnl_cmem (s : State) (v : PanelX) : (s.setPnl v).cmem = s.cmem := rfl
@[simp] theorem State.setPnl_chans (s : State) (v : PanelX) : (s.setPnl v).chans = s.chans := rfl
@[simp] theorem State.setPnl_tables (s : State) (v : PanelX) : (s.setPnl v).tables = s.tables := rfl
@[simp] theorem State.setPnl_vregs (s : State) (v : PanelX) : (s.setPnl v).vregs = s.vregs := rfl
@[simp] theorem State.setPnl_cores (s : State) (v : PanelX) : (s.setPnl v).cores = s.cores := rfl
@[simp] theorem State.setPnl_undo (s : State) (v : PanelX) : (s.setPnl v).undo = s.undo := rfl
@[simp] theorem State.setPnl_sites (s : State) (v : PanelX) : (s.setPnl v).sites = s.sites := rfl
@[simp] theorem State.setPnl_doms (s : State) (v : PanelX) : (s.setPnl v).doms = s.doms := rfl
@[simp] theorem State.setPnl_edges (s : State) (v : PanelX) : (s.setPnl v).edges = s.edges := rfl
@[simp] theorem State.setPnl_hbms (s : State) (v : PanelX) : (s.setPnl v).hbms = s.hbms := rfl
@[simp] theorem State.setPnl_ports (s : State) (v : PanelX) : (s.setPnl v).ports = s.ports := rfl
@[simp] theorem State.setPnl_parts (s : State) (v : PanelX) : (s.setPnl v).parts = s.parts := rfl
@[simp] theorem State.setPnl_pnl (s : State) (v : PanelX) : (s.setPnl v).pnl = v := rfl
@[simp] theorem State.setPnl_fresh (s : State) (v : PanelX) : (s.setPnl v).fresh = s.fresh := rfl
@[simp] theorem State.setPnl_pending (s : State) (v : PanelX) : (s.setPnl v).pending = s.pending := rfl
@[simp] theorem State.setFresh_csr (s : State) (v : Nat) : (s.setFresh v).csr = s.csr := rfl
@[simp] theorem State.setFresh_risen (s : State) (v : Nat) : (s.setFresh v).risen = s.risen := rfl
@[simp] theorem State.setFresh_live (s : State) (v : Nat) : (s.setFresh v).live = s.live := rfl
@[simp] theorem State.setFresh_mem (s : State) (v : Nat) : (s.setFresh v).mem = s.mem := rfl
@[simp] theorem State.setFresh_lineKey (s : State) (v : Nat) : (s.setFresh v).lineKey = s.lineKey := rfl
@[simp] theorem State.setFresh_cmem (s : State) (v : Nat) : (s.setFresh v).cmem = s.cmem := rfl
@[simp] theorem State.setFresh_chans (s : State) (v : Nat) : (s.setFresh v).chans = s.chans := rfl
@[simp] theorem State.setFresh_tables (s : State) (v : Nat) : (s.setFresh v).tables = s.tables := rfl
@[simp] theorem State.setFresh_vregs (s : State) (v : Nat) : (s.setFresh v).vregs = s.vregs := rfl
@[simp] theorem State.setFresh_cores (s : State) (v : Nat) : (s.setFresh v).cores = s.cores := rfl
@[simp] theorem State.setFresh_undo (s : State) (v : Nat) : (s.setFresh v).undo = s.undo := rfl
@[simp] theorem State.setFresh_sites (s : State) (v : Nat) : (s.setFresh v).sites = s.sites := rfl
@[simp] theorem State.setFresh_doms (s : State) (v : Nat) : (s.setFresh v).doms = s.doms := rfl
@[simp] theorem State.setFresh_edges (s : State) (v : Nat) : (s.setFresh v).edges = s.edges := rfl
@[simp] theorem State.setFresh_hbms (s : State) (v : Nat) : (s.setFresh v).hbms = s.hbms := rfl
@[simp] theorem State.setFresh_ports (s : State) (v : Nat) : (s.setFresh v).ports = s.ports := rfl
@[simp] theorem State.setFresh_parts (s : State) (v : Nat) : (s.setFresh v).parts = s.parts := rfl
@[simp] theorem State.setFresh_pnl (s : State) (v : Nat) : (s.setFresh v).pnl = s.pnl := rfl
@[simp] theorem State.setFresh_fresh (s : State) (v : Nat) : (s.setFresh v).fresh = v := rfl
@[simp] theorem State.setFresh_pending (s : State) (v : Nat) : (s.setFresh v).pending = s.pending := rfl
@[simp] theorem State.setPending_csr (s : State) (v : List Instr) : (s.setPending v).csr = s.csr := rfl
@[simp] theorem State.setPending_risen (s : State) (v : List Instr) : (s.setPending v).risen = s.risen := rfl
@[simp] theorem State.setPending_live (s : State) (v : List Instr) : (s.setPending v).live = s.live := rfl
@[simp] theorem State.setPending_mem (s : State) (v : List Instr) : (s.setPending v).mem = s.mem := rfl
@[simp] theorem State.setPending_lineKey (s : State) (v : List Instr) : (s.setPending v).lineKey = s.lineKey := rfl
@[simp] theorem State.setPending_cmem (s : State) (v : List Instr) : (s.setPending v).cmem = s.cmem := rfl
@[simp] theorem State.setPending_chans (s : State) (v : List Instr) : (s.setPending v).chans = s.chans := rfl
@[simp] theorem State.setPending_tables (s : State) (v : List Instr) : (s.setPending v).tables = s.tables := rfl
@[simp] theorem State.setPending_vregs (s : State) (v : List Instr) : (s.setPending v).vregs = s.vregs := rfl
@[simp] theorem State.setPending_cores (s : State) (v : List Instr) : (s.setPending v).cores = s.cores := rfl
@[simp] theorem State.setPending_undo (s : State) (v : List Instr) : (s.setPending v).undo = s.undo := rfl
@[simp] theorem State.setPending_sites (s : State) (v : List Instr) : (s.setPending v).sites = s.sites := rfl
@[simp] theorem State.setPending_doms (s : State) (v : List Instr) : (s.setPending v).doms = s.doms := rfl
@[simp] theorem State.setPending_edges (s : State) (v : List Instr) : (s.setPending v).edges = s.edges := rfl
@[simp] theorem State.setPending_hbms (s : State) (v : List Instr) : (s.setPending v).hbms = s.hbms := rfl
@[simp] theorem State.setPending_ports (s : State) (v : List Instr) : (s.setPending v).ports = s.ports := rfl
@[simp] theorem State.setPending_parts (s : State) (v : List Instr) : (s.setPending v).parts = s.parts := rfl
@[simp] theorem State.setPending_pnl (s : State) (v : List Instr) : (s.setPending v).pnl = s.pnl := rfl
@[simp] theorem State.setPending_fresh (s : State) (v : List Instr) : (s.setPending v).fresh = s.fresh := rfl
@[simp] theorem State.setPending_pending (s : State) (v : List Instr) : (s.setPending v).pending = v := rfl

end Sys2Proof.Machine
end

