-- ==== Sys2Proof/Laws/Ops.lean ====
section
/-!
SUPPORT. What each named operation over the stores changes, and that it leaves the other stores alone.
-/
namespace Sys2Proof.Machine

/-! `rise` changes `risen` alone. -/

@[simp] theorem rise_csr (s : State) (b : Nat) (f : Fld) (v : Nat) : (rise s b f v).csr = s.csr := rfl
@[simp] theorem rise_undo (s : State) (b : Nat) (f : Fld) (v : Nat) : (rise s b f v).undo = s.undo := rfl
@[simp] theorem rise_live (s : State) (b : Nat) (f : Fld) (v : Nat) : (rise s b f v).live = s.live := rfl
@[simp] theorem rise_mem (s : State) (b : Nat) (f : Fld) (v : Nat) : (rise s b f v).mem = s.mem := rfl
@[simp] theorem rise_lineKey (s : State) (b : Nat) (f : Fld) (v : Nat) : (rise s b f v).lineKey = s.lineKey := rfl
@[simp] theorem rise_cmem (s : State) (b : Nat) (f : Fld) (v : Nat) : (rise s b f v).cmem = s.cmem := rfl
@[simp] theorem rise_chans (s : State) (b : Nat) (f : Fld) (v : Nat) : (rise s b f v).chans = s.chans := rfl
@[simp] theorem rise_tables (s : State) (b : Nat) (f : Fld) (v : Nat) : (rise s b f v).tables = s.tables := rfl
@[simp] theorem rise_vregs (s : State) (b : Nat) (f : Fld) (v : Nat) : (rise s b f v).vregs = s.vregs := rfl
@[simp] theorem rise_cores (s : State) (b : Nat) (f : Fld) (v : Nat) : (rise s b f v).cores = s.cores := rfl
@[simp] theorem rise_sites (s : State) (b : Nat) (f : Fld) (v : Nat) : (rise s b f v).sites = s.sites := rfl
@[simp] theorem rise_doms (s : State) (b : Nat) (f : Fld) (v : Nat) : (rise s b f v).doms = s.doms := rfl
@[simp] theorem rise_edges (s : State) (b : Nat) (f : Fld) (v : Nat) : (rise s b f v).edges = s.edges := rfl
@[simp] theorem rise_hbms (s : State) (b : Nat) (f : Fld) (v : Nat) : (rise s b f v).hbms = s.hbms := rfl
@[simp] theorem rise_ports (s : State) (b : Nat) (f : Fld) (v : Nat) : (rise s b f v).ports = s.ports := rfl
@[simp] theorem rise_parts (s : State) (b : Nat) (f : Fld) (v : Nat) : (rise s b f v).parts = s.parts := rfl
@[simp] theorem rise_pnl (s : State) (b : Nat) (f : Fld) (v : Nat) : (rise s b f v).pnl = s.pnl := rfl
@[simp] theorem rise_fresh (s : State) (b : Nat) (f : Fld) (v : Nat) : (rise s b f v).fresh = s.fresh := rfl
@[simp] theorem rise_pending (s : State) (b : Nat) (f : Fld) (v : Nat) : (rise s b f v).pending = s.pending := rfl
@[simp] theorem rd_rise (s : State) (b : Nat) (f : Fld) (v : Nat) (a : Nat) : rd (rise s b f v) a = rd s a := rfl
@[simp] theorem live_rise (s : State) (b : Nat) (f : Fld) (v : Nat) (a : Nat) : live (rise s b f v) a = live s a := rfl
@[simp] theorem memRead_rise (s : State) (b : Nat) (f : Fld) (v : Nat) (a : Nat) : memRead (rise s b f v) a = memRead s a := rfl
@[simp] theorem cread_rise (s : State) (b : Nat) (f : Fld) (v : Nat) (g a : Nat) : cread (rise s b f v) g a = cread s g a := rfl
@[simp] theorem chan_rise (s : State) (b : Nat) (f : Fld) (v : Nat) (k c : Nat) : chan (rise s b f v) k c = chan s k c := rfl
@[simp] theorem tab_rise (s : State) (b : Nat) (f : Fld) (v : Nat) (x : Nat) : tab (rise s b f v) x = tab s x := rfl
@[simp] theorem vreg_rise (s : State) (b : Nat) (f : Fld) (v : Nat) (g n : Nat) : vreg (rise s b f v) g n = vreg s g n := rfl
@[simp] theorem core_rise (s : State) (b : Nat) (f : Fld) (v : Nat) (g : Nat) : core (rise s b f v) g = core s g := rfl
@[simp] theorem site_rise (s : State) (b : Nat) (f : Fld) (v : Nat) (k : Nat) : site (rise s b f v) k = site s k := rfl
@[simp] theorem dom_rise (s : State) (b : Nat) (f : Fld) (v : Nat) (d : Nat) : dom (rise s b f v) d = dom s d := rfl
@[simp] theorem edge_rise (s : State) (b : Nat) (f : Fld) (v : Nat) (e : Nat) : edge (rise s b f v) e = edge s e := rfl
@[simp] theorem stack_rise (s : State) (b : Nat) (f : Fld) (v : Nat) (h : Nat) : stack (rise s b f v) h = stack s h := rfl
@[simp] theorem port_rise (s : State) (b : Nat) (f : Fld) (v : Nat) (p : Nat) : port (rise s b f v) p = port s p := rfl
@[simp] theorem part_rise (s : State) (b : Nat) (f : Fld) (v : Nat) (p : Nat) : part (rise s b f v) p = part s p := rfl

/-! `wr` changes `csr` alone. -/

@[simp] theorem wr_risen (s : State) (b : Nat) (v : W64) : (wr s b v).risen = s.risen := rfl
@[simp] theorem wr_undo (s : State) (b : Nat) (v : W64) : (wr s b v).undo = s.undo := rfl
@[simp] theorem wr_live (s : State) (b : Nat) (v : W64) : (wr s b v).live = s.live := rfl
@[simp] theorem wr_mem (s : State) (b : Nat) (v : W64) : (wr s b v).mem = s.mem := rfl
@[simp] theorem wr_lineKey (s : State) (b : Nat) (v : W64) : (wr s b v).lineKey = s.lineKey := rfl
@[simp] theorem wr_cmem (s : State) (b : Nat) (v : W64) : (wr s b v).cmem = s.cmem := rfl
@[simp] theorem wr_chans (s : State) (b : Nat) (v : W64) : (wr s b v).chans = s.chans := rfl
@[simp] theorem wr_tables (s : State) (b : Nat) (v : W64) : (wr s b v).tables = s.tables := rfl
@[simp] theorem wr_vregs (s : State) (b : Nat) (v : W64) : (wr s b v).vregs = s.vregs := rfl
@[simp] theorem wr_cores (s : State) (b : Nat) (v : W64) : (wr s b v).cores = s.cores := rfl
@[simp] theorem wr_sites (s : State) (b : Nat) (v : W64) : (wr s b v).sites = s.sites := rfl
@[simp] theorem wr_doms (s : State) (b : Nat) (v : W64) : (wr s b v).doms = s.doms := rfl
@[simp] theorem wr_edges (s : State) (b : Nat) (v : W64) : (wr s b v).edges = s.edges := rfl
@[simp] theorem wr_hbms (s : State) (b : Nat) (v : W64) : (wr s b v).hbms = s.hbms := rfl
@[simp] theorem wr_ports (s : State) (b : Nat) (v : W64) : (wr s b v).ports = s.ports := rfl
@[simp] theorem wr_parts (s : State) (b : Nat) (v : W64) : (wr s b v).parts = s.parts := rfl
@[simp] theorem wr_pnl (s : State) (b : Nat) (v : W64) : (wr s b v).pnl = s.pnl := rfl
@[simp] theorem wr_fresh (s : State) (b : Nat) (v : W64) : (wr s b v).fresh = s.fresh := rfl
@[simp] theorem wr_pending (s : State) (b : Nat) (v : W64) : (wr s b v).pending = s.pending := rfl
@[simp] theorem live_wr (s : State) (b : Nat) (v : W64) (a : Nat) : live (wr s b v) a = live s a := rfl
@[simp] theorem memRead_wr (s : State) (b : Nat) (v : W64) (a : Nat) : memRead (wr s b v) a = memRead s a := rfl
@[simp] theorem cread_wr (s : State) (b : Nat) (v : W64) (g a : Nat) : cread (wr s b v) g a = cread s g a := rfl
@[simp] theorem chan_wr (s : State) (b : Nat) (v : W64) (k c : Nat) : chan (wr s b v) k c = chan s k c := rfl
@[simp] theorem tab_wr (s : State) (b : Nat) (v : W64) (x : Nat) : tab (wr s b v) x = tab s x := rfl
@[simp] theorem vreg_wr (s : State) (b : Nat) (v : W64) (g n : Nat) : vreg (wr s b v) g n = vreg s g n := rfl
@[simp] theorem core_wr (s : State) (b : Nat) (v : W64) (g : Nat) : core (wr s b v) g = core s g := rfl
@[simp] theorem site_wr (s : State) (b : Nat) (v : W64) (k : Nat) : site (wr s b v) k = site s k := rfl
@[simp] theorem dom_wr (s : State) (b : Nat) (v : W64) (d : Nat) : dom (wr s b v) d = dom s d := rfl
@[simp] theorem edge_wr (s : State) (b : Nat) (v : W64) (e : Nat) : edge (wr s b v) e = edge s e := rfl
@[simp] theorem stack_wr (s : State) (b : Nat) (v : W64) (h : Nat) : stack (wr s b v) h = stack s h := rfl
@[simp] theorem port_wr (s : State) (b : Nat) (v : W64) (p : Nat) : port (wr s b v) p = port s p := rfl
@[simp] theorem part_wr (s : State) (b : Nat) (v : W64) (p : Nat) : part (wr s b v) p = part s p := rfl

/-! `memWrite` changes `mem` alone. -/

@[simp] theorem memWrite_csr (s : State) (b : Nat) (v : Byte) : (memWrite s b v).csr = s.csr := rfl
@[simp] theorem memWrite_risen (s : State) (b : Nat) (v : Byte) : (memWrite s b v).risen = s.risen := rfl
@[simp] theorem memWrite_undo (s : State) (b : Nat) (v : Byte) : (memWrite s b v).undo = s.undo := rfl
@[simp] theorem memWrite_live (s : State) (b : Nat) (v : Byte) : (memWrite s b v).live = s.live := rfl
@[simp] theorem memWrite_lineKey (s : State) (b : Nat) (v : Byte) : (memWrite s b v).lineKey = s.lineKey := rfl
@[simp] theorem memWrite_cmem (s : State) (b : Nat) (v : Byte) : (memWrite s b v).cmem = s.cmem := rfl
@[simp] theorem memWrite_chans (s : State) (b : Nat) (v : Byte) : (memWrite s b v).chans = s.chans := rfl
@[simp] theorem memWrite_tables (s : State) (b : Nat) (v : Byte) : (memWrite s b v).tables = s.tables := rfl
@[simp] theorem memWrite_vregs (s : State) (b : Nat) (v : Byte) : (memWrite s b v).vregs = s.vregs := rfl
@[simp] theorem memWrite_cores (s : State) (b : Nat) (v : Byte) : (memWrite s b v).cores = s.cores := rfl
@[simp] theorem memWrite_sites (s : State) (b : Nat) (v : Byte) : (memWrite s b v).sites = s.sites := rfl
@[simp] theorem memWrite_doms (s : State) (b : Nat) (v : Byte) : (memWrite s b v).doms = s.doms := rfl
@[simp] theorem memWrite_edges (s : State) (b : Nat) (v : Byte) : (memWrite s b v).edges = s.edges := rfl
@[simp] theorem memWrite_hbms (s : State) (b : Nat) (v : Byte) : (memWrite s b v).hbms = s.hbms := rfl
@[simp] theorem memWrite_ports (s : State) (b : Nat) (v : Byte) : (memWrite s b v).ports = s.ports := rfl
@[simp] theorem memWrite_parts (s : State) (b : Nat) (v : Byte) : (memWrite s b v).parts = s.parts := rfl
@[simp] theorem memWrite_pnl (s : State) (b : Nat) (v : Byte) : (memWrite s b v).pnl = s.pnl := rfl
@[simp] theorem memWrite_fresh (s : State) (b : Nat) (v : Byte) : (memWrite s b v).fresh = s.fresh := rfl
@[simp] theorem memWrite_pending (s : State) (b : Nat) (v : Byte) : (memWrite s b v).pending = s.pending := rfl
@[simp] theorem rd_memWrite (s : State) (b : Nat) (v : Byte) (a : Nat) : rd (memWrite s b v) a = rd s a := rfl
@[simp] theorem live_memWrite (s : State) (b : Nat) (v : Byte) (a : Nat) : live (memWrite s b v) a = live s a := rfl
@[simp] theorem cread_memWrite (s : State) (b : Nat) (v : Byte) (g a : Nat) : cread (memWrite s b v) g a = cread s g a := rfl
@[simp] theorem chan_memWrite (s : State) (b : Nat) (v : Byte) (k c : Nat) : chan (memWrite s b v) k c = chan s k c := rfl
@[simp] theorem tab_memWrite (s : State) (b : Nat) (v : Byte) (x : Nat) : tab (memWrite s b v) x = tab s x := rfl
@[simp] theorem vreg_memWrite (s : State) (b : Nat) (v : Byte) (g n : Nat) : vreg (memWrite s b v) g n = vreg s g n := rfl
@[simp] theorem core_memWrite (s : State) (b : Nat) (v : Byte) (g : Nat) : core (memWrite s b v) g = core s g := rfl
@[simp] theorem site_memWrite (s : State) (b : Nat) (v : Byte) (k : Nat) : site (memWrite s b v) k = site s k := rfl
@[simp] theorem dom_memWrite (s : State) (b : Nat) (v : Byte) (d : Nat) : dom (memWrite s b v) d = dom s d := rfl
@[simp] theorem edge_memWrite (s : State) (b : Nat) (v : Byte) (e : Nat) : edge (memWrite s b v) e = edge s e := rfl
@[simp] theorem stack_memWrite (s : State) (b : Nat) (v : Byte) (h : Nat) : stack (memWrite s b v) h = stack s h := rfl
@[simp] theorem port_memWrite (s : State) (b : Nat) (v : Byte) (p : Nat) : port (memWrite s b v) p = port s p := rfl
@[simp] theorem part_memWrite (s : State) (b : Nat) (v : Byte) (p : Nat) : part (memWrite s b v) p = part s p := rfl

/-! `cwrite` changes `cmem` alone. -/

@[simp] theorem cwrite_csr (s : State) (i b : Nat) (v : Byte) : (cwrite s i b v).csr = s.csr := rfl
@[simp] theorem cwrite_risen (s : State) (i b : Nat) (v : Byte) : (cwrite s i b v).risen = s.risen := rfl
@[simp] theorem cwrite_undo (s : State) (i b : Nat) (v : Byte) : (cwrite s i b v).undo = s.undo := rfl
@[simp] theorem cwrite_live (s : State) (i b : Nat) (v : Byte) : (cwrite s i b v).live = s.live := rfl
@[simp] theorem cwrite_mem (s : State) (i b : Nat) (v : Byte) : (cwrite s i b v).mem = s.mem := rfl
@[simp] theorem cwrite_lineKey (s : State) (i b : Nat) (v : Byte) : (cwrite s i b v).lineKey = s.lineKey := rfl
@[simp] theorem cwrite_chans (s : State) (i b : Nat) (v : Byte) : (cwrite s i b v).chans = s.chans := rfl
@[simp] theorem cwrite_tables (s : State) (i b : Nat) (v : Byte) : (cwrite s i b v).tables = s.tables := rfl
@[simp] theorem cwrite_vregs (s : State) (i b : Nat) (v : Byte) : (cwrite s i b v).vregs = s.vregs := rfl
@[simp] theorem cwrite_cores (s : State) (i b : Nat) (v : Byte) : (cwrite s i b v).cores = s.cores := rfl
@[simp] theorem cwrite_sites (s : State) (i b : Nat) (v : Byte) : (cwrite s i b v).sites = s.sites := rfl
@[simp] theorem cwrite_doms (s : State) (i b : Nat) (v : Byte) : (cwrite s i b v).doms = s.doms := rfl
@[simp] theorem cwrite_edges (s : State) (i b : Nat) (v : Byte) : (cwrite s i b v).edges = s.edges := rfl
@[simp] theorem cwrite_hbms (s : State) (i b : Nat) (v : Byte) : (cwrite s i b v).hbms = s.hbms := rfl
@[simp] theorem cwrite_ports (s : State) (i b : Nat) (v : Byte) : (cwrite s i b v).ports = s.ports := rfl
@[simp] theorem cwrite_parts (s : State) (i b : Nat) (v : Byte) : (cwrite s i b v).parts = s.parts := rfl
@[simp] theorem cwrite_pnl (s : State) (i b : Nat) (v : Byte) : (cwrite s i b v).pnl = s.pnl := rfl
@[simp] theorem cwrite_fresh (s : State) (i b : Nat) (v : Byte) : (cwrite s i b v).fresh = s.fresh := rfl
@[simp] theorem cwrite_pending (s : State) (i b : Nat) (v : Byte) : (cwrite s i b v).pending = s.pending := rfl
@[simp] theorem rd_cwrite (s : State) (i b : Nat) (v : Byte) (a : Nat) : rd (cwrite s i b v) a = rd s a := rfl
@[simp] theorem live_cwrite (s : State) (i b : Nat) (v : Byte) (a : Nat) : live (cwrite s i b v) a = live s a := rfl
@[simp] theorem memRead_cwrite (s : State) (i b : Nat) (v : Byte) (a : Nat) : memRead (cwrite s i b v) a = memRead s a := rfl
@[simp] theorem chan_cwrite (s : State) (i b : Nat) (v : Byte) (k c : Nat) : chan (cwrite s i b v) k c = chan s k c := rfl
@[simp] theorem tab_cwrite (s : State) (i b : Nat) (v : Byte) (x : Nat) : tab (cwrite s i b v) x = tab s x := rfl
@[simp] theorem vreg_cwrite (s : State) (i b : Nat) (v : Byte) (g n : Nat) : vreg (cwrite s i b v) g n = vreg s g n := rfl
@[simp] theorem core_cwrite (s : State) (i b : Nat) (v : Byte) (g : Nat) : core (cwrite s i b v) g = core s g := rfl
@[simp] theorem site_cwrite (s : State) (i b : Nat) (v : Byte) (k : Nat) : site (cwrite s i b v) k = site s k := rfl
@[simp] theorem dom_cwrite (s : State) (i b : Nat) (v : Byte) (d : Nat) : dom (cwrite s i b v) d = dom s d := rfl
@[simp] theorem edge_cwrite (s : State) (i b : Nat) (v : Byte) (e : Nat) : edge (cwrite s i b v) e = edge s e := rfl
@[simp] theorem stack_cwrite (s : State) (i b : Nat) (v : Byte) (h : Nat) : stack (cwrite s i b v) h = stack s h := rfl
@[simp] theorem port_cwrite (s : State) (i b : Nat) (v : Byte) (p : Nat) : port (cwrite s i b v) p = port s p := rfl
@[simp] theorem part_cwrite (s : State) (i b : Nat) (v : Byte) (p : Nat) : part (cwrite s i b v) p = part s p := rfl

/-! `modChan` changes `chans` alone. -/

@[simp] theorem modChan_csr (s : State) (i b : Nat) (f : Chan → Chan) : (modChan s i b f).csr = s.csr := rfl
@[simp] theorem modChan_risen (s : State) (i b : Nat) (f : Chan → Chan) : (modChan s i b f).risen = s.risen := rfl
@[simp] theorem modChan_undo (s : State) (i b : Nat) (f : Chan → Chan) : (modChan s i b f).undo = s.undo := rfl
@[simp] theorem modChan_live (s : State) (i b : Nat) (f : Chan → Chan) : (modChan s i b f).live = s.live := rfl
@[simp] theorem modChan_mem (s : State) (i b : Nat) (f : Chan → Chan) : (modChan s i b f).mem = s.mem := rfl
@[simp] theorem modChan_lineKey (s : State) (i b : Nat) (f : Chan → Chan) : (modChan s i b f).lineKey = s.lineKey := rfl
@[simp] theorem modChan_cmem (s : State) (i b : Nat) (f : Chan → Chan) : (modChan s i b f).cmem = s.cmem := rfl
@[simp] theorem modChan_tables (s : State) (i b : Nat) (f : Chan → Chan) : (modChan s i b f).tables = s.tables := rfl
@[simp] theorem modChan_vregs (s : State) (i b : Nat) (f : Chan → Chan) : (modChan s i b f).vregs = s.vregs := rfl
@[simp] theorem modChan_cores (s : State) (i b : Nat) (f : Chan → Chan) : (modChan s i b f).cores = s.cores := rfl
@[simp] theorem modChan_sites (s : State) (i b : Nat) (f : Chan → Chan) : (modChan s i b f).sites = s.sites := rfl
@[simp] theorem modChan_doms (s : State) (i b : Nat) (f : Chan → Chan) : (modChan s i b f).doms = s.doms := rfl
@[simp] theorem modChan_edges (s : State) (i b : Nat) (f : Chan → Chan) : (modChan s i b f).edges = s.edges := rfl
@[simp] theorem modChan_hbms (s : State) (i b : Nat) (f : Chan → Chan) : (modChan s i b f).hbms = s.hbms := rfl
@[simp] theorem modChan_ports (s : State) (i b : Nat) (f : Chan → Chan) : (modChan s i b f).ports = s.ports := rfl
@[simp] theorem modChan_parts (s : State) (i b : Nat) (f : Chan → Chan) : (modChan s i b f).parts = s.parts := rfl
@[simp] theorem modChan_pnl (s : State) (i b : Nat) (f : Chan → Chan) : (modChan s i b f).pnl = s.pnl := rfl
@[simp] theorem modChan_fresh (s : State) (i b : Nat) (f : Chan → Chan) : (modChan s i b f).fresh = s.fresh := rfl
@[simp] theorem modChan_pending (s : State) (i b : Nat) (f : Chan → Chan) : (modChan s i b f).pending = s.pending := rfl
@[simp] theorem rd_modChan (s : State) (i b : Nat) (f : Chan → Chan) (a : Nat) : rd (modChan s i b f) a = rd s a := rfl
@[simp] theorem live_modChan (s : State) (i b : Nat) (f : Chan → Chan) (a : Nat) : live (modChan s i b f) a = live s a := rfl
@[simp] theorem memRead_modChan (s : State) (i b : Nat) (f : Chan → Chan) (a : Nat) : memRead (modChan s i b f) a = memRead s a := rfl
@[simp] theorem cread_modChan (s : State) (i b : Nat) (f : Chan → Chan) (g a : Nat) : cread (modChan s i b f) g a = cread s g a := rfl
@[simp] theorem tab_modChan (s : State) (i b : Nat) (f : Chan → Chan) (x : Nat) : tab (modChan s i b f) x = tab s x := rfl
@[simp] theorem vreg_modChan (s : State) (i b : Nat) (f : Chan → Chan) (g n : Nat) : vreg (modChan s i b f) g n = vreg s g n := rfl
@[simp] theorem core_modChan (s : State) (i b : Nat) (f : Chan → Chan) (g : Nat) : core (modChan s i b f) g = core s g := rfl
@[simp] theorem site_modChan (s : State) (i b : Nat) (f : Chan → Chan) (k : Nat) : site (modChan s i b f) k = site s k := rfl
@[simp] theorem dom_modChan (s : State) (i b : Nat) (f : Chan → Chan) (d : Nat) : dom (modChan s i b f) d = dom s d := rfl
@[simp] theorem edge_modChan (s : State) (i b : Nat) (f : Chan → Chan) (e : Nat) : edge (modChan s i b f) e = edge s e := rfl
@[simp] theorem stack_modChan (s : State) (i b : Nat) (f : Chan → Chan) (h : Nat) : stack (modChan s i b f) h = stack s h := rfl
@[simp] theorem port_modChan (s : State) (i b : Nat) (f : Chan → Chan) (p : Nat) : port (modChan s i b f) p = port s p := rfl
@[simp] theorem part_modChan (s : State) (i b : Nat) (f : Chan → Chan) (p : Nat) : part (modChan s i b f) p = part s p := rfl

/-! `setTab` changes `tables` alone. -/

@[simp] theorem setTab_csr (s : State) (i v : Nat) : (setTab s i v).csr = s.csr := rfl
@[simp] theorem setTab_risen (s : State) (i v : Nat) : (setTab s i v).risen = s.risen := rfl
@[simp] theorem setTab_undo (s : State) (i v : Nat) : (setTab s i v).undo = s.undo := rfl
@[simp] theorem setTab_live (s : State) (i v : Nat) : (setTab s i v).live = s.live := rfl
@[simp] theorem setTab_mem (s : State) (i v : Nat) : (setTab s i v).mem = s.mem := rfl
@[simp] theorem setTab_lineKey (s : State) (i v : Nat) : (setTab s i v).lineKey = s.lineKey := rfl
@[simp] theorem setTab_cmem (s : State) (i v : Nat) : (setTab s i v).cmem = s.cmem := rfl
@[simp] theorem setTab_chans (s : State) (i v : Nat) : (setTab s i v).chans = s.chans := rfl
@[simp] theorem setTab_vregs (s : State) (i v : Nat) : (setTab s i v).vregs = s.vregs := rfl
@[simp] theorem setTab_cores (s : State) (i v : Nat) : (setTab s i v).cores = s.cores := rfl
@[simp] theorem setTab_sites (s : State) (i v : Nat) : (setTab s i v).sites = s.sites := rfl
@[simp] theorem setTab_doms (s : State) (i v : Nat) : (setTab s i v).doms = s.doms := rfl
@[simp] theorem setTab_edges (s : State) (i v : Nat) : (setTab s i v).edges = s.edges := rfl
@[simp] theorem setTab_hbms (s : State) (i v : Nat) : (setTab s i v).hbms = s.hbms := rfl
@[simp] theorem setTab_ports (s : State) (i v : Nat) : (setTab s i v).ports = s.ports := rfl
@[simp] theorem setTab_parts (s : State) (i v : Nat) : (setTab s i v).parts = s.parts := rfl
@[simp] theorem setTab_pnl (s : State) (i v : Nat) : (setTab s i v).pnl = s.pnl := rfl
@[simp] theorem setTab_fresh (s : State) (i v : Nat) : (setTab s i v).fresh = s.fresh := rfl
@[simp] theorem setTab_pending (s : State) (i v : Nat) : (setTab s i v).pending = s.pending := rfl
@[simp] theorem rd_setTab (s : State) (i v : Nat) (a : Nat) : rd (setTab s i v) a = rd s a := rfl
@[simp] theorem live_setTab (s : State) (i v : Nat) (a : Nat) : live (setTab s i v) a = live s a := rfl
@[simp] theorem memRead_setTab (s : State) (i v : Nat) (a : Nat) : memRead (setTab s i v) a = memRead s a := rfl
@[simp] theorem cread_setTab (s : State) (i v : Nat) (g a : Nat) : cread (setTab s i v) g a = cread s g a := rfl
@[simp] theorem chan_setTab (s : State) (i v : Nat) (k c : Nat) : chan (setTab s i v) k c = chan s k c := rfl
@[simp] theorem vreg_setTab (s : State) (i v : Nat) (g n : Nat) : vreg (setTab s i v) g n = vreg s g n := rfl
@[simp] theorem core_setTab (s : State) (i v : Nat) (g : Nat) : core (setTab s i v) g = core s g := rfl
@[simp] theorem site_setTab (s : State) (i v : Nat) (k : Nat) : site (setTab s i v) k = site s k := rfl
@[simp] theorem dom_setTab (s : State) (i v : Nat) (d : Nat) : dom (setTab s i v) d = dom s d := rfl
@[simp] theorem edge_setTab (s : State) (i v : Nat) (e : Nat) : edge (setTab s i v) e = edge s e := rfl
@[simp] theorem stack_setTab (s : State) (i v : Nat) (h : Nat) : stack (setTab s i v) h = stack s h := rfl
@[simp] theorem port_setTab (s : State) (i v : Nat) (p : Nat) : port (setTab s i v) p = port s p := rfl
@[simp] theorem part_setTab (s : State) (i v : Nat) (p : Nat) : part (setTab s i v) p = part s p := rfl

/-! `setVreg` changes `vregs` alone. -/

@[simp] theorem setVreg_csr (s : State) (i b : Nat) (v : VReg) : (setVreg s i b v).csr = s.csr := rfl
@[simp] theorem setVreg_risen (s : State) (i b : Nat) (v : VReg) : (setVreg s i b v).risen = s.risen := rfl
@[simp] theorem setVreg_undo (s : State) (i b : Nat) (v : VReg) : (setVreg s i b v).undo = s.undo := rfl
@[simp] theorem setVreg_live (s : State) (i b : Nat) (v : VReg) : (setVreg s i b v).live = s.live := rfl
@[simp] theorem setVreg_mem (s : State) (i b : Nat) (v : VReg) : (setVreg s i b v).mem = s.mem := rfl
@[simp] theorem setVreg_lineKey (s : State) (i b : Nat) (v : VReg) : (setVreg s i b v).lineKey = s.lineKey := rfl
@[simp] theorem setVreg_cmem (s : State) (i b : Nat) (v : VReg) : (setVreg s i b v).cmem = s.cmem := rfl
@[simp] theorem setVreg_chans (s : State) (i b : Nat) (v : VReg) : (setVreg s i b v).chans = s.chans := rfl
@[simp] theorem setVreg_tables (s : State) (i b : Nat) (v : VReg) : (setVreg s i b v).tables = s.tables := rfl
@[simp] theorem setVreg_cores (s : State) (i b : Nat) (v : VReg) : (setVreg s i b v).cores = s.cores := rfl
@[simp] theorem setVreg_sites (s : State) (i b : Nat) (v : VReg) : (setVreg s i b v).sites = s.sites := rfl
@[simp] theorem setVreg_doms (s : State) (i b : Nat) (v : VReg) : (setVreg s i b v).doms = s.doms := rfl
@[simp] theorem setVreg_edges (s : State) (i b : Nat) (v : VReg) : (setVreg s i b v).edges = s.edges := rfl
@[simp] theorem setVreg_hbms (s : State) (i b : Nat) (v : VReg) : (setVreg s i b v).hbms = s.hbms := rfl
@[simp] theorem setVreg_ports (s : State) (i b : Nat) (v : VReg) : (setVreg s i b v).ports = s.ports := rfl
@[simp] theorem setVreg_parts (s : State) (i b : Nat) (v : VReg) : (setVreg s i b v).parts = s.parts := rfl
@[simp] theorem setVreg_pnl (s : State) (i b : Nat) (v : VReg) : (setVreg s i b v).pnl = s.pnl := rfl
@[simp] theorem setVreg_fresh (s : State) (i b : Nat) (v : VReg) : (setVreg s i b v).fresh = s.fresh := rfl
@[simp] theorem setVreg_pending (s : State) (i b : Nat) (v : VReg) : (setVreg s i b v).pending = s.pending := rfl
@[simp] theorem rd_setVreg (s : State) (i b : Nat) (v : VReg) (a : Nat) : rd (setVreg s i b v) a = rd s a := rfl
@[simp] theorem live_setVreg (s : State) (i b : Nat) (v : VReg) (a : Nat) : live (setVreg s i b v) a = live s a := rfl
@[simp] theorem memRead_setVreg (s : State) (i b : Nat) (v : VReg) (a : Nat) : memRead (setVreg s i b v) a = memRead s a := rfl
@[simp] theorem cread_setVreg (s : State) (i b : Nat) (v : VReg) (g a : Nat) : cread (setVreg s i b v) g a = cread s g a := rfl
@[simp] theorem chan_setVreg (s : State) (i b : Nat) (v : VReg) (k c : Nat) : chan (setVreg s i b v) k c = chan s k c := rfl
@[simp] theorem tab_setVreg (s : State) (i b : Nat) (v : VReg) (x : Nat) : tab (setVreg s i b v) x = tab s x := rfl
@[simp] theorem core_setVreg (s : State) (i b : Nat) (v : VReg) (g : Nat) : core (setVreg s i b v) g = core s g := rfl
@[simp] theorem site_setVreg (s : State) (i b : Nat) (v : VReg) (k : Nat) : site (setVreg s i b v) k = site s k := rfl
@[simp] theorem dom_setVreg (s : State) (i b : Nat) (v : VReg) (d : Nat) : dom (setVreg s i b v) d = dom s d := rfl
@[simp] theorem edge_setVreg (s : State) (i b : Nat) (v : VReg) (e : Nat) : edge (setVreg s i b v) e = edge s e := rfl
@[simp] theorem stack_setVreg (s : State) (i b : Nat) (v : VReg) (h : Nat) : stack (setVreg s i b v) h = stack s h := rfl
@[simp] theorem port_setVreg (s : State) (i b : Nat) (v : VReg) (p : Nat) : port (setVreg s i b v) p = port s p := rfl
@[simp] theorem part_setVreg (s : State) (i b : Nat) (v : VReg) (p : Nat) : part (setVreg s i b v) p = part s p := rfl

/-! `modCore` changes `cores` alone. -/

@[simp] theorem modCore_csr (s : State) (i : Nat) (f : CoreX → CoreX) : (modCore s i f).csr = s.csr := rfl
@[simp] theorem modCore_risen (s : State) (i : Nat) (f : CoreX → CoreX) : (modCore s i f).risen = s.risen := rfl
@[simp] theorem modCore_undo (s : State) (i : Nat) (f : CoreX → CoreX) : (modCore s i f).undo = s.undo := rfl
@[simp] theorem modCore_live (s : State) (i : Nat) (f : CoreX → CoreX) : (modCore s i f).live = s.live := rfl
@[simp] theorem modCore_mem (s : State) (i : Nat) (f : CoreX → CoreX) : (modCore s i f).mem = s.mem := rfl
@[simp] theorem modCore_lineKey (s : State) (i : Nat) (f : CoreX → CoreX) : (modCore s i f).lineKey = s.lineKey := rfl
@[simp] theorem modCore_cmem (s : State) (i : Nat) (f : CoreX → CoreX) : (modCore s i f).cmem = s.cmem := rfl
@[simp] theorem modCore_chans (s : State) (i : Nat) (f : CoreX → CoreX) : (modCore s i f).chans = s.chans := rfl
@[simp] theorem modCore_tables (s : State) (i : Nat) (f : CoreX → CoreX) : (modCore s i f).tables = s.tables := rfl
@[simp] theorem modCore_vregs (s : State) (i : Nat) (f : CoreX → CoreX) : (modCore s i f).vregs = s.vregs := rfl
@[simp] theorem modCore_sites (s : State) (i : Nat) (f : CoreX → CoreX) : (modCore s i f).sites = s.sites := rfl
@[simp] theorem modCore_doms (s : State) (i : Nat) (f : CoreX → CoreX) : (modCore s i f).doms = s.doms := rfl
@[simp] theorem modCore_edges (s : State) (i : Nat) (f : CoreX → CoreX) : (modCore s i f).edges = s.edges := rfl
@[simp] theorem modCore_hbms (s : State) (i : Nat) (f : CoreX → CoreX) : (modCore s i f).hbms = s.hbms := rfl
@[simp] theorem modCore_ports (s : State) (i : Nat) (f : CoreX → CoreX) : (modCore s i f).ports = s.ports := rfl
@[simp] theorem modCore_parts (s : State) (i : Nat) (f : CoreX → CoreX) : (modCore s i f).parts = s.parts := rfl
@[simp] theorem modCore_pnl (s : State) (i : Nat) (f : CoreX → CoreX) : (modCore s i f).pnl = s.pnl := rfl
@[simp] theorem modCore_fresh (s : State) (i : Nat) (f : CoreX → CoreX) : (modCore s i f).fresh = s.fresh := rfl
@[simp] theorem modCore_pending (s : State) (i : Nat) (f : CoreX → CoreX) : (modCore s i f).pending = s.pending := rfl
@[simp] theorem rd_modCore (s : State) (i : Nat) (f : CoreX → CoreX) (a : Nat) : rd (modCore s i f) a = rd s a := rfl
@[simp] theorem live_modCore (s : State) (i : Nat) (f : CoreX → CoreX) (a : Nat) : live (modCore s i f) a = live s a := rfl
@[simp] theorem memRead_modCore (s : State) (i : Nat) (f : CoreX → CoreX) (a : Nat) : memRead (modCore s i f) a = memRead s a := rfl
@[simp] theorem cread_modCore (s : State) (i : Nat) (f : CoreX → CoreX) (g a : Nat) : cread (modCore s i f) g a = cread s g a := rfl
@[simp] theorem chan_modCore (s : State) (i : Nat) (f : CoreX → CoreX) (k c : Nat) : chan (modCore s i f) k c = chan s k c := rfl
@[simp] theorem tab_modCore (s : State) (i : Nat) (f : CoreX → CoreX) (x : Nat) : tab (modCore s i f) x = tab s x := rfl
@[simp] theorem vreg_modCore (s : State) (i : Nat) (f : CoreX → CoreX) (g n : Nat) : vreg (modCore s i f) g n = vreg s g n := rfl
@[simp] theorem site_modCore (s : State) (i : Nat) (f : CoreX → CoreX) (k : Nat) : site (modCore s i f) k = site s k := rfl
@[simp] theorem dom_modCore (s : State) (i : Nat) (f : CoreX → CoreX) (d : Nat) : dom (modCore s i f) d = dom s d := rfl
@[simp] theorem edge_modCore (s : State) (i : Nat) (f : CoreX → CoreX) (e : Nat) : edge (modCore s i f) e = edge s e := rfl
@[simp] theorem stack_modCore (s : State) (i : Nat) (f : CoreX → CoreX) (h : Nat) : stack (modCore s i f) h = stack s h := rfl
@[simp] theorem port_modCore (s : State) (i : Nat) (f : CoreX → CoreX) (p : Nat) : port (modCore s i f) p = port s p := rfl
@[simp] theorem part_modCore (s : State) (i : Nat) (f : CoreX → CoreX) (p : Nat) : part (modCore s i f) p = part s p := rfl

/-! `modSite` changes `sites` alone. -/

@[simp] theorem modSite_csr (s : State) (i : Nat) (f : SiteX → SiteX) : (modSite s i f).csr = s.csr := rfl
@[simp] theorem modSite_risen (s : State) (i : Nat) (f : SiteX → SiteX) : (modSite s i f).risen = s.risen := rfl
@[simp] theorem modSite_undo (s : State) (i : Nat) (f : SiteX → SiteX) : (modSite s i f).undo = s.undo := rfl
@[simp] theorem modSite_live (s : State) (i : Nat) (f : SiteX → SiteX) : (modSite s i f).live = s.live := rfl
@[simp] theorem modSite_mem (s : State) (i : Nat) (f : SiteX → SiteX) : (modSite s i f).mem = s.mem := rfl
@[simp] theorem modSite_lineKey (s : State) (i : Nat) (f : SiteX → SiteX) : (modSite s i f).lineKey = s.lineKey := rfl
@[simp] theorem modSite_cmem (s : State) (i : Nat) (f : SiteX → SiteX) : (modSite s i f).cmem = s.cmem := rfl
@[simp] theorem modSite_chans (s : State) (i : Nat) (f : SiteX → SiteX) : (modSite s i f).chans = s.chans := rfl
@[simp] theorem modSite_tables (s : State) (i : Nat) (f : SiteX → SiteX) : (modSite s i f).tables = s.tables := rfl
@[simp] theorem modSite_vregs (s : State) (i : Nat) (f : SiteX → SiteX) : (modSite s i f).vregs = s.vregs := rfl
@[simp] theorem modSite_cores (s : State) (i : Nat) (f : SiteX → SiteX) : (modSite s i f).cores = s.cores := rfl
@[simp] theorem modSite_doms (s : State) (i : Nat) (f : SiteX → SiteX) : (modSite s i f).doms = s.doms := rfl
@[simp] theorem modSite_edges (s : State) (i : Nat) (f : SiteX → SiteX) : (modSite s i f).edges = s.edges := rfl
@[simp] theorem modSite_hbms (s : State) (i : Nat) (f : SiteX → SiteX) : (modSite s i f).hbms = s.hbms := rfl
@[simp] theorem modSite_ports (s : State) (i : Nat) (f : SiteX → SiteX) : (modSite s i f).ports = s.ports := rfl
@[simp] theorem modSite_parts (s : State) (i : Nat) (f : SiteX → SiteX) : (modSite s i f).parts = s.parts := rfl
@[simp] theorem modSite_pnl (s : State) (i : Nat) (f : SiteX → SiteX) : (modSite s i f).pnl = s.pnl := rfl
@[simp] theorem modSite_fresh (s : State) (i : Nat) (f : SiteX → SiteX) : (modSite s i f).fresh = s.fresh := rfl
@[simp] theorem modSite_pending (s : State) (i : Nat) (f : SiteX → SiteX) : (modSite s i f).pending = s.pending := rfl
@[simp] theorem rd_modSite (s : State) (i : Nat) (f : SiteX → SiteX) (a : Nat) : rd (modSite s i f) a = rd s a := rfl
@[simp] theorem live_modSite (s : State) (i : Nat) (f : SiteX → SiteX) (a : Nat) : live (modSite s i f) a = live s a := rfl
@[simp] theorem memRead_modSite (s : State) (i : Nat) (f : SiteX → SiteX) (a : Nat) : memRead (modSite s i f) a = memRead s a := rfl
@[simp] theorem cread_modSite (s : State) (i : Nat) (f : SiteX → SiteX) (g a : Nat) : cread (modSite s i f) g a = cread s g a := rfl
@[simp] theorem chan_modSite (s : State) (i : Nat) (f : SiteX → SiteX) (k c : Nat) : chan (modSite s i f) k c = chan s k c := rfl
@[simp] theorem tab_modSite (s : State) (i : Nat) (f : SiteX → SiteX) (x : Nat) : tab (modSite s i f) x = tab s x := rfl
@[simp] theorem vreg_modSite (s : State) (i : Nat) (f : SiteX → SiteX) (g n : Nat) : vreg (modSite s i f) g n = vreg s g n := rfl
@[simp] theorem core_modSite (s : State) (i : Nat) (f : SiteX → SiteX) (g : Nat) : core (modSite s i f) g = core s g := rfl
@[simp] theorem dom_modSite (s : State) (i : Nat) (f : SiteX → SiteX) (d : Nat) : dom (modSite s i f) d = dom s d := rfl
@[simp] theorem edge_modSite (s : State) (i : Nat) (f : SiteX → SiteX) (e : Nat) : edge (modSite s i f) e = edge s e := rfl
@[simp] theorem stack_modSite (s : State) (i : Nat) (f : SiteX → SiteX) (h : Nat) : stack (modSite s i f) h = stack s h := rfl
@[simp] theorem port_modSite (s : State) (i : Nat) (f : SiteX → SiteX) (p : Nat) : port (modSite s i f) p = port s p := rfl
@[simp] theorem part_modSite (s : State) (i : Nat) (f : SiteX → SiteX) (p : Nat) : part (modSite s i f) p = part s p := rfl

/-! `modDom` changes `doms` alone. -/

@[simp] theorem modDom_csr (s : State) (i : Nat) (f : DomX → DomX) : (modDom s i f).csr = s.csr := rfl
@[simp] theorem modDom_risen (s : State) (i : Nat) (f : DomX → DomX) : (modDom s i f).risen = s.risen := rfl
@[simp] theorem modDom_undo (s : State) (i : Nat) (f : DomX → DomX) : (modDom s i f).undo = s.undo := rfl
@[simp] theorem modDom_live (s : State) (i : Nat) (f : DomX → DomX) : (modDom s i f).live = s.live := rfl
@[simp] theorem modDom_mem (s : State) (i : Nat) (f : DomX → DomX) : (modDom s i f).mem = s.mem := rfl
@[simp] theorem modDom_lineKey (s : State) (i : Nat) (f : DomX → DomX) : (modDom s i f).lineKey = s.lineKey := rfl
@[simp] theorem modDom_cmem (s : State) (i : Nat) (f : DomX → DomX) : (modDom s i f).cmem = s.cmem := rfl
@[simp] theorem modDom_chans (s : State) (i : Nat) (f : DomX → DomX) : (modDom s i f).chans = s.chans := rfl
@[simp] theorem modDom_tables (s : State) (i : Nat) (f : DomX → DomX) : (modDom s i f).tables = s.tables := rfl
@[simp] theorem modDom_vregs (s : State) (i : Nat) (f : DomX → DomX) : (modDom s i f).vregs = s.vregs := rfl
@[simp] theorem modDom_cores (s : State) (i : Nat) (f : DomX → DomX) : (modDom s i f).cores = s.cores := rfl
@[simp] theorem modDom_sites (s : State) (i : Nat) (f : DomX → DomX) : (modDom s i f).sites = s.sites := rfl
@[simp] theorem modDom_edges (s : State) (i : Nat) (f : DomX → DomX) : (modDom s i f).edges = s.edges := rfl
@[simp] theorem modDom_hbms (s : State) (i : Nat) (f : DomX → DomX) : (modDom s i f).hbms = s.hbms := rfl
@[simp] theorem modDom_ports (s : State) (i : Nat) (f : DomX → DomX) : (modDom s i f).ports = s.ports := rfl
@[simp] theorem modDom_parts (s : State) (i : Nat) (f : DomX → DomX) : (modDom s i f).parts = s.parts := rfl
@[simp] theorem modDom_pnl (s : State) (i : Nat) (f : DomX → DomX) : (modDom s i f).pnl = s.pnl := rfl
@[simp] theorem modDom_fresh (s : State) (i : Nat) (f : DomX → DomX) : (modDom s i f).fresh = s.fresh := rfl
@[simp] theorem modDom_pending (s : State) (i : Nat) (f : DomX → DomX) : (modDom s i f).pending = s.pending := rfl
@[simp] theorem rd_modDom (s : State) (i : Nat) (f : DomX → DomX) (a : Nat) : rd (modDom s i f) a = rd s a := rfl
@[simp] theorem live_modDom (s : State) (i : Nat) (f : DomX → DomX) (a : Nat) : live (modDom s i f) a = live s a := rfl
@[simp] theorem memRead_modDom (s : State) (i : Nat) (f : DomX → DomX) (a : Nat) : memRead (modDom s i f) a = memRead s a := rfl
@[simp] theorem cread_modDom (s : State) (i : Nat) (f : DomX → DomX) (g a : Nat) : cread (modDom s i f) g a = cread s g a := rfl
@[simp] theorem chan_modDom (s : State) (i : Nat) (f : DomX → DomX) (k c : Nat) : chan (modDom s i f) k c = chan s k c := rfl
@[simp] theorem tab_modDom (s : State) (i : Nat) (f : DomX → DomX) (x : Nat) : tab (modDom s i f) x = tab s x := rfl
@[simp] theorem vreg_modDom (s : State) (i : Nat) (f : DomX → DomX) (g n : Nat) : vreg (modDom s i f) g n = vreg s g n := rfl
@[simp] theorem core_modDom (s : State) (i : Nat) (f : DomX → DomX) (g : Nat) : core (modDom s i f) g = core s g := rfl
@[simp] theorem site_modDom (s : State) (i : Nat) (f : DomX → DomX) (k : Nat) : site (modDom s i f) k = site s k := rfl
@[simp] theorem edge_modDom (s : State) (i : Nat) (f : DomX → DomX) (e : Nat) : edge (modDom s i f) e = edge s e := rfl
@[simp] theorem stack_modDom (s : State) (i : Nat) (f : DomX → DomX) (h : Nat) : stack (modDom s i f) h = stack s h := rfl
@[simp] theorem port_modDom (s : State) (i : Nat) (f : DomX → DomX) (p : Nat) : port (modDom s i f) p = port s p := rfl
@[simp] theorem part_modDom (s : State) (i : Nat) (f : DomX → DomX) (p : Nat) : part (modDom s i f) p = part s p := rfl

/-! `modEdge` changes `edges` alone. -/

@[simp] theorem modEdge_csr (s : State) (i : Nat) (f : EdgeX → EdgeX) : (modEdge s i f).csr = s.csr := rfl
@[simp] theorem modEdge_risen (s : State) (i : Nat) (f : EdgeX → EdgeX) : (modEdge s i f).risen = s.risen := rfl
@[simp] theorem modEdge_undo (s : State) (i : Nat) (f : EdgeX → EdgeX) : (modEdge s i f).undo = s.undo := rfl
@[simp] theorem modEdge_live (s : State) (i : Nat) (f : EdgeX → EdgeX) : (modEdge s i f).live = s.live := rfl
@[simp] theorem modEdge_mem (s : State) (i : Nat) (f : EdgeX → EdgeX) : (modEdge s i f).mem = s.mem := rfl
@[simp] theorem modEdge_lineKey (s : State) (i : Nat) (f : EdgeX → EdgeX) : (modEdge s i f).lineKey = s.lineKey := rfl
@[simp] theorem modEdge_cmem (s : State) (i : Nat) (f : EdgeX → EdgeX) : (modEdge s i f).cmem = s.cmem := rfl
@[simp] theorem modEdge_chans (s : State) (i : Nat) (f : EdgeX → EdgeX) : (modEdge s i f).chans = s.chans := rfl
@[simp] theorem modEdge_tables (s : State) (i : Nat) (f : EdgeX → EdgeX) : (modEdge s i f).tables = s.tables := rfl
@[simp] theorem modEdge_vregs (s : State) (i : Nat) (f : EdgeX → EdgeX) : (modEdge s i f).vregs = s.vregs := rfl
@[simp] theorem modEdge_cores (s : State) (i : Nat) (f : EdgeX → EdgeX) : (modEdge s i f).cores = s.cores := rfl
@[simp] theorem modEdge_sites (s : State) (i : Nat) (f : EdgeX → EdgeX) : (modEdge s i f).sites = s.sites := rfl
@[simp] theorem modEdge_doms (s : State) (i : Nat) (f : EdgeX → EdgeX) : (modEdge s i f).doms = s.doms := rfl
@[simp] theorem modEdge_hbms (s : State) (i : Nat) (f : EdgeX → EdgeX) : (modEdge s i f).hbms = s.hbms := rfl
@[simp] theorem modEdge_ports (s : State) (i : Nat) (f : EdgeX → EdgeX) : (modEdge s i f).ports = s.ports := rfl
@[simp] theorem modEdge_parts (s : State) (i : Nat) (f : EdgeX → EdgeX) : (modEdge s i f).parts = s.parts := rfl
@[simp] theorem modEdge_pnl (s : State) (i : Nat) (f : EdgeX → EdgeX) : (modEdge s i f).pnl = s.pnl := rfl
@[simp] theorem modEdge_fresh (s : State) (i : Nat) (f : EdgeX → EdgeX) : (modEdge s i f).fresh = s.fresh := rfl
@[simp] theorem modEdge_pending (s : State) (i : Nat) (f : EdgeX → EdgeX) : (modEdge s i f).pending = s.pending := rfl
@[simp] theorem rd_modEdge (s : State) (i : Nat) (f : EdgeX → EdgeX) (a : Nat) : rd (modEdge s i f) a = rd s a := rfl
@[simp] theorem live_modEdge (s : State) (i : Nat) (f : EdgeX → EdgeX) (a : Nat) : live (modEdge s i f) a = live s a := rfl
@[simp] theorem memRead_modEdge (s : State) (i : Nat) (f : EdgeX → EdgeX) (a : Nat) : memRead (modEdge s i f) a = memRead s a := rfl
@[simp] theorem cread_modEdge (s : State) (i : Nat) (f : EdgeX → EdgeX) (g a : Nat) : cread (modEdge s i f) g a = cread s g a := rfl
@[simp] theorem chan_modEdge (s : State) (i : Nat) (f : EdgeX → EdgeX) (k c : Nat) : chan (modEdge s i f) k c = chan s k c := rfl
@[simp] theorem tab_modEdge (s : State) (i : Nat) (f : EdgeX → EdgeX) (x : Nat) : tab (modEdge s i f) x = tab s x := rfl
@[simp] theorem vreg_modEdge (s : State) (i : Nat) (f : EdgeX → EdgeX) (g n : Nat) : vreg (modEdge s i f) g n = vreg s g n := rfl
@[simp] theorem core_modEdge (s : State) (i : Nat) (f : EdgeX → EdgeX) (g : Nat) : core (modEdge s i f) g = core s g := rfl
@[simp] theorem site_modEdge (s : State) (i : Nat) (f : EdgeX → EdgeX) (k : Nat) : site (modEdge s i f) k = site s k := rfl
@[simp] theorem dom_modEdge (s : State) (i : Nat) (f : EdgeX → EdgeX) (d : Nat) : dom (modEdge s i f) d = dom s d := rfl
@[simp] theorem stack_modEdge (s : State) (i : Nat) (f : EdgeX → EdgeX) (h : Nat) : stack (modEdge s i f) h = stack s h := rfl
@[simp] theorem port_modEdge (s : State) (i : Nat) (f : EdgeX → EdgeX) (p : Nat) : port (modEdge s i f) p = port s p := rfl
@[simp] theorem part_modEdge (s : State) (i : Nat) (f : EdgeX → EdgeX) (p : Nat) : part (modEdge s i f) p = part s p := rfl

/-! `modStack` changes `hbms` alone. -/

@[simp] theorem modStack_csr (s : State) (i : Nat) (f : StackX → StackX) : (modStack s i f).csr = s.csr := rfl
@[simp] theorem modStack_risen (s : State) (i : Nat) (f : StackX → StackX) : (modStack s i f).risen = s.risen := rfl
@[simp] theorem modStack_undo (s : State) (i : Nat) (f : StackX → StackX) : (modStack s i f).undo = s.undo := rfl
@[simp] theorem modStack_live (s : State) (i : Nat) (f : StackX → StackX) : (modStack s i f).live = s.live := rfl
@[simp] theorem modStack_mem (s : State) (i : Nat) (f : StackX → StackX) : (modStack s i f).mem = s.mem := rfl
@[simp] theorem modStack_lineKey (s : State) (i : Nat) (f : StackX → StackX) : (modStack s i f).lineKey = s.lineKey := rfl
@[simp] theorem modStack_cmem (s : State) (i : Nat) (f : StackX → StackX) : (modStack s i f).cmem = s.cmem := rfl
@[simp] theorem modStack_chans (s : State) (i : Nat) (f : StackX → StackX) : (modStack s i f).chans = s.chans := rfl
@[simp] theorem modStack_tables (s : State) (i : Nat) (f : StackX → StackX) : (modStack s i f).tables = s.tables := rfl
@[simp] theorem modStack_vregs (s : State) (i : Nat) (f : StackX → StackX) : (modStack s i f).vregs = s.vregs := rfl
@[simp] theorem modStack_cores (s : State) (i : Nat) (f : StackX → StackX) : (modStack s i f).cores = s.cores := rfl
@[simp] theorem modStack_sites (s : State) (i : Nat) (f : StackX → StackX) : (modStack s i f).sites = s.sites := rfl
@[simp] theorem modStack_doms (s : State) (i : Nat) (f : StackX → StackX) : (modStack s i f).doms = s.doms := rfl
@[simp] theorem modStack_edges (s : State) (i : Nat) (f : StackX → StackX) : (modStack s i f).edges = s.edges := rfl
@[simp] theorem modStack_ports (s : State) (i : Nat) (f : StackX → StackX) : (modStack s i f).ports = s.ports := rfl
@[simp] theorem modStack_parts (s : State) (i : Nat) (f : StackX → StackX) : (modStack s i f).parts = s.parts := rfl
@[simp] theorem modStack_pnl (s : State) (i : Nat) (f : StackX → StackX) : (modStack s i f).pnl = s.pnl := rfl
@[simp] theorem modStack_fresh (s : State) (i : Nat) (f : StackX → StackX) : (modStack s i f).fresh = s.fresh := rfl
@[simp] theorem modStack_pending (s : State) (i : Nat) (f : StackX → StackX) : (modStack s i f).pending = s.pending := rfl
@[simp] theorem rd_modStack (s : State) (i : Nat) (f : StackX → StackX) (a : Nat) : rd (modStack s i f) a = rd s a := rfl
@[simp] theorem live_modStack (s : State) (i : Nat) (f : StackX → StackX) (a : Nat) : live (modStack s i f) a = live s a := rfl
@[simp] theorem memRead_modStack (s : State) (i : Nat) (f : StackX → StackX) (a : Nat) : memRead (modStack s i f) a = memRead s a := rfl
@[simp] theorem cread_modStack (s : State) (i : Nat) (f : StackX → StackX) (g a : Nat) : cread (modStack s i f) g a = cread s g a := rfl
@[simp] theorem chan_modStack (s : State) (i : Nat) (f : StackX → StackX) (k c : Nat) : chan (modStack s i f) k c = chan s k c := rfl
@[simp] theorem tab_modStack (s : State) (i : Nat) (f : StackX → StackX) (x : Nat) : tab (modStack s i f) x = tab s x := rfl
@[simp] theorem vreg_modStack (s : State) (i : Nat) (f : StackX → StackX) (g n : Nat) : vreg (modStack s i f) g n = vreg s g n := rfl
@[simp] theorem core_modStack (s : State) (i : Nat) (f : StackX → StackX) (g : Nat) : core (modStack s i f) g = core s g := rfl
@[simp] theorem site_modStack (s : State) (i : Nat) (f : StackX → StackX) (k : Nat) : site (modStack s i f) k = site s k := rfl
@[simp] theorem dom_modStack (s : State) (i : Nat) (f : StackX → StackX) (d : Nat) : dom (modStack s i f) d = dom s d := rfl
@[simp] theorem edge_modStack (s : State) (i : Nat) (f : StackX → StackX) (e : Nat) : edge (modStack s i f) e = edge s e := rfl
@[simp] theorem port_modStack (s : State) (i : Nat) (f : StackX → StackX) (p : Nat) : port (modStack s i f) p = port s p := rfl
@[simp] theorem part_modStack (s : State) (i : Nat) (f : StackX → StackX) (p : Nat) : part (modStack s i f) p = part s p := rfl

/-! `modPort` changes `ports` alone. -/

@[simp] theorem modPort_csr (s : State) (i : Nat) (f : PortX → PortX) : (modPort s i f).csr = s.csr := rfl
@[simp] theorem modPort_risen (s : State) (i : Nat) (f : PortX → PortX) : (modPort s i f).risen = s.risen := rfl
@[simp] theorem modPort_undo (s : State) (i : Nat) (f : PortX → PortX) : (modPort s i f).undo = s.undo := rfl
@[simp] theorem modPort_live (s : State) (i : Nat) (f : PortX → PortX) : (modPort s i f).live = s.live := rfl
@[simp] theorem modPort_mem (s : State) (i : Nat) (f : PortX → PortX) : (modPort s i f).mem = s.mem := rfl
@[simp] theorem modPort_lineKey (s : State) (i : Nat) (f : PortX → PortX) : (modPort s i f).lineKey = s.lineKey := rfl
@[simp] theorem modPort_cmem (s : State) (i : Nat) (f : PortX → PortX) : (modPort s i f).cmem = s.cmem := rfl
@[simp] theorem modPort_chans (s : State) (i : Nat) (f : PortX → PortX) : (modPort s i f).chans = s.chans := rfl
@[simp] theorem modPort_tables (s : State) (i : Nat) (f : PortX → PortX) : (modPort s i f).tables = s.tables := rfl
@[simp] theorem modPort_vregs (s : State) (i : Nat) (f : PortX → PortX) : (modPort s i f).vregs = s.vregs := rfl
@[simp] theorem modPort_cores (s : State) (i : Nat) (f : PortX → PortX) : (modPort s i f).cores = s.cores := rfl
@[simp] theorem modPort_sites (s : State) (i : Nat) (f : PortX → PortX) : (modPort s i f).sites = s.sites := rfl
@[simp] theorem modPort_doms (s : State) (i : Nat) (f : PortX → PortX) : (modPort s i f).doms = s.doms := rfl
@[simp] theorem modPort_edges (s : State) (i : Nat) (f : PortX → PortX) : (modPort s i f).edges = s.edges := rfl
@[simp] theorem modPort_hbms (s : State) (i : Nat) (f : PortX → PortX) : (modPort s i f).hbms = s.hbms := rfl
@[simp] theorem modPort_parts (s : State) (i : Nat) (f : PortX → PortX) : (modPort s i f).parts = s.parts := rfl
@[simp] theorem modPort_pnl (s : State) (i : Nat) (f : PortX → PortX) : (modPort s i f).pnl = s.pnl := rfl
@[simp] theorem modPort_fresh (s : State) (i : Nat) (f : PortX → PortX) : (modPort s i f).fresh = s.fresh := rfl
@[simp] theorem modPort_pending (s : State) (i : Nat) (f : PortX → PortX) : (modPort s i f).pending = s.pending := rfl
@[simp] theorem rd_modPort (s : State) (i : Nat) (f : PortX → PortX) (a : Nat) : rd (modPort s i f) a = rd s a := rfl
@[simp] theorem live_modPort (s : State) (i : Nat) (f : PortX → PortX) (a : Nat) : live (modPort s i f) a = live s a := rfl
@[simp] theorem memRead_modPort (s : State) (i : Nat) (f : PortX → PortX) (a : Nat) : memRead (modPort s i f) a = memRead s a := rfl
@[simp] theorem cread_modPort (s : State) (i : Nat) (f : PortX → PortX) (g a : Nat) : cread (modPort s i f) g a = cread s g a := rfl
@[simp] theorem chan_modPort (s : State) (i : Nat) (f : PortX → PortX) (k c : Nat) : chan (modPort s i f) k c = chan s k c := rfl
@[simp] theorem tab_modPort (s : State) (i : Nat) (f : PortX → PortX) (x : Nat) : tab (modPort s i f) x = tab s x := rfl
@[simp] theorem vreg_modPort (s : State) (i : Nat) (f : PortX → PortX) (g n : Nat) : vreg (modPort s i f) g n = vreg s g n := rfl
@[simp] theorem core_modPort (s : State) (i : Nat) (f : PortX → PortX) (g : Nat) : core (modPort s i f) g = core s g := rfl
@[simp] theorem site_modPort (s : State) (i : Nat) (f : PortX → PortX) (k : Nat) : site (modPort s i f) k = site s k := rfl
@[simp] theorem dom_modPort (s : State) (i : Nat) (f : PortX → PortX) (d : Nat) : dom (modPort s i f) d = dom s d := rfl
@[simp] theorem edge_modPort (s : State) (i : Nat) (f : PortX → PortX) (e : Nat) : edge (modPort s i f) e = edge s e := rfl
@[simp] theorem stack_modPort (s : State) (i : Nat) (f : PortX → PortX) (h : Nat) : stack (modPort s i f) h = stack s h := rfl
@[simp] theorem part_modPort (s : State) (i : Nat) (f : PortX → PortX) (p : Nat) : part (modPort s i f) p = part s p := rfl

/-! `modPart` changes `parts` alone. -/

@[simp] theorem modPart_csr (s : State) (i : Nat) (f : PartX → PartX) : (modPart s i f).csr = s.csr := rfl
@[simp] theorem modPart_risen (s : State) (i : Nat) (f : PartX → PartX) : (modPart s i f).risen = s.risen := rfl
@[simp] theorem modPart_undo (s : State) (i : Nat) (f : PartX → PartX) : (modPart s i f).undo = s.undo := rfl
@[simp] theorem modPart_live (s : State) (i : Nat) (f : PartX → PartX) : (modPart s i f).live = s.live := rfl
@[simp] theorem modPart_mem (s : State) (i : Nat) (f : PartX → PartX) : (modPart s i f).mem = s.mem := rfl
@[simp] theorem modPart_lineKey (s : State) (i : Nat) (f : PartX → PartX) : (modPart s i f).lineKey = s.lineKey := rfl
@[simp] theorem modPart_cmem (s : State) (i : Nat) (f : PartX → PartX) : (modPart s i f).cmem = s.cmem := rfl
@[simp] theorem modPart_chans (s : State) (i : Nat) (f : PartX → PartX) : (modPart s i f).chans = s.chans := rfl
@[simp] theorem modPart_tables (s : State) (i : Nat) (f : PartX → PartX) : (modPart s i f).tables = s.tables := rfl
@[simp] theorem modPart_vregs (s : State) (i : Nat) (f : PartX → PartX) : (modPart s i f).vregs = s.vregs := rfl
@[simp] theorem modPart_cores (s : State) (i : Nat) (f : PartX → PartX) : (modPart s i f).cores = s.cores := rfl
@[simp] theorem modPart_sites (s : State) (i : Nat) (f : PartX → PartX) : (modPart s i f).sites = s.sites := rfl
@[simp] theorem modPart_doms (s : State) (i : Nat) (f : PartX → PartX) : (modPart s i f).doms = s.doms := rfl
@[simp] theorem modPart_edges (s : State) (i : Nat) (f : PartX → PartX) : (modPart s i f).edges = s.edges := rfl
@[simp] theorem modPart_hbms (s : State) (i : Nat) (f : PartX → PartX) : (modPart s i f).hbms = s.hbms := rfl
@[simp] theorem modPart_ports (s : State) (i : Nat) (f : PartX → PartX) : (modPart s i f).ports = s.ports := rfl
@[simp] theorem modPart_pnl (s : State) (i : Nat) (f : PartX → PartX) : (modPart s i f).pnl = s.pnl := rfl
@[simp] theorem modPart_fresh (s : State) (i : Nat) (f : PartX → PartX) : (modPart s i f).fresh = s.fresh := rfl
@[simp] theorem modPart_pending (s : State) (i : Nat) (f : PartX → PartX) : (modPart s i f).pending = s.pending := rfl
@[simp] theorem rd_modPart (s : State) (i : Nat) (f : PartX → PartX) (a : Nat) : rd (modPart s i f) a = rd s a := rfl
@[simp] theorem live_modPart (s : State) (i : Nat) (f : PartX → PartX) (a : Nat) : live (modPart s i f) a = live s a := rfl
@[simp] theorem memRead_modPart (s : State) (i : Nat) (f : PartX → PartX) (a : Nat) : memRead (modPart s i f) a = memRead s a := rfl
@[simp] theorem cread_modPart (s : State) (i : Nat) (f : PartX → PartX) (g a : Nat) : cread (modPart s i f) g a = cread s g a := rfl
@[simp] theorem chan_modPart (s : State) (i : Nat) (f : PartX → PartX) (k c : Nat) : chan (modPart s i f) k c = chan s k c := rfl
@[simp] theorem tab_modPart (s : State) (i : Nat) (f : PartX → PartX) (x : Nat) : tab (modPart s i f) x = tab s x := rfl
@[simp] theorem vreg_modPart (s : State) (i : Nat) (f : PartX → PartX) (g n : Nat) : vreg (modPart s i f) g n = vreg s g n := rfl
@[simp] theorem core_modPart (s : State) (i : Nat) (f : PartX → PartX) (g : Nat) : core (modPart s i f) g = core s g := rfl
@[simp] theorem site_modPart (s : State) (i : Nat) (f : PartX → PartX) (k : Nat) : site (modPart s i f) k = site s k := rfl
@[simp] theorem dom_modPart (s : State) (i : Nat) (f : PartX → PartX) (d : Nat) : dom (modPart s i f) d = dom s d := rfl
@[simp] theorem edge_modPart (s : State) (i : Nat) (f : PartX → PartX) (e : Nat) : edge (modPart s i f) e = edge s e := rfl
@[simp] theorem stack_modPart (s : State) (i : Nat) (f : PartX → PartX) (h : Nat) : stack (modPart s i f) h = stack s h := rfl
@[simp] theorem port_modPart (s : State) (i : Nat) (f : PartX → PartX) (p : Nat) : port (modPart s i f) p = port s p := rfl

/-! `modPnl` changes `pnl` alone. -/

@[simp] theorem modPnl_csr (s : State) (f : PanelX → PanelX) : (modPnl s f).csr = s.csr := rfl
@[simp] theorem modPnl_risen (s : State) (f : PanelX → PanelX) : (modPnl s f).risen = s.risen := rfl
@[simp] theorem modPnl_undo (s : State) (f : PanelX → PanelX) : (modPnl s f).undo = s.undo := rfl
@[simp] theorem modPnl_live (s : State) (f : PanelX → PanelX) : (modPnl s f).live = s.live := rfl
@[simp] theorem modPnl_mem (s : State) (f : PanelX → PanelX) : (modPnl s f).mem = s.mem := rfl
@[simp] theorem modPnl_lineKey (s : State) (f : PanelX → PanelX) : (modPnl s f).lineKey = s.lineKey := rfl
@[simp] theorem modPnl_cmem (s : State) (f : PanelX → PanelX) : (modPnl s f).cmem = s.cmem := rfl
@[simp] theorem modPnl_chans (s : State) (f : PanelX → PanelX) : (modPnl s f).chans = s.chans := rfl
@[simp] theorem modPnl_tables (s : State) (f : PanelX → PanelX) : (modPnl s f).tables = s.tables := rfl
@[simp] theorem modPnl_vregs (s : State) (f : PanelX → PanelX) : (modPnl s f).vregs = s.vregs := rfl
@[simp] theorem modPnl_cores (s : State) (f : PanelX → PanelX) : (modPnl s f).cores = s.cores := rfl
@[simp] theorem modPnl_sites (s : State) (f : PanelX → PanelX) : (modPnl s f).sites = s.sites := rfl
@[simp] theorem modPnl_doms (s : State) (f : PanelX → PanelX) : (modPnl s f).doms = s.doms := rfl
@[simp] theorem modPnl_edges (s : State) (f : PanelX → PanelX) : (modPnl s f).edges = s.edges := rfl
@[simp] theorem modPnl_hbms (s : State) (f : PanelX → PanelX) : (modPnl s f).hbms = s.hbms := rfl
@[simp] theorem modPnl_ports (s : State) (f : PanelX → PanelX) : (modPnl s f).ports = s.ports := rfl
@[simp] theorem modPnl_parts (s : State) (f : PanelX → PanelX) : (modPnl s f).parts = s.parts := rfl
@[simp] theorem modPnl_fresh (s : State) (f : PanelX → PanelX) : (modPnl s f).fresh = s.fresh := rfl
@[simp] theorem modPnl_pending (s : State) (f : PanelX → PanelX) : (modPnl s f).pending = s.pending := rfl
@[simp] theorem rd_modPnl (s : State) (f : PanelX → PanelX) (a : Nat) : rd (modPnl s f) a = rd s a := rfl
@[simp] theorem live_modPnl (s : State) (f : PanelX → PanelX) (a : Nat) : live (modPnl s f) a = live s a := rfl
@[simp] theorem memRead_modPnl (s : State) (f : PanelX → PanelX) (a : Nat) : memRead (modPnl s f) a = memRead s a := rfl
@[simp] theorem cread_modPnl (s : State) (f : PanelX → PanelX) (g a : Nat) : cread (modPnl s f) g a = cread s g a := rfl
@[simp] theorem chan_modPnl (s : State) (f : PanelX → PanelX) (k c : Nat) : chan (modPnl s f) k c = chan s k c := rfl
@[simp] theorem tab_modPnl (s : State) (f : PanelX → PanelX) (x : Nat) : tab (modPnl s f) x = tab s x := rfl
@[simp] theorem vreg_modPnl (s : State) (f : PanelX → PanelX) (g n : Nat) : vreg (modPnl s f) g n = vreg s g n := rfl
@[simp] theorem core_modPnl (s : State) (f : PanelX → PanelX) (g : Nat) : core (modPnl s f) g = core s g := rfl
@[simp] theorem site_modPnl (s : State) (f : PanelX → PanelX) (k : Nat) : site (modPnl s f) k = site s k := rfl
@[simp] theorem dom_modPnl (s : State) (f : PanelX → PanelX) (d : Nat) : dom (modPnl s f) d = dom s d := rfl
@[simp] theorem edge_modPnl (s : State) (f : PanelX → PanelX) (e : Nat) : edge (modPnl s f) e = edge s e := rfl
@[simp] theorem stack_modPnl (s : State) (f : PanelX → PanelX) (h : Nat) : stack (modPnl s f) h = stack s h := rfl
@[simp] theorem port_modPnl (s : State) (f : PanelX → PanelX) (p : Nat) : port (modPnl s f) p = port s p := rfl
@[simp] theorem part_modPnl (s : State) (f : PanelX → PanelX) (p : Nat) : part (modPnl s f) p = part s p := rfl

/-! A read after a write. -/

theorem rd_wr (s : State) (b a : Nat) (v : W64) : rd (wr s b v) a = if b = a then v else rd s a := sget_sput csrReset b a v s.csr

@[simp] theorem rd_wr_same (s : State) (a : Nat) (v : W64) : rd (wr s a v) a = v := by simp [rd_wr]

theorem rd_wr_other (s : State) {b a : Nat} (h : b ≠ a) (v : W64) : rd (wr s b v) a = rd s a := by simp [rd_wr, h]

theorem rd_wf (s : State) (b a : Nat) (f : Fld) (n : Nat) : rd (wf s b f n) a = if b = a then fset f n (rd s b) else rd s a := rd_wr s b a _

theorem memRead_memWrite (s : State) (b a : Nat) (v : Byte) : memRead (memWrite s b v) a = if b = a then v else memRead s a :=
  sget_sput memUnlisted b a v s.mem

theorem tab_setTab (s : State) (k j v : Nat) : tab (setTab s k v) j = if k = j then v else tab s j := sget_sput (fun _ => 0) k j v s.tables

/-- Writing bytes from `b` up leaves every byte outside them alone and stores each of them in its place. -/
theorem memRead_memWrites (s : State) (b a : Nat) (bs : List Byte) :
    memRead (memWrites s b bs) a = if b ≤ a ∧ a < b + bs.length then bs.getD (a - b) 0#8 else memRead s a := by
  induction bs generalizing s b with
  | nil => simp [memWrites] <;> omega
  | cons x xs ih =>
    rw [memWrites, ih, memRead_memWrite]
    by_cases h1 : b = a
    · subst h1
      simp [show ¬ (b + 1 ≤ b) by omega]
    · by_cases h2 : b + 1 ≤ a ∧ a < b + 1 + xs.length
      · rw [if_pos h2, if_pos (by simp; omega), show a - b = (a - (b + 1)) + 1 by omega]
        rfl
      · rw [if_neg h2, if_neg h1, if_neg (by simp; omega)]

theorem core_modCore (s : State) (i j : Nat) (f : CoreX → CoreX) : core (modCore s i f) j = if i = j then f (core s i) else core s j := sget_smod (fun _ => CoreX.init) i j f s.cores

theorem site_modSite (s : State) (i j : Nat) (f : SiteX → SiteX) : site (modSite s i f) j = if i = j then f (site s i) else site s j := sget_smod (fun _ => SiteX.init) i j f s.sites

theorem dom_modDom (s : State) (i j : Nat) (f : DomX → DomX) : dom (modDom s i f) j = if i = j then f (dom s i) else dom s j := sget_smod (fun _ => DomX.init) i j f s.doms

theorem edge_modEdge (s : State) (i j : Nat) (f : EdgeX → EdgeX) : edge (modEdge s i f) j = if i = j then f (edge s i) else edge s j := sget_smod (fun _ => EdgeX.init) i j f s.edges

theorem stack_modStack (s : State) (i j : Nat) (f : StackX → StackX) : stack (modStack s i f) j = if i = j then f (stack s i) else stack s j := sget_smod (fun _ => StackX.init) i j f s.hbms

theorem port_modPort (s : State) (i j : Nat) (f : PortX → PortX) : port (modPort s i f) j = if i = j then f (port s i) else port s j := sget_smod (fun _ => PortX.init) i j f s.ports

theorem part_modPart (s : State) (i j : Nat) (f : PartX → PartX) : part (modPart s i f) j = if i = j then f (part s i) else part s j := sget_smod (fun _ => PartX.init) i j f s.parts

@[simp] theorem modPnl_pnl (s : State) (f : PanelX → PanelX) : (modPnl s f).pnl = f s.pnl := rfl

/-! The canonical form of the memories. -/

theorem memWrite_swf (s : State) (b : Nat) (v : Byte) (h : swf memUnlisted s.mem = true) : swf memUnlisted (memWrite s b v).mem = true :=
  swf_sput memUnlisted b v h

theorem memWrites_swf (s : State) (b : Nat) (bs : List Byte) (h : swf memUnlisted s.mem = true) : swf memUnlisted (memWrites s b bs).mem = true := by
  induction bs generalizing s b with
  | nil => exact h
  | cons x xs ih => exact ih _ _ (memWrite_swf s b x h)

theorem cwrite_swf (s : State) (g b : Nat) (v : Byte) (h : swf memUnlisted s.cmem = true) : swf memUnlisted (cwrite s g b v).cmem = true :=
  swf_sput memUnlisted _ v h

theorem cwrites_swf (s : State) (g b : Nat) (bs : List Byte) (h : swf memUnlisted s.cmem = true) : swf memUnlisted (cwrites s g b bs).cmem = true := by
  induction bs generalizing s b with
  | nil => exact h
  | cons x xs ih => exact ih _ _ (cwrite_swf s g b x h)

/-! Fields of a register word. -/

theorem fset_toNat_lt (f : Fld) (v : Nat) (w : W64) (h : f.lo + f.len ≤ 64) :
    w.toNat - fget f w * 2 ^ f.lo + v % 2 ^ f.len * 2 ^ f.lo < 2 ^ 64 := by
  have hp : 2 ^ f.lo * 2 ^ f.len * 2 ^ (64 - f.lo - f.len) = 2 ^ 64 := by
    rw [← Nat.pow_add, ← Nat.pow_add]; congr 1; omega
  have hw := w.isLt
  unfold fget
  generalize hA : 2 ^ f.lo = A at *
  generalize hB : 2 ^ f.len = B at *
  generalize hC : 2 ^ (64 - f.lo - f.len) = C at *
  have hA0 : 0 < A := by rw [← hA]; exact Nat.two_pow_pos _
  have hB0 : 0 < B := by rw [← hB]; exact Nat.two_pow_pos _
  rw [← hp] at hw ⊢
  have h1 := Nat.div_add_mod w.toNat A
  have h2 := Nat.div_add_mod (w.toNat / A) B
  have h3 : w.toNat / A / B < C := by
    rw [Nat.div_div_eq_div_mul]; exact Nat.div_lt_of_lt_mul hw
  have h4 : v % B < B := Nat.mod_lt _ hB0
  have h5 : w.toNat % A < A := Nat.mod_lt _ hA0
  generalize w.toNat / A / B = q at *
  generalize w.toNat / A % B = r at *
  generalize w.toNat % A = m at *
  generalize w.toNat / A = u at *
  have h6 : w.toNat - r * A = A * (B * q) + m := by
    rw [← h1, ← h2, Nat.mul_add, Nat.mul_comm r A]; omega
  rw [h6]
  have h7 : A * (B * q) + m + v % B * A < A * (B * q) + A * B := by
    have : (v % B + 1) * A ≤ B * A := Nat.mul_le_mul_right _ h4
    rw [Nat.add_mul, Nat.one_mul] at this
    rw [Nat.mul_comm A B]; omega
  have h8 : A * (B * q) + A * B ≤ A * B * C := by
    have : B * (q + 1) ≤ B * C := Nat.mul_le_mul_left _ h3
    have := Nat.mul_le_mul_left A this
    rw [Nat.mul_add, Nat.mul_add, Nat.mul_one, ← Nat.mul_assoc A B C] at this
    exact this
  omega

/-- A field set and read back. -/
theorem fget_fset (f : Fld) (v : Nat) (w : W64) (h : f.lo + f.len ≤ 64) : fget f (fset f v w) = v % 2 ^ f.len := by
  have hlt := fset_toNat_lt f v w h
  unfold fset
  unfold fget at hlt ⊢
  rw [BitVec.toNat_ofNat, Nat.mod_eq_of_lt hlt]
  generalize hA : 2 ^ f.lo = A at *
  generalize hB : 2 ^ f.len = B at *
  have hA0 : 0 < A := by rw [← hA]; exact Nat.two_pow_pos _
  have hB0 : 0 < B := by rw [← hB]; exact Nat.two_pow_pos _
  have h1 := Nat.div_add_mod w.toNat A
  have h2 := Nat.div_add_mod (w.toNat / A) B
  have h5 : w.toNat % A < A := Nat.mod_lt _ hA0
  have h6 : w.toNat - w.toNat / A % B * A = A * (B * (w.toNat / A / B)) + w.toNat % A := by
    generalize w.toNat / A / B = q at *
    generalize w.toNat / A % B = r at *
    generalize w.toNat % A = m at *
    generalize w.toNat / A = u at *
    rw [← h1, ← h2, Nat.mul_add, Nat.mul_comm r A]; omega
  rw [h6, show A * (B * (w.toNat / A / B)) + w.toNat % A + v % B * A = w.toNat % A + A * (B * (w.toNat / A / B) + v % B) by
    rw [Nat.mul_add, Nat.mul_comm (v % B) A]; omega, Nat.add_mul_div_left _ _ hA0, Nat.div_eq_of_lt h5, Nat.zero_add, Nat.mul_add_mod, Nat.mod_mod]

/-- The word that setting a field leaves, as low bits, field and high bits. -/
theorem fset_parts (f : Fld) (v : Nat) (w : W64) (h : f.lo + f.len ≤ 64) :
    (fset f v w).toNat = w.toNat % 2 ^ f.lo + 2 ^ f.lo * (2 ^ f.len * (w.toNat / 2 ^ f.lo / 2 ^ f.len) + v % 2 ^ f.len) := by
  have hlt := fset_toNat_lt f v w h
  unfold fset
  unfold fget at hlt ⊢
  rw [BitVec.toNat_ofNat, Nat.mod_eq_of_lt hlt]
  generalize hA : 2 ^ f.lo = A at *
  generalize hB : 2 ^ f.len = B at *
  have h1 := Nat.div_add_mod w.toNat A
  have h2 := Nat.div_add_mod (w.toNat / A) B
  have h6 : w.toNat - w.toNat / A % B * A = A * (B * (w.toNat / A / B)) + w.toNat % A := by
    generalize w.toNat / A / B = q at *
    generalize w.toNat / A % B = r at *
    generalize w.toNat % A = m at *
    generalize w.toNat / A = u at *
    rw [← h1, ← h2, Nat.mul_add, Nat.mul_comm r A]; omega
  rw [h6, Nat.mul_add, Nat.mul_comm (v % B) A]; omega

/-- Setting a field leaves every field that does not overlap it alone. -/
theorem fget_fset_other (f g : Fld) (v : Nat) (w : W64) (h : g.lo + g.len ≤ 64) (hd : f.lo + f.len ≤ g.lo ∨ g.lo + g.len ≤ f.lo) :
    fget f (fset g v w) = fget f w := by
  have hp := fset_parts g v w h
  unfold fget
  rcases hd with hd | hd
  · have hm : (fset g v w).toNat % 2 ^ g.lo = w.toNat % 2 ^ g.lo := by
      rw [hp, Nat.add_mul_mod_self_left, Nat.mod_mod]
    have key : ∀ x : Nat, x / 2 ^ f.lo % 2 ^ f.len = x % 2 ^ g.lo / 2 ^ f.lo % 2 ^ f.len := by
      intro x
      have hg : (2 : Nat) ^ g.lo = 2 ^ f.lo * (2 ^ f.len * 2 ^ (g.lo - f.lo - f.len)) := by
        rw [← Nat.pow_add, ← Nat.pow_add]; congr 1; omega
      rw [hg, Nat.mod_mul_right_div_self, Nat.mod_mul_right_mod]
    rw [key, hm, ← key]
  · have hm : (fset g v w).toNat / 2 ^ g.lo / 2 ^ g.len = w.toNat / 2 ^ g.lo / 2 ^ g.len := by
      have hA0 : 0 < 2 ^ g.lo := Nat.two_pow_pos _
      have hB0 : 0 < 2 ^ g.len := Nat.two_pow_pos _
      rw [hp, Nat.add_mul_div_left _ _ hA0, Nat.div_eq_of_lt (Nat.mod_lt _ hA0), Nat.zero_add, Nat.add_comm, Nat.add_mul_div_left _ _ hB0,
        Nat.div_eq_of_lt (Nat.mod_lt _ hB0), Nat.zero_add]
    have key : ∀ x : Nat, x / 2 ^ f.lo = x / 2 ^ g.lo / 2 ^ g.len / 2 ^ (f.lo - g.lo - g.len) := by
      intro x
      rw [Nat.div_div_eq_div_mul, Nat.div_div_eq_div_mul, ← Nat.pow_add, ← Nat.pow_add]; congr 2; omega
    rw [key, hm, ← key]

@[simp] theorem rf_wf_same (s : State) (a : Nat) (f : Fld) (v : Nat) (h : f.lo + f.len ≤ 64 := by decide) : rf (wf s a f v) a f = v % 2 ^ f.len := by
  unfold rf; rw [rd_wf, if_pos rfl]; exact fget_fset f v _ h

end Sys2Proof.Machine
end

