-- ==== Sys2Proof/Laws/Issue.lean ====
section
/-!
SUPPORT. What counting does, and what the issue of a bundle without a schedule fault does.
-/
namespace Sys2Proof.Machine

/-- `t` differs from `r` in counters, and in what a counter's overflow sets (R550), alone. -/
def onlyCounts (r t : State) : Prop :=
  t = { r with csr := t.csr, risen := t.risen, live := t.live, pnl := t.pnl }
    ∧ ∀ a, a ≠ PMU_EVENTS → (∀ u, u < 10 → a ≠ MGT_FN_IRQ u) → rd t a = rd r a

theorem onlyCounts.refl (r : State) : onlyCounts r r := ⟨rfl, fun _ _ _ => rfl⟩

theorem onlyCounts.trans {r s t : State} (h : onlyCounts r s) (k : onlyCounts s t) : onlyCounts r t := by
  refine ⟨?_, fun a h1 h2 => (k.2 a h1 h2).trans (h.2 a h1 h2)⟩
  have h1 := h.1
  have k1 := k.1
  rw [h1] at k1
  exact k1

theorem onlyCounts_wf (s : State) (a : Nat) (f : Fld) (n : Nat) (h : a = PMU_EVENTS ∨ ∃ u, u < 10 ∧ a = MGT_FN_IRQ u) : onlyCounts s (wf s a f n) := by
  refine ⟨rfl, fun b h1 h2 => ?_⟩
  rw [rd_wf, if_neg]
  rcases h with h | ⟨u, hu, h⟩
  · exact fun e => h1 (e ▸ h)
  · exact fun e => h2 u hu (e ▸ h)

theorem onlyCounts_live (s : State) (v : Sparse W64) : onlyCounts s (s.setLive v) := ⟨rfl, fun _ _ _ => rfl⟩

theorem onlyCounts_modPnl (s : State) (f : PanelX → PanelX) : onlyCounts s (modPnl s f) := ⟨rfl, fun _ _ _ => rfl⟩

theorem onlyCounts_foldl {α : Type} (f : State → α → State) (l : List α) (h : ∀ s x, x ∈ l → onlyCounts s (f s x)) (s : State) :
    onlyCounts s (l.foldl f s) := by
  induction l generalizing s with
  | nil => exact .refl s
  | cons x xs ih => exact (h s x (by simp)).trans (ih (fun s y hy => h s y (by simp [hy])) _)

theorem onlyCounts_ovfDeliver (s : State) (a : Nat) : onlyCounts s (ovfDeliver s a) :=
  (onlyCounts_wf s PMU_EVENTS _ 1 (.inl rfl)).trans
    (onlyCounts_foldl (fun s u => hostCause s u 4) _ (fun s u hu => onlyCounts_wf s _ _ 1 (.inr ⟨u, by simpa using hu, rfl⟩)) _)

/-- A counter that advances changes counters alone. -/
theorem onlyCounts_bump (s : State) (a n : Nat) : onlyCounts s (bump s a n) := by
  unfold bump
  dsimp only
  split
  · exact onlyCounts_live s _
  · refine onlyCounts.trans (onlyCounts_live s (sput (fun _ => 0#64) a (BitVec.ofNat 64 (((live s a).toNat % 2 ^ 63 + n) % 2 ^ counterWidth a + 2 ^ 63)) s.live)) ?_
    unfold ovfEvent
    split
    · exact onlyCounts_modPnl _ _
    · exact onlyCounts_ovfDeliver _ _

theorem onlyCounts_countEvent (s : State) (g c n : Nat) : onlyCounts s (countEvent s g c n) :=
  onlyCounts_foldl _ _ (fun s i _ => by split <;> first | exact onlyCounts_bump _ _ _ | exact .refl _) s

theorem onlyCounts.core {r t : State} (h : onlyCounts r t) (g : Nat) : core t g = core r g := by rw [h.1]; rfl

/-- `t` differs from `r` in counters, cores, sites, and the registers of `issueKeeps` alone. -/
def issueRel (g : Nat) (r t : State) : Prop :=
  t = { r with csr := t.csr, risen := t.risen, undo := t.undo, live := t.live, pnl := t.pnl, cores := t.cores, sites := t.sites }
    ∧ ∀ a, a ≠ CORE_STATUS g → (∀ i, i < 4 → a ≠ CORE_LOOPn g i) → a ≠ PMU_EVENTS → (∀ u, u < 10 → a ≠ MGT_FN_IRQ u) → rd t a = rd r a

theorem issueRel.refl (g : Nat) (r : State) : issueRel g r r := ⟨rfl, fun _ _ _ _ _ => rfl⟩

theorem issueRel.trans {g : Nat} {r s t : State} (h : issueRel g r s) (k : issueRel g s t) : issueRel g r t := by
  refine ⟨?_, fun a h1 h2 h3 h4 => (k.2 a h1 h2 h3 h4).trans (h.2 a h1 h2 h3 h4)⟩
  have h1 := h.1
  have k1 := k.1
  rw [h1] at k1
  exact k1

theorem onlyCounts.issueRel {g : Nat} {r t : State} (h : onlyCounts r t) : issueRel g r t := by
  refine ⟨?_, fun a _ _ h3 h4 => h.2 a h3 h4⟩
  have h1 := h.1
  rw [h1]

theorem issueRel_modCore (g i : Nat) (s : State) (f : CoreX → CoreX) : issueRel g s (modCore s i f) := ⟨rfl, fun _ _ _ _ _ => rfl⟩

theorem issueRel_modSite (g k : Nat) (s : State) (f : SiteX → SiteX) : issueRel g s (modSite s k f) := ⟨rfl, fun _ _ _ _ _ => rfl⟩

theorem issueRel_wr (g : Nat) (s : State) (a : Nat) (v : W64) (h : a = CORE_STATUS g ∨ ∃ i, i < 4 ∧ a = CORE_LOOPn g i) : issueRel g s (wr s a v) := by
  refine ⟨rfl, fun b h1 h2 _ _ => ?_⟩
  rw [rd_wr, if_neg]
  rcases h with h | ⟨i, hi, h⟩
  · exact fun e => h1 (e ▸ h)
  · exact fun e => h2 i hi (e ▸ h)

theorem issueRel_wf (g : Nat) (s : State) (a : Nat) (f : Fld) (n : Nat) (h : a = CORE_STATUS g ∨ ∃ i, i < 4 ∧ a = CORE_LOOPn g i) : issueRel g s (wf s a f n) :=
  (issueRel_wr g s a _ h).trans ⟨rfl, fun _ _ _ _ _ => rfl⟩

theorem issueRel_foldl {α : Type} (g : Nat) (f : State → α → State) (l : List α) (h : ∀ s x, x ∈ l → issueRel g s (f s x)) (s : State) :
    issueRel g s (l.foldl f s) := by
  induction l generalizing s with
  | nil => exact .refl g s
  | cons x xs ih => exact (h s x (by simp)).trans (ih (fun s y hy => h s y (by simp [hy])) _)

theorem issueRel_setLoops (s : State) (g : Nat) (ls : List Loop) : issueRel g s (setLoops s g ls) :=
  issueRel.trans (issueRel_foldl g _ _ (fun s i hi => issueRel_wr g s _ _ (.inr ⟨i, by simpa using hi, rfl⟩)) s) (issueRel_wf g _ _ _ _ (.inl rfl))

theorem issueRel_takeSample (s : State) (g sc pc : Nat) (b : BitVec 256) (ps : List (Nat × Plan)) : issueRel g s (takeSample s g sc pc b ps) := by
  unfold takeSample
  dsimp only
  split
  · exact .refl g s
  · split
    · exact issueRel_modCore g g s _
    · exact .refl g s

theorem issueRel.keeps {g : Nat} {r t : State} (h : issueRel g r t) : issueKeeps g r t := by
  have h1 := h.1
  refine ⟨?_, ?_, ?_, ?_, ?_, ?_, ?_, ?_, ?_, ?_, ?_, ?_, ?_, h.2⟩ <;> (rw [h1])

theorem wf_cores (s : State) (a : Nat) (f : Fld) (n : Nat) : (wf s a f n).cores = s.cores := rfl

theorem foldl_cores {α : Type} (f : State → α → State) (hf : ∀ s x, (f s x).cores = s.cores) (l : List α) (s : State) :
    (l.foldl f s).cores = s.cores := by
  induction l generalizing s with
  | nil => rfl
  | cons x xs ih => exact (ih (f s x)).trans (hf s x)

theorem setLoops_cores (s : State) (g : Nat) (ls : List Loop) : (setLoops s g ls).cores = s.cores := by
  unfold setLoops
  dsimp only
  rw [wf_cores, foldl_cores]
  intro s x
  exact wr_cores s _ _

theorem onlyCounts.cores {r t : State} (h : onlyCounts r t) : t.cores = r.cores := by rw [h.1]

theorem noteChanReads_nil (s : State) (k : Nat) : noteChanReads s k [] = s := rfl

theorem issueRel_commitPlans (s : State) (g sc : Nat) (ps : List (Nat × Plan)) : issueRel g s (commitPlans s g sc ps) := by
  unfold commitPlans
  exact (issueRel_modCore g g s _).trans (issueRel_modSite g _ _ _)

theorem issueRel_keepUndo (s : State) (g sc : Nat) (ps : List (Nat × Plan)) : issueRel g s (keepUndo s g sc ps) := ⟨rfl, fun _ _ _ _ _ => rfl⟩

theorem keepUndo_core (s : State) (g sc : Nat) (ps : List (Nat × Plan)) (h : Nat) : core (keepUndo s g sc ps) h = core s h := rfl

theorem commitPlans_core (s : State) (g sc : Nat) (ps : List (Nat × Plan)) :
    let x := core s g
    let y := core (commitPlans s g sc ps) g
    y.flights = x.flights ++ (ps.map (fun p => p.2)).flatMap (fun p => p.flights) ∧ y.tu = x.tu ++ (ps.map (fun p => p.2)).flatMap (fun p => p.tu)
      ∧ y.tuFree = ((ps.map (fun p => p.2)).filterMap (fun p => p.tuFree)).foldl (fun _ n => n) x.tuFree := by
  intro x y
  have h : y = core (commitPlans s g sc ps) g := rfl
  unfold commitPlans at h
  dsimp only at h
  rw [core_modSite, core_modCore, if_pos rfl] at h
  rw [h]
  exact ⟨rfl, rfl, rfl⟩

theorem takeSample_core (s : State) (g sc pc : Nat) (b : BitVec 256) (ps : List (Nat × Plan)) :
    (core (takeSample s g sc pc b ps) g).flights = (core s g).flights ∧ (core (takeSample s g sc pc b ps) g).tu = (core s g).tu
      ∧ (core (takeSample s g sc pc b ps) g).tuFree = (core s g).tuFree := by
  unfold takeSample
  dsimp only
  split
  · exact ⟨rfl, rfl, rfl⟩
  · split
    · rw [core_modCore, if_pos rfl]
      exact ⟨rfl, rfl, rfl⟩
    · exact ⟨rfl, rfl, rfl⟩

theorem core_of_cores {s t : State} (h : t.cores = s.cores) (g : Nat) : core t g = core s g := by unfold core; rw [h]

/-- What the issue of a bundle does to its core: the flights and the tensor operations of its slots' plans join those that are there. The control
field is one that acts on the PC and the loops alone. -/
theorem issueBundle_spec (s : State) (g sc pc : Nat) (b : BitVec 256) (ps : List (Nat × Plan)) (hps : slotPlans s g sc pc b = ps)
    (hf : bundleFaults s g sc pc b ps (planCtl s g pc (ctlField b.toNat)) = [])
    (hr : (ps.map (fun p => p.2)).flatMap (fun p => p.chanr) = [])
    (hc : bf (ctlField b.toNat) 29 3 < 2) :
    let t := issueBundle s g sc pc b
    issueRel g s t
      ∧ (core t g).flights = (core s g).flights ++ (ps.map (fun p => p.2)).flatMap (fun p => p.flights)
      ∧ (core t g).tu = (core s g).tu ++ (ps.map (fun p => p.2)).flatMap (fun p => p.tu)
      ∧ (core t g).tuFree = ((ps.map (fun p => p.2)).filterMap (fun p => p.tuFree)).foldl (fun _ n => n) (core s g).tuFree := by
  intro t
  have ht : t = issueBundle s g sc pc b := rfl
  unfold issueBundle at ht
  dsimp only at ht
  rw [hps, hf] at ht
  have hcc : ∀ u h, commitCtl u g sc (ctlField b.toNat) h = u := by
    intro u h
    unfold commitCtl
    dsimp only
    split <;> first | omega | rfl
  simp only [firstFault, hcc] at ht
  have hn : ps.flatMap (fun p => p.2.chanr) = [] := by rw [List.flatMap_map] at hr; exact hr
  rw [hn, noteChanReads_nil] at ht
  generalize h0 : modCore (keepUndo s g sc ps) g (fun x => { x with issued := some sc }) = s0 at ht
  generalize h1 : commitPlans s0 g sc ps = s1 at ht
  generalize h2 : wf (setLoops s1 g (planCtl s g pc (ctlField b.toNat)).loops) (CORE_STATUS g) Fd.CORE_STATUS_PC (planCtl s g pc (ctlField b.toNat)).pc = s2 at ht
  generalize h3 : ps.foldl (fun s p => countCycle s g p.1 (if p.2.exec = true then 0 else 1) 1) (bump s2 (CORE_BUNDLES g) 1) = s3 at ht
  generalize h4 : ps.foldl (fun s p => p.2.events.foldl (fun s e => countEvent s g e.1 e.2) s) s3 = s4 at ht
  have r0 : issueRel g s s0 := h0 ▸ (issueRel_keepUndo s g sc ps).trans (issueRel_modCore g g _ _)
  have r1 : issueRel g s0 s1 := h1 ▸ issueRel_commitPlans s0 g sc ps
  have r2 : issueRel g s1 s2 := h2 ▸ (issueRel_setLoops s1 g _).trans (issueRel_wf g _ _ _ _ (.inl rfl))
  have c3 : onlyCounts s2 s3 := h3 ▸ (onlyCounts_bump s2 _ 1).trans (onlyCounts_foldl _ _ (fun s p _ => onlyCounts_bump s _ _) _)
  have c4 : onlyCounts s3 s4 := h4 ▸ onlyCounts_foldl _ _ (fun s p _ => onlyCounts_foldl _ _ (fun s e _ => onlyCounts_countEvent s g _ _) s) s3
  have e0 : core s0 g = { core s g with issued := some sc } := by rw [← h0, core_modCore, if_pos rfl, keepUndo_core]
  have e2 : core s2 g = core s1 g := core_of_cores (by rw [← h2, wf_cores, setLoops_cores]) g
  have e4 : core s4 g = core s1 g := by rw [c4.core, c3.core, e2]
  have e1 := commitPlans_core s0 g sc ps
  have e5 := takeSample_core s4 g sc pc b ps
  rw [ht]
  refine ⟨r0.trans (r1.trans (r2.trans (c3.issueRel.trans (c4.issueRel.trans (issueRel_takeSample s4 g sc pc b ps))))), ?_, ?_, ?_⟩
  · rw [e5.1, e4, ← h1, e1.1, e0]
  · rw [e5.2.1, e4, ← h1, e1.2.1, e0]
  · rw [e5.2.2, e4, ← h1, e1.2.2, e0]

/-- The state at which the slots of a bundle are planned: what is due has landed, and a PHASE's selection is spent (R89). -/
def planAt (s : State) (g : Nat) : State := modCore (ready s g) g (fun x => { x with vsel := Option.none })

/-- What a slot operation issued by itself does when it raises no schedule fault. -/
theorem issueAlone_spec (s : State) (g : Nat) (b : BitVec 256) (ps : List (Nat × Plan)) (hi : issues s g b = true)
    (hps : slotPlans (planAt s g) g (scOf s (g / 64)) (fetchPc (ready s g) g) b = ps)
    (hr : (ps.map (fun p => p.2)).flatMap (fun p => p.chanr) = []) (hc : bf (ctlField b.toNat) 29 3 < 2) :
    let r := ready s g
    let t := issueAlone s g b
    issueKeeps g r t
      ∧ (core t g).flights = (core r g).flights ++ (ps.map (fun p => p.2)).flatMap (fun p => p.flights)
      ∧ (core t g).tu = (core r g).tu ++ (ps.map (fun p => p.2)).flatMap (fun p => p.tu)
      ∧ (core t g).tuFree = ((ps.map (fun p => p.2)).filterMap (fun p => p.tuFree)).foldl (fun _ n => n) (core r g).tuFree := by
  intro r t
  unfold issues at hi
  simp only [Bool.and_eq_true, List.isEmpty_iff] at hi
  obtain ⟨⟨h1, h2⟩, h3⟩ := hi
  have ht : t = issueBundle (planAt s g) g (scOf s (g / 64)) (fetchPc (ready s g) g) b := by
    show issueAlone s g b = _
    unfold issueAlone issueWith
    simp only [h1, h2, Bool.not_true, Bool.false_eq_true, if_false]
    rfl
  have hps' := hps
  unfold planAt at hps'
  rw [hps'] at h3
  have sp := issueBundle_spec (planAt s g) g (scOf s (g / 64)) (fetchPc (ready s g) g) b ps hps h3 hr hc
  have er : core (planAt s g) g = { core r g with vsel := Option.none } := by
    unfold planAt; rw [core_modCore, if_pos rfl]
  have k0 : issueRel g r (planAt s g) := issueRel_modCore g g _ _
  rw [ht]
  refine ⟨(k0.trans sp.1).keeps, ?_, ?_, ?_⟩
  · rw [sp.2.1, er]
  · rw [sp.2.2.1, er]
  · rw [sp.2.2.2, er]

end Sys2Proof.Machine
end

