-- ==== Sys2Proof/Laws/Slots.lean ====
section
/-!
SUPPORT. The fields of a bundle and of its slots read back, and the plans of a bundle that carries one slot alone.
-/
namespace Sys2Proof.Machine

theorem bundle_fields (tu vu xu mx ctl : Nat) (h1 : tu < 2 ^ 56) (h2 : vu < 2 ^ 64) (h3 : xu < 2 ^ 64) (h4 : mx < 2 ^ 40) (h5 : ctl < 2 ^ 32) :
    let b := (bundleOf tu vu xu mx ctl).toNat
    tuSlot b = tu ∧ vuSlot b = vu ∧ xuSlot b = xu ∧ mxSlot b = mx ∧ ctlField b = ctl := by
  intro b
  have hb : b = tu + vu * 2 ^ 56 + xu * 2 ^ 120 + mx * 2 ^ 184 + ctl * 2 ^ 224 := by
    show (BitVec.ofNat 256 _).toNat = _
    rw [BitVec.toNat_ofNat]; omega
  unfold tuSlot vuSlot xuSlot mxSlot ctlField bf
  rw [hb]
  refine ⟨?_, ?_, ?_, ?_, ?_⟩ <;> omega

theorem b2n_lt (b : Bool) : b2n b < 2 := by cases b <;> decide

theorem b2n_beq (b : Bool) : (b2n b == 1) = b := by cases b <;> rfl

theorem tu_fields (op : Nat) (f : TuF) (h : op < 64) :
    let w := tuWord op f
    w < 2 ^ 56 ∧ bf w 50 6 = op ∧ bf w 49 1 = b2n f.hdr.pneg ∧ bf w 46 3 = f.hdr.pred.val ∧ bf w 40 6 = f.desc.val ∧ bf w 28 12 = f.aoff.toNat
      ∧ bf w 16 12 = f.boff.toNat ∧ bf w 5 11 = f.coff.toNat ∧ bf w 0 5 = f.flags.toNat := by
  intro w
  have e : w = tuWord op f := rfl
  unfold tuWord at e
  have h1 := b2n_lt f.hdr.pneg; have h2 := f.hdr.pred.isLt; have h3 := f.desc.isLt; have h4 := f.aoff.isLt; have h5 := f.boff.isLt
  have h6 := f.coff.isLt; have h7 := f.flags.isLt
  unfold bf
  refine ⟨?_, ?_, ?_, ?_, ?_, ?_, ?_, ?_, ?_⟩ <;> omega

theorem vu_fields (op : Nat) (f : VuF) (h : op < 256) :
    let w := vuWord op f
    w < 2 ^ 64 ∧ bf w 56 8 = op ∧ bf w 55 1 = b2n f.hdr.pneg ∧ bf w 52 3 = f.hdr.pred.val ∧ bf w 50 2 = f.fmt.val ∧ bf w 45 5 = f.vd.val
      ∧ bf w 40 5 = f.va.val ∧ bf w 35 5 = f.vb.val ∧ bf w 30 5 = f.vc.val ∧ bf w 29 1 = b2n f.sb ∧ bf w 24 5 = f.as.val
      ∧ bf w 16 8 = f.mod.toNat ∧ bf w 0 16 = f.imm.toNat := by
  intro w
  have e : w = vuWord op f := rfl
  unfold vuWord at e
  have h1 := b2n_lt f.hdr.pneg; have h2 := f.hdr.pred.isLt; have h3 := f.fmt.isLt; have h4 := f.vd.isLt; have h5 := f.va.isLt
  have h6 := f.vb.isLt; have h7 := f.vc.isLt; have h8 := b2n_lt f.sb; have h9 := f.as.isLt; have h10 := f.mod.isLt; have h11 := f.imm.isLt
  unfold bf
  refine ⟨?_, ?_, ?_, ?_, ?_, ?_, ?_, ?_, ?_, ?_, ?_, ?_, ?_⟩ <;> omega

theorem xu_fields (op : Nat) (f : XuF) (h : op < 64) :
    let w := xuWord op f
    w < 2 ^ 64 ∧ bf w 58 6 = op ∧ bf w 57 1 = b2n f.hdr.pneg ∧ bf w 54 3 = f.hdr.pred.val ∧ bf w 49 5 = f.ra.val ∧ bf w 44 5 = f.rb.val
      ∧ bf w 41 3 = f.mode.val ∧ bf w 36 5 = f.rc.val ∧ bf w 29 7 = f.words.val ∧ bf w 28 1 = b2n f.postinc ∧ bf w 0 28 = f.imm.toNat := by
  intro w
  have e : w = xuWord op f := rfl
  unfold xuWord at e
  have h1 := b2n_lt f.hdr.pneg; have h2 := f.hdr.pred.isLt; have h3 := f.ra.isLt; have h4 := f.rb.isLt; have h5 := f.mode.isLt
  have h6 := f.rc.isLt; have h7 := f.words.isLt; have h8 := b2n_lt f.postinc; have h9 := f.imm.isLt
  unfold bf
  refine ⟨?_, ?_, ?_, ?_, ?_, ?_, ?_, ?_, ?_, ?_, ?_⟩ <;> omega

theorem mx_fields (op : Nat) (f : MxF) (h : op < 64) :
    let w := mxWord op f
    w < 2 ^ 40 ∧ bf w 34 6 = op ∧ bf w 33 1 = b2n f.hdr.pneg ∧ bf w 30 3 = f.hdr.pred.val ∧ bf w 25 5 = f.rd.val ∧ bf w 20 5 = f.ra.val
      ∧ bf w 15 5 = f.rb.val ∧ bf w 0 15 = f.imm.toNat := by
  intro w
  have e : w = mxWord op f := rfl
  unfold mxWord at e
  have h1 := b2n_lt f.hdr.pneg; have h2 := f.hdr.pred.isLt; have h3 := f.rd.isLt; have h4 := f.ra.isLt; have h5 := f.rb.isLt; have h6 := f.imm.isLt
  unfold bf
  refine ⟨?_, ?_, ?_, ?_, ?_, ?_, ?_, ?_⟩ <;> omega

theorem idleTu (s : State) (g sc pc : Nat) (b : BitVec 256) : planTu s g sc pc b 0 = Plan.idle := by simp [planTu, tuFormat, bf, executes, tuHead]
theorem idleVu (s : State) (g sc : Nat) : planVu s g sc 0 = Plan.idle := by simp [planVu, vuFormat, bf, executes, vuHead]
theorem idleXu (s : State) (g sc : Nat) : planXu s g sc 0 = Plan.idle := by simp [planXu, xuFormat, xuAddressBits, bf, executes, xuHead]
theorem idleMx (s : State) (g sc : Nat) : planMx s g sc 0 = Plan.idle := by simp [planMx, mxFormat, bf, executes, mxHead]

theorem plans_tu (s : State) (g sc pc w : Nat) (hw : w < 2 ^ 56) :
    slotPlans s g sc pc (bundleOf w 0 0 0 0)
      = [(0, planTu s g sc pc (bundleOf w 0 0 0 0) w), (1, Plan.idle), (2, Plan.idle), (3, Plan.idle)] := by
  have h := bundle_fields w 0 0 0 0 hw (by omega) (by omega) (by omega) (by omega)
  unfold slotPlans
  simp only [h.1, h.2.1, h.2.2.1, h.2.2.2.1, idleVu, idleXu, idleMx]

theorem plans_vu (s : State) (g sc pc w : Nat) (hw : w < 2 ^ 64) :
    slotPlans s g sc pc (bundleOf 0 w 0 0 0) = [(0, Plan.idle), (1, planVu s g sc w), (2, Plan.idle), (3, Plan.idle)] := by
  have h := bundle_fields 0 w 0 0 0 (by omega) hw (by omega) (by omega) (by omega)
  unfold slotPlans
  simp only [h.1, h.2.1, h.2.2.1, h.2.2.2.1, idleTu, idleXu, idleMx]

theorem plans_xu (s : State) (g sc pc w : Nat) (hw : w < 2 ^ 64) :
    slotPlans s g sc pc (bundleOf 0 0 w 0 0) = [(0, Plan.idle), (1, Plan.idle), (2, planXu s g sc w), (3, Plan.idle)] := by
  have h := bundle_fields 0 0 w 0 0 (by omega) (by omega) hw (by omega) (by omega)
  unfold slotPlans
  simp only [h.1, h.2.1, h.2.2.1, h.2.2.2.1, idleTu, idleVu, idleMx]

theorem plans_mx (s : State) (g sc pc w : Nat) (hw : w < 2 ^ 40) :
    slotPlans s g sc pc (bundleOf 0 0 0 w 0) = [(0, Plan.idle), (1, Plan.idle), (2, Plan.idle), (3, planMx s g sc w)] := by
  have h := bundle_fields 0 0 0 w 0 (by omega) (by omega) (by omega) hw (by omega)
  unfold slotPlans
  simp only [h.1, h.2.1, h.2.2.1, h.2.2.2.1, idleTu, idleVu, idleXu]

theorem plans_ctl (s : State) (g sc pc c : Nat) (hc : c < 2 ^ 32) :
    slotPlans s g sc pc (bundleOf 0 0 0 0 c) = [(0, Plan.idle), (1, Plan.idle), (2, Plan.idle), (3, Plan.idle)] := by
  have h := bundle_fields 0 0 0 0 c (by omega) (by omega) (by omega) (by omega) hc
  unfold slotPlans
  simp only [h.1, h.2.1, h.2.2.1, h.2.2.2.1, idleTu, idleVu, idleXu, idleMx]

/-- A bundle that raises no schedule fault has no slot that faults by itself. -/
theorem issues_faults (s : State) (g : Nat) (b : BitVec 256) (hi : issues s g b = true) :
    ∀ p ∈ slotPlans (planAt s g) g (scOf s (g / 64)) (fetchPc (ready s g) g) b, p.2.faults = [] := by
  intro p hp
  unfold issues at hi
  simp only [Bool.and_eq_true, List.isEmpty_iff] at hi
  have h := hi.2
  unfold bundleFaults at h
  change (_ ++ _ ++ _ ++ _ ++ _ ++ _ ++ _ ++ _ : List (Nat × Nat)) = [] at h
  simp only [List.append_eq_nil_iff] at h
  have h1 := h.1.1.1.1.1.1.1
  rw [show modCore (ready s g) g (fun x => { x with vsel := Option.none }) = planAt s g from rfl, List.flatMap_eq_nil_iff] at h1
  simpa using h1 p hp

theorem areg_plan (s : State) (g n : Nat) : areg (planAt s g) g n = areg (ready s g) g n := by simp only [areg, planAt, rd_modCore]
theorem pred_plan (s : State) (g n : Nat) : pred (planAt s g) g n = pred (ready s g) g n := by simp only [pred, planAt, rd_modCore]
theorem rd_plan (s : State) (g a : Nat) : rd (planAt s g) a = rd (ready s g) a := by simp only [planAt, rd_modCore]
theorem vreg_plan (s : State) (g n : Nat) : vreg (planAt s g) g n = vreg (ready s g) g n := by simp only [planAt, vreg_modCore]
theorem creads_plan (s : State) (g a n : Nat) : creads (planAt s g) g a n = creads (ready s g) g a n := by simp only [creads, planAt, cread_modCore]

end Sys2Proof.Machine
end

