-- ==== Sys2Proof/WellFormed.lean ====
section
/-!
DEFINITION. Which command terms stand for commands: operands that lists and numbers leave unbounded in the type lie in the ranges of the spec.
-/
namespace Sys2Proof

/-- A decoder error stands at a row and codeword that a bank has (R177, R186). -/
def BankErr.wf (e : BankErr) : Bool := Nat.blt e.bank 512 && Nat.blt e.row 6144 && Nat.blt e.cw 8

/-- Errors of a basin access. -/
def errsWf (errs : List BankErr) : Bool := errs.all BankErr.wf

/-- A maintenance access moves whole words within a line (R192, R530). -/
def lineWf (word : Nat) (data : List Byte) : Bool :=
  data.length % 4 == 0 && Nat.blt 0 data.length && Nat.ble (data.length + 4 * (word % 16)) 64

/-- A frame of R352 and R353: 1 to 16 chunks, or 4,064 bytes of packet stream; its due slot and a NAK slot of 16 bits. -/
def Frame.wf (f : Frame) : Bool :=
  Nat.blt f.due 0x1_0000
    && (match f.nak with | some n => Nat.blt n.1 0x1_0000 | none => true)
    && (match f.body with
      | .scheduled _ _ chunks => Nat.blt 0 chunks.length && Nat.ble chunks.length 16
      | .dynamic _ _ _ stream => stream.length == 4064
      | .idle => true
      | .control _ _ => true)

/-- A stripe's units stand at member positions (R412). -/
def Stripe.wf (x : Stripe) : Bool := Nat.blt x.slice 16 && x.units.all (fun u => Nat.blt u.1 16)

/-- A unit that R482 numbers. -/
def UnitRef.wf (u : UnitRef) : Bool := Nat.ble u.kind.val 10 && Nat.blt u.index 0x1_0000

/-- Payload of an update chunk (R536). -/
def chunkWf (data : List Byte) : Bool := Nat.blt 0 data.length && Nat.ble data.length 0x4000

/-- Whether a term is a well-formed command. The commands that are not named have only operands that their types bound. -/
def Instr.wf : Instr → Bool
  | .basinBankAccess _ errs => errsWf errs
  | .scrubBankVisit _ _ errs => errsWf errs
  | .digestDone _ errs => errsWf errs
  | .routerSc _ errs => errsWf errs
  | .streamFetchServe _ _ errs => errsWf errs
  | .basinDynamicAccess _ _ _ word data errs => lineWf word.toNat data && errsWf errs
  | .slotReceive _ _ _ _ f => f.wf
  | .redigestInterval units => units.all Stripe.wf
  | .egRebuild _ _ _ units => units.all Stripe.wf
  | .egVerify _ units => units.all Stripe.wf
  | .fence u => u.wf
  | .updateData _ _ _ _ data => chunkWf data
  | .mgtRead _ _ _ gpas => Nat.blt 0 gpas.length && Nat.ble gpas.length 64
  | .mgtWrite _ _ _ pairs _ => Nat.blt 0 pairs.length && Nat.ble pairs.length 64
  | .mgtLog _ _ _ _ count => Nat.blt 0 count.toNat && Nat.ble count.toNat 64
  | _ => true

end Sys2Proof
end

