-- ==== Sys2Proof/Tests/Slice0.lean ====
section
/-!
SUPPORT. Tests: ill-formed commands are refused by the check; small steps on small states, with the values of the manual's own examples and tables.
-/
namespace Sys2Proof.Tests

open Sys2Proof.Machine
set_option Elab.async false

/-! Ill-formed terms, one for each check. -/

theorem test_wf_bank : (Instr.basinBankAccess 0 [⟨512, 0, 0, 0#8, false⟩]).wf = false := by decide
theorem test_wf_row : (Instr.digestDone 0 [⟨0, 6144, 0, 0#8, true⟩]).wf = false := by decide
theorem test_wf_errs : (Instr.routerSc 0 [⟨0, 0, 8, 0#8, true⟩]).wf = false := by decide
theorem test_wf_line : (Instr.basinDynamicAccess .steward 0 true 15#26 (List.replicate 8 0#8) []).wf = false := by decide
theorem test_wf_frame_due : (Instr.slotReceive 0 0 0#7 0#64 ⟨false, 0#16, 0x1_0000, 0#16, 0, 0#6, none, 0#8, .idle⟩).wf = false := by decide
theorem test_wf_frame_chunks :
    (Instr.slotReceive 0 0 0#7 0#64 ⟨false, 0#16, 0, 0#16, 0, 0#6, none, 0#8, .scheduled 0#32 ⟨0, 1, 0⟩ (List.replicate 17 0#2048)⟩).wf = false := by decide
theorem test_wf_frame_stream : (Instr.slotReceive 0 0 0#7 0#64 ⟨false, 0#16, 0, 0#16, 0, 0#6, none, 0#8, .dynamic 0 ⟨0, 0, 0, []⟩ ⟨0, 2, 0⟩ []⟩).wf = false := by decide
theorem test_wf_stripe : (Instr.egVerify .steward [⟨16, 0, []⟩]).wf = false := by decide
theorem test_wf_unit : (Instr.fence ⟨11, 0⟩).wf = false := by decide
theorem test_wf_chunk : (Instr.updateData 0 0 0#16 0#64 []).wf = false := by decide
theorem test_wf_read : (Instr.mgtRead 0 0 0#16 []).wf = false := by decide
theorem test_wf_log : (Instr.mgtLog 0 0 0#16 1#32 65#32).wf = false := by decide
theorem test_wf_good : (Instr.mgtLog 0 0 0#16 1#32 64#32).wf = true := by decide

/-! Helpers: small states, and the state after a command. -/

/-- Core `g` in RUN, nothing in flight, at SC 0. -/
def running (g : Nat) : State := setCoreState State.reset g 3

/-- The state after a command. -/
def after (i : Instr) (s : State) : State := match exec i s with | .next t => t | _ => s

/-- Every register in the list reads in `t` as in `s`. -/
def sameAt (s t : State) (as : List Nat) : Bool := as.all (fun a => rd s a == rd t a)

def h0 : Hdr := { pneg := false, pred := 0 }
def hNever : Hdr := { pneg := true, pred := 0 }
def mx (rd ra rb : Fin 32) (imm : BitVec 15) : MxF := { hdr := h0, rd := rd, ra := ra, rb := rb, imm := imm }
def vu (fmt : Fin 4) (vd va vb vc : Fin 32) (mod : BitVec 8) (imm : BitVec 16) : VuF :=
  { hdr := h0, fmt := fmt, vd := vd, va := va, vb := vb, vc := vc, sb := false, as := 0, mod := mod, imm := imm }
def xu (ra rb : Fin 32) (words : Fin 128) (imm : BitVec 28) : XuF :=
  { hdr := h0, ra := ra, rb := rb, mode := 0, rc := 0, words := words, postinc := false, imm := imm }
def tu (desc : Fin 64) (aoff boff : BitVec 12) (coff : BitVec 11) (flags : BitVec 5) : TuF :=
  { hdr := h0, desc := desc, aoff := aoff, boff := boff, coff := coff, flags := flags }

/-! Scalar, index match and vector slots: witnesses of ScalarOps, IndexMatch, VectorLanes, VectorConvertAndMemory. -/

theorem test_wit_ScalarSlotEffects : ∀ op ∈ [0x01, 0x02, 0x03, 0x04, 0x05, 0x06, 0x07, 0x08, 0x09, 0x0A, 0x0B, 0x0C],
    issues (running 3) 3 (bundleOf 0 0 0 (mxWord op (mx 1 2 3 5#15)) 0) = true := by decide +kernel
theorem test_wit_VectorSlotEffects : ∀ op ∈ [0x01, 0x02, 0x03, 0x04, 0x05, 0x06, 0x07, 0x08, 0x09, 0x0A, 0x0C, 0x0D, 0x0E],
    issues (running 3) 3 (bundleOf 0 (vuWord op (vu 0 1 2 3 (if op = 4 ∨ op = 9 then 4 else 0) 0#8 0#16)) 0 0 0) = true := by decide +kernel
theorem test_wit_IndexMatchEffects : pred (ready (running 3) 3) 3 0 ≠ false ∧
    ∀ x ∈ [(0x10, mx 0 0 0 0#15), (0x11, mx 0 1 2 0#15), (0x12, mx 3 1 2 0#15), (0x13, mx 3 1 0 0#15), (0x14, mx 0 0 0 0#15),
      (0x15, mx 0 1 2 0#15), (0x16, mx 3 1 2 0#15), (0x17, mx 3 0 0 1#15)],
      issues (running 3) 3 (bundleOf 0 0 0 (mxWord x.1 x.2) 0) = true := by decide +kernel
theorem test_wit_VectorConvertAndMemory : pred (ready (running 3) 3) 3 0 ≠ false ∧ ∀ x ∈ [(0x10, 0#8), (0x11, 0#8), (0x0B, 16#8), (0x0B, 171#8)],
    issues (running 3) 3 (bundleOf 0 (vuWord x.1 (vu 0 1 2 0 0 x.2 0#16)) 0 0 0) = true := by decide +kernel

/-- R79: ADDI sign-extends its immediate and lands one SC later. -/
theorem test_addi : (Machine.core (after (.mxAddi 3 (mx 1 0 0 0x7FFF#15)) (running 3)) 3).flights = [⟨0, 1, 3, .areg 1 (BitVec.allOnes 64)⟩] := by decide +kernel
/-- R67: a slot whose predicate is false puts nothing into flight. -/
theorem test_addi_false : (Machine.core (after (.mxAddi 3 { mx 1 0 0 1#15 with hdr := hNever }) (running 3)) 3).flights = [] := by decide +kernel
/-- R79: SETP's condition 7 is reserved and raises FORMAT; the Machine.core enters FAULTED (R99). -/
theorem test_setp_reserved : let t := after (.mxSetp 3 (mx 1 0 0 7#15)) (running 3)
    coreState t 3 = 6 ∧ rf t (CORE_SFAULT 3) Fd.CORE_SFAULT_CAUSE = 1 ∧ (Machine.core t 3).flights = [] ∧ held t 0 = true := by decide +kernel
/-- R131: 1.0 + 2.0 = 3.0 in lane 0 of an FP32 addition. -/
theorem test_add_lane : addLane 0 0x3F80_0000 0x4000_0000 = 0x4040_0000 := by decide +kernel
/-- R131, R124: an FP32 product rounds to nearest, ties to even: 16,777,217 is not representable. -/
theorem test_add_tie : addLane 0 0x4B80_0000 0x3F80_0000 = 0x4B80_0000 := by decide +kernel

/-! Tensor slots. -/

/-- The example of the tensor chapter: the slot word of MMA with BOFF 0x200 and ZA, and the descriptor 0x0004_1040_001F_5133. -/
def tensorState : State := wr (wr (running 3) (CORE_TUDESCn 3 0) 0x0004_1040_001F_5133#64) (CORE_TUDESCn 3 1) 0x1F_0133#64
theorem test_mma_word : tuWord 0x01 (tu 0 0#12 0x200#12 0#11 1#5) = 0x0004_0000_0200_0001 := by decide +kernel
theorem test_mma_occupancy : (Machine.core (after (.tuMma 3 (tu 0 0#12 0x200#12 0#11 1#5)) tensorState) 3).tu.map (fun x => (x.issue, x.occ)) = [(0, 512)] := by decide +kernel
theorem test_wit_TensorIssueEffects : pred (ready tensorState 3) 3 0 ≠ false ∧ (∀ op ∈ [0x01, 0x02, 0x03, 0x04],
      issues tensorState 3 (bundleOf (tuWord op (tu 1 0#12 0#12 0#11 1#5)) 0 0 0 0) = true)
    ∧ issues tensorState 3 (bundleOf (tuWord 0x05 (tu 8 0#12 0#12 0#11 0#5)) 0 0 0 0) = true := by decide +kernel

/-- An operation in flight whose SC has come, over metadata 0xFF. -/
def flight (op : Nat) : TuFlight :=
  { issue := 0, pc := 5, bundle := 0, op := op, desc := 0#64, coff := 0, flags := 0, occ := 1, a := [], b := [], sa := [], sb := [],
    metaBytes := [0xFF#8], dead := false }

/-- Domain `d` at SC `n`. -/
def atSc (s : State) (d n : Nat) : State := modDom s d (fun x => { x with sc := n })
def put (s : State) (g : Nat) (fs : List Flight) (ts : List TuFlight) : State := modCore s g (fun x => { x with flights := fs, tu := ts })

theorem test_wit_TensorLandWritesTile : let s := put (atSc (running 3) 0 9) 3 [] [flight 4]
    held s 0 = false ∧ (Machine.core s 3).haltAt = none ∧ (Machine.core s 3).tu = [flight 4] ∧ (flight 4).issue + (flight 4).occ + 8 ≤ scOf s 0 ∧ (flight 4).dead = false
      ∧ (site s 0).bankQ = [] ∧ (site s 0).rreqs = [] ∧ (Machine.core s 3).flights = [] ∧ (descOf ((flight 4).op == opAccz) (flight 4).desc.toNat).isSome = true ∧ (flight 4).coff < 2048 ∧ (Machine.core (after (.tuLand 3) s) 3).tu = [] := by decide +kernel
theorem test_wit_TensorLandWritesTile_bytes : ((descOf true 0).map (fun d => (tileAfter (flight 4) d (List.replicate (tileBytes 4 0 d) 7#8)).length)) = some 4096 := by
  decide +kernel
theorem test_wit_TensorLandWritesTile_metadata : metaFaultDue (flight 2) 1 = true ∧ metaFaultDue (flight 4) 0 = false
    ∧ coreState (after (.tuMetadataRead 3) (put (atSc (running 3) 0 1) 3 [] [flight 2])) 3 = 6 := by decide +kernel

theorem test_wit_OperationLandAppliesEffects : let s := put (atSc (running 3) 0 1) 3 [⟨0, 1, 3, .areg 1 7#64⟩] []
    held s 0 = false ∧ (Machine.core s 3).haltAt = none ∧ (site s 0).bankQ = [] ∧ (Machine.core s 3).tu = [] ∧ (Machine.core s 3).flights.filter (fun x => decide (x.land ≤ scOf s 0)) = [⟨0, 1, 3, .areg 1 7#64⟩]
      ∧ areg (after (.operationLand 3) s) 3 1 = 7#64 := by decide +kernel
/-- R59: writes to A0 are discarded. -/
theorem test_land_a0 : areg (after (.operationLand 3) (put (running 3) 3 [⟨0, 0, 3, .areg 0 7#64⟩] [])) 3 0 = 0#64 := by decide +kernel
theorem test_wit_OperationLandAppliesEffects_halt : let s := modCore (running 3) 3 (fun x => { x with haltAt := some 0 })
    held s 0 = false ∧ (Machine.core s 3).haltAt = some 0 ∧ 0 ≤ scOf s 0 ∧ (site s 0).bankQ = [] ∧ (Machine.core s 3).flights = [] ∧ (Machine.core s 3).tu = [] ∧ coreState s 3 = 3
      ∧ coreState (after (.operationLand 3) s) 3 = 5 := by decide +kernel

theorem test_wit_TransferSlotEffects : pred (ready (running 3) 3) 3 0 ≠ false ∧ (∀ op ∈ [0x01, 0x02, 0x03, 0x04, 0x05, 0x06],
      issues (running 3) 3 (bundleOf 0 0 (xuWord op (xu 0 0 0 0#28)) 0 0) = true)
    ∧ (let r := ready (running 3) 3
       ((site r 0).chanR.all (fun y => !(y.1 == 0 && y.2.1 % 64 == 0)) && (crUsed (cfgNow r 0)).all (fun p => p.2 % 64 != 0)) = true) := by decide +kernel

/-- Core 3 stands at a boundary: the phase with PHASE_ID 1 ends at SC 0. -/
def atBoundary : State := wr (wf (wr (running 3) (CLK_BND_NEXT 0) (fset Fd.CLK_BND_NEXT_PHASE_ID 1 0#64)) (CLK_BND_CFG 0) Fd.CLK_BND_CFG_VALID 1) (CLK_BND_NEXT_SC 0) 0#64
theorem test_wit_ControlSlotEffects :
    issues (running 3) 3 (bundleOf 0 0 0 0 (ctlWord 1 0x0002_0001#29)) = true ∧ issues atBoundary 3 (bundleOf 0 0 0 0 (ctlWord 2 1#29)) = true
      ∧ issues (running 3) 3 (bundleOf 0 0 0 0 (ctlWord 3 0x0800_0080#29)) = true ∧ issues (running 3) 3 (bundleOf 0 0 0 0 (ctlWord 4 0x1800_0020#29)) = true
      ∧ issues (running 3) 3 (bundleOf 0 0 0 0 (ctlWord 5 0#29)) = true ∧ mayIssue (ready (running 3) 3) 3 = true := by decide +kernel
/-- R91: a RESUME_DELTA below 128 raises FORMAT. -/
theorem test_sleep_short : coreState (after (.ctlSleep 3 0x0800_007F#29) (running 3)) 3 = 6 ∧ coreState (after (.ctlSleep 3 0x0800_0080#29) (running 3)) 3 = 4 := by decide +kernel
/-- R88: any bundle but the boundary's PHASE raises PHASE at B. -/
theorem test_phase_missing : rf (after (.mxAddi 3 (mx 1 0 0 1#15)) atBoundary) (CORE_SFAULT 3) Fd.CORE_SFAULT_CAUSE = 8 := by decide +kernel

/-! States of a core. -/

/-- Core 3 in a state, with a start SC and clean domain. -/
def coreIs (st : Nat) : State := setCoreState State.reset 3 st
def asleep (resume : Nat) (awake : Bool) : State := modCore (coreIs 4) 3 (fun x => { x with resume := resume, awake := awake })
def clear : W64 := fset Fd.CORE_CTRL_CLEAR 1 0#64
def arm : W64 := fset Fd.CORE_CTRL_ARM 1 (fset Fd.CORE_CTRL_ENTRY 9 0#64)

theorem test_wit_CoreStateTransitions_arm : let s := wr State.reset (CORE_START_SC 3) 1#64
    mayAccess s .steward (CORE_CTRL 3) true = true ∧ coreState s 3 = 1 ∧ fget Fd.CORE_CTRL_CLEAR arm = 0 ∧ fget Fd.CORE_CTRL_ARM arm = 1
      ∧ scOf s 0 < (rd s (CORE_START_SC 3)).toNat ∧ coreState (after (.coreArm .steward 3 arm) s) 3 = 2 ∧ rf (after (.coreArm .steward 3 arm) s) (CORE_CTRL 3) Fd.CORE_CTRL_ENTRY = 9 := by
  decide +kernel
/-- R103: a START_SC that is not greater than the SC is refused; ARM stays 0 and an access error is recorded. -/
theorem test_wit_CoreStateTransitions_armLate : let t := after (.coreArm .steward 3 arm) State.reset
    (rd State.reset (CORE_START_SC 3)).toNat ≤ scOf State.reset 0 ∧ coreState t 3 = 1 ∧ rf t (CORE_CTRL 3) Fd.CORE_CTRL_ARM = 0 ∧ rf t FLT_ACCESS Fd.FLT_ACCESS_VALID = 1 := by
  decide +kernel
theorem test_wit_CoreStateTransitions_clear : mayAccess (coreIs 6) .steward (CORE_CTRL 3) true = true ∧ coreState (coreIs 6) 3 = 6 ∧ fget Fd.CORE_CTRL_CLEAR clear = 1
    ∧ fget Fd.CORE_CTRL_ARM clear = 0 ∧ fget Fd.CORE_CTRL_ENTRY clear = rf (coreIs 6) (CORE_CTRL 3) Fd.CORE_CTRL_ENTRY
    ∧ coreState (after (.coreClear .steward 3 clear) (coreIs 6)) 3 = 1 ∧ coreState (after (.coreClear .steward 3 clear) (coreIs 5)) 3 = 1 := by decide +kernel
theorem test_wit_CoreStateTransitions_start : coreState (coreIs 2) 3 = 2 ∧ scOf (coreIs 2) 0 = (rd (coreIs 2) (CORE_START_SC 3)).toNat ∧ held (coreIs 2) 0 = false
    ∧ coreState (after (.coreStart 3) (coreIs 2)) 3 = 3 ∧ rf (after (.coreStart 3) (coreIs 2)) (CORE_STATUS 3) Fd.CORE_STATUS_PC = 1 := by decide +kernel
theorem test_wit_CoreStateTransitions_thaw : let s := asleep 64 false
    coreState s 3 = 4 ∧ (Machine.core s 3).resume ≤ scOf s 0 + 64 ∧ (Machine.core s 3).awake = false ∧ (Machine.core (after (.sleepThawStart 3) s) 3).thawing = true := by decide +kernel
theorem test_wit_CoreStateTransitions_resume : (let s := asleep 0 true
      coreState s 3 = 4 ∧ (Machine.core s 3).resume = scOf s 0 ∧ held s 0 = false ∧ coreReady s 3 = true ∧ coreState (after (.sleepResume 3) s) 3 = 3)
    ∧ (let s := asleep 0 false
      coreReady s 3 = false ∧ held (after (.sleepResume 3) s) 0 = true) := by decide +kernel
theorem test_wit_CoreStateTransitions_siteWake : let s := modSite (asleep 70 false) 0 (fun x => { x with wake := 1, sleep := 2 })
    (site s 0).wake = 1 ∧ 2 ≤ (site s 0).sleep ∧ (∃ h ∈ enabledCores s 0, coreState s h = 4 ∧ (Machine.core s h).resume ≤ scOf s 0 + wakeCycles s (site s 0).sleep)
      ∧ (site (after (.siteWakeStart 0) s) 0).wake = 2 := by decide +kernel
theorem test_wit_CoreStateTransitions_ack : (Machine.core (modCore State.reset 3 (fun x => { x with thawing := true })) 3).thawing = true ∧ (site State.reset 0).wake = 0
    ∧ (site (modSite State.reset 0 (fun x => { x with wake := 3 })) 0).wake = 3 := by decide +kernel
theorem test_wit_CoreStateTransitions_gate : let s := modCore State.reset 3 (fun x => { x with vuGate := some (1, 15), vuOff := true })
    (Machine.core s 3).vuGate = some (1, 15) ∧ 15 + 1 ≤ scOf s 0 + 16 ∧ (Machine.core (after (.idleUnitRestart 3 true) s) 3).vuOff = false := by decide +kernel

/-! The basin. -/

/-- Site 0 with a scheduled access waiting. -/
def bankState (r : BankReq) : State := modSite State.reset 0 (fun x => { x with bankQ := [r] })
def bankWrite : BankReq := ⟨0, 3, true, [0, 1], [5#32, 6#32], 0, none, 0⟩
def bankRead : BankReq := ⟨0, 3, false, [0], [], 0, none, 64⟩
/-- Two words of one bank in different rows: lines 0 and 513, both in bank 0 (R177), collide. -/
def bankClash : BankReq := ⟨0, 3, true, [0, 8208], [5#32, 6#32], 0, none, 0⟩

theorem test_wit_BasinAccessEffects : ∀ r ∈ [bankWrite, bankRead, bankClash], let s := bankState r
    siteState s 0 ≠ 2 ∧ held s 0 = false ∧ (site s 0).served ≤ scOf s 0 ∧ (site s 0).maint = [] ∧ routerReqs s 0 (scOf s 0) = [] ∧ (site s 0).bankQ = [r] ∧ r.sc = scOf s 0 := by
  decide +kernel
theorem test_wit_BasinAccessEffects_write : let s := bankState bankWrite
    bankFaults s 0 [bankWrite] = [] ∧ bankWrite.words.Nodup ∧ basinWord (after (.basinBankAccess 0 []) s) 0 1 = 6#32 := by decide +kernel
theorem test_wit_BasinAccessEffects_read : bankFaults (bankState bankRead) 0 [bankRead] = [] := by decide +kernel
theorem test_wit_BasinAccessEffects_clash : let s := bankState bankClash
    faulted (bankFaults s 0 [bankClash]) bankClash = true ∧ (site s 0).faultSc ≠ some 0 ∧ (site s 0).retired = false ∧ held (after (.basinBankAccess 0 []) s) 0 = true := by
  decide +kernel
theorem test_wit_BasinAccessEffects_dynamic : let s := State.reset
    rejected s (wordAddr 0 0) = false ∧ (clsOf s (.scp 0)).owns (partOfSite s 0) = true ∧ (site s 0).mused = [] ∧ maintFree s 0 mDynamic (bankOfLine 0) (rowOfLine 0) = true
      ∧ (regionDynWr s 0 (regionOf 0) || !siteBusy s 0) = true ∧ zeroFilling s 0 (regionOf 0) = false
      ∧ memReads (after (.basinDynamicAccess (.scp 0) 0 true 0#26 [1#8, 2#8, 3#8, 4#8] []) s) (wordAddr 0 0) 4 = [1#8, 2#8, 3#8, 4#8] := by decide +kernel
theorem test_wit_BasinAccessEffects_wait : maintFree (bankState bankRead) 0 mDynamic (bankOfLine 0) (rowOfLine 0) = false ∧ maintFree (bankState bankClash) 0 mDynamic (bankOfLine 0) (rowOfLine 0) = false := by decide +kernel
theorem test_wit_BasinAccessEffects_filling : let s := modSite State.reset 0 (fun x => { x with zfLeft := [0] })
    rejected s (wordAddr 0 0) = false ∧ (clsOf s (.scp 0)).owns (partOfSite s 0) = true ∧ zeroFilling s 0 (regionOf 0) = true
      ∧ maintFree s 0 mDynamic (bankOfLine 0) (rowOfLine 0) = false ∧ (true || !zeroFilling s 0 (regionOf 0)) = true := by decide +kernel
theorem test_wit_BasinAccessEffects_timeout : let s := modSite State.reset 0 (fun x => { x with maint := [⟨.scp 0, false, 0, []⟩] })
    (site s 0).maint = [⟨.scp 0, false, 0, []⟩] ∧ rf (after (.basinDynamicTimeout 0) s) FLT_ACCESS Fd.FLT_ACCESS_KIND = 2 := by decide +kernel

/-- R177: the manual's bank formula on the last line of a basin. -/
theorem test_bank_last : bankOfLine 0x2F_FFFF = (0x1FF ^^^ 0x1FF ^^^ 0xB) ∧ rowOfLine 0x2F_FFFF = 6143 := by decide +kernel

theorem test_wit_BasinUpkeepEffects_rewrite : let s := modSite State.reset 0 (fun x => { x with rewriteQ := [8192 * 5 + 7] })
    (site s 0).rewriteQ.find? (fun x => x / 8192 == 5) = some (8192 * 5 + 7) ∧ maintFree s 0 mRewrite 5 ((8192 * 5 + 7) % 8192) = true := by decide +kernel
theorem test_wit_BasinUpkeepEffects_scrub : let s := wf State.reset (CLK_STATUS 0) Fd.CLK_STATUS_ALIGNED 1
    rf s (BSN_CFG 0) Fd.BSN_CFG_SCRUB_EN = 1 ∧ rf s (CLK_STATUS 0) Fd.CLK_STATUS_ALIGNED = 1 ∧ 5 ∉ (site s 0).scrubbed
      ∧ maintFree s 0 mScrub 5 (rf s (BSN_SCRUB_STATUS 0) Fd.BSN_SCRUB_STATUS_ROW) = true ∧ rf (after (.scrubInterval 0) s) (BSN_SCRUB_STATUS 0) Fd.BSN_SCRUB_STATUS_STARVED = 1 := by decide +kernel
theorem test_wit_BasinUpkeepEffects_fill : let v := fset Fd.BSN_ZF_CTRL_GO 1 (fset Fd.BSN_ZF_CTRL_REGION 191 0#64)
    mayAccess State.reset .steward (BSN_ZF_CTRL 0) true = true ∧ siteBusy State.reset 0 = false ∧ fget Fd.BSN_ZF_CTRL_GO v = 1 ∧ fget Fd.BSN_ZF_CTRL_REGION v < 192
      ∧ (site (after (.zeroFillGo .steward 0 v) State.reset) 0).zfLeft = [191] := by decide +kernel
theorem test_wit_BasinUpkeepEffects_region : mayAccess State.reset .steward (BSN_REGIONn 0 191) true = true ∧ siteBusy State.reset 0 = false
    ∧ 191 ∈ (site (after (.bsnRegionWrite .steward 0 191 (fset Fd.BSN_REGIONn_CLASS 1 0#64)) State.reset) 0).zfLeft := by decide +kernel
theorem test_wit_BasinUpkeepEffects_digest : let v := fset Fd.BSN_DIG_CTRL_GO 1 0#64
    let s := wf State.reset (BSN_DIG_LINES 0) Fd.BSN_DIG_LINES_COUNT 0x30_0000
    mayAccess s .steward (BSN_DIG_CTRL 0) true = true ∧ fget Fd.BSN_DIG_CTRL_GO v = 1 ∧ rf s (BSN_STATUS 0) Fd.BSN_STATUS_DIG_BUSY = 0
      ∧ rf (after (.digestGo .steward 0 v) s) (BSN_STATUS 0) Fd.BSN_STATUS_DIG_BUSY = 1
      ∧ rf (after (.digestGo .steward 0 v) State.reset) FLT_ACCESS Fd.FLT_ACCESS_VALID = 1
      ∧ (site (after (.digestGo .steward 0 v) s) 0).digRange = some (0, 0x30_0000) := by decide +kernel

/-! Router, Cascade, dynamic class. -/

/-- Site 0 runs entry 0 of its program: DURATION 5, configuration 0, LAST. -/
def programmed : State := wr (setTab State.reset (hopKey 0 0) (5 + 2 ^ 26)) (RIL_STATUS 0) 0#64
theorem test_wit_RouterSwitchingEffects_sc : let s := programmed
    siteState s 0 ≠ 2 ∧ frozen s 0 = false ∧ (site s 0).routed ≠ some (scOf s 0) ∧ emptyProgram s 0 = false
      ∧ scOf s 0 < (site s 0).entryStart + hopDuration (entryWord s 0) ∧ (site s 0).chanQ = [] ∧ (site s 0).bankQ = [] ∧ routerReqs s 0 (scOf s 0) = []
      ∧ crUsed (cfgNow s 0) = [] ∧ cwUsed (cfgNow s 0) = [] ∧ linkFar 0 0 = some 12 ∧ linkUsable s 0 0 = true
      ∧ (site (after (.routerSc 0 []) s) 0).routed = some 0 := by decide +kernel
theorem test_wit_RouterSwitchingEffects_advance : let s := atSc programmed 0 5
    held s 0 = false ∧ emptyProgram s 0 = false ∧ hopLast (entryWord s 0) = true ∧ (site s 0).loopAt < 8192 ∧ (site s 0).entryStart + hopDuration (entryWord s 0) ≤ scOf s 0
      ∧ rf (after (.hopEntryAdvance 0) s) (RIL_STATUS 0) Fd.RIL_STATUS_REP = 1 ∧ (site (after (.hopEntryAdvance 0) s) 0).entryStart = 5 := by decide +kernel
def chanWrite : ChanWrite := ⟨0, 1023, 0, [7#32], some (1, 2), false⟩
theorem test_wit_RouterSwitchingEffects_channel : let s := modSite State.reset 0 (fun x => { x with chanQ := [chanWrite] })
    frozen s 0 = false ∧ emptyProgram s 0 = true ∧ (site s 0).chanQ = [chanWrite] ∧ chanWrite.done = false ∧ chanWrite.sc ≤ scOf s 0 ∧ chanWrite.chan < 1024
      ∧ (chan s 0 1023).tag = none ∧ (chan (after (.channelWriteLand 0) s) 0 1023).tag = some (1, 2)
      ∧ (chan (after (.channelWriteLand 0) s) 0 1023).val = 7#2048 := by decide +kernel
def wireState (d : Nat) : State := modDom State.reset d (fun x => { x with wire := [⟨0, 3, [(2, 9#2048)], true⟩] })
theorem test_wit_RouterSwitchingEffects_arrive : let s := wireState 0
    (dom s 0).wire.find? (fun e => e.weir == 0) = some ⟨0, 3, [(2, 9#2048)], true⟩ ∧ weirOn s 0 0 = true ∧ (site s 0).retired = false ∧ weirOn (wireState 144) 144 0 = true ∧ weirOn (wireState 144) 144 9 = false
      ∧ held (after (.linkSliceArrive 0 0 true) s) 0 = true ∧ (dom (after (.linkSliceArrive 0 0 false) s) 0).ring = [⟨0, 3, [(2, 9#2048)], true⟩] := by decide +kernel
theorem test_wit_RouterSwitchingEffects_hole : let s := fenceUnit State.reset 3 13 2
    siteState s 13 = 2 ∧ (12, 1) ∈ linksAcross 13 ∧ linkUsable (after (.holePortFence 13) s) 12 1 = false
      ∧ (rd (after (.holePortFence 13) s) (RIL_LINK 12)).getLsbD 9 = true := by decide +kernel
theorem test_wit_RouterSwitchingEffects_lane : linkUsable State.reset 0 0 = true ∧ edgePortUsable State.reset 0 1 = true
    ∧ failedLanes (after (.siteLinkLaneFailure 0 0 15 7) State.reset) 0 0 15 7 = 1 := by decide +kernel

/-- Two participants (PM1 1): nodes 2 and 3 of a tree of depth 1, one payload slice each (R238, R241). -/
def tagL : Nat := 2 + 2 ^ 21
def tagR : Nat := 3 + 2 ^ 21
def pm1 : Nat := 2 ^ 16
def cframe (sc tag : Nat) (data : List Slice) (pair : Option Nat) : CFrame := ⟨sc, tag, pm1, data, pair⟩
def kiState (sc : Nat) (ki : List (Nat × Nat × Slice)) (fs gs : List CFrame) : State :=
  modSite (setFrames (setFrames (atSc State.reset 0 sc) 0 0 fs) 0 1 gs) 0 (fun x => { x with ki := ki, routed := if ki.isEmpty then none else some sc })
def tagSlice (t : Nat) : Slice := BitVec.ofNat 2048 (t + pm1 * 2 ^ 64)

theorem test_wit_CascadePipeEffects_tag : let s := kiState 3 [(0, 3, tagSlice tagL)] [] [cframe 2 tagR [] none]
    frozen s 0 = false ∧ kiSlice s 0 0 3 = some (tagSlice tagL) ∧ inProgress s 0 0 3 = none ∧ deadAt s 0 0 3 = false ∧ sliceValid (tagSlice tagL) = true
      ∧ frames s 0 (otherIn 0) = [cframe 2 tagR [] none] ∧ pairAgrees (cframe 3 tagL [] none) (cframe 2 tagR [] none) = true
      ∧ frames (after (.cascadeTagArrive 0 0) s) 0 0 = [cframe 3 tagL [] (some 5)] := by decide +kernel
/-- R256: an invalid tag slice raises TAG_INVALID (1); a partner that does not agree raises MISMATCH (2). -/
theorem test_wit_CascadePipeEffects_bad : (let s := kiState 3 [(0, 3, tagSlice 1)] [] []
      sliceValid (tagSlice 1) = false ∧ rf (after (.cascadeTagArrive 0 0) s) (CSC_SFAULT 0) Fd.CSC_SFAULT_CAUSE = 1)
    ∧ (let s := kiState 3 [(0, 3, tagSlice tagL)] [] [cframe 2 tagL [] none]
      pairAgrees (cframe 3 tagL [] none) (cframe 2 tagL [] none) = false ∧ rf (after (.cascadeTagArrive 0 0) s) (CSC_SFAULT 0) Fd.CSC_SFAULT_CAUSE = 2) := by decide +kernel
/-- Site 0 runs a configuration that routes something into Cascade input 0 (R210). -/
def fed (s : State) : State := setTab (setTab (wr s (RIL_STATUS 0) 0#64) (hopKey 0 0) (5 + 2 ^ 26)) (cfgKey 0 0) (0x10 * 2 ^ (8 * 128))
theorem test_wit_CascadePipeEffects_payload : (let s := fed (kiState 4 [(0, 4, 9#2048)] [cframe 3 tagL [] none] [])
      frozen s 0 = false ∧ inProgress s 0 0 4 = some (cframe 3 tagL [] none) ∧ (site s 0).routed = some 4 ∧ cfgByte (cfgNow s 0) 128 ≠ 0 ∧ kiSlice s 0 0 4 = some 9#2048
        ∧ frames (after (.cascadePayloadArrive 0 0) s) 0 0 = [cframe 3 tagL [9#2048] none])
    ∧ (let s := modSite (kiState 4 [] [cframe 3 tagL [] none] []) 0 (fun x => { x with routed := some 4 })
      kiSlice s 0 0 4 = none ∧ cfgByte (cfgNow s 0) 128 = 0 ∧ rf (after (.cascadePayloadArrive 0 0) s) (CSC_SFAULT 0) Fd.CSC_SFAULT_CAUSE = 4) := by decide +kernel
theorem test_wit_CascadePipeEffects_output : let s := kiState 5 [] [cframe 3 tagL [9#2048] (some 5)] [cframe 3 tagR [9#2048] (some 5)]
    presenting s 0 0 5 = some (0, cframe 3 tagL [9#2048] (some 5), cframe 3 tagR [9#2048] (some 5)) ∧ (site s 0).routed ≠ some 5
      ∧ (site s 0).ko.any (fun p => p.1 == 0 && p.2.1 == 5) = false ∧ [0, 1].any (fun i => gapAt s 0 i 5 && (frames s 0 i).length == 1) = false ∧ (site (after (.cascadeOutput 0 0) s) 0).ko = [(0, 5, outTag (cframe 3 tagL [9#2048] (some 5)))] := by
  decide +kernel
theorem test_wit_CascadePipeEffects_skew : let s := kiState 68 [] [cframe 3 tagL [9#2048] none] []
    skewed s 0 0 68 = some (0, 0, cframe 3 tagL [9#2048] none) ∧ (frames s 0 1).length ≤ 0 ∧ sget (fun _ => 0) (site (after (.skew 0 0) s) 0).klate 1 = 1 ∧ rf (after (.skew 0 0) s) (CSC_SFAULT 0) Fd.CSC_SFAULT_CAUSE = 3 := by decide +kernel

/-- A packet from an engine to a site, with 64 bytes of payload. -/
def pkt (site : Nat) (unit kind : BitVec 4) (crc : Bool) : DynPkt :=
  { kind := kind, dstUnit := unit, dstSite := site, srcUnit := 5#4, srcSite := 0, part := 0, tag := 0#16, addr := 0#48, stream := 0#20, via := 0#8, leg := true,
    crcOk := crc, payload := List.replicate 64 1#8 }
def injecting (p : DynPkt) : State := modSite State.reset 0 (fun x => { x with outQ := [p] })
def queueing (p : DynPkt) : State := modSite State.reset 0 (fun x => { x with dynQ := [⟨4, 0, p, 0, false⟩] })
/-- A panel whose record is published, so that its routers have routes (R227). -/
def routed (s : State) : State :=
  [0, 1, 12, 13].foldl (fun t k => wr t (BOOT_FPR_BUFb_n 0 (17 + 2 * k)) (BitVec.allOnes 64)) (wf s BOOT_FPR_GEN Fd.BOOT_FPR_GEN_GEN 1)
theorem test_wit_DynamicClassPacketMoves_receive : (let s := injecting (pkt 0 0#4 1#4 true)
      siteState s 0 ≠ 2 ∧ offered s 0 4 = some (pkt 0 0#4 1#4 true) ∧ queued (site s 0) 4 0 < 32 ∧ (site (after (.dynFlitReceive 0 4 0 false) s) 0).outQ = [])
    ∧ (let s := routed (injecting (pkt 13 0#4 1#4 true))
      offered s 0 4 = some (pkt 13 0#4 1#4 true) ∧ viaOf s 0 13 = (0xFF, true) ∧ (site (after (.dynFlitReceive 0 4 0 false) s) 0).dynQ.length = 1) := by decide +kernel
theorem test_wit_DynamicClassPacketMoves_unreachable : let s := injecting (pkt 13 0#4 1#4 true)
    offered s 0 4 = some (pkt 13 0#4 1#4 true) ∧ (viaOf s 0 13).2 = false ∧ tab s (injKey 0 4) = 0
      ∧ rf (after (.dynFlitReceive 0 4 0 false) s) (RIL_DYN_ERR 0) Fd.RIL_DYN_ERR_UNREACHABLE = 1 := by decide +kernel
theorem test_wit_DynamicClassPacketMoves_edge : ∀ b ∈ [0, 1], let q := { pkt 0 0#4 1#4 true with srcSite := 0 }
    let s := modEdge State.reset ((edgePorts 0).getD b (0, 0)).1 (fun x => { x with outQ := [q] })
    siteState s 0 ≠ 2 ∧ offered s 0 (5 + b) = some q ∧ queued (site s 0) (5 + b) 0 < 32 ∧ q.dstSite = 0 := by decide +kernel
theorem test_wit_DynamicClassPacketMoves_forward : let s := queueing (pkt 13 0#4 1#4 true)
    headOf (site s 0) 4 0 = some ⟨4, 0, pkt 13 0#4 1#4 true, 0, false⟩ ∧ dynOut 0 (pkt 13 0#4 1#4 true) = some 1 ∧ linkUsable s 0 1 = true
      ∧ ((site s 0).moves.filter (fun m => m.out == 1)).length < openSlices s 0 1 ∧ rrNext (site s 0) 0 1 = some (4 * 2 + 0)
      ∧ (site (after (.dynPacketForward 0 4 0) s) 0).moves = [⟨4, 0, 1, 1, 1, pkt 13 0#4 1#4 true⟩] := by decide +kernel
/-- R234: a packet for a link that is out of use is dropped, before it moves or on its way. -/
theorem test_wit_DynamicClassPacketMoves_closed : let s := fenceLink (queueing (pkt 13 0#4 1#4 true)) 0 1 4
    let m : Move := ⟨4, 0, 1, 1, 1, pkt 13 0#4 1#4 true⟩
    let u := modSite s 0 (fun x => { x with moves := [m] })
    moveOf (site s 0) 4 0 = none ∧ linkUsable s 0 1 = false ∧ (headFlits (site s 0) 4 0 ⟨4, 0, pkt 13 0#4 1#4 true, 0, false⟩).length = 1
      ∧ rf (after (.dynPacketForward 0 4 0) s) (RIL_DYN_ERR 0) Fd.RIL_DYN_ERR_UNREACHABLE = 1
      ∧ moveOf (site u 0) 4 0 = some m ∧ m.left ≤ queued (site u 0) 4 0 ∧ (site (after (.dynPacketForward 0 4 0) u) 0).moves = [] := by decide +kernel
theorem test_wit_DynamicClassPacketMoves_credit : (site (modSite State.reset 0 (fun x => { x with credBack := [2] })) 0).credBack = [2] := by decide +kernel
theorem test_wit_DynamicClassPacketMoves_deliver : ∀ p ∈ [pkt 0 0#4 1#4 true, pkt 0 0#4 1#4 false, pkt 0 0#4 8#4 true, pkt 0 6#4 1#4 true, pkt 0 1#4 7#4 true,
      pkt 0 2#4 4#4 true, { pkt 0 3#4 1#4 true with payload := List.replicate 256 1#8 }], let s := routed (queueing p)
    let u := modSite s 0 (fun x => { x with dynQ := (List.range (flitsOf p)).map (fun i => ⟨4, 0, p, i, false⟩) })
    moveOf (site u 0) 4 0 = none ∧ headOf (site u 0) 4 0 = some ⟨4, 0, p, 0, false⟩ ∧ rrLeave (site u 0) 0 (outClass p) = some 8 := by decide +kernel
theorem test_wit_DynamicClassPacketMoves_landed : (site (after (.dynPacketDeliver 0 4 0) (queueing (pkt 0 0#4 1#4 true))) 0).landQ.length = 1
    ∧ rf (after (.dynPacketDeliver 0 4 0) (queueing (pkt 0 6#4 1#4 true))) (RIL_DYN_ERR 0) Fd.RIL_DYN_ERR_NO_UNIT = 1
    ∧ rf (after (.dynPacketDeliver 0 4 0) (queueing (pkt 0 0#4 1#4 false))) (RIL_DYN_ERR 0) Fd.RIL_DYN_ERR_CRC = 1
    ∧ dropFlag State.reset 0 (pkt 0 2#4 4#4 true) false = none ∧ dropFlag State.reset 0 (pkt 0 1#4 7#4 true) false = none := by decide +kernel
/-- R228: a packet of several flits for an edge die goes flit by flit, and waits while every open slice of its port is taken. -/
theorem test_wit_DynamicClassPacketMoves_edgeOut : let p := { pkt 0 3#4 1#4 true with payload := List.replicate 256 1#8 }
    let u := modSite State.reset 0 (fun x => { x with dynQ := (List.range (flitsOf p)).map (fun i => ⟨4, 0, p, i, false⟩) })
    let w := modSite u 0 (fun x => { x with moves := List.replicate 8 ⟨3, 0, 8, 0, 1, p⟩ })
    dropFlag u 0 p false = none ∧ edgeTaken u 0 p = false ∧ issueWaits u 0 p = false ∧ flitsOf p ≠ 1
      ∧ (site (after (.dynPacketDeliver 0 4 0) u) 0).moves = [⟨4, 0, 8, 0, flitsOf p - 1, p⟩] ∧ edgeTaken w 0 p = true := by decide +kernel

/-! Table loads, holds, boundaries, reference. -/

def job : LoadJob := ⟨0, 0, 2, 4, 0⟩
theorem test_wit_TableLoadProtocol_go : let s := State.reset
    mayAccess s .steward (RIL_LOAD_CTRL 0) true = true ∧ rf s (RIL_LOAD_CTRL 0) ldBusy = 0 ∧ loadBlocked s 0 = false ∧ mayAccess s .steward (CSC_LOAD_CTRL 0) true = true
      ∧ rf s (CSC_LOAD_CTRL 0) ldBusy = 0 ∧ mayAccess s .steward (CLK_BND_LOAD_CTRL 0) true = true ∧ rf s (CLK_BND_LOAD_CTRL 0) ldBusy = 0 ∧ bndBusy s 0 = false
      ∧ mayAccess s .steward (SITE_SIT_LOAD_CTRL 0) true = true ∧ rf s (SITE_SIT_LOAD_CTRL 0) ldBusy = 0 ∧ siteBusy s 0 = false := by decide +kernel
/-- The last row of each table may be loaded, a row beyond it may not (R219, R258, R281, R340). -/
theorem test_wit_TableLoadProtocol_ranges : (loadJob (rilLoader 0 0) 0 8191 1 0).isSome = true ∧ loadJob (rilLoader 0 0) 0 8191 2 0 = none
    ∧ (loadJob (cscLoader 0) 0 1023 1 0).isSome = true ∧ loadJob (bndLoader 0) 0 1023 2 0 = none := by decide +kernel
theorem test_wit_TableLoadProtocol_row : let s := modSite State.reset 0 (fun x => { x with rilJob := some job, cscJob := some job, sitJob := some job })
    (site s 0).rilJob = some job ∧ (site s 0).cscJob = some job ∧ (site s 0).sitJob = some job ∧ job.next < job.count ∧ loadWaits s 0 job 4 = false
      ∧ loadWaits s 0 job 16 = false ∧ (dom (modDom s 0 (fun x => { x with bndJob := some job })) 0).bndJob = some job
      ∧ rf (after (.rilLoadRow 0 true) s) (RIL_LOAD_CTRL 0) ldCode = 7 ∧ (site (after (.rilLoadRow 0 true) s) 0).rilJob = none := by decide +kernel

/-- Domain 0 alone in lockstep. -/
def aligned0 : State := wf State.reset (CLK_STATUS 0) Fd.CLK_STATUS_ALIGNED 1
def inForce (s : State) : State := wf s CLK_HOLD_STATUS Fd.CLK_HOLD_STATUS_IN_FORCE 1
def stopped0 : State := modDom (inForce aligned0) 0 (fun x => { x with stopped := true, stop := 0 })
theorem test_wit_HoldProtocol_raise : aligned aligned0 0 = true ∧ hFault = 1 ∧ holdRaised aligned0 (after (.holdRaise 0 1 0) aligned0) 0 1 0 := by
  refine ⟨by decide +kernel, rfl, ?_⟩
  unfold holdRaised holdRecorded
  decide +kernel
/-- R273: a disabled weir raises no hold; site 0 has no neighbour to its west. -/
theorem test_wit_HoldProtocol_weir : hWeir ∉ [hFault, hError, hDeadline, hWake, hBoundary, hOptical] ∧ weirOn aligned0 0 0 = true ∧ (weirsOf 0).any (fun w => !weirOn aligned0 0 w) = true := by
  decide +kernel
theorem test_wit_HoldProtocol_arrive : let s := inForce aligned0
    aligned s 0 = true ∧ rf s CLK_HOLD_STATUS Fd.CLK_HOLD_STATUS_IN_FORCE = 1 ∧ rf s CLK_HOLD_STATUS Fd.CLK_HOLD_STATUS_RELEASING = 0 ∧ held s 0 = false
      ∧ held (after (.holdArrive 0) s) 0 = true := by decide +kernel
theorem test_wit_HoldProtocol_clear : (let s := modDom stopped0 0 (fun x => { x with causes := [hBoundary] })
      causeOver s 0 hBoundary = false ∧ causeOver s 0 hFault = false)
    ∧ (let s := after (.softHoldWrite .steward 0#64) (after (.softHoldWrite .steward 1#64) State.reset)
      stewardCauseOver s hSoftware = true ∧ s.pnl.causes = [] ∧ stewardCauseOver (after (.softHoldWrite .steward 1#64) State.reset) hSoftware = false) := by decide +kernel
theorem test_wit_HoldProtocol_release : rf stopped0 CLK_HOLD_STATUS Fd.CLK_HOLD_STATUS_IN_FORCE = 1 ∧ stopped0.pnl.release = none ∧ allStopped stopped0 = true ∧ anyCause stopped0 = false
    ∧ (after .holdRelease stopped0).pnl.release = some 0 := by decide +kernel
theorem test_wit_HoldProtocol_resume : let s := after .holdRelease stopped0
    s.pnl.release = some 0 ∧ held s 0 = true ∧ rf (after (.domainResume 0) s) CLK_HOLD_STATUS Fd.CLK_HOLD_STATUS_IN_FORCE = 0 ∧ (after (.domainResume 0) s).pnl.release = none := by
  decide +kernel
theorem test_wit_HoldProtocol_soft : mayAccess State.reset .steward CLK_HOLD_CTRL true = true ∧ fget Fd.CLK_HOLD_CTRL_SOFT 1#64 = 1 ∧ hSoftware ∉ State.reset.pnl.causes := by decide +kernel

/-- Domain 0 with an entry for its next SC on its way, and debt `n`. -/
def waiting (n : Nat) : State := modDom aligned0 0 (fun x => { x with wire := [⟨0, 1, [], true⟩], debt := n })
theorem test_wit_StretchAddsDebt : aligned (waiting 0) 0 = true ∧ held (waiting 0) 0 = false ∧ (dom (waiting 0) 0).droop = false
    ∧ weirOn (waiting 0) 0 0 = true ∧ awaited (waiting 0) 0 (scOf (waiting 0) 0 + 1) = true ∧ (dom (after (.weirWait 0) (waiting 0)) 0).debt = 103
    ∧ (dom (after (.droopStretch 0 100) (waiting 0)) 0).debt = 100 := by decide +kernel
/-- R266: debt of 16 cycles makes the domain raise a WEIR hold. -/
theorem test_debt_limit : (dom (after (.weirWait 0) (waiting 6489)) 0).causes = [hWeir] ∧ (dom (after (.weirWait 0) (waiting 6488)) 0).causes = [] := by decide +kernel

def atB : State := wr (wf aligned0 (CLK_BND_CFG 0) Fd.CLK_BND_CFG_VALID 1) (CLK_BND_NEXT_SC 0) 0#64
theorem test_wit_PhaseBoundaryProtocol_stop : aligned atB 0 = true ∧ bndValid atB 0 = true ∧ held atB 0 = false ∧ (rd atB (CLK_BND_NEXT_SC 0)).toNat = scOf atB 0 ∧ scOf atB 0 + 1 < 2 ^ 64
    ∧ atB.pnl.crossing = none ∧ emptyProgram atB 0 = true
    ∧ scOf (after (.boundaryStop 0) atB) 0 = 1 ∧ hBoundary ∈ (dom (after (.boundaryStop 0) atB) 0).causes := by decide +kernel
theorem test_wit_PhaseBoundaryProtocol_step : let s := after (.boundaryStop 0) atB
    allStopped s = true ∧ boundaryDomain s = some 0 ∧ s.pnl.release = none ∧ s.pnl.stepTo = none ∧ (after .boundaryStep s).pnl.choice.isSome = true := by decide +kernel
theorem test_wit_PhaseBoundaryProtocol_release : let s := modPnl (after (.boundaryStop 0) atB) (fun p => { p with choice := some (2, 3) })
    allStopped s = true ∧ boundaryDomain s = some 0 ∧ otherCause s = false ∧ rf s CLK_PANEL Fd.CLK_PANEL_OPPT = 3 := by decide +kernel
theorem test_wit_PhaseBoundaryProtocol_start : let s := stewardHold stopped0 hBoundary
    allStopped s = true ∧ hBoundary ∈ s.pnl.causes ∧ boundaryDomain s = none ∧ s.pnl.choice = none ∧ s.pnl.release = none ∧ s.pnl.stepTo = none ∧ otherCause s = false
      ∧ (after .boundaryRelease s).pnl.release = some 0 := by decide +kernel
theorem test_wit_PhaseBoundaryProtocol_relock : (modPnl State.reset (fun p => { p with stepTo := some 0 })).pnl.stepTo = some 0 := by decide +kernel

def refState (f : Fld) (v : Nat) : State := wf State.reset CLK_REF_STATUS f v
theorem test_wit_ReferenceAndStewardSelection : rf (refState Fd.CLK_REF_STATUS_OTHER_VALID 1) CLK_REF_STATUS Fd.CLK_REF_STATUS_OTHER_VALID = 1
    ∧ rf (after (.refMeasure 2000#32 2000#32) (refState Fd.CLK_REF_STATUS_OTHER_VALID 1)) CLK_REF_STATUS Fd.CLK_REF_STATUS_SWITCHED = 1
    ∧ rf (after (.refMeasure 0#32 5000#32) (refState Fd.CLK_REF_STATUS_OTHER_VALID 1)) CLK_REF_STATUS Fd.CLK_REF_STATUS_HOLDOVER = 1
    ∧ rf (after (.refMeasure 0#32 4999#32) (refState Fd.CLK_REF_STATUS_OTHER_VALID 1)) CLK_REF_STATUS Fd.CLK_REF_STATUS_HOLDOVER = 0
    ∧ rf State.reset CLK_REF_STATUS Fd.CLK_REF_STATUS_HOLDOVER = 0 ∧ rf (after .refGeneratorLoss State.reset) CLK_REF_STATUS Fd.CLK_REF_STATUS_SEL = 2 := by decide +kernel
theorem test_wit_ReferenceAndStewardSelection_leave : let s := modPnl (wf (refState Fd.CLK_REF_STATUS_OTHER_VALID 1) CLK_REF_STATUS Fd.CLK_REF_STATUS_HOLDOVER 1) (fun p => { p with refGood := 100 })
    rf s CLK_REF_STATUS Fd.CLK_REF_STATUS_HOLDOVER = 1 ∧ rf s CLK_REF_STATUS Fd.CLK_REF_STATUS_DISAGREE = 0 ∧ 100 ≤ s.pnl.refGood
      ∧ rf (after .holdoverLeave s) CLK_REF_STATUS Fd.CLK_REF_STATUS_HOLDOVER = 0 := by decide +kernel
theorem test_wit_ReferenceAndStewardSelection_steward : let s := wf State.reset FLT_STEWARD Fd.FLT_STEWARD_STANDBY_OK 1
    standbyOk s = true ∧ rf s FLT_STEWARD Fd.FLT_STEWARD_ACTIVE < 2 ∧ s.pnl.boot.running = false ∧ s.pnl.boot.checks = []
      ∧ rf (after .stewardTakeover s) FLT_STEWARD Fd.FLT_STEWARD_ACTIVE = 1 ∧ rf (after .lockstepMismatch s) FLT_STEWARD Fd.FLT_STEWARD_MISMATCH = 1
      ∧ (after .stewardTakeover (modBoot s (fun b => { b with running := true, step := 5 }))).pnl.boot.start = some false := by decide +kernel
theorem test_wit_ReferenceAndStewardSelection_ext : 1 ≠ State.reset.pnl.refSel ∧ unitCause State.reset 10 1 = 0
    ∧ rf (after (.extRefValidityChange 1 true) State.reset) CLK_REF_STATUS Fd.CLK_REF_STATUS_OTHER_VALID = 1 := by decide +kernel
theorem test_wit_ReferenceAndStewardSelection_mark : timeNs State.reset % 1_000_000 = 0 ∧ rf (after .timeMark State.reset) TIME_MARK_SEQ Fd.TIME_MARK_SEQ_SEQ = 1 := by decide +kernel

/-! Alignment; streams at the site. -/

def lockedAll : State := (List.range 160).foldl (fun s d => wf s (CLK_STATUS d) Fd.CLK_STATUS_LOCKED 1) State.reset
theorem test_wit_PhaseBoundaryProtocol_align : (domains lockedAll).all (fun d => rf lockedAll (CLK_STATUS d) Fd.CLK_STATUS_LOCKED == 1) = true ∧ 3 ∈ domains lockedAll
    ∧ weirOn lockedAll 3 0 = true := by decide +kernel

/-- Row 7 of site 0: stream 5, valid, CHECK 1, ENGINE 0, DELTA 100, 64 bytes. -/
def sitWord7 : Nat := 5 + 2 ^ 20 + 1 * 2 ^ 21 + 100 * 2 ^ 32 + 64 * 2 ^ 64
def strmReq : StrmReq := ⟨1, 3, 5, 7, 0#64, 0#64⟩
def strmState (row : Nat) : State := modSite (atSc (setTab State.reset (sitKey 0 7) row) 0 1) 0 (fun x => { x with strmQ := [strmReq] })
theorem test_wit_SiteStreamProtocol_issue : held (strmState sitWord7) 0 = false ∧ (site (strmState sitWord7) 0).strmQ = [strmReq] ∧ strmReq.sc ≤ scOf (strmState sitWord7) 0
    ∧ issueCause (strmState 0) 0 strmReq = 1
    ∧ rf (after (.streamIssueProcess 0) (strmState 0)) (SITE_STRM_SFAULT 0) Fd.SITE_STRM_SFAULT_CAUSE = 1 := by decide +kernel
theorem test_issue_row : sitRow (strmState sitWord7) 0 7 = sitWord7 ∧ bf sitWord7 20 1 = 1 ∧ bf sitWord7 0 20 = 5 ∧ bf sitWord7 21 2 = 1 ∧ bf sitWord7 32 32 = 100
    ∧ bf sitWord7 64 40 = 64 := by decide +kernel
theorem test_wit_SiteStreamProtocol_issued : issueCause (strmState sitWord7) 0 strmReq = 0 ∧ (site (after (.streamIssueProcess 0) (strmState sitWord7)) 0).arms = [⟨7, 5, 1, 100, 0, 0, false, false⟩] := by
  decide +kernel
theorem test_wit_SiteStreamProtocol_resend : (let s := modSite State.reset 0 (fun x => { x with dropped := [pkt 0 0#4 3#4 true] })
    (site s 0).dropped = [pkt 0 0#4 3#4 true] ∧ (site (after (.streamIssueResend 0) s) 0).outQ = [pkt 0 0#4 3#4 true]) := by decide +kernel
def arm7 (stream bytes : Nat) (complete : Bool) : SitArm := ⟨7, stream, 1, 100, bytes, 0, false, complete⟩
def landing : Landing := ⟨pkt 0 0#4 1#4 true, [(0, List.replicate 64 9#8)], false⟩
theorem test_wit_SiteStreamProtocol_land : let s := modSite (setTab State.reset (sitKey 0 7) sitWord7) 0 (fun x => { x with landQ := [landing], arms := [arm7 0 0 false, arm7 6 0 false] })
    (site s 0).landQ.find? (fun l => !l.busy) = some landing ∧ bwOpen s 0 = true ∧ (landLines s 0 4 landing.lines).2 = ([], 64)
      ∧ (site (after (.streamDataLand 0) s) 0).arms = [arm7 0 64 true, arm7 6 0 false]
      ∧ memRead (after (.streamDataLand 0) s) (wordAddr 0 0 + 63) = 9#8 := by decide +kernel
/-- R230: a bank that this cycle has used takes no landing; nor does a BW port that is not open. -/
theorem test_wit_SiteStreamProtocol_shut : let s := modSite State.reset 0 (fun x => { x with landQ := [landing] })
    let used := useBanks s 0 (bankOfLine 0) (rowOfLine 0)
    let full := modSite s 0 (fun x => { x with bwUsed := 64 })
    (site used 0).landQ.find? (fun l => !l.busy) = some landing ∧ bwOpen used 0 = true ∧ (landLines used 0 4 landing.lines).2 = ([(0, List.replicate 64 9#8)], 0)
      ∧ (site full 0).landQ.find? (fun l => !l.busy) = some landing ∧ bwOpen full 0 = false := by decide +kernel
theorem test_wit_SiteStreamProtocol_notify : let s := modSite (modEdge State.reset 2 (fun x => { x with notices := [(0, 6, true)] })) 0 (fun x => { x with arms := [arm7 6 0 false] })
    (edge s 2).notices = [(0, 6, true)] ∧ (site (after (.siteSitNotify 2) s) 0).arms = [{ arm7 6 0 false with failed := true }] := by decide +kernel
def armed (sc : Nat) (a : SitArm) : State := modSite (atSc State.reset 0 sc) 0 (fun x => { x with arms := [a] })
theorem test_wit_SiteStreamProtocol_deadline : held (armed 100 (arm7 5 0 false)) 0 = false ∧ (site (after (.deadlineCheck 0) (armed 99 (arm7 5 0 false))) 0).arms = [arm7 5 0 false]
    ∧ rf (after (.deadlineCheck 0) (armed 100 (arm7 5 0 false))) (SITE_STRM_DL 0) Fd.SITE_STRM_DL_ROW = 7
    ∧ (site (after (.deadlineCheck 0) (armed 100 (arm7 5 64 true))) 0).arms = [] := by decide +kernel
theorem test_wit_SiteStreamProtocol_complete : let s := modDom (armed 100 (arm7 5 64 true)) 0 (fun x => { x with causes := [hDeadline] })
    armOf s 0 7 = some (arm7 5 64 true) ∧ (arm7 5 64 true).complete = true ∧ (arm7 5 64 true).deadline ≤ scOf s 0 ∧ hDeadline ∈ (dom s 0).causes
      ∧ (dom (after (.streamComplete 0 7) s) 0).causes = [] := by decide +kernel
def fetch (n : Nat) : DynPkt := { pkt 0 0#4 2#4 true with payload := bytesOf 2 n ++ bytesOf 8 0 }
def inboxed (p : DynPkt) : State := modSite State.reset 0 (fun x => { x with inbox := [p] })
theorem test_wit_SiteStreamProtocol_fetch : (site (inboxed (fetch 64)) 0).inbox.find? (fun p => p.kind == 2#4) = some (fetch 64)
    ∧ (linesOf (fetch 64).addr.toNat 64).any (fun l => zeroFilling (inboxed (fetch 64)) 0 (l / 16384)) = false
    ∧ (linesOf (fetch 64).addr.toNat 64).all (fun l => maintFree (inboxed (fetch 64)) 0 mDynamic (bankOfLine l) (rowOfLine l)) = true
    ∧ ((site (after (.streamFetchServe 0 false []) (inboxed (fetch 64))) 0).outQ.map (fun p => p.payload.length)) = [64] := by decide +kernel
theorem test_wit_SiteStreamProtocol_refused : (site (after (.streamFetchServe 0 true []) (inboxed (fetch 64))) 0).outQ.map (fun p => p.payload.length) = [15]
    ∧ ¬ (0x300_0000 < (fetch 64).addr.toNat + 64 / 4) := by decide +kernel

/-! Transfer engines. -/

def issuePkt (i : Nat) : DynPkt := { pkt 0 1#4 3#4 true with stream := BitVec.ofNat 20 i, payload := bytesOf 8 0 ++ bytesOf 8 0 ++ bytesOf 8 100 ++ bytesOf 8 7 }
def asked (i : Nat) (cache : List (Nat × Nat)) : State := modEdge State.reset 2 (fun x => { x with inbox := [issuePkt i], cache := cache })
theorem test_wit_TransferEngineProtocol_issue : ∀ i ∈ [0, 5], let s := asked i []
    (edge s 2).inbox.find? (fun p => p.kind == 3#4) = some (issuePkt i) ∧ (edge s 2).waitQ = [] ∧ (edge s 2).strms.length < 64 ∧ (edge s 2).walks = []
      ∧ (edge s 2).prefetch = Option.none ∧ (edge s 2).failQ.any (fun f => f.1 == issueOf (issuePkt i)) = false := by decide +kernel
theorem test_wit_TransferEngineProtocol_issue_next : (edge (after (.streamIssue 2) (asked 0 [])) 2).failQ.map (fun f => f.2) = [(1, 1)]
    ∧ (edge (after (.streamIssue 2) (asked 5 [])) 2).walks = [⟨5, false⟩] ∧ cacheGet (edge (asked 5 [(5, 0)]) 2).cache 5 = some 0
    ∧ (live (asked 5 [(5, 0)]) (STM_HITS 2)).toNat = 0 := by decide +kernel
/-- A 65th issue waits in the router's queues while 64 wait for the walk of an entry that is not at hand (R326). -/
theorem test_wit_TransferEngineProtocol_full : let s := modEdge (asked 5 []) 2 (fun x => { x with waitQ := List.replicate 64 (issueOf (issuePkt 6)) })
    (edge s 2).inbox.find? (fun p => p.kind == 3#4) = some (issuePkt 5) ∧ mayWait (edge s 2) (issuePkt 5).stream.toNat = false ∧ mayWait (edge (asked 5 []) 2) 5 = true := by
  decide +kernel
def walking (redo : Bool) : State := modEdge State.reset 2 (fun x => { x with walks := [⟨5, redo⟩], waitQ := [issueOf (issuePkt 5)] })
theorem test_wit_TransferEngineProtocol_walk : ∀ r ∈ [true, false], (edge (walking r) 2).walks.find? (fun w => w.index == (5#20).toNat) = some ⟨5, r⟩ := by decide +kernel
theorem test_wit_TransferEngineProtocol_walk_next : (edge (after (.tableWalkDone 2 5#20 0 0) (walking true)) 2).walks = [⟨5, false⟩]
    ∧ (edge (after (.tableWalkDone 2 5#20 2 0) (walking false)) 2).waitQ = []
    ∧ markedLine (walking false) (tableBase (walking false) + 64 * 5) 64 = Option.none := by decide +kernel
theorem test_wit_TransferEngineProtocol_fail : ∀ c ∈ [1, 2, 3, 5], let s := modEdge State.reset 2 (fun x => { x with failQ := [(issueOf (issuePkt 5), c, 0)] })
    (edge s 2).failQ = [(issueOf (issuePkt 5), c, 0)] ∧ (issueOf (issuePkt 5)).host = Option.none ∧ rf s (STM_SERR 2) Fd.STM_SERR_VALID = 0
      ∧ rf (after (.streamFail 2) s) (STM_SERR 2) Fd.STM_SERR_CAUSE = c ∧ (edge (after (.streamFail 2) s) 2).notices = [(0, 5, true)] := by decide +kernel
def ccAll : W64 := fset Fd.STM_CACHE_CTRL_INV_ALL 1 0#64
def ccPre (n : Nat) : W64 := fset Fd.STM_CACHE_CTRL_PREFETCH 1 (fset Fd.STM_CACHE_CTRL_FIRST 3 (fset Fd.STM_CACHE_CTRL_COUNT n 0#64))
theorem test_wit_TransferEngineProtocol_control : let s := modEdge State.reset 2 (fun x => { x with cache := [(5, 0)] })
    mayAccess s .steward (STM_ISSUE 2) true = true ∧ mayAccess s .steward (STM_CACHE_CTRL 2) true = true ∧ fget Fd.STM_CACHE_CTRL_INV_ALL ccAll = 1
      ∧ fget Fd.STM_CACHE_CTRL_PREFETCH ccAll = 0 ∧ (edge (after (.stmCacheInvAll .steward 2 ccAll) s) 2).cache = []
      ∧ (∀ n ∈ [1, 8, 9, 1024], fget Fd.STM_CACHE_CTRL_PREFETCH (ccPre n) = 1 ∧ fget Fd.STM_CACHE_CTRL_COUNT (ccPre n) = n)
      ∧ (edge (after (.stmCachePrefetch .steward 2 (ccPre 9)) State.reset) 2).prefetch = some (11, 1)
      ∧ (edge (after (.stmCachePrefetch .steward 2 (ccPre 8)) State.reset) 2).prefetch = Option.none := by decide +kernel
def wctrl : W64 := fset Fd.STM_TBL_WCTRL_GO 1 0#64
theorem test_wit_TransferEngineProtocol_table : mayAccess State.reset .steward STM_TBL_WCTRL true = true ∧ fget Fd.STM_TBL_WCTRL_GO wctrl = 1 ∧ (tableBase State.reset + 64 * 5) % 64 = 0 := by decide +kernel

/-! Stream data. Words of an entry: source and destination kinds, one row of 64 bytes. -/
def entryOf (src dst : Nat) : Nat := src + dst * 8 + (1 + 2 ^ 16 + 2 ^ 32) * 2 ^ 192
def strm (src dst moved : Nat) : Strm := ⟨issueOf (issuePkt 5), entryOf src dst, 0, moved, 0, if dst = 3 ∧ moved = 64 then 64 else 0, [], 0⟩
def moving (t : Strm) : State := modEdge State.reset 0 (fun x => { x with strms := [t] })
theorem test_wit_StreamDataMoves_move : ∀ t ∈ [strm 1 2 0, strm 1 1 0, strm 2 1 0, strm 2 3 0, strm 2 3 64], nextStrm (edge (moving t) 0).strms = some t := by decide +kernel
theorem test_wit_StreamDataMoves_own : eTotal (entryOf 2 3) = 64 ∧ isSpread (moving (strm 1 2 0)) (strm 1 2 0).issue (entryOf 1 2) = false
    ∧ ownLine (moving (strm 1 2 0)) 0 0 false = true := by decide +kernel
def droppedFrom (n : Nat) : State :=
  modEdge State.reset 2 (fun x => { x with dropped := [pkt 0 0#4 1#4 true], drops := sput (fun _ => 0) (2 ^ 48) n [] })
theorem test_wit_StreamDataMoves_resend : (edge (droppedFrom 0) 2).dropped = [pkt 0 0#4 1#4 true] ∧ (edge (after (.streamPacketResend 2) (droppedFrom 2)) 2).outQ = [pkt 0 0#4 1#4 true]
    ∧ (edge (after (.streamPacketResend 2) (droppedFrom 3)) 2).outQ = [] := by decide +kernel

/-- A STREAM packet from panel 9 to this one. -/
def ppkt (payload : List Byte) : PanelPkt :=
  { dst := 0#10, src := 9#10, via := 0#10, leg := true, tepoch := false, dkind := 0#2, part := 0, dedge := 2, dl := false, hops := 0, epoch := 0#32, tag := 1#16,
    crcOk := true, payload := payload }
def recvEntry (panel : Nat) : Nat := entryOf 3 2 + panel * 2 ^ 400
def arrivedAt (ts : List Strm) : State := modEdge State.reset 2 (fun x => { x with arrived := [ppkt (strmPayload 0 0 0 64 64 0 [1#8])], strms := ts })
theorem test_wit_StreamDataMoves_pair : let t : Strm := ⟨issueOf (issuePkt 5), recvEntry 9, 0, 0, 0, 0, [], 0⟩
    (edge (arrivedAt []) 2).rend.find? (fun p => (pairOf (edge (arrivedAt []) 2).strms p).isSome) = Option.none
      ∧ (edge (arrivedAt []) 2).arrived = [ppkt (strmPayload 0 0 0 64 64 0 [1#8])] ∧ spComp (ppkt (strmPayload 0 0 0 64 64 0 [1#8])) ≠ pairFailComp
      ∧ (edge (after (.remotePairing 2) (arrivedAt [])) 2).rend.length = 1 ∧ pairOf [t] (ppkt (strmPayload 0 0 0 64 64 0 [1#8])) = some t
      ∧ spTotal (ppkt (strmPayload 0 0 0 64 64 0 [1#8])) = wireLen (recvEntry 9) ∧ pairBad t (ppkt (strmPayload 0 0 0 64 64 0 [1#8])) = false
      ∧ pairBad t (ppkt (strmPayload 0 1 0 64 64 0 [1#8])) = true := by decide +kernel
def unacked (n : Nat) : Unacked := ⟨ppkt [], 0, issueOf (issuePkt 5), n⟩
def waitingAck (n : Nat) : State := modEdge (wr State.reset TIME_SEC 10#64) 2 (fun x => { x with unacked := [unacked n] })
theorem test_wit_StreamDataMoves_timeout : ∀ n ∈ [0, 2, 3], (edge (waitingAck n) 2).unacked.find? (fun u => Nat.ble (u.since + strmTmoNs (waitingAck n)) (nowNs (waitingAck n))) = some (unacked n) := by
  decide +kernel
theorem test_wit_StreamDataMoves_timeout_next : (edge (after (.strmTmo 2) (waitingAck 2)) 2).unacked.length = 1 ∧ (edge (after (.strmTmo 2) (waitingAck 3)) 2).unacked = [] := by decide +kernel
theorem test_wit_StreamDataMoves_patrol : let s := wf State.reset (HBM_CFG 4) Fd.HBM_CFG_SCRUB_EN 1
    rf s (HBM_CFG 4) Fd.HBM_CFG_SCRUB_EN = 1 ∧ stackEnabled s 4 = true ∧ (stackLine s 4 (stack s 4).scrub).isSome = true
      ∧ (stack (after (.hbmPatrolScrub 4 0 0) s) 4).scrub = 1 ∧ (stack (after (.hbmPatrolScrub 4 2 0) s) 4).marks = [(stackLine s 4 0).getD 0 / 64] := by decide +kernel
/-- Entries of stream 5: 64 bytes from HBM (slice 4, that of engine 2) to the basin of site 0; and the same without its CRC. -/
def plainEntry : Nat := entryOf 1 2 + 2 * 2 ^ 6 + 2 ^ 16 + 2 ^ 32 + 0x40_0000_0000 * 2 ^ 64
def goodEntry : Nat := plainEntry + (crc32 (bytesOf 60 plainEntry)).toNat * 2 ^ 480
theorem test_wit_TransferEngineProtocol_hit : (let s := asked 5 [(5, goodEntry)]
      streamCheck s 2 (issueOf (issuePkt 5)) goodEntry = 0 ∧ ((edge (after (.streamIssue 2) s) 2).strms.map (fun t => t.entry)) = [goodEntry] ∧ (edge s 2).lateQ = [])
    ∧ (let s := asked 5 [(5, plainEntry)]
      streamCheck s 2 (issueOf (issuePkt 5)) plainEntry = 1 ∧ (edge (after (.streamIssue 2) s) 2).failQ = [(issueOf (issuePkt 5), 1, 1)]) := by decide +kernel
/-- A stream from HBM to the basin, in its own engine; a line that is marked. -/
def hbmStrm : Strm := ⟨issueOf (issuePkt 5), goodEntry, 0, 0, 0, 0, [], 0⟩
theorem test_wit_StreamDataMoves_basin : let s := modEdge State.reset 2 (fun x => { x with strms := [hbmStrm] })
    let m := modStack s 4 (fun x => { x with marks := [0x40_0000_0000 / 64] })
    nextStrm (edge s 2).strms = some hbmStrm ∧ byteAddr hbmStrm.issue goodEntry false 0 = 0x40_0000_0000 ∧ chunkLen goodEntry 0 0x40_0000_0000 false = 64
      ∧ (meetErrors s 0x40_0000_0000 64 0 []).2 = Option.none ∧ (meetErrors s 0x40_0000_0000 64 0 [⟨0, 2, 0⟩]).2.isSome = true ∧ (meetErrors m 0x40_0000_0000 64 0 []).2.isSome = true
      ∧ ownLine s 2 0x40_0000_0000 false = true ∧ ((edge (after (.streamMove 2 []) s) 2).outQ.map (fun p => p.payload.length)) = [64]
      ∧ (edge (after (.streamMove 2 []) m) 2).outQ = [] := by decide +kernel
/-- The scrub of a stack's line 0: its home, and a correction that the stack reports. -/
theorem test_wit_StreamDataMoves_scrub : let s := wf State.reset (HBM_CFG 4) Fd.HBM_CFG_SCRUB_EN 1
    stackLine s 4 (stack s 4).scrub = some 0x40_0000_0000 ∧ homeOf s 0x40_0000_0000 = some (4, 0) ∧ rf s (HBM_ECC_LOG 4) Fd.HBM_ECC_LOG_VALID = 0
      ∧ live (after (.hbmPatrolScrub 4 3 0) s) (HBM_CHc_ODECC 4 0) = 1#64 := by decide +kernel
/-- Entry 0 is the band map: a change is refused while bands hold data of a loaded image; a clean one is written (R312). -/
theorem test_wit_TransferEngineProtocol_bands : bandMapClean 0 = true ∧ bandsHeld State.reset (fun _ => true) = false
    ∧ rf (after (.stmTblWrite .steward wctrl) State.reset) STM_TBL_WCTRL Fd.STM_TBL_WCTRL_ERR = 0 := by decide +kernel

/-! Host and register access. -/

def noFound : Found := ⟨⟨true, []⟩, [], true⟩
/-- The address of HBM_CFG of stack 4. -/
def hbmA : BitVec 49 := BitVec.ofNat 49 (HBM_CFG 4)
theorem test_wit_HostAccessEffects_write : hbmA.toNat < 2 ^ 48 ∧ (locate hbmA.toNat).map (fun x => x.2.1) = some 4 ∧ mayAccess State.reset .steward hbmA.toNat true = true
    ∧ mayAccess State.reset (.host 0 2) hbmA.toNat true = false ∧ ¬ (firmwareOf (.host 0 2) = true ∧ inStewardWindow hbmA.toNat = true)
    ∧ rf State.reset FLT_ACCESS Fd.FLT_ACCESS_VALID = 0 ∧ ((locate hbmA.toNat).bind (fun x => findRow x.1 x.2.2)).isSome = true ∧ (locate hbmA.toNat).map (fun x => x.2.2 % 8) = some 0 := by decide +kernel
theorem test_wit_HostAccessEffects_window : firmwareOf .steward = true ∧ inStewardWindow 0x0620_0000_0000 = true ∧ inStewardWindow 0x0621_00FF_FFFF = true
    ∧ inStewardWindow 0x0621_0100_0000 = false := by decide +kernel
theorem test_wit_HostAccessEffects_bar0 : (locate (panelCsr + (PWR_STATUS - panelCsr))).map (fun x => (x.1, x.2.1)) = some (.pPwr, 0)
    ∧ ((locate PWR_STATUS).bind (fun x => findRow x.1 x.2.2)).isSome = true ∧ mayAccess State.reset (.host 0 0) PWR_STATUS false = true
    ∧ mayAccess State.reset (.host 0 2) PWR_STATUS false = false := by decide +kernel

/-- Function 1 of port 0 runs as partition 0's tenant, its aperture 0 enabled with key slot 1 at address 0. -/
def tenantState : State := wr (wf State.reset (SEC_PARTp 0) Fd.SEC_PARTp_TDI_RUN 1) (MGT_FN_APn (fnUnit 0 1) 0)
  (fset Fd.MGT_FN_APn_EN 1 (fset Fd.MGT_FN_APn_KEY 1 0#64))
theorem test_wit_HostAccessEffects_aperture : clsOf tenantState (.host 0 1) = .tenant 0 ∧ rejected tenantState 0 = false ∧ panelData tenantState 0x800_0000 64 = false
    ∧ partOfData tenantState 0x800_0000 = 0 ∧ partOfKey tenantState 1 = some 0 ∧ markedLine tenantState 0x800_0000 64 = Option.none
    ∧ fget Fd.MGT_FN_APn_EN (rd State.reset (MGT_FN_APn (fnUnit 0 1) 0)) = 0
    ∧ memRead (after (.apertureAccess 0 1 0 0x800_0000#30 true (List.replicate 64 9#8) 0 0 noFound) tenantState) 0x800_003F = 9#8 := by decide +kernel
theorem test_wit_HostAccessEffects_delivery : ∀ k ∈ [0, 1, 2], let s := modPnl State.reset (fun p => { p with hostQ := [(0, 1, k, [])] })
    s.pnl.hostQ.find? (fun q => q.1 == (0 : Fin 2).val && q.2.1 == (1 : Fin 5).val) = some (0, 1, k, []) ∧ (after (.hostDelivery 0 1) s).pnl.hostQ = [] := by decide +kernel
theorem test_fault_ring_full : let c := fset Fd.MGT_FN_FR_CTL_EN 1 (fset Fd.MGT_FN_FR_CTL_LOG2 4 (fset Fd.MGT_FN_FR_CTL_HEAD 16 0#64))
    let s := modPnl (wr State.reset (MGT_FN_FR_CTL (fnUnit 0 1)) c) (fun p => { p with hostQ := [(0, 1, 0, [])] })
    fnTakes s (fnUnit 0 1) 0 = true ∧ (rd (after (.hostDelivery 0 1) s) (MGT_FN_IRQ (fnUnit 0 1))).getLsbD 6 = true := by decide +kernel
/-- Function 1 of port 0 with its aperture 0 at an address; the doubleword that a host may write at BAR0. -/
def apAt (a : Nat) : State :=
  wr tenantState (MGT_FN_APn (fnUnit 0 1) 0) (fset Fd.MGT_FN_APn_EN 1 (fset Fd.MGT_FN_APn_KEY 1 (fset Fd.MGT_FN_APn_BASE (a / 2 ^ 30) 0#64)))
def irqA : BitVec 49 := BitVec.ofNat 49 (MGT_FN_IRQ (fnUnit 0 1))
theorem test_wit_HostCommandsComplete_registers : 2 ^ 48 ≤ irqA.toNat ∧ inStewardWindow irqA.toNat = false ∧ ownPage State.reset (.host 0 1) irqA.toNat = true
    ∧ locate irqA.toNat = some (.fn, 1, 0x80) ∧ (findRow .fn 0x80).isSome = true ∧ mayAccess State.reset (.host 0 0) SUO_RT_CTRL true = true
    ∧ inStewardWindow (panelCsr + (SUO_RT_CTRL - panelCsr)) = false ∧ SUO_RT_CTRL - panelCsr < 2 ^ 24 := by decide +kernel
theorem test_wit_HostCommandsComplete_basin : let s := apAt (basinBase 0)
    let m : Bool → MaintReq := fun w => ⟨.host 0 1, w, 0, List.replicate 8 9#8⟩
    let z := modSite s 0 (fun x => { x with zfLeft := [0] })
    clsOf s (.host 0 1) = .tenant 0 ∧ isData (basinBase 0) = true ∧ rejected s (basinBase 0) = false ∧ partOfData s (basinBase 0) = 0
      ∧ (∀ w ∈ [true, false], maintReady s 0 (m w) = true) ∧ siteBusy s 0 = false ∧ zeroFilling s 0 (regionOf 0) = false ∧ maintReady z 0 (m true) = false
      ∧ memRead (after (.apertureAccess 0 1 0 0#30 true (List.replicate 8 9#8) 0 0 noFound) s) (basinBase 0 + 7) = 9#8
      ∧ (site (after (.apertureAccess 0 1 0 0#30 true (List.replicate 8 9#8) 0 0 noFound) z) 0).maint = [m true] := by decide +kernel
theorem test_wit_HostCommandsComplete_csr : let s := apAt PWR_STATUS
    let a := PWR_STATUS / 2 ^ 30 * 2 ^ 30 + PWR_STATUS % 2 ^ 30
    isData a = false ∧ a % 8 = 0 ∧ mayAccess s (.host 0 1) a false = true ∧ mayAccess s (.host 0 1) (RIL_STATUS 0) true = true ∧ isData (RIL_STATUS 0) = false
      ∧ inStewardWindow (RIL_STATUS 0) = false ∧ homeEnabled tenantState 0 = true := by decide +kernel
theorem test_wit_HostCommandsComplete_delivery : let s := modPnl (wr (wf (wf State.reset (MGT_FN_FPR_ADDR (fnUnit 0 1)) Fd.MGT_FN_FPR_ADDR_EN 1) (MGT_FN_PS_CTL (fnUnit 0 1)) Fd.MGT_FN_PS_CTL_EN 1)
      (MGT_FN_FR_CTL (fnUnit 0 1)) (fset Fd.MGT_FN_FR_CTL_EN 1 (fset Fd.MGT_FN_FR_CTL_LOG2 4 0#64))) (fun p => { p with hostQ := [(0, 1, 1, [5#8])] })
    (∀ k ∈ [0, 1, 2], fnTakes s (fnUnit 0 1) k = true) ∧ (rd (after (.hostDelivery 0 1) s) (MGT_FN_IRQ (fnUnit 0 1))).getLsbD 1 = true
      ∧ fnTakes (fenceUnit s 11 0 4) 0 1 = false := by decide +kernel

/-! Ports. -/

def ps (p n : Nat) : State := wf State.reset (portStat p) Fd.SUO_PORTp_STATUS_STATE n
def withPort (p : Nat) (s : State) (f : PortX → PortX) : State := modPort s p f
theorem test_wit_PortStateTransitions_train : let s := wf State.reset (SUO_PORTp_CFG 15 7) Fd.SUO_PORTp_CFG_ENABLE 1
    portState s 127 = 0 ∧ portEnabled s 127 = true ∧ rf s (SUO_PORTp_CFG (pE 127) (pI 127)) Fd.SUO_PORTp_CFG_ENABLE = 1 ∧ portState (after (.portTrainStart 127) s) 127 = 1
      ∧ portState (after (.portTrainLock 127) (ps 127 1)) 127 = 2 ∧ portState (after (.portTrainTimeout 127) (ps 127 1)) 127 = 0 := by decide +kernel
theorem test_wit_PortStateTransitions_identified : let s := withPort 3 (ps 3 2) (fun x => { x with identRun := 3 })
    portState s 3 = 2 ∧ 3 ≤ (port s 3).identRun ∧ portState (after (.portIdentified 3) s) 3 = 3 := by decide +kernel
/-- R379: the mean of 64 round trips gives the latency; its allowance at its ends, F_ns 600 and 4,000. -/
def measured (n : Nat) : State := withPort 3 (ps 3 3) (fun x => { x with rtCount := 64, rtSum := 128 * n })
theorem test_wit_PortStateTransitions_measured : portState (measured 0) 3 = 3 ∧ (port (measured 0) 3).rtCount = 64 ∧ (linkMapOf (measured 0) 3).isNone = true
    ∧ portState (after (.portMeasured 3 true) (measured 0)) 3 = 4 ∧ portState (after (.portMeasured 3 false) (ps 3 3)) 3 = 6 ∧ (port (ps 3 3) 3).rtCount < 64
    ∧ rf (after (.portMeasured 3 true) (measured 1024)) (SUO_PORTp_LAT 0 3) Fd.SUO_PORTp_LAT_ALLOW = 600
    ∧ rf (after (.portMeasured 3 true) (measured 4424)) (SUO_PORTp_LAT 0 3) Fd.SUO_PORTp_LAT_ALLOW = 2300 := by decide +kernel
theorem test_wit_PortStateTransitions_loss : portState (ps 3 6) 3 = 6 ∧ portState (after (.portFaultTimeout 3) (ps 3 6)) 3 = 0 ∧ (∀ n ∈ [0, 1, 4, 5, 6], portState (ps 3 n) 3 = n)
    ∧ portState (after (.opticalLaneLoss 3) (ps 3 5)) 3 = 6 ∧ portState (after (.laserLoss 3) (ps 3 4)) 3 = 0 := by decide +kernel
theorem test_wit_PortStateTransitions_ratchet : let s := wf (withPort 3 State.reset (fun x => { x with slot := 2 ^ 32 })) (portStat 3) Fd.SUO_PORTp_STATUS_KEYED 1
    rf s (portStat 3) Fd.SUO_PORTp_STATUS_KEYED = 1 ∧ (port (after (.linkKeyRatchet 3) s) 3).keyEpoch = 1 := by decide +kernel

/-- Port 3 MAPPED, in a slot that its map leaves scheduled, with one closed frame that is due. -/
def txf : TxFrame := ⟨[7#2048], some 1, 1⟩
def lit (s : State) : State := wr s (SUO_ENG_STATUS 0) (BitVec.allOnes 64)
def sending (fs : List TxFrame) : State := lit (withPort 3 (ps 3 5) (fun x => { x with txq := fs, slot := 5 }))
theorem test_wit_PortSlotProtocol_send : 2 ≤ portState (sending [txf]) 3 ∧ ethernet (sending [txf]) 3 = false ∧ laserOk (sending [txf]) 3 = true ∧ laserOk (ps 3 5) 3 = false ∧ portState (sending [txf]) 3 = 5
    ∧ (port (sending [txf]) 3).resendQ = [] ∧ isSched (sending [txf]) 3 5 = true ∧ (port (sending [txf]) 3).lastOut ≠ some 5
    ∧ (port (after (.slotSend 3) (sending [txf])) 3).txq = [] ∧ ((port (after (.slotSend 3) (sending [])) 3).sent.map (fun g => g.body)) = some .idle := by decide +kernel
def fr (body : FrameBody) : Frame := sealHeader (bareFrame 0#16 0 body)
def schedBody (epoch : BitVec 32) (key : Nat) : FrameBody := .scheduled epoch ⟨key, 1, 0⟩ [7#2048]
theorem test_wit_PortSlotProtocol_receive : (port (after (.slotReceive 3 0 0#7 0#64 (fr (schedBody 0#32 0))) (ps 3 5)) 3).rxw.map (fun f => f.chunks) = [[7#2048]]
    ∧ (port (after (.slotReceive 3 0 0#7 0#64 (fr (schedBody 1#32 0))) (ps 3 5)) 3).rxw = [] ∧ (fr (schedBody 0#32 0)).hcrc = hcrcOf (fr (schedBody 0#32 0))
    ∧ ivHolds (port (ps 3 5) 3) ⟨0, 1, 0⟩ = true ∧ ivHolds (port (ps 3 5) 3) ⟨7, 1, 0⟩ = false
    ∧ badWords 0#7 0 = 0 ∧ badWords 1#7 0 ≠ 0 ∧ (port (after (.slotReceive 3 0 1#7 0#64 (fr .idle)) (ps 3 5)) 3).naks = [(0, false)]
    ∧ (port (after (.slotReceive 3 0 0#7 0#64 { fr .idle with hcrc := 0xA5#8 }) (ps 3 5)) 3).naks = [(0, false)] ∧ (port (ps 3 5) 3).rxw = [] ∧ (port (ps 3 5) 3).rxSeq = 0 := by decide +kernel
/-- R378, R379: a control frame in MEASURE gives a round trip: received at 500, with the echo of 100 and a turn of 60. -/
def whoami : Identity := { serial := 7#128, panel := 9#10, port := 5, variant := 0#2, role := false, fprGen := 1#32 }
theorem test_wit_PortSlotProtocol_control : let u := after (.slotReceive 3 0 0#7 500#64 (fr (.control whoami ⟨400, 100, 60⟩))) (ps 3 3)
    portState (ps 3 3) 3 = 3 ∧ (port u 3).rtSum = 340 ∧ (port u 3).rtCount = 1 ∧ (port u 3).ctlStamp = 400 ∧ (port u 3).ident = some whoami := by decide +kernel
/-- R353, R366: an open slot of a port that is up carries a dynamic frame; a closed port's port bit patterns come from slot 0's open mask. -/
theorem test_wit_PortSlotProtocol_dynamic : let s := lit (withPort 3 (ps 3 5) (fun x => { x with slot := 15 }))
    isOpen s 3 15 = true ∧ ((port (after (.slotSend 3) s) 3).sent.map (fun g => bodyKind g.body)) = some 2 ∧ (port (after (.slotSend 3) s) 3).txCover.length = 1 := by decide +kernel
theorem test_wit_PortSlotProtocol_nak : let s := withPort 3 (ps 3 5) (fun x => { x with nakSent := [(7, 10)], slot := 74 })
    (port s 3).nakSent.find? (fun q => Nat.ble (q.2 + 64) (port s 3).slot) = some (7, 10) ∧ (port (after (.nakRetry 3) s) 3).naks = [(7, false)] := by decide +kernel

/-- The edge program of die 0 in one entry: configuration 0 sends source code 0x30 to output 0 and to the queue of port 3. -/
def edgeRun : State :=
  setTab (setTab (setTab (modEdge State.reset 0 (fun x => { x with progEmpty := false })) (edgeHopKey 0 0) 5) (edgeCfgKey 0 0 0) 0x33) (edgeCfgKey 0 0 3) (0x10 * 2 ^ 24)
theorem test_wit_PortSlotProtocol_append : let s := modDom edgeRun 144 (fun x => { x with ring := [⟨0, 0, [(0, 9#2048)], true⟩] })
    let full := withPort 3 s (fun x => { x with txq := List.replicate 64 txf })
    let last := withPort 3 s (fun x => { x with opn := List.replicate 15 1#2048 })
    held s 144 = false ∧ (port s 3).appended ≠ some (scOf s 144) ∧ edgeSource (edgeAdvance s 0 0 1) 0 0 (edgeByte (edgeAdvance s 0 0 1) 0 27) = some 9#2048
      ∧ (port (after (.txQueueAppend 3) s) 3).opn = [9#2048] ∧ held (after (.txQueueAppend 3) full) 144 = true ∧ (port (after (.txQueueAppend 3) last) 3).txq.length = 1
      ∧ (port (after (.txQueueAppend 3) edgeRun) 3).opn = [] := by decide +kernel
theorem test_wit_PortSlotProtocol_eligible : let s := withPort 3 (ps 3 5) (fun x => { x with txq := [⟨[7#2048], Option.none, 0⟩], slot := 5 })
    (port s 3).txq = [] ++ ⟨[7#2048], Option.none, 0⟩ :: [] ∧ portState s 3 = 5 ∧ ([] : List TxFrame).length < (port s 3).credits ∧ nextSched s 3 5 = some 5
      ∧ (port (after (.frameEligible 3) s) 3).txq = [⟨[7#2048], some 5, 5⟩] := by decide +kernel
def rxf (used : Nat) (ready : Bool) : RxFrame := ⟨0, [7#2048, 8#2048], 0, used, ready⟩
theorem test_wit_PortSlotProtocol_present : let s := fun u r => withPort 3 edgeRun (fun x => { x with rxw := [rxf u r] })
    held edgeRun 144 = false ∧ (port edgeRun 3).presented ≠ some (scOf edgeRun 144) ∧ (List.range 32).any (fun i => edgeByte (edgeAdvance edgeRun 0 0 1) 0 i == 0x30 + pI 3) = true
      ∧ headFrame (port (s 0 true) 3) = some (rxf 0 true) ∧ (port (after (.rxWeirPresent 3) (s 0 true)) 3).rxSeq = 0
      ∧ (port (after (.rxWeirPresent 3) (s 1 true)) 3).rxSeq = 1 ∧ held (after (.rxWeirPresent 3) (s 0 false)) 144 = true
      ∧ portRetired edgeRun 3 = false := by decide +kernel
theorem test_wit_PortSlotProtocol_epoch : let v := fset Fd.SUO_PORTp_EPOCH_TX 4 (fset Fd.SUO_PORTp_EPOCH_RX 9 0#64)
    mayAccess State.reset .steward (SUO_PORTp_EPOCH (pE 3) (pI 3)) true = true ∧ held (ps 3 5) 144 = false
      ∧ rf (after (.epochWrite .steward 3 2 v) State.reset) (SUO_PORTp_EPOCH 0 3) Fd.SUO_PORTp_EPOCH_RX = 9
      ∧ rf (after (.epochWrite .steward 3 2 v) (ps 3 5)) (SUO_PORTp_EPOCH 0 3) Fd.SUO_PORTp_EPOCH_RX = 0 := by decide +kernel

/-! Packets between panels. Panel 0 is this one: its entry of both copies of the route table is 0xE. -/
def routes : State := wr (wr State.reset (SUO_RTc_n 0 0) 0xE#64) (SUO_RTc_n 1 0) 0xE#64
def inTransit (p : PanelPkt) (die : Nat) : State := modEdge routes die (fun x => { x with transit := [⟨p, 0, some 17⟩] })
theorem test_wit_PanelPacketRouting_route : (let s := inTransit (ppkt []) 3
      (edge s 3).transit.find? (fun x => !isLocal s 3 x) = some ⟨ppkt [], 0, some 17⟩ ∧ routePacket s (turnLeg s (ppkt [])) = .deliver
        ∧ (edgeSeat s 3).isSome = true ∧ (edgeSeat s 2).isSome = true ∧ (edge (after (.panelPacketRoute 3) s) 3).outQ.length = 1)
    ∧ (let s := inTransit { ppkt [] with dst := 12#10 } 3
      routePacket s (turnLeg s { ppkt [] with dst := 12#10 }) = .drop ∧ (edge (after (.panelPacketRoute 3) s) 3).transit = []) := by decide +kernel
/-- A READY port of trunk 2, and a packet whose route is that trunk. -/
theorem test_wit_PanelPacketRouting_port : let q := { ppkt [] with dst := 1#10, leg := true }
    let s := wr (wr (ps 31 4) (SUO_TRUNK_n 1) (2 * 2 ^ 60)) (SUO_RTc_n 0 0) 0x020E#64
    let u := modEdge s 3 (fun x => { x with transit := [⟨q, 0, some 17⟩] })
    routePacket u (turnLeg u q) = .port 31 ∧ tooOld u 0 = false ∧ pE 31 = 3 ∧ ((port (after (.panelPacketRoute 3) u) 31).dynOut.length) = 1 := by decide +kernel
theorem test_wit_PanelPacketRouting_age : let s := wr (inTransit (ppkt []) 3) TIME_SEC 10#64
    let u := modPort (wr routes TIME_SEC 10#64) 31 (fun x => { x with dynOut := [(2, 0, ppkt [])] })
    (edge s 3).transit.find? (fun x => tooOld s x.since) = some ⟨ppkt [], 0, some 17⟩ ∧ (edge u 3).transit = [] ∧ oldOut u 31 = some (2, 0, ppkt []) := by decide +kernel
theorem test_wit_PanelPacketRouting_deliver : ∀ k ∈ [0#2, 1#2, 2#2, 3#2], let p := { ppkt [1#8] with dkind := k }
    let s := inTransit p 2
    (edge s 2).transit.find? (fun x => isLocal s 2 x && (tooOld s x.since || !rendFull s 2 x.pkt)) = some ⟨p, 0, some 17⟩ ∧ p.crcOk = true ∧ epochOk s 2 p = true := by decide +kernel
theorem test_wit_PanelPacketRouting_deliver_next : (edge (after (.panelPacketDeliver 2) (inTransit { ppkt [1#8] with dkind := 1#2 } 2)) 2).arrived.length = 1
    ∧ (after (.panelPacketDeliver 0) (inTransit { ppkt [1#8] with dkind := 2#2, dedge := 0 } 0)).pnl.stIn.length = 1 ∧ stewardWired routes 0 = true ∧ stewardWired routes 2 = false
    ∧ ((edge (after (.panelPacketDeliver 2) (inTransit { ppkt [1#8] with dkind := 2#2 } 2)) 2).outQ.map (fun y => y.kind)) = [6#4]
    ∧ epochOk routes 2 { ppkt [] with epoch := 1#32 } = false := by decide +kernel
theorem test_wit_PanelPacketRouting_flip : mayAccess routes .steward SUO_RT_CTRL true = true ∧ routeCur (after (.rtCurFlip .steward 1#64) routes) = 1 := by decide +kernel

/-- Die 0 with a gateway port: the fuse names port 0 of its side, which runs Ethernet, and its rings of 4,096 descriptors lie at 1 GiB. -/
def gwState : State :=
  let s := wf (wf (wf (lit (ps 0 2)) (SUO_PORTp_CFG 0 0) Fd.SUO_PORTp_CFG_MODE 1) (SUO_PORTp_CFG 0 0) Fd.SUO_PORTp_CFG_ENABLE 1) (SUO_GW_CFG 0) Fd.SUO_GW_CFG_ENABLE 1
  let ring := fun (s : State) (ctl base : Nat) => wr (wf (wf s ctl Fd.SUO_GW_RXCTL_LOG2 12) ctl Fd.SUO_GW_RXCTL_TAIL 1) base (fset Fd.SUO_GW_RXBASE_BASE 0x4_0000 0#64)
  ring (ring s (SUO_GW_TXCTL 0) (SUO_GW_TXBASE 0)) (SUO_GW_RXCTL 0) (SUO_GW_RXBASE 0)
def ethFrame (n : Nat) : EthFrame := { bytes := List.replicate n 5#8, fcsOk := true, tagOk := true }
theorem test_wit_PanelPacketRouting_gateway : gwOn gwState 0 = true ∧ headDesc gwState (SUO_GW_TXCTL 0) (SUO_GW_TXBASE 0) = some (0, 0x4000_0000, 0, 0)
    ∧ headDesc gwState (SUO_GW_RXCTL 0) (SUO_GW_RXBASE 0) = some (0, 0x4000_0000, 0, 0) ∧ gatewayOf gwState 0 = some 0 ∧ ethernet gwState 0 = true
    ∧ 64 ≤ (ethFrame 64).bytes.length ∧ (ethFrame 64).bytes.length ≤ 9216 ∧ (port (after (.pfcReceive 0 0 true) gwState) 0).paused = true := by decide +kernel
/-- A descriptor of each ring: a buffer of 64 bytes at 1.25 GiB under key slot 1; the transmit descriptor of `bad` names no key slot. -/
def gwDesc (key : Nat) : State :=
  let d := bytesOf 8 (0x5000_0000 + 64 * 2 ^ 48) ++ bytesOf 8 key
  memWrites gwState 0x4000_0000 d
theorem test_wit_PanelPacketRouting_frame : let s := gwDesc 1
    let d := (0, 0x4000_0000, 0x5000_0000 + 64 * 2 ^ 48, 1)
    let b := (0, 0x4000_0000, 0x5000_0000 + 64 * 2 ^ 48, 0)
    headDesc s (SUO_GW_TXCTL 0) (SUO_GW_TXBASE 0) = some d ∧ headDesc (gwDesc 0) (SUO_GW_TXCTL 0) (SUO_GW_TXBASE 0) = some b ∧ descBarred s d = false ∧ (readDesc s d).2 = Option.none
      ∧ descOk s 0 d 64 = true ∧ descOk (gwDesc 0) 0 b 64 = false ∧ panelRange s 0x5000_0000 64 = false ∧ pausedFrame s 0 (List.replicate 64 5#8) = false
      ∧ markedLine s 0x5000_0000 64 = Option.none ∧ (markedLine (modStack s 0 (fun x => { x with marks := [0x5000_0000 / 64] })) 0x5000_0000 64).isSome = true
      ∧ memReads (after (.gatewayRxFrame 0 (ethFrame 64)) s) 0x5000_0000 64 = List.replicate 64 5#8
      ∧ rf (after (.gatewayTxFrame 0 []) s) (SUO_GW_TXCTL 0) Fd.SUO_GW_RXCTL_HEAD = 1 := by decide +kernel
/-- A ring in the stream table's range; a frame of the paused priority. -/
theorem test_wit_PanelPacketRouting_barred : descBarred gwState (0, tableBase gwState, 0, 0) = true
    ∧ pausedFrame (after (.pfcReceive 0 0 true) gwState) 0 (List.replicate 12 5#8 ++ [0x81#8, 0#8, 0#8, 0#8] ++ List.replicate 48 5#8) = true := by decide +kernel
theorem test_wit_PanelPacketRouting_rows : rejected State.reset (baseSuo 2 + 0x10_0000) = false ∧ permitted State.reset (clsOf State.reset .steward) true .suo 2 0x3000 = true
    ∧ rf State.reset (SUO_PROG_ERR 2) Fd.SUO_PROG_ERR_LOCK = 0 ∧ edgeCfgCheck State.reset 2 0 0 = 0 ∧ edgeCfgCheck State.reset 2 40 1 = 2 ∧ edgeHopCheck 1 = 0 ∧ edgeHopCheck 0 = 2
    ∧ tab (after (.suoProgRowWrite .steward 2 (Fin.ofNat 0x4_0000 0x1_0000) 0x1_0000_0001#64) State.reset) (edgeHopKey 2 0) = 1 := by decide +kernel

/-! Loads. One set of one placement (edge die 0, HBM address 16 MiB, 64 bytes), with no panel before or after it in the chain. -/

def plc0 (st tries : Nat) : PlcX :=
  ⟨{ set := 0, dest := 1, frozen := false, shared := false, clean := true, home := 0, index := 0, addr := 0x100_0000, key := 1, known := true, bytes := 64, digest := 0#384 }, st, tries, 0, 0⟩
def man0 (up : Nat) : Manifest :=
  { partition := 0, pmode := 0, fprGen := 0, panel := 0, fprDigest := 0, digest := 0#384, sets := [⟨0, 0, 0, up, 0xFFFF⟩], placements := [(plc0 0 0).pl], ringPos := 0,
    ringLen := 0, ringPrev := 0, ringNext := 0, group := some ⟨0, 1, 0, 4096, [], 0, [(0, 0x100_0000, 0x200_0000, 0x300_0000)], true⟩ }
def load0 (up st tries : Nat) (slots : List SlotX) : LoadX := ⟨man0 up, [plc0 st tries], [⟨[0], 0⟩], slots, false, false⟩
def loading (code : Nat) (l : LoadX) : State :=
  wf (modPart (modPnl State.reset (fun p => { p with ld := some 0 })) 0 (fun x => { x with load := some l })) STM_LD_STATUS Fd.STM_LD_STATUS_STATE code
def verdict0 : Verdict := ⟨true, []⟩

theorem test_wit_ModelLoadProtocol_may : mayAccess State.reset .steward STM_LD_CMD true = true ∧ ldAllowed State.reset .steward (ldTarget State.reset true) = true
    ∧ ldTest State.reset verdict0 = some (1, 0) ∧ rf (after (.ldCheck .steward verdict0) State.reset) STM_LD_STATUS Fd.STM_LD_STATUS_CODE = 1 := by decide +kernel
theorem test_wit_ModelLoadProtocol_start : let l := load0 0xFFFF 0 0 []
    let s := loading 1 l
    curLd s = some (0, l) ∧ ldState s = 1 ∧ ldAllowed s .steward (ldTarget s false) = true ∧ (∀ x ∈ l.plcs, x.pl.home < 16)
      ∧ fprMatches s 1 0 = false ∧ fprMatches s l.man.fprGen l.man.fprDigest = true ∧ rf (after (.ldStart .steward) s) STM_LD_STATUS Fd.STM_LD_STATUS_STATE = 2
      ∧ rf (after (.ldVerify .steward verdict0) s) STM_LD_STATUS Fd.STM_LD_STATUS_STATE = 5
      ∧ rf (after (.ldAbort .steward) s) STM_LD_STATUS Fd.STM_LD_STATUS_CODE = 0x12 := by decide +kernel
/-- The first block of the placement, in its landing slot: as the feeder put it there, as stream job 5 brings it, and on its way into HBM. -/
def blk0 (job : Option Nat) : SlotX := ⟨0, 0, 0, 0, 0, false, job, []⟩
def out0 : SlotX := ⟨0, 0, 0, 0, 0, true, Option.none, [5]⟩
theorem test_wit_ModelLoadProtocol_chain : let l := load0 0xFFFF 1 0 []
    let s := loading 2 l
    curLd s = some (0, l) ∧ ldState s = 2 ∧ mayAccess s .steward STM_LD_FEED true = true ∧ fedSet l = some 0 ∧ nextBlock l 0 = some (0, 0, 0, 0) ∧ slotFree l 0 0 = true
      ∧ chainLost s l = false ∧ (curLd (after (.ldFeedFilled .steward 1#64) s)).map (fun q => q.2.slots) = some [blk0 Option.none] := by decide +kernel
theorem test_wit_ModelLoadProtocol_landed : (let l := load0 0xFFFF 1 0 [blk0 Option.none]
      l.man.sets[0]? = some ⟨0, 0, 0, 0xFFFF, 0xFFFF⟩ ∧ l.plcs[0]? = some (plc0 1 0)
        ∧ (curLd (after (.ldBlockLanded 0) (loading 2 l))).map (fun q => q.2.plcs.map (fun y => y.blocks)) = some [1])
    ∧ (let l := load0 4 1 0 [blk0 (some 5)]
      let s := wr (loading 2 l) (SUO_RTc_n 0 0) (BitVec.ofNat 64 (2 * 2 ^ 32))
      let f := modEdge s 0 (fun x => { x with jobsFailed := [5] })
      chainLost s l = false ∧ (edge s 0).jobsFailed.contains 5 = false ∧ jobDone s 0 loadEntries 5 = true ∧ rf (after (.ldBlockLanded 0) f) STM_LD_STATUS Fd.STM_LD_STATUS_CODE = 0x11) := by decide +kernel
theorem test_wit_ModelLoadProtocol_freed : let l := load0 0xFFFF 1 0 [out0]
    let s := loading 2 l
    let f := modEdge s 0 (fun x => { x with jobsFailed := [5] })
    let r := modEdge s 0 (fun x => { x with hostJobs := [(5, 1, false)] })
    curLd s = some (0, l) ∧ l.slots.find? (fun x => x.home == (0 : Edge).val && x.slot == (0 : Fin 4).val && x.issued) = some out0 ∧ l.plcs[0]? = some (plc0 1 0)
      ∧ rf (after (.ldSlotFreed 0 0) f) STM_LD_STATUS Fd.STM_LD_STATUS_CODE = 0x11 ∧ (curLd (after (.ldSlotFreed 0 0) s)).map (fun q => q.2.slots) = some []
      ∧ out0.outJobs.any (fun j => (edge r 0).hostJobs.any (fun h => h.1 == j)) = true ∧ (curLd (after (.ldSlotFreed 0 0) r)).map (fun q => q.2.slots) = some [out0] := by decide +kernel
/-- R404: the panel before this one has no route. -/
theorem test_wit_ModelLoadProtocol_lost : chainLost (loading 2 (load0 4 1 0 [])) (load0 4 1 0 []) = true
    ∧ rf (after (.ldBlockLanded 0) (loading 2 (load0 4 1 0 []))) STM_LD_STATUS Fd.STM_LD_STATUS_CODE = 0x12 := by decide +kernel
theorem test_wit_ModelLoadProtocol_digest : ∀ tries ∈ [0, 1, 2], let l := load0 0xFFFF 2 tries []
    curLd (loading 2 l) = some (0, l) ∧ l.plcs[0]? = some (plc0 2 tries) ∧ (plc0 2 tries).state = 2 ∧ (plc0 2 tries).pl.home < 16 := by decide +kernel
theorem test_wit_ModelLoadProtocol_request : ∀ st ∈ [0, 3], let l := load0 4 st 0 []
    loadOf (loading 3 l) (0 : Part).val = some l ∧ l.plcs.findIdx? (fun x => x.pl.set == (0 : Fin 64).val && x.pl.index == (0 : Fin 65536).val) = some 0 ∧ l.man.sets[(0 : Fin 64).val]? = some ⟨0, 0, 0, 4, 0xFFFF⟩
      ∧ (after (.ldShardRequest 0 0 0) (loading 3 l)).pnl.ldMsgs = [⟨st == 0, if st = 0 then 4 else 0xFFFF, 0, 0⟩] := by decide +kernel
theorem test_wit_ModelLoadProtocol_redigest : let s := wr (wf State.reset STM_RD_CFG Fd.STM_RD_CFG_EN 1) TIME_SEC 1_000_000#64
    rf s STM_RD_CFG Fd.STM_RD_CFG_EN = 1 ∧ s.pnl.rdLast + redigestSeconds s ≤ timeSec s ∧ (∀ p, p < 4 → loadOf s p = Option.none)
      ∧ rf (after (.redigestInterval []) s) STM_RD_STATUS Fd.STM_RD_STATUS_PASSES = 1 := by decide +kernel

/-! Erasure coding: the group of `man0` has K 1, so 3 members, and this panel is at position 0. -/

def group (st : Nat) (lost ready : List Nat) : State :=
  modPnl (wf (loading 3 (load0 0xFFFF 3 0 [])) STM_EG_STATUS Fd.STM_EG_STATUS_STATE st) (fun p => { p with eg := { p.eg with lost := lost, win := lost, ready := ready } })
theorem test_wit_ErasureGroupProtocol_commit : ∀ st ∈ [0, 1, 5], mayAccess (group st [] []) .steward STM_EG_CMD true = true ∧ (egRec (group st [] [])).isSome = true ∧ egState (group st [] []) = st
    ∧ egState (after (.egCommit .steward) (group st [] [])) = 2 := by decide +kernel
theorem test_wit_ErasureGroupProtocol_ready : (egRec (group 2 [] [0, 1])).map (fun g => (g.k, g.slices.length)) = some (1, 1) ∧ egState (group 2 [] [0, 1]) = 2
    ∧ egState (after (.egReady 2 []) (group 2 [] [0, 1])) = 1 ∧ egState (after (.egReady 2 []) (group 2 [] [0])) = 2 := by decide +kernel
theorem test_wit_ErasureGroupProtocol_loss : egState (after (.egLoss .steward 2) (group 1 [] [])) = 3 ∧ egState (after (.egLoss .steward 2) (group 3 [0, 1] [])) = 6
    ∧ (after (.egLoss .steward 3) (group 1 [] [])).pnl.eg.lost = [] := by decide +kernel
/-- K 1: both parities of a single data unit equal it at coefficient 1 (R412), so that any one survivor rebuilds the others. -/
theorem test_wit_ErasureGroupProtocol_rebuild : let s := group 3 [0, 1] []
    (0 : Fin 16).val ∈ s.pnl.eg.lost ∧ 2 ≤ s.pnl.eg.lost.length ∧ egState s ≠ 6 ∧ egState s ≠ 5
      ∧ (egRec s).bind (fun g => rebuildUnit g 0 ⟨0, 0, [(2, [5#8, 6#8])]⟩) = some [5#8, 6#8] := by decide +kernel
theorem test_wit_ErasureGroupProtocol_verify : (egRec (group 1 [] [])).map (fun g => [⟨0, 0, [(0, [5#8]), (1, [5#8]), (2, [6#8])]⟩].all (parityHolds g)) = some false := by decide +kernel
def ecReady (n : Nat) : State := wr (wr State.reset (STM_EC_LEN 0) (BitVec.ofNat 64 n)) (STM_EC_DST 0) 0x1000_0000#64
theorem test_wit_ErasureGroupProtocol_engine : mayAccess State.reset .steward (STM_EC_CTRL 0) true = true ∧ (edge State.reset 0).ecBusy = Option.none
    ∧ rf (after (.ecMulxor 0 true 3#8) (ecReady 0)) (STM_EC_CTRL 0) Fd.STM_EC_CTRL_ERR = 1 ∧ (edge (after (.ecDigest 0) (ecReady 4096)) 0).ecBusy = some ⟨2, false, 0, 0, 0x1000_0000, 4096⟩
    ∧ (edge (after (.ecMulxor 0 true 3#8) (ecReady 4096)) 0).ecBusy = some ⟨1, true, 3, 0, 0x1000_0000, 4096⟩ := by decide +kernel
def ecRun (op : Nat) : State := modEdge State.reset 0 (fun x => { x with ecBusy := some ⟨op, true, 3, 0, 0x1000_0000, 64⟩ })
theorem test_wit_ErasureGroupProtocol_done : (∀ op ∈ [1, 2], (edge (ecRun op) 0).ecBusy = some ⟨op, true, 3, 0, 0x1000_0000, 64⟩ ∧ markedLine (ecRun op) 0 64 = Option.none
      ∧ markedLine (ecRun op) 0x1000_0000 64 = Option.none)
    ∧ rf (after (.ecDone 0 true) (ecRun 2)) (STM_EC_CTRL 0) Fd.STM_EC_CTRL_ERR = 1 ∧ (edge (after (.ecDone 0 false) (ecRun 1)) 0).ecBusy = Option.none
    ∧ rf (after (.ecDone 0 false) (ecRun 1)) (STM_EC_CTRL 0) Fd.STM_EC_CTRL_ERR = 0 := by decide +kernel

/-! Supply, heat, throttling. -/

def pw (f : PowerX → PowerX) : State := modPwr State.reset f
theorem test_wit_SupplyResponses_on : (∀ n ∈ [0, 2, 6], let s := pw (fun p => { p with step := n })
      s.pnl.pwr.down = false ∧ s.pnl.pwr.step < 7 ∧ powerBarred s = false ∧ (after .powerOnStep s).pnl.pwr.step = n + 1)
    ∧ (let s := pw (fun p => { p with step := 7, wave := 3 })
      siteState s 3 = 0 ∧ rf (after .sitePowerWave s) (PWR_SITE_STATUS 3) Fd.PWR_SITE_STATUS_N_ON = 1 ∧ rf (after .sitePowerWave s) (PWR_SITE_STATUS 4) Fd.PWR_SITE_STATUS_N_ON = 0) := by
  decide +kernel
theorem test_wit_SupplyResponses_down : (pw (fun p => { p with down := true })).pnl.pwr.down = true ∧ State.reset.pnl.nvmLog.length + State.reset.pnl.log.length ≤ 65536 := by decide +kernel
/-- R583 and R420 at the ends of their ranges. -/
theorem test_wit_SupplyResponses_input : (∀ mv ∈ ([60_001, -60_001] : List Int), (match exec (.inputRange mv) State.reset with | .fault .beyondAbsoluteRating => true | _ => false) = true)
    ∧ (∀ mv ∈ ([42_000, 56_000] : List Int), (after (.inputRange mv) State.reset).pnl.pwr.down = false)
    ∧ (∀ mv ∈ ([38_000, 41_999, 56_001, 58_000] : List Int), (after (.inputRange mv) State.reset).pnl.pwr.down = true ∧ 4 ∈ (after (.inputRange mv) State.reset).pnl.pwr.trig) := by decide +kernel
theorem test_wit_SupplyResponses_pins : (after (.offL true) State.reset).pnl.pwr.down = true ∧ (after (.offL false) (pw (fun p => { p with offLow := true, down := true }))).pnl.pwr.down = false
    ∧ (after (.throttleL true) (pw (fun p => { p with lows := 1 }))).pnl.pwr.trig = [1] ∧ (after (.throttleL true) State.reset).pnl.pwr.trig = [] ∧ standbyOk State.reset = false := by decide +kernel
theorem test_wit_SupplyResponses_phases : (after (.ibcPhaseLoss 1 (some 2)) (wf State.reset (PWR_IBCq 1) Fd.PWR_IBCq_PHASES 255)).pnl.events.map (fun e => (e.cls, e.kind, e.index)) = [(5, 11, 1)] := by
  decide +kernel
theorem test_wit_SupplyResponses_trip : let s := wf (wf State.reset (PWR_SITE_STATUS 5) Fd.PWR_SITE_STATUS_N_ON 1) (PWR_SITE_STATUS 5) Fd.PWR_SITE_STATUS_C_ON 1
    rf s (PWR_SITE_STATUS 5) Fd.PWR_SITE_STATUS_N_ON = 1 ∧ rf s (PWR_SITE_STATUS 5) Fd.PWR_SITE_STATUS_C_ON = 1 ∧ unitCause s 5 3 = 0
      ∧ (∀ r ∈ [0, 1, 3], (after (.railTrip 5 r) s).pnl.events.map (fun e => (e.cls, e.fence.isSome)) = [(4, true)]) := by decide +kernel
theorem test_wit_SupplyResponses_records : mayAccess State.reset .steward (minvReg Option.none) true = true ∧ mayAccess State.reset .steward (minvReg (some (143, 2))) true = true
    ∧ rf State.reset (minvReg (some (143, 2))) Fd.PWR_MINVr_MINV = 65535 ∧ fget Fd.PWR_MINVr_REARM (fset Fd.PWR_MINVr_REARM 1 0#64) = 1
    ∧ rf (after (.minvSample (some (143, 2)) ⟨700, 3⟩) State.reset) (PWR_MINVr 143 2) Fd.PWR_MINVr_MINV = 700 := by decide +kernel
theorem test_wit_SupplyResponses_crack : let s := wf (wf (pw (fun p => { p with rdyn := sput (fun _ => RunAvg.init) 0 ⟨0, 1440, 9, 0, 0⟩ [] })) (PWR_RDYNr 0 0) Fd.PWR_RDYNr_BASE_VALID 1) (PWR_RDYNr 0 0) Fd.PWR_RDYNr_BASE 100
    rf s (PWR_RDYNr 0 0) Fd.PWR_RDYNr_BASE_VALID = 1 ∧ deployed State.reset = false ∧ rf s (PWR_RDYNr 0 0) Fd.PWR_RDYNr_BASE = 100
      ∧ rf (after (.rdynUpdate 0 0 130#16) s) (PWR_RDYNr 0 0) Fd.PWR_RDYNr_CRACK = 1 := by decide +kernel
theorem test_wit_SupplyResponses_wake : let s := fun n => modPnl State.reset (fun p => { p with wakeQ := [7], wakeAt := List.replicate n 0 })
    (s 17).pnl.wakeQ = [7] ∧ (site (after .siteWakeGrant (s 17)) 7).wake = 3 ∧ (after .siteWakeGrant (s 18)).pnl.pwr.wakeDef = [7] := by decide +kernel
theorem test_wit_SupplyResponses_cap : let v := fun c t => fset Fd.PWR_CAP_CAP c (fset Fd.PWR_CAP_TRIP t 0#64)
    mayAccess State.reset .steward PWR_CAP true = true ∧ rf (after (.pwrCapWrite .steward (v 24_000 24_000)) State.reset) PWR_CAP Fd.PWR_CAP_CAP = 24_000
      ∧ rf (after (.pwrCapWrite .steward (v 20_001 20_000)) State.reset) PWR_CAP Fd.PWR_CAP_CAP = rf State.reset PWR_CAP Fd.PWR_CAP_CAP
      ∧ rf (after (.pwrCapWrite .steward (v 20_001 20_000)) State.reset) FLT_ACCESS Fd.FLT_ACCESS_VALID = 1 := by decide +kernel

/-- R434 at a compute die's trip of 100 C, R433 at THR_B. -/
theorem test_wit_ThermalResponses_sample : dieLimits 3 = some (100, 110) ∧ atTrip State.reset 3 = false ∧ 2 ∈ (after (.sensorSample [(3, 100#8)] 20#8 30#8) State.reset).pnl.pwr.trig
    ∧ (after (.sensorSample [(3, 99#8)] 20#8 30#8) State.reset).pnl.pwr.trig = [] ∧ rf (after (.sensorSample [(147, 0xFF#8)] 41#8 30#8) State.reset) (THM_SITE 3) Fd.THM_SITE_THROTTLE = 1
    ∧ (after (.sensorSample [(147, 0xFF#8)] 41#8 30#8) State.reset).pnl.pwr.inletRun = 1 := by decide +kernel
def throttled (n : Nat) : State := wf (pw (fun p => { p with thrLow := sput (fun _ => 0) 3 n [] })) (THM_SITE 3) Fd.THM_SITE_THROTTLE 1
theorem test_wit_ThermalResponses_clear : rf (throttled 100) (THM_SITE 3) Fd.THM_SITE_THROTTLE = 1 ∧ 100 ≤ sget (fun _ => 0) (throttled 100).pnl.pwr.thrLow 3
    ∧ rf (after (.throttleClear 3) (throttled 100)) (THM_SITE 3) Fd.THM_SITE_THROTTLE = 0 := by decide +kernel
theorem test_wit_ThermalResponses_critical : let s := pw (fun p => { p with dieT := sput (fun _ => 0) 3 110 [] })
    dieLimits (3 : Fin 354).val = some (100, 110) ∧ (100, 110).2 ≤ dieTemp s 3 ∧ s.pnl.pwr.down = false ∧ (after (.thermalCritical 3) s).pnl.pwr.down = true := by decide +kernel
theorem test_wit_ThermalResponses_lasting : let s := fun n m => pw (fun p => { p with inletRun := n, flowRun := m })
    (rd (after .inletHigh (s 100_000 0)) THM_EVENTS).getLsbD 3 = true ∧ (rd (after .inletHigh (s 99_999 0)) THM_EVENTS).getLsbD 3 = false
      ∧ (rd (after .flowLow (s 0 1_000_000)) THM_EVENTS).getLsbD 4 = true ∧ swf (fun _ => 0) State.reset.tables = true := by decide +kernel
theorem test_wit_ThermalResponses_model : siteState State.reset 3 ≠ 2 ∧ rf (throttled 0) (THM_SITE 3) Fd.THM_SITE_THROTTLE = 1 ∧ dieBudget 3 = 92 ∧ 2 * 45_999 < 1000 * dieBudget 3 ∧ 1000 * dieBudget 3 ≤ 2 * 46_000 := by decide +kernel

def pst (f : Fld) (v : Nat) (g : PowerX → PowerX) : State := wf (pw g) PWR_STATUS f v
theorem test_wit_ThrottleControl_floor : draw State.reset = 0 ∧ rf State.reset PWR_STATUS Fd.PWR_STATUS_DUTY_PCT = 0 ∧ rf State.reset PWR_STATUS Fd.PWR_STATUS_EMERG = 0
    ∧ (after (.floorWorkUpdate true) State.reset).pnl.pwr.tau = 1 := by decide +kernel
/-- R443: the tenth update takes 5 off the duty, which never falls below 0, or puts 5 on, up to 90. -/
theorem test_wit_ThrottleControl_duty : let s := fun d => pst Fd.PWR_STATUS_DUTY_PCT d (fun p => { p with dutyN := 9, hot := 1 })
    rf (after (.dutyUpdate 0xFFFF#16) (s 90)) PWR_STATUS Fd.PWR_STATUS_DUTY_PCT = 90 ∧ rf (after (.dutyUpdate 0xFFFF#16) (s 10)) PWR_STATUS Fd.PWR_STATUS_DUTY_PCT = 15
      ∧ rf (after (.dutyUpdate 0#16) (s 10)) PWR_STATUS Fd.PWR_STATUS_DUTY_PCT = 5 ∧ rf (s 10) PWR_STATUS Fd.PWR_STATUS_DUTY_PCT ≠ 0
      ∧ hThrottle ∈ (after .dutyHold (s 10)).pnl.causes := by decide +kernel
theorem test_wit_ThrottleControl_emergency : let s := pw (fun p => { p with trig := [1] })
    s.pnl.pwr.trig ≠ [] ∧ rf s PWR_STATUS Fd.PWR_STATUS_EMERG = 0 ∧ rf (after (.emergencyThrottle 0#16 false) s) PWR_STATUS Fd.PWR_STATUS_EMERG = 1
      ∧ rf State.reset PWR_CAP Fd.PWR_CAP_TRIP < (0xFFFF#16).toNat ∧ 0 ∈ (after (.emergencyThrottle 0xFFFF#16 false) State.reset).pnl.pwr.trig := by decide +kernel
theorem test_wit_ThrottleControl_clear : ∀ c ∈ [0, 2, 3], let s := pst Fd.PWR_STATUS_EMERG 1 (fun p => { p with trig := [c] })
    (0#16).toNat ≤ rf s PWR_CAP Fd.PWR_CAP_TRIP ∧ thermalLasts s = false ∧ draw s ≤ capEff s ∧ rf s PWR_STATUS Fd.PWR_STATUS_EMERG = 1
      ∧ rf (after (.emergencyClear 0#16) s) PWR_STATUS Fd.PWR_STATUS_DUTY_PCT = 90 := by decide +kernel

/-! Bring-up and publication. -/

def cfgImage (sv bs : Nat) (ok : Bool) : CfgImage :=
  ⟨0x47464E43, 1, 5, BitVec.ofNat 32 sv, BitVec.ofNat 32 bs, 0xFF#8, 1#8, 0, 8192, [1, 2, 3, 4, 5].map (fun t => ⟨t, 8192, 0, 0, sha384 [], []⟩), ok⟩
def boot (st step : Nat) (f : BootX → BootX) : State :=
  modPnl (wf State.reset BOOT_STATUS Fd.BOOT_STATUS_STAGE st) (fun p => { p with boot := f { p.boot with running := true, step := step, start := Option.none } })
theorem test_wit_BringUpProtocol_slots : let s := fun a b => boot 1 1 (fun x => { x with slotA := a, slotB := b })
    let t := fun a b => after .slotSelection (s a b)
    let a2 := some (cfgImage 2 5 true)
    (s a2 a2).pnl.boot.running = true ∧ stage (s a2 a2) < 2 ∧ rf (t a2 (some (cfgImage 3 1 true))) BOOT_STATUS Fd.BOOT_STATUS_SLOT = 1
      ∧ rf (t a2 (some (cfgImage 2 4 true))) BOOT_STATUS Fd.BOOT_STATUS_SLOT = 0 ∧ rf (t (some (cfgImage 9 9 false)) a2) BOOT_STATUS Fd.BOOT_STATUS_SLOT = 1
      ∧ stage (t Option.none Option.none) = 7 ∧ rf (t Option.none Option.none) BOOT_STATUS Fd.BOOT_STATUS_RECOVERY_CAUSE = 1 := by decide +kernel
theorem test_wit_BringUpProtocol_watchdog : let s := boot 3 4 (fun x => { x with slotB := some (cfgImage 2 5 true) })
    s.pnl.boot.running = true ∧ 2 ≤ stage s ∧ stage s ≤ 5 ∧ rf s BOOT_LOCK Fd.BOOT_LOCK_LOCK = 0 ∧ slotOk s 1 = true ∧ slotFailed s 1 = false
      ∧ slotFailed (after .bootWatchdog s) 0 = true ∧ rf (after .bootWatchdog s) BOOT_STATUS Fd.BOOT_STATUS_SLOT = 1 := by decide +kernel
theorem test_wit_BringUpProtocol_recovery : let s := boot 7 1 (fun x => x)
    stage s = 7 ∧ imageVerifies s (cfgImage 1 1 true) = true ∧ slotImage (after (.romRecoveryImage 1 (cfgImage 1 1 true)) s) 1 = some (cfgImage 1 1 true) := by decide +kernel
theorem test_wit_BringUpProtocol_start : State.reset.pnl.boot.start = some false ∧ swf (fun _ => 0) State.reset.tables = true
    ∧ (modPnl State.reset (fun p => { p with boot := { p.boot with start := some true } })).pnl.boot.start = some true := by decide +kernel
theorem test_wit_BringUpProtocol_panel : ∀ n ∈ ([2, 3, 4, 9, 12] : List (Fin 15)), let s := boot 3 (n.val - 1) (fun x => x)
    s.pnl.boot.running = true ∧ stage s ≠ 7 ∧ stage s ≠ 8 ∧ s.pnl.boot.step < n.val ∧ 2 ≤ stage s ∧ (n.val = 12 → storedRecord s = Option.none) := by decide +kernel
theorem test_wit_BringUpProtocol_units : ∀ x ∈ ([(5, .site 1, .strap 0), (5, .edge 5, .strap 1), (6, .core 9, .fail), (6, .site 1, .shared), (7, .link 0 1, .fail), (7, .link 0 9, .fail),
      (8, .site 1, .pass), (8, .edge 2, .fail), (10, .stack 3, .pass), (11, .engine 3, .fail)] : List (Fin 15 × BringUnit × BringResult)),
    let s := boot 3 9 (fun x => x)
    4 ≤ s.pnl.boot.step ∧ x.2.1 ≠ .panel ∧ (stepWaits s x.1.val x.2.1 = decide (x.1.val = 7)) ∧ sget (fun _ => 0) s.pnl.boot.units (bringKey x.2.1) < x.1.val ∧ stage s = 3 := by decide +kernel
/-- R22, R461: link tests wait for every strap of a cold start, and steps 10 and 11 for step 9. -/
theorem test_wit_BringUpProtocol_waits : (let s := modBoot (boot 3 6 (fun x => x)) (fun b => { b with warm := true })
      stepWaits s 7 (.link 0 1) = false ∧ sget (fun _ => 0) s.pnl.boot.units (bringKey (.link 0 1)) < 7)
    ∧ stepWaits (boot 3 6 (fun x => x)) 10 (.stack 3) = true ∧ stepWaits (boot 3 9 (fun x => x)) 9 (.link 0 1) = false
    ∧ linkUsable (after (.bringupStepDone 9 (.link 0 1) .fail) (boot 3 9 (fun x => x))) 0 1 = false := by decide +kernel
/-- R462: site 1 stands at column 1, row 0, and its strap reads the parity of the two. -/
theorem test_strap : siteState (after (.bringupStepDone 5 (.site 1) (.strap 0)) (boot 3 4 (fun x => x))) 1 = 2
    ∧ siteState (after (.bringupStepDone 5 (.site 1) (.strap 1)) (boot 3 4 (fun x => x))) 1 = 0 := by decide +kernel
theorem test_wit_BringUpProtocol_checks : let s := modPnl State.reset (fun p => { p with boot := { p.boot with checks := [5], scope := 2 } })
    s.pnl.boot.running = false ∧ (5 : Site).val ∈ s.pnl.boot.checks ∧ (∀ x ∈ s.pnl.boot.checks, x = (5 : Site).val) ∧ s.pnl.boot.scope < 5
      ∧ siteState (after (.bringupStepDone 8 (.site 5) .fail) s) 5 ≠ 0 := by decide +kernel
theorem test_wit_BringUpProtocol_firmware : let s := wr (boot 4 9 (fun x => x)) (BOOT_READY_NETn 0) 32#64
    let net := fun (k : Nat) => (rd s (BOOT_READY_NETn (k / 64))).getLsbD (k % 64)
    s.pnl.boot.running = true ∧ 9 ≤ s.pnl.boot.step ∧ (List.range 144).filter net = [5] ∧ siteBusy s 5 = false
      ∧ (let u := wf s (BSN_REGIONn 5 187) Fd.BSN_REGIONn_SCHED_WR 1
        rf u (BSN_REGIONn 5 187) Fd.BSN_REGIONn_SCHED_WR = 1 ∧ sget (fun _ => 0) (after (.firmwareDigestResult 5 false) u).pnl.boot.fwTries 5 = 1) := by decide +kernel
theorem test_wit_BringUpProtocol_lock : mayAccess State.reset .steward BOOT_LOCK true = true ∧ rf State.reset BOOT_LOCK Fd.BOOT_LOCK_LOCK = 0 ∧ fget Fd.BOOT_LOCK_LOCK 1#64 = 1
    ∧ stage (after (.bootLock .steward 1#64) (boot 5 14 (fun x => x))) = 6 := by decide +kernel

theorem test_wit_RecordPublication : (let s := modPnl State.reset (fun p => { p with pubWant := some 1, boot := { p.boot with cntA := some 6 } })
      s.pnl.pubWant = some 1 ∧ (after .fprPublicationStart s).pnl.pub = some (7, 1) ∧ rf (after .fprPublicationStart s) BOOT_FPR_GEN Fd.BOOT_FPR_GEN_PUB_BUSY = 1)
    ∧ (modPnl State.reset (fun p => { p with pub := some (7, 1) })).pnl.pub = some (7, 1)
    ∧ mayAccess State.reset .steward BOOT_NET_ANNOUNCE true = true ∧ (after (.netAnnounce .steward 1#64) State.reset).pnl.boot.armedMs = some 0 := by decide +kernel

/-! Resets. -/

def bootLocked : State := wf State.reset BOOT_LOCK Fd.BOOT_LOCK_LOCK 1
def resetCode (i : Instr) (s : State) : Nat := rf (after i s) BOOT_RESET Fd.BOOT_RESET_ERR_CODE
theorem test_wit_ResetScopes_ready : mayAccess bootLocked .steward BOOT_RESET true = true ∧ rf bootLocked BOOT_LOCK Fd.BOOT_LOCK_LOCK = 1 ∧ resetBusy bootLocked = false
    ∧ coreEnabled bootLocked 3 = true ∧ siteState bootLocked 5 = 0 ∧ targetParts bootLocked 1 3 = [] ∧ targetParts bootLocked 3 0 = [] := by decide +kernel
def started : State := wf bootLocked (BOOT_LOAD_STATUSp 0) Fd.BOOT_LOAD_STATUSp_STATE 3
theorem test_wit_ResetScopes_codes : resetCode (.resetCore .steward 3 false) State.reset = 2 ∧ resetCode (.resetCore .steward 3 false) started = 1
    ∧ targetParts started 1 3 = [0] ∧ targetParts started 2 5 = [0] ∧ resetCode (.resetSiteCompute .steward 5 false) (fenceUnit bootLocked 3 5 2) = 3
    ∧ resetCode (.resetPanelCompute .steward false) started = 1 ∧ resetCode (.resetNetwork .steward false) bootLocked = 4 := by decide +kernel
theorem test_wit_ResetScopes_network : let s := fun n => wr (wf (modPnl bootLocked (fun p => { p with boot := { p.boot with armedMs := some 0 } })) (portStat 9) Fd.SUO_PORTp_STATUS_STATE n) TIME_SEC 100#64
    (s 0).pnl.boot.armedMs = some 0 ∧ max 100 (rf (s 0) BOOT_CFG Fd.BOOT_CFG_NET_NOTICE_MS) ≤ timeMs (s 0) - 0 ∧ portState (s 5) 9 = 5
      ∧ resetCode (.resetNetwork .steward false) (s 5) = 5 := by decide +kernel
theorem test_wit_ResetScopes_core : coreState (after (.resetCore .steward 3 false) (wf bootLocked (CORE_STATUS 3) Fd.CORE_STATUS_STATE 6)) 3 = coreState State.reset 3
    ∧ (after (.resetSiteCompute .steward 5 false) bootLocked).pnl.boot.checks = [5] := by decide +kernel

/-! Schedule images. -/

/-- An image of partition 0 with no section's content. -/
def emptyImage : SchedImage :=
  { (default : SchedImage) with magic := 0x4D494353, format := 1, pmode := 1, boundary := [⟨1000, 0, true⟩], length := 256 + imageSig, bodiesOk := true, signaturesOk := true }
def bootReady : State := setSvc 4
where setSvc (i : Nat) : State := wr State.reset BOOT_READY_SVC (BitVec.ofNat 64 (2 ^ i))
theorem test_wit_ScheduleImageLifecycle_load : mayAccess bootReady .steward BOOT_LOAD_CMD true = true ∧ loadCmdAllowed bootReady .steward (BitVec.ofNat 64 (1 + 16 * 0)) = true
    ∧ inPartition bootReady 0 (staged bootReady .steward BOOT_LOAD_SRC) 256 = true ∧ loadBusy bootReady 0 emptyImage = false ∧ loadBusy State.reset 0 emptyImage = true
    ∧ rf (after (.bootLoad .steward 0 emptyImage) State.reset) (BOOT_LOAD_STATUSp 0) Fd.BOOT_LOAD_STATUSp_CODE = 0x0F
    ∧ loadState (after (.bootLoad .steward 0 { emptyImage with magic := 0 }) bootReady) 0 = 5 := by decide +kernel
def loadedImage : State := wf (modPart bootReady 0 (fun x => { x with image := some emptyImage })) (BOOT_LOAD_STATUSp 0) Fd.BOOT_LOAD_STATUSp_STATE 2
/-- An image that passes every test: row 0 lasts 1,000 SCs and has its power record at the lowest point. -/
def goodImage : SchedImage := { emptyImage with power := [⟨0, 0, 3, true, [], []⟩], regions := [(1, 7, 1)], basin := [(1, 5, 9#8)], coreBytes := [(64, 3, 8#8)], entries := [(64, 10, 20)] }
def imageReady : State := wr (wr bootReady (BOOT_READY_SITEn 0) 2#64) (BOOT_READY_NETn 0) 2#64
theorem test_wit_ScheduleImageLifecycle_good : loadBusy imageReady 0 goodImage = false ∧ loadTest imageReady 0 goodImage = Option.none ∧ loadState imageReady 0 = 0
    ∧ tableBase imageReady % 64 = 0 ∧ startTest (modPart (wf imageReady (BOOT_LOAD_STATUSp 0) Fd.BOOT_LOAD_STATUSp_STATE 2) 0 (fun x => { x with image := some goodImage })) 0 goodImage = Option.none := by
  decide +kernel
theorem test_load_writes : let s := after (.bootLoad .steward 0 goodImage) imageReady
    loadState s 0 = 2 ∧ memRead s (basinBase 1 + 5) = 9#8 ∧ cread s 64 3 = 8#8 ∧ rf s (BSN_REGIONn 1 7) Fd.BSN_REGIONn_CLASS = 1 := by decide +kernel
theorem test_wit_ScheduleImageLifecycle_start : (1 : Fin 16).val = 2 ^ (0 : Part).val ∧ loadCmdAllowed loadedImage .steward (BitVec.ofNat 64 (2 + 256 * 1)) = true ∧ loadState loadedImage 0 = 2
    ∧ (rd loadedImage BOOT_READY_SVC).getLsbD 4 = true ∧ (part loadedImage 0).zero = Option.none ∧ (part loadedImage 0).image = some emptyImage
    ∧ (emptyImage.entries.map (fun x => x.1)).Nodup ∧ runningDomain loadedImage = Option.none
    ∧ rf (after (.bootStart .steward 1) State.reset) (BOOT_LOAD_STATUSp 0) Fd.BOOT_LOAD_STATUSp_CODE = 0x0F := by decide +kernel
theorem test_wit_ScheduleImageLifecycle_unload : imageLoaded State.reset 0 = false ∧ imageLoaded loadedImage 0 = true ∧ loadCmdAllowed loadedImage .steward (BitVec.ofNat 64 (3 + 16 * 0)) = true := by decide +kernel

/-- The premises of FusedMaximumRefused, FloorPlanMismatch and OverlapRefused: an image with a row at point 0, one of generation 5, one with two rows at one place. -/
def pwrRow : PwrRow := ⟨0, 0, 0, true, [], []⟩
def twice : Nat := entryOf 1 2 + 2 ^ 208
theorem test_wit_FusedMaximumRefused : let s := wf bootReady FUSE_INFO Fd.FUSE_INFO_MAX_OPPT 1
    loadBusy s 0 { emptyImage with power := [pwrRow] } = false ∧ pwrRow ∈ ({ emptyImage with power := [pwrRow] } : SchedImage).power ∧ pwrRow.oppt.val < fusedMax s := by decide +kernel
theorem test_wit_FloorPlanMismatch : loadBusy bootReady 0 { emptyImage with fprGen := 5 } = false ∧ ({ emptyImage with fprGen := 5 } : SchedImage).fprGen ≠ rf bootReady BOOT_FPR_GEN Fd.BOOT_FPR_GEN_GEN := by
  decide +kernel
theorem test_wit_StartChecksFloorPlan : let s := wf loadedImage BOOT_FPR_GEN Fd.BOOT_FPR_GEN_PUB_BUSY 1
    (∀ q, q < 4 → (1 : Fin 16).val / 2 ^ q % 2 = 1 → loadState s q = 2 ∧ (part s q).zero = Option.none) ∧ (1 : Fin 16).val / 2 ^ (0 : Part).val % 2 = 1 ∧ (part s 0).image = some emptyImage
      ∧ rf s BOOT_FPR_GEN Fd.BOOT_FPR_GEN_PUB_BUSY = 1 := by decide +kernel
theorem test_wit_OverlapRefused : let row := fun (m n : Nat) => (eDstAddr twice : Int) + 64 * (n * signed 32 (ew twice 5 0 32) + m * signed 32 (ew twice 5 32 32))
    eDst twice ≠ 3 ∧ eN1 twice = 2 ∧ eN2 twice = 1 ∧ row 0 0 < row 0 1 + eRowBytes twice ∧ row 0 1 < row 0 0 + eRowBytes twice
      ∧ loadBusy bootReady 0 { emptyImage with streams := [(1, twice)] } = false := by decide +kernel
/-- R378: a loaded image's link map names port 3, and its partner is the one named. -/
def linked : State :=
  let im : SchedImage := { emptyImage with linkMap := [⟨3, 7#128, 9#10, 5, 0, 0, 0⟩] }
  wf (modPart (modPort (measured 1024) 3 (fun x => { x with ident := some whoami })) 0 (fun x => { x with image := some im })) (BOOT_LOAD_STATUSp 0) Fd.BOOT_LOAD_STATUSp_STATE 2
theorem test_wit_PortStateTransitions_mapped : (linkMapOf linked 3).isSome = true ∧ partnerMatches ⟨3, 7#128, 9#10, 5, 0, 0, 0⟩ whoami = true
    ∧ portState (after (.portMeasured 3 true) linked) 3 = 5 := by decide +kernel

/-! Fault records, fences, the lease. -/

/-- A HARDWARE event of site die 13 that fences it and holds domain 13 with ERROR. -/
def event (sev : Nat) (fence : Option (Nat × Nat)) (hold : Option (Nat × Nat)) : FaultEv :=
  ⟨3, sev, 3, 13, 0, 0, 0, 0, 0#64, 0#64, 0#64, hold, fence, Option.none, []⟩
def recOf (n : Nat) (ev : FaultEv) : FltRec := ⟨ev, n, 0, 0, 0, 0, false⟩
def withEvents (es : List FaultEv) (log : List FltRec) : State := modPnl State.reset (fun p => { p with events := es, log := log })
theorem test_wit_FaultRecordHandling_record : (let ev := event 1 Option.none Option.none
      nextEvent (withEvents [ev] []) = some ev ∧ (withEvents [ev] []).pnl.log.find? (fun r => Nat.blt (ackSeq (withEvents [ev] [])) r.seq && sameFault r.ev ev) = Option.none
        ∧ (after .faultRecord (withEvents [ev] [])).pnl.log.map (fun r => r.seq) = [1]
        ∧ (after .faultRecord (withEvents [ev] [recOf 1 ev])).pnl.log.map (fun r => (r.seq, r.merged)) = [(1, 1)])
    ∧ (let ev := event 2 (some (3, 13)) (some (13, hError))
      unitCause (withEvents [ev] []) 3 13 = 0 ∧ needsRelease ev = true ∧ unitCause (after .faultRecord (withEvents [ev] [])) 3 13 = 4
        ∧ (after .faultRecord (withEvents [ev] [])).pnl.toClear = [(13, hError)]) := by decide +kernel
theorem test_wit_FaultRecordHandling_ack : mayAccess State.reset .steward FLT_LOG_ACK true = true
    ∧ rf (after (.fltLogAck .steward 1#64) (withEvents [] [recOf 1 (event 3 Option.none Option.none), recOf 2 (event 2 Option.none Option.none)])) FLT_STATUS Fd.FLT_STATUS_OPEN_SEV = 2 := by decide +kernel
theorem test_wit_FaultRecordHandling_copy : let r := fun n => recOf n (event 1 Option.none Option.none)
    let s := modPnl (withEvents [] [r 1, r 2]) (fun p => { p with nvmLog := [r 1] })
    s.pnl.nvmLog.getLast? = some (r 1) ∧ (after .faultLogNvmCopy s).pnl.nvmLog.map (fun x => x.seq) = [1, 2]
      ∧ (after .faultLogNvmCopy (withEvents [] [r 1])).pnl.nvmLog = [r 1] := by decide +kernel
theorem test_wit_FaultRecordHandling_release : let ev := event 2 Option.none (some (13, hError))
    (withEvents [] []).pnl.events.any needsRelease = false ∧ (withEvents [ev] []).pnl.events.filter needsRelease = [ev] ∧ 2 ≤ ((withEvents [ev, ev] []).pnl.events.filter needsRelease).length
      ∧ rf (after .faultHoldRelease (withEvents [ev, ev] [])) FLT_STATUS Fd.FLT_STATUS_RETIRING = 1 ∧ (after .faultHoldRelease (withEvents [ev] [])).pnl.toClear = [] := by decide +kernel

theorem test_wit_FenceAndRelease_fence : (∀ u ∈ ([⟨1, 9152⟩, ⟨2, 143⟩, ⟨4, 0⟩, ⟨6, 31⟩, ⟨8, 127⟩, ⟨9, 15⟩] : List UnitRef), u.index < unitCount u.kind.val ∧ unitEnabled State.reset u.kind.val u.index = true)
    ∧ unitEnabled (after (.fence ⟨6, 31⟩) State.reset) 6 31 = false ∧ unitEnabled State.reset 10 1 = false := by decide +kernel
/-- A write of FLT_FENCE_CMD with an operation, a kind and an index. -/
def fcmd (op kind i : Nat) : W64 := fset Fd.FLT_FENCE_CMD_OP op (fset Fd.FLT_FENCE_CMD_KIND kind (fset Fd.FLT_FENCE_CMD_INDEX i 0#64))
def fcode (op kind i : Nat) (s : State) : Nat := rf (after (.fltFence .steward (fcmd op kind i)) s) FLT_FENCE_CMD Fd.FLT_FENCE_CMD_ERR_CODE
/-- R199: the basin of a site that becomes a hole is free memory. -/
theorem test_wit_FenceAndRelease_hole : let s := memWrite (memWrite State.reset (basinBase 5) 7#8) (basinBase 6) 8#8
    unitEnabled s 3 5 = true ∧ memRead (after (.fence ⟨3, 5⟩) s) (basinBase 5) = 0#8 ∧ memRead (after (.fence ⟨3, 5⟩) s) (basinBase 6) = 8#8 := by decide +kernel
theorem test_wit_FenceAndRelease_codes : mayAccess State.reset .steward FLT_FENCE_CMD true = true ∧ fget Fd.FLT_FENCE_CMD_ERR (fcmd 1 2 5) = 0 ∧ fget Fd.FLT_FENCE_CMD_OP (fcmd 2 2 5) = 2
    ∧ fcode 1 7 0 State.reset = 1 ∧ fcode 1 2 144 State.reset = 1 ∧ fcode 2 2 5 State.reset = 2 ∧ fcode 1 2 5 (fenceUnit State.reset 2 5 2) = 2
    ∧ fcode 2 2 5 (wf State.reset BOOT_RESET Fd.BOOT_RESET_BUSY 1) = 4 ∧ fcode 1 2 5 State.reset = 0 ∧ unitFused State.reset 2 5 = true
    ∧ (after (.fltRelease .steward (fcmd 2 2 5)) (fenceUnit State.reset 2 5 4)).pnl.relReq = [(2, 5)]
    ∧ unitCause (fenceUnit State.reset 2 5 4) 2 5 = 4 ∧ fcode 2 2 5 (fenceUnit State.reset 2 5 2) = 2 ∧ fcode 2 6 5 (wr State.reset FUSE_STACK_MASK 1#64) = 3 ∧ resetBusy State.reset = false := by decide +kernel

def leased (expired fenced : Nat) (expiry : Nat) : State :=
  let v := fset Fd.FLT_LEASE_EN 1 (fset Fd.FLT_LEASE_EXPIRED expired (fset Fd.FLT_LEASE_FENCED fenced (fset Fd.FLT_LEASE_PERIOD_MS 1000 0#64)))
  wr (wr (wr State.reset FLT_LEASE v) FLT_LEASE_EXPIRY (BitVec.ofNat 64 expiry)) TIME_SEC 5#64
theorem test_wit_LeaseLifecycle : mayAccess State.reset .steward FLT_LEASE_RENEW true = true ∧ mayAccess State.reset .steward FLT_LEASE true = true
    ∧ leaseExpiry (after (.leaseRenew .steward 99_999#64) (leased 1 1 5000)) = 6000 ∧ rf (after (.leaseRenew .steward 5_500#64) (leased 1 1 5000)) FLT_LEASE Fd.FLT_LEASE_FENCED = 0
    ∧ leaseExpiry (after (.leaseRenew .steward 5_500#64) (leased 0 0 5000)) = 5500
    ∧ leaseExpiry (leased 0 0 5000) ≤ timeMs (leased 0 0 5000) ∧ resetBusy (leased 0 0 5000) = false ∧ rf (after .leaseExpiry (leased 0 0 5000)) FLT_LEASE Fd.FLT_LEASE_FENCED = 1
    ∧ rf (after .leaseExpiry (leased 0 0 5001)) FLT_LEASE Fd.FLT_LEASE_FENCED = 0 := by decide +kernel
theorem test_wit_LeaseLifecycle_enable : let v := fset Fd.FLT_LEASE_EN 1 (fset Fd.FLT_LEASE_PERIOD_MS 100 0#64)
    fget Fd.FLT_LEASE_EN v = 1 ∧ rf (after (.leaseEnable .steward v) State.reset) FLT_ACCESS Fd.FLT_ACCESS_VALID = 1
      ∧ leaseExpiry (after (.leaseEnable .steward v) (wf State.reset TIME_STATUS Fd.TIME_STATUS_VALID 1)) = 500
      ∧ rf (after (.leaseEnable .steward 0#64) (leased 1 1 5000)) FLT_LEASE Fd.FLT_LEASE_FENCED = 0 := by decide +kernel

/-! Keys, sessions, partitions. -/

def token (st target : Fin 4) (mfg owner : Bool) (cs : List KeyChange) : Token := ⟨true, st, target, mfg, owner, 7#128, cs⟩
theorem test_wit_LifecycleAndKeyEffects_token : mayAccess State.reset .steward SEC_LC_CMD true = true ∧ mayAccess State.reset .steward (SEC_TOKEN 0) true = true ∧ lifecycle State.reset = 1 ∧ hasOwnerRoot State.reset = true
    ∧ tokenOpens State.reset 2 (token 1 2 false true []) = true ∧ tokenOpens State.reset 3 (token 1 3 true false []) = true ∧ tokenOpens State.reset 2 (token 1 2 true false []) = false
    ∧ rf (after (.lcTransition .steward 2 (token 1 2 true false [])) State.reset) SEC_LC_CMD Fd.SEC_LC_CMD_ERR = 1
    ∧ freeEntry State.reset.pnl.sec.keys = some 1
    ∧ (after (.keyStoreUpdate .steward (token 1 1 false true [.add 9#128 3])) State.reset).pnl.sec.keys = [(0, 1, 0#128), (1, 3, 9#128)] := by decide +kernel

def session (kind : Nat) (leaf : BitVec 384) (queue : List (Nat × List Byte)) : Session := { port := 0, idx := 2, kind := kind, mask := 0, events := 0, leaf := leaf, queue := queue }
def withSession (x : Session) (st : Nat) : State := wf (modPnl State.reset (fun p => { p with sessions := [x] })) (SEC_PARTp 0) Fd.SEC_PARTp_STATE st
def owner0 : State := withSession (session 2 5#384 []) 2
theorem test_wit_LifecycleAndKeyEffects_slots : mayFill owner0 0 2 5 = true ∧ mayFill owner0 0 3 5 = false ∧ (rd (after (.keyImport 0 2 5 (some 77#768)) owner0) SEC_SLOTS).getLsbD 37 = true
    ∧ keyOf (after (.keyImport 0 2 5 (some 77#768)) owner0) 5 = .imported 77 ∧ (after (.keyImport 0 2 5 Option.none) owner0).pnl.reply = some ⟨false, []⟩
    ∧ tab (after (.keyGenerate 0 2 5) owner0) (slotKey 5) = 1 ∧ ownerOfPart owner0 0 2 0 = true ∧ rf (after (.spdmRequest 0 2 (.pmuGrant true)) owner0) (SEC_PARTp 0) Fd.SEC_PARTp_PMU_GRANT = 1 := by decide +kernel
theorem test_wit_LifecycleAndKeyEffects_session : sessionAt State.reset 0 2 = Option.none ∧ mgmtCount State.reset 0 < 4 ∧ mgmtPort 0 = true ∧ mgmtPort 2 = false ∧ portOn State.reset 0 = true
    ∧ (sessionAt (after (.spdmRequest 0 2 (.keyExchange true 5#384 true)) State.reset) 0 2).map (fun x => x.kind) = some 1
    ∧ (sessionAt (after (.spdmRequest 2 2 (.keyExchange true 5#384 true)) State.reset) 2 2).map (fun x => x.kind) = some 0
    ∧ sessionAt (after (.spdmRequest 0 2 .endSession) owner0) 0 2 = Option.none ∧ (measure State.reset 1).isSome = true ∧ measure State.reset 99 = Option.none := by decide +kernel

theorem test_wit_PartitionLifecycle_bind : mayAccess State.reset .steward (SEC_PART_BINDp_n 0 5) true = true ∧ rf (after (.partBindDigest .steward 0 1#64) State.reset) (SEC_PARTp 0) Fd.SEC_PARTp_STATE = 1
    ∧ rf (after (.partBindDigest .steward 0 0#64) State.reset) FLT_ACCESS Fd.FLT_ACCESS_VALID = 1
    ∧ (let s := wr (withSession (session 0 5#384 []) 1) (SEC_PART_BINDp_n 0 0) 5#64
      sessionAt s 0 2 = some (session 0 5#384 []) ∧ bindDigest s 0 = 5#384 ∧ hasOwner s 0 = false ∧ ownerOfPart (after (.bindPart 0 2 0) s) 0 2 0 = true) := by decide +kernel
theorem test_wit_PartitionLifecycle_tdi : (after (.tdiLockInterface 0 2 1 0) owner0).pnl.sec.tdiLocked = [4]
    ∧ rf (after (.tdiStartInterface 0 2 1 0) (after (.tdiLockInterface 0 2 1 0) owner0)) (SEC_PARTp 0) Fd.SEC_PARTp_TDI_RUN = 2
    ∧ (after (.tdiStartInterface 0 2 1 0) owner0).pnl.reply = some ⟨false, []⟩ ∧ ownerOfPart State.reset 0 2 0 = false := by decide +kernel
theorem test_wit_PartitionLifecycle_zeroise : mayAccess State.reset .steward SEC_ZEROIZE true = true ∧ (∀ q, q < 4 → ((1#64).getLsbD q = true ↔ q = (0 : Part).val)) ∧ mayZeroise State.reset .steward 0 = true
    ∧ (part State.reset 0).zero = Option.none ∧ (0 : Part).val < partCount State.reset ∧ mayZeroise State.reset (.host 1 3) 0 = false
    ∧ (part (modPart State.reset 0 (fun x => { x with zero := some false })) 0).zero.isSome = true := by decide +kernel
theorem test_wit_PartitionLifecycle_config : mayAccess State.reset .steward SEC_PART_CFG true = true ∧ mayAccess State.reset .steward SEC_CORRIDOR true = true ∧ partCfgOpen State.reset = true ∧ partCfgOpen owner0 = false
    ∧ partCfgOpen started = false ∧ fget Fd.SEC_PART_CFG_PMODE 2#64 = 2 := by decide +kernel
theorem test_wit_PartitionModeLocked : (∀ p, p < 4 → rf State.reset (SEC_PARTp p) Fd.SEC_PARTp_STATE = 0) ∧ rf State.reset SEC_ZEROIZE Fd.SEC_ZEROIZE_BUSY = 0
    ∧ (∀ p, p < 4 → rf State.reset (BOOT_LOAD_STATUSp p) Fd.BOOT_LOAD_STATUSp_STATE = 0) ∧ rf owner0 (SEC_PARTp 0) Fd.SEC_PARTp_STATE = 2 := by decide +kernel

/-! Management. -/

def mgmt : State := withSession (session 1 0#384 [(6, [1#8])]) 0
theorem test_wit_ManagementRequests : isMgmt State.reset 0 2 = false ∧ isMgmt mgmt 0 2 = true ∧ mayAccess mgmt (.mgmt 0 2) PWR_STATUS false = true ∧ mayAccess mgmt (.mgmt 0 2) (HBM_CFG 4) true = true
    ∧ isData 0 = true ∧ mgtRefused mgmt (.mgmt 0 2) false 0 = true ∧ isData PWR_STATUS = false ∧ (after (.mgtWrite 0 2 9#16 [(0#64, 1#64)] noFound) mgmt).pnl.reply.map (fun r => r.ok) = some false
    ∧ (sessionAt (after (.mgtSubscribe 0 2 9#16 64#64) mgmt) 0 2).map (fun x => x.mask) = some 64 := by decide +kernel
def updating : State := modPnl mgmt (fun p => { p with boot := { p.boot with update := some (0, 2, 0x4001) } })
theorem test_wit_ManagementRequests_update : resetBusy mgmt = false ∧ stage mgmt ≠ 7 ∧ (after (.updateBegin 0 2 9#16 0x600_0000#64) mgmt).pnl.boot.update = some (0, 2, 0x600_0000)
    ∧ (after (.updateBegin 0 2 9#16 0x600_0001#64) mgmt).pnl.boot.update = Option.none ∧ hasUpdate updating 0 2 = true ∧ hasUpdate mgmt 0 2 = false
    ∧ (after (.updateData 0 2 9#16 0x4000#64 [7#8]) updating).pnl.reply.map (fun r => r.ok) = some true
    ∧ (after (.updateData 0 2 9#16 0x4001#64 [7#8]) updating).pnl.reply.map (fun r => r.ok) = some false
    ∧ slotImage (after (.updateEnd 0 2 9#16 true) updating) (otherSlot updating) = Option.none := by decide +kernel
/-- R452, R454: the bytes of an image in the other slot spell that image, which verifies if its signatures do. -/
def written : State :=
  modPnl updating (fun p => { p with boot := { p.boot with nvm := ((cfgHead (cfgImage 1 1 true)).zipIdx.map (fun b => (slotBase (otherSlot updating) + b.2, b.1))).filter (fun e => e.2 != 0#8) } })
theorem test_wit_ManagementRequests_end : slotBytes written (otherSlot written) true = cfgImage 1 1 true ∧ imageVerifies written (cfgImage 1 1 true) = true
    ∧ imageVerifies written (cfgImage 1 1 false) = false ∧ clashes written (cfgImage 1 1 true) = false := by decide +kernel
theorem test_wit_ManagementRequests_events : sessionAt mgmt 0 2 = some (session 1 0#384 [(6, [1#8])]) ∧ (sessionAt (after (.mgtEventDrop 0 2) mgmt) 0 2).map (fun x => (x.events, x.queue)) = some (1, [])
    ∧ (after (.i3cAddressAssign Option.none 9#7) mgmt).pnl.i3c = some 9 ∧ (after (.i3cAddressAssign (some 0x4B#7) 9#7) mgmt).pnl.i3c = mgmt.pnl.i3c
    ∧ (modPnl State.reset (fun p => { p with i3c := some 9 })).pnl.i3c = some (9#7).toNat := by decide +kernel

/-! Time, counters. -/

def commanded (c : Nat) (valid : Nat) : State :=
  modPnl (wf (setStaged (setStaged State.reset .steward TIME_SET_SEC 77) .steward TIME_SET_NS 88) TIME_STATUS Fd.TIME_STATUS_VALID valid) (fun p => { p with time := { p.time with cmds := [(.steward, c)] } })
theorem test_wit_TimeCommandsAndTick : mayAccess State.reset .steward TIME_CMD true = true ∧ (after (.timeSlew .steward) State.reset).pnl.time.cmds = [(.steward, 2)]
    ∧ timeNs (after .timeTick State.reset) = 40 ∧ timeNs (after .timeTick (wr State.reset TIME_NS 999_999_960#64)) = 0 ∧ timeSec (after .timeTick (wr State.reset TIME_NS 999_999_960#64)) = 1
    ∧ (commanded 1 0).pnl.time.cmds = [(.steward, 1)] ∧ timeSec (after .timeTick (commanded 1 0)) = 77 ∧ timeNs (after .timeTick (commanded 1 0)) = 88
    ∧ rf (after .timeTick (commanded 1 1)) TIME_STATUS Fd.TIME_STATUS_STEP_REFUSED = 1 ∧ (commanded 3 1).pnl.time.cmds = [(.steward, 3)] := by decide +kernel
theorem test_wit_TimeCommandsAndTick_shadow : mayAccess State.reset .steward TIME_NS false = true ∧ mayAccess State.reset .steward TIME_MARK_SEQ false = true ∧ mayAccess State.reset .steward (CLK_MARK 159) false = true
    ∧ tab (after (.clkMarkRead .steward 159) (wr State.reset (CLK_MARK_SC 159) 6#64)) (markKey .steward 159) = 6 := by decide +kernel
def ptpOn (valid : Nat) : State := wf (wf State.reset TIME_CFG Fd.TIME_CFG_PTP_EN 1) TIME_STATUS Fd.TIME_STATUS_VALID valid
def ptp (ofs : Int) (ms : Nat) : PtpMsg := { seconds := 1000#48, nanos := 5, offsetNs := ofs, stableMs := ms, utc := some 37#16 }
theorem test_wit_TimeCommandsAndTick_ptp : rf (ptpOn 0) TIME_CFG Fd.TIME_CFG_PTP_EN = 1 ∧ portOn (ptpOn 0) 0 = true ∧ rf (ptpOn 0) TIME_STATUS Fd.TIME_STATUS_VALID = 0 ∧ (ptpOn 0).pnl.time.ptpSet = false
    ∧ timeSec (after (.ptpMessage 0 (ptp 999 10_000)) (ptpOn 0)) = 1000 ∧ rf (after (.ptpMessage 0 (ptp 999 10_000)) (ptpOn 0)) TIME_STATUS Fd.TIME_STATUS_LOCKED = 1
    ∧ rf (after (.ptpMessage 0 (ptp 1000 10_000)) (ptpOn 0)) TIME_STATUS Fd.TIME_STATUS_LOCKED = 0 ∧ rf (after .ptpHoldover (ptpOn 1)) TIME_STATUS Fd.TIME_STATUS_HOLDOVER = 1 := by decide +kernel

theorem test_wit_CounterFreezeAndSamples_overflow : (locate (CLK_STRETCHED 3)).map (fun x => isCounter x.1 x.2.2) = some true ∧ counterWidth (CLK_STRETCHED 3) = 48
    ∧ (let s := State.reset.setLive (sput (fun _ => 0#64) (CLK_STRETCHED 3) (BitVec.ofNat 64 (2 ^ 48 - 1)) [])
      (live s (CLK_STRETCHED 3)).toNat % 2 ^ 63 = 2 ^ 48 - 1 ∧ (live (after (.counterOverflow (BitVec.ofNat 48 (CLK_STRETCHED 3))) s) (CLK_STRETCHED 3)).toNat = 2 ^ 63) := by decide +kernel
def sample : PendSample := ⟨3, 1, 0xFFF, 0, true, 0, 0, 0, 5#256⟩
theorem test_wit_CounterFreezeAndSamples_sample : let s := modCore (atSc State.reset 0 3) 3 (fun x => { x with samples := [sample] })
    (Machine.core s 3).samples.find? (fun p => Nat.ble p.due (scOf s (3 / 64))) = some sample ∧ (rd (after (.sampleWrite 3) s) (CORE_SAMPn 3 0)).toNat = 1
      ∧ (rd (after (.sampleWrite 3) s) (CORE_SAMPn 3 4)).toNat = 5 := by decide +kernel
theorem test_wit_CounterFreezeAndSamples_programme : mayAccess State.reset .steward (CORE_SAMP_CFG 3) true = true ∧ mayAccess State.reset .steward (CORE_EVT_SEL 3) true = true ∧ coreState State.reset 3 ≠ 0
    ∧ (Machine.core (after (.programmeRegisterWrite .steward 3 false 0xFFFF_FFFF_FFFF_FFFF#64) State.reset) 3).evtStaged = some 0xFFFF_FFFF#64
    ∧ coreState (fenceUnit State.reset 1 3 2) 3 = 0 := by decide +kernel
theorem test_wit_CounterFreezeAndSamples_freeze : let s := wf (wf (atSc State.reset 3 1) PMU_CFG Fd.PMU_CFG_EN 1) (CLK_STATUS 3) Fd.CLK_STATUS_ALIGNED 1
    let on := wf s PMU_STATUS Fd.PMU_STATUS_IN_FORCE 1
    atFreeze State.reset 3 = false ∧ atFreeze s 3 = true ∧ freezeOn s = false ∧ freezeOn on = true ∧ freezeAt on = freezeSc on 3 ∧ (dom on 3).frozen = false
      ∧ freezeAt (wr on PMU_FREEZE_SC 5#64) ≠ freezeSc on 3 ∧ atFreeze (modSite s 3 (fun x => { x with routed := some 1 })) 3 = false ∧ (dom (modDom on 3 (fun x => { x with frozen := true })) 3).frozen = true
      ∧ awaits on = false ∧ (modPmu on (fun x => { x with sent := true })).pnl.pmu.sent = true := by decide +kernel
theorem test_wit_CounterFreezeAndSamples_gather : let s := wf State.reset PMU_STATUS Fd.PMU_STATUS_IN_FORCE 1
    freezeOn s = true ∧ s.pnl.pmu.sent = false ∧ ∀ d ∈ lockstep s, (dom s d).frozen = true := by decide +kernel

/-! The whole machine. -/

def one (s : State) : List Instr → State
  | [] => (match step s with | .next t => t | _ => s)
  | cs => (match step (s.setPending cs) with | .next t => t | _ => s)
theorem test_wit_NoOtherStop : firmwareOf .steward = true ∧ inStewardWindow (0x0620_0000_0010#49).toNat = true ∧ inStewardWindow hbmA.toNat = false
    ∧ (match exec (.registerWrite .steward 0x0620_0000_0010#49 0 0#64 noFound) State.reset with | .refused .stewardWindow => true | _ => false) = true := by decide +kernel
/-- The two invariants that every step keeps hold at reset, and a step keeps the queue's rest. -/
theorem test_wit_MemoryFormKept : State.reset.memOk = true ∧ (one State.reset [.offL true, .inletHigh]).pending = [.inletHigh]
    ∧ (one State.reset [.basinDynamicAccess (.scp 0) 0 true 0#26 [1#8, 2#8, 3#8, 4#8] []]).memOk = true := by decide +kernel
theorem test_wit_ScheduleCountersStepByOne : swf (fun _ => DomX.init) State.reset.doms = true ∧ State.reset.doms = [] ∧ swf (fun _ => DomX.init) (atSc State.reset 3 7).doms = true := by decide +kernel
theorem test_wit_ClockCycleEffects : aligned0.pending = [] ∧ lockstep aligned0 = [0] ∧ early aligned0 = [] ∧ (∀ e ∈ lockstep aligned0, e < 0 → held aligned0 e = true)
    ∧ advances (spend aligned0 0) 0 = true ∧ (lockstep (waiting 0)) = [0] ∧ advances (spend (waiting 0) 0) 0 = false := by decide +kernel
theorem test_wit_OneBundlePerSc : issuer (.mxAddi 3 (mx 1 0 0 1#15)) = some 3 ∧ mayIssue (running 3) 3 = true ∧ mayIssue (after (.mxAddi 3 (mx 1 0 0 1#15)) (running 3)) 3 = false
    ∧ (Machine.core (after (.mxAddi 3 (mx 1 0 0 1#15)) (running 3)) 3).issued = some 0 := by decide +kernel
/-- R177's formula at the first line of a row and across the ends of its fields. -/
theorem test_wit_BankMapIsOneToOne : bankOfLine 0 = 0 ∧ bankOfLine 512 = 1 ∧ bankOfLine (2 ^ 18) = 1 ∧ bankOfLine (2 ^ 18 - 1) = 0 ∧ rowOfLine 511 = 0 ∧ rowOfLine 512 = 1 := by decide +kernel
/-- R160, R162: pattern 0 keeps elements 2 and 3 of its first row, in a block whose metadata byte is 0. -/
theorem test_wit_MaskPatternOrder : maskOf [0#8, 89#8] 1 = 0xCC33 ∧ kept 0x33CC 0 2 = true ∧ kept 0x33CC 0 1 = false := by decide +kernel
/-- The vectors of the standards of SHA-384 ("abc") and CRC-32 ("123456789"). -/
theorem test_sha384_abc : sha384 [0x61#8, 0x62#8, 0x63#8]
    = 0xa725c834a1ecba5823cce7a12b078680ed5bff435a608b1a63d1de0eab322c270750c69a693da0b58b5ea3453f7500cb#384 := by decide +kernel
theorem test_crc32_digits : crc32 [0x31#8, 0x32#8, 0x33#8, 0x34#8, 0x35#8, 0x36#8, 0x37#8, 0x38#8, 0x39#8] = 0xCBF43926#32 := by decide +kernel
theorem test_wit_QueueKept : (match exec .inletHigh (State.reset.setPending [.flowLow]) with | .next t => t.pending == [.flowLow] | _ => false) = true := by decide +kernel

end Sys2Proof.Tests
end

namespace Sys2Proof.Machine

/-! O2: which commands answer a next state. A command without branches is `ok` of a state; every branch of the others ends in `ok` too. -/

/-- The outcome is a next state. -/
def Answers (o : Host.Outcome State Fault Refusal) : Prop := ∃ t, o = .next t

theorem answers_ok (s : State) : Answers (ok s) := ⟨s, rfl⟩

/-- The commands of the basin that branch. -/
@[simp] theorem basinCommands_answer :
    (∀ k errs s, Answers (execBasinBankAccess k errs s)) ∧ (∀ k bank s, Answers (execBasinRowRewrite k bank s))
      ∧ (∀ req k w word data errs s, Answers (execBasinDynamicAccess req k w word data errs s)) ∧ (∀ k s, Answers (execBasinDynamicTimeout k s))
      ∧ (∀ k s, Answers (execScrubInterval k s)) ∧ (∀ k bank errs s, Answers (execScrubBankVisit k bank errs s))
      ∧ (∀ k errs s, Answers (execDigestDone k errs s)) := by
  and_intros <;> intros
  all_goals
    dsimp only [execBasinBankAccess, execBasinRowRewrite, execBasinDynamicAccess, execBasinDynamicTimeout, execScrubInterval, execScrubBankVisit,
      execDigestDone]
    repeat' split
    all_goals exact answers_ok _

/-- The commands of the router, its dynamic class and Cascade that branch. -/
@[simp] theorem routerCommands_answer :
    (∀ k errs s, Answers (execRouterSc k errs s)) ∧ (∀ k s, Answers (execHopEntryAdvance k s)) ∧ (∀ k s, Answers (execChannelWriteLand k s))
      ∧ (∀ d w parity s, Answers (execLinkSliceArrive d w parity s)) ∧ (∀ k s, Answers (execHolePortFence k s))
      ∧ (∀ k ue s, Answers (execRilLoadRow k ue s)) ∧ (∀ k i s, Answers (execCascadeTagArrive k i s))
      ∧ (∀ k i s, Answers (execCascadePayloadArrive k i s)) ∧ (∀ k j s, Answers (execCascadeOutput k j s)) ∧ (∀ k j s, Answers (execSkew k j s))
      ∧ (∀ k ue s, Answers (execCscLoadRow k ue s)) ∧ (∀ k inp vc parity s, Answers (execDynFlitReceive k inp vc parity s))
      ∧ (∀ k inp vc s, Answers (execDynPacketForward k inp vc s)) ∧ (∀ k s, Answers (execDynCreditReturn k s)) := by
  and_intros <;> intros
  all_goals
    dsimp only [execRouterSc, execHopEntryAdvance, execChannelWriteLand, execLinkSliceArrive, execHolePortFence, execRilLoadRow, execCascadeTagArrive,
      execCascadePayloadArrive, execCascadeOutput, execSkew, execCscLoadRow, execDynFlitReceive, execDynPacketForward,
      execDynCreditReturn]
    repeat' split
    all_goals exact answers_ok _

/-- The commands of the HBM and streams that branch. -/
@[simp] theorem streamCommands_answer :
    (∀ h err sym s, Answers (execHbmPatrolScrub h err sym s)) ∧ (∀ e s, Answers (execStreamIssue e s))
      ∧ (∀ e index err sym s, Answers (execTableWalkDone e index err sym s)) ∧ (∀ e errs s, Answers (execStreamMove e errs s))
      ∧ (∀ k timeout errs s, Answers (execStreamFetchServe k timeout errs s)) ∧ (∀ e s, Answers (execStreamPacketResend e s))
      ∧ (∀ e s, Answers (execRemotePairing e s)) ∧ (∀ k s, Answers (execStreamIssueProcess k s)) ∧ (∀ k s, Answers (execStreamIssueResend k s))
      ∧ (∀ e s, Answers (execSiteSitNotify e s)) ∧ (∀ k s, Answers (execDeadlineCheck k s)) ∧ (∀ k row s, Answers (execStreamComplete k row s))
      ∧ (∀ e s, Answers (execStreamFail e s)) ∧ (∀ k s, Answers (execStreamDataLand k s)) ∧ (∀ k ue s, Answers (execSiteSitLoadRow k ue s)) := by
  and_intros <;> intros
  all_goals
    dsimp only [execHbmPatrolScrub, execStreamIssue, execTableWalkDone, execStreamMove, execStreamFetchServe, execStreamPacketResend,
      execRemotePairing, execStreamIssueProcess, execStreamIssueResend, execSiteSitNotify, execDeadlineCheck, execStreamComplete,
      execStreamFail, execStreamDataLand, execSiteSitLoadRow]
    repeat' split
    all_goals exact answers_ok _

/-- The commands of the cores and the edge programs that branch. -/
@[simp] theorem coreCommands_answer :
    (∀ g s, Answers (execOperationLand g s)) ∧ (∀ g s, Answers (execTuMetadataRead g s)) ∧ (∀ g s, Answers (execTuLand g s))
      ∧ (∀ g s, Answers (execCoreStart g s)) ∧ (∀ g s, Answers (execSleepThawStart g s)) ∧ (∀ k s, Answers (execSiteWakeStart k s))
      ∧ (∀ g s, Answers (execSleepResume g s)) ∧ (∀ t s, Answers (execThawAck t s)) ∧ (∀ g vu s, Answers (execIdleUnitRestart g vu s))
      ∧ (∀ req e off v s, Answers (execSuoProgRowWrite req e off v s)) := by
  and_intros <;> intros
  all_goals
    dsimp only [execOperationLand, execTuMetadataRead, execTuLand, execCoreStart, execSleepThawStart, execSiteWakeStart, execSleepResume, execThawAck,
      execIdleUnitRestart, execSuoProgRowWrite]
    repeat' split
    all_goals exact answers_ok _

/-- The commands of the clock that branch. -/
@[simp] theorem clockCommands_answer :
    (∀ d n s, Answers (execDroopStretch d n s)) ∧ (∀ d s, Answers (execWeirWait d s)) ∧ (∀ bad s, Answers (execAlign bad s))
      ∧ (∀ d cause w s, Answers (execHoldRaise d cause w s)) ∧ (∀ d s, Answers (execHoldArrive d s))
      ∧ (∀ d cause s, Answers (execHoldCauseClear d cause s)) ∧ (∀ s, Answers (execHoldRelease s)) ∧ (∀ d s, Answers (execDomainResume d s))
      ∧ (∀ d s, Answers (execBoundaryStop d s)) ∧ (∀ s, Answers (execBoundaryStep s)) ∧ (∀ s, Answers (execPllRelockDone s))
      ∧ (∀ s, Answers (execBoundaryRelease s)) ∧ (∀ d ue s, Answers (execClkBndLoadRow d ue s))
      ∧ (∀ eOther eOsc s, Answers (execRefMeasure eOther eOsc s)) ∧ (∀ s, Answers (execHoldoverLeave s)) ∧ (∀ s, Answers (execRefGeneratorLoss s))
      ∧ (∀ st valid s, Answers (execExtRefValidityChange st valid s)) ∧ (∀ s, Answers (execLockstepMismatch s))
      ∧ (∀ c d s, Answers (execControlCrossingEvent c d s)) ∧ (∀ s, Answers (execTimeMark s)) := by
  and_intros <;> intros
  all_goals
    dsimp only [execDroopStretch, execWeirWait, execAlign, execHoldRaise, execHoldArrive, execHoldCauseClear, execHoldRelease, execDomainResume,
      execBoundaryStop, execBoundaryStep, execPllRelockDone, execBoundaryRelease, execClkBndLoadRow, execRefMeasure,
      execHoldoverLeave, execRefGeneratorLoss, execExtRefValidityChange, execLockstepMismatch, execControlCrossingEvent, execTimeMark]
    repeat' split
    all_goals exact answers_ok _

/-- The commands of the fault log that branch. -/
@[simp] theorem faultCommands_answer :
    (∀ s, Answers (execFaultRecord s)) ∧ (∀ s, Answers (execFaultHoldRelease s)) ∧ (∀ u s, Answers (execFence u s))
      ∧ (∀ s, Answers (execLeaseExpiry s)) := by
  and_intros <;> intros
  all_goals
    dsimp only [execFaultRecord, execFaultHoldRelease, execFence, execLeaseExpiry]
    repeat' split
    all_goals exact answers_ok _

/-- The commands of the power and heat that branch. -/
@[simp] theorem powerCommands_answer :
    (∀ s, Answers (execPowerOnStep s)) ∧ (∀ s, Answers (execSitePowerWave s)) ∧ (∀ s, Answers (execPowerDown s))
      ∧ (∀ low s, Answers (execThrottleL low s)) ∧ (∀ q phase s, Answers (execIbcPhaseLoss q phase s)) ∧ (∀ d rail s, Answers (execRailTrip d rail s))
      ∧ (∀ r x s, Answers (execMinvSample r x s)) ∧ (∀ k r est s, Answers (execRdynUpdate k r est s))
      ∧ (∀ dies inlet outlet s, Answers (execSensorSample dies inlet outlet s)) ∧ (∀ k s, Answers (execThrottleClear k s))
      ∧ (∀ i s, Answers (execThermalCritical i s)) ∧ (∀ s, Answers (execInletHigh s)) ∧ (∀ s, Answers (execFlowLow s))
      ∧ (∀ siteP edgeP s, Answers (execThermalModelUpdate siteP edgeP s)) ∧ (∀ able s, Answers (execFloorWorkUpdate able s))
      ∧ (∀ d s, Answers (execDutyUpdate d s)) ∧ (∀ s, Answers (execDutyHold s)) ∧ (∀ pin breach s, Answers (execEmergencyThrottle pin breach s))
      ∧ (∀ pin s, Answers (execEmergencyClear pin s)) ∧ (∀ s, Answers (execSiteWakeGrant s)) := by
  and_intros <;> intros
  all_goals
    dsimp only [execPowerOnStep, execSitePowerWave, execPowerDown, execThrottleL, execIbcPhaseLoss, execRailTrip, execMinvSample, execRdynUpdate,
      execSensorSample, execThrottleClear, execThermalCritical, execInletHigh, execFlowLow, execThermalModelUpdate,
      execFloorWorkUpdate, execDutyUpdate, execDutyHold, execEmergencyThrottle, execEmergencyClear, execSiteWakeGrant]
    repeat' split
    all_goals exact answers_ok _

/-- The commands of the ports that branch. -/
@[simp] theorem portCommands_answer :
    (∀ p s, Answers (execPortTrainStart p s)) ∧ (∀ p s, Answers (execPortTrainLock p s)) ∧ (∀ p s, Answers (execPortTrainTimeout p s))
      ∧ (∀ p s, Answers (execPortIdentified p s)) ∧ (∀ p keysOk s, Answers (execPortMeasured p keysOk s))
      ∧ (∀ p s, Answers (execPortFaultTimeout p s)) ∧ (∀ p s, Answers (execLinkKeyRatchet p s)) ∧ (∀ p s, Answers (execTxQueueAppend p s))
      ∧ (∀ p s, Answers (execFrameEligible p s)) ∧ (∀ p s, Answers (execSlotSend p s))
      ∧ (∀ p cwc cwu at_ f s, Answers (execSlotReceive p cwc cwu at_ f s)) ∧ (∀ p s, Answers (execNakRetry p s))
      ∧ (∀ p at_ s, Answers (execFrameConsumable p at_ s)) ∧ (∀ p s, Answers (execRxWeirPresent p s)) := by
  and_intros <;> intros
  all_goals
    dsimp only [execPortTrainStart, execPortTrainLock, execPortTrainTimeout, execPortIdentified, execPortMeasured, execPortFaultTimeout,
      execLinkKeyRatchet, execTxQueueAppend, execFrameEligible, execSlotSend, execSlotReceive, execNakRetry, execFrameConsumable,
      execRxWeirPresent]
    repeat' split
    all_goals exact answers_ok _

/-- The commands of the panel fabric that branch. -/
@[simp] theorem fabricCommands_answer :
    (∀ e s, Answers (execPanelPacketRoute e s)) ∧ (∀ e s, Answers (execPanelPacketAgeDrop e s)) ∧ (∀ e s, Answers (execPanelPacketDeliver e s))
      ∧ (∀ e s, Answers (execStrmTmo e s)) ∧ (∀ e errs s, Answers (execGatewayTxFrame e errs s))
      ∧ (∀ e frame s, Answers (execGatewayRxFrame e frame s)) ∧ (∀ e prio xoff s, Answers (execPfcReceive e prio xoff s)) := by
  and_intros <;> intros
  all_goals
    dsimp only [execPanelPacketRoute, execPanelPacketAgeDrop, execPanelPacketDeliver, execStrmTmo, execGatewayTxFrame, execGatewayRxFrame,
      execPfcReceive]
    repeat' split
    all_goals exact answers_ok _

/-- The commands of the loads and the erasure group that branch. -/
@[simp] theorem residencyCommands_answer :
    (∀ set s, Answers (execLdBlockLanded set s)) ∧ (∀ e n s, Answers (execLdSlotFreed e n s))
      ∧ (∀ p set index s, Answers (execLdShardRequest p set index s)) ∧ (∀ pos digs s, Answers (execEgReady pos digs s))
      ∧ (∀ units s, Answers (execRedigestInterval units s)) ∧ (∀ e ue s, Answers (execEcDone e ue s)) := by
  and_intros <;> intros
  all_goals
    dsimp only [execLdBlockLanded, execLdSlotFreed, execLdShardRequest, execEgReady, execRedigestInterval, execEcDone]
    repeat' split
    all_goals exact answers_ok _

/-- The commands of the time and counters that branch. -/
@[simp] theorem timeCommands_answer :
    (∀ s, Answers (execTimeTick s)) ∧ (∀ pt m s, Answers (execPtpMessage pt m s)) ∧ (∀ s, Answers (execPtpHoldover s))
      ∧ (∀ d s, Answers (execFreezeLatch d s)) ∧ (∀ s, Answers (execCollectorGather s)) ∧ (∀ s, Answers (execFreezeRelease s))
      ∧ (∀ a s, Answers (execCounterOverflow a s)) ∧ (∀ g s, Answers (execSampleWrite g s)) := by
  and_intros <;> intros
  all_goals
    dsimp only [execTimeTick, execPtpMessage, execPtpHoldover, execFreezeLatch, execCollectorGather, execFreezeRelease, execCounterOverflow,
      execSampleWrite]
    repeat' split
    all_goals exact answers_ok _

/-- The commands of the bring-up and resets that branch. -/
@[simp] theorem bootCommands_answer :
    (∀ s, Answers (execFprPublicationStart s)) ∧ (∀ s, Answers (execFprPublicationVisible s)) ∧ (∀ s, Answers (execSlotSelection s))
      ∧ (∀ s, Answers (execBootWatchdog s)) ∧ (∀ i im s, Answers (execRomRecoveryImage i im s)) ∧ (∀ s, Answers (execColdStart s))
      ∧ (∀ s, Answers (execWarmStart s)) ∧ (∀ stale s, Answers (execFirmwareBroadcast stale s))
      ∧ (∀ k good s, Answers (execFirmwareDigestResult k good s)) ∧ (∀ req s, Answers (execResetPowerOn req s)) ∧ (∀ low s, Answers (execOffL low s))
      ∧ (∀ s, Answers (execStewardTakeover s)) ∧ (∀ s, Answers (execActiveStewardFailure s))
      ∧ (∀ k l slice group s, Answers (execSiteLinkLaneFailure k l slice group s)) := by
  and_intros <;> intros
  all_goals
    dsimp only [execFprPublicationStart, execFprPublicationVisible, execSlotSelection, execBootWatchdog, execRomRecoveryImage, execColdStart,
      execWarmStart, execFirmwareBroadcast, execFirmwareDigestResult, execResetPowerOn, execOffL, execStewardTakeover,
      execActiveStewardFailure, execSiteLinkLaneFailure]
    repeat' split
    all_goals exact answers_ok _

/-- The commands of the security unit that branch. -/
@[simp] theorem securityCommands_answer :
    (∀ pt i m s, Answers (execSpdmRequest pt i m s)) ∧ (∀ pt i p s, Answers (execBindPart pt i p s))
      ∧ (∀ pt i hp p s, Answers (execTdiLockInterface pt i hp p s)) ∧ (∀ pt i hp p s, Answers (execTdiStartInterface pt i hp p s))
      ∧ (∀ p s, Answers (execZeroizeDone p s)) ∧ (∀ req corridor v s, Answers (execSecPartCfgWrite req corridor v s)) := by
  and_intros <;> intros
  all_goals
    dsimp only [execSpdmRequest, execBindPart, execTdiLockInterface, execTdiStartInterface, execZeroizeDone, execSecPartCfgWrite]
    repeat' split
    all_goals exact answers_ok _

/-- The commands of the hosts, delivery and management that branch. -/
@[simp] theorem hostCommands_answer :
    (∀ pt fn ofs half x f s, Answers (execBar0Access pt fn ofs half x f s))
      ∧ (∀ pt fn n o w data err sym f s, Answers (execApertureAccess pt fn n o w data err sym f s))
      ∧ (∀ k inp vc s, Answers (execDynPacketDeliver k inp vc s)) ∧ (∀ step u r s, Answers (execBringupStepDone step u r s))
      ∧ (∀ pt i s, Answers (execMgtEventSend pt i s)) ∧ (∀ pt i s, Answers (execMgtEventDrop pt i s))
      ∧ (∀ static dyn s, Answers (execI3cAddressAssign static dyn s)) ∧ (∀ pt fn s, Answers (execHostDelivery pt fn s)) := by
  and_intros <;> intros
  all_goals
    dsimp only [execBar0Access, execApertureAccess, execDynPacketDeliver, execBringupStepDone, execMgtEventSend, execMgtEventDrop,
      execI3cAddressAssign, execHostDelivery]
    repeat' split
    all_goals exact answers_ok _

/-- INPUT_RANGE stops beyond the absolute ratings alone (R583). -/
theorem execInputRange_answers (mv : Int) (s : State) (h : ¬ (mv < -60_000 ∨ 60_000 < mv)) : Answers (execInputRange mv s) := by
  unfold execInputRange
  rw [if_neg h]
  repeat' split
  all_goals exact answers_ok _

/-- REGISTER_WRITE stops at panel firmware in a steward window alone (R23). -/
theorem execRegisterWrite_answers (req : Requester) (a : BitVec 49) (half : Fin 4) (v : W64) (f : Found) (s : State)
    (h : ¬ (firmwareOf req = true ∧ inStewardWindow a.toNat = true)) : Answers (execRegisterWrite req a half v f s) := by
  unfold execRegisterWrite
  rw [if_neg h]
  repeat' split
  all_goals exact answers_ok _

/-- Every other command answers a next state in every state. -/
theorem exec_answers (c : Instr) (s : State) (hi : ∀ mv, c ≠ .inputRange mv) (hr : ∀ req a half v f, c ≠ .registerWrite req a half v f) :
    Answers (exec c s) := by
  unfold exec
  cases c
  case inputRange => exact absurd rfl (hi _)
  case registerWrite => exact absurd rfl (hr _ _ _ _ _)
  case basinBankAccess | basinRowRewrite | basinDynamicAccess | basinDynamicTimeout | scrubInterval | scrubBankVisit | digestDone | routerSc |
    hopEntryAdvance | channelWriteLand | linkSliceArrive | holePortFence | rilLoadRow | cascadeTagArrive | cascadePayloadArrive | cascadeOutput |
    skew | cscLoadRow | hbmPatrolScrub | streamIssue | tableWalkDone | streamMove | streamFetchServe | streamPacketResend | remotePairing |
    streamIssueProcess | streamIssueResend | siteSitNotify | deadlineCheck | streamComplete | streamFail | streamDataLand | siteSitLoadRow |
    operationLand | tuMetadataRead | tuLand | coreStart | sleepThawStart | siteWakeStart | sleepResume | thawAck | idleUnitRestart |
    suoProgRowWrite | droopStretch | weirWait | align | holdRaise | holdArrive | holdCauseClear | holdRelease | domainResume | boundaryStop |
    boundaryStep | pllRelockDone | boundaryRelease | clkBndLoadRow | refMeasure | holdoverLeave | refGeneratorLoss | extRefValidityChange |
    lockstepMismatch | controlCrossingEvent | timeMark | faultRecord | faultHoldRelease | fence | leaseExpiry | powerOnStep | sitePowerWave |
    powerDown | throttleL | ibcPhaseLoss | railTrip | minvSample | rdynUpdate | sensorSample | throttleClear | thermalCritical | inletHigh |
    flowLow | thermalModelUpdate | floorWorkUpdate | dutyUpdate | dutyHold | emergencyThrottle | emergencyClear | siteWakeGrant | dynFlitReceive |
    dynPacketForward | dynCreditReturn | portTrainStart | portTrainLock | portTrainTimeout | portIdentified | portMeasured | portFaultTimeout |
    linkKeyRatchet | txQueueAppend | frameEligible | slotSend | slotReceive | nakRetry | frameConsumable | rxWeirPresent | panelPacketRoute |
    panelPacketAgeDrop | panelPacketDeliver | strmTmo | gatewayTxFrame | gatewayRxFrame | pfcReceive | ldBlockLanded | ldSlotFreed | ldShardRequest |
    egReady | redigestInterval | ecDone | timeTick | ptpMessage | ptpHoldover | freezeLatch | collectorGather | freezeRelease | counterOverflow |
    sampleWrite | fprPublicationStart | fprPublicationVisible | slotSelection | bootWatchdog | romRecoveryImage | coldStart | warmStart |
    firmwareBroadcast | firmwareDigestResult | resetPowerOn | offL | stewardTakeover | activeStewardFailure | siteLinkLaneFailure | spdmRequest |
    bindPart | tdiLockInterface | tdiStartInterface | zeroizeDone | secPartCfgWrite | bar0Access | apertureAccess | dynPacketDeliver |
    bringupStepDone | mgtEventSend | mgtEventDrop | i3cAddressAssign | hostDelivery => simp
  all_goals exact answers_ok _

/-- Settles O2: the split over the commands of `exec`, with the two that stop apart. -/
theorem noOtherStop : Obligations.NoOtherStop := by
  unfold Obligations.NoOtherStop
  intro beyond window c s
  refine ⟨fun hBeyond hWindow => ?_, ?_, ?_⟩
  · by_cases hi : ∃ mv, c = .inputRange mv
    · obtain ⟨mv, rfl⟩ := hi
      exact execInputRange_answers mv s (fun h => hBeyond ⟨mv, rfl, h⟩)
    · by_cases hr : ∃ req a half v f, c = .registerWrite req a half v f
      · obtain ⟨req, a, half, v, f, rfl⟩ := hr
        exact execRegisterWrite_answers req a half v f s (fun h => hWindow ⟨req, a, half, v, f, rfl, h.1, h.2⟩)
      · exact exec_answers c s (fun mv h => hi ⟨mv, h⟩) (fun req a half v f h => hr ⟨req, a, half, v, f, h⟩)
  · rintro ⟨mv, rfl, h⟩
    show execInputRange mv s = _
    unfold execInputRange
    rw [if_pos h]
  · rintro ⟨req, a, half, v, f, rfl, hFirmware, hIn⟩
    show execRegisterWrite req a half v f s = _
    unfold execRegisterWrite
    rw [if_pos ⟨hFirmware, hIn⟩]

end Sys2Proof.Machine

namespace Sys2Proof.Machine

/-- An access error that finds no record records its address in the 48 bits that FLT_ACCESS_ADDR has (R500). -/
theorem accessError_addr (s : State) (kind : Nat) (w : Bool) (rc sn a : Nat) (h : rf s FLT_ACCESS Fd.FLT_ACCESS_VALID = 0) :
    rd (accessError s kind w rc sn a) FLT_ACCESS_ADDR = BitVec.ofNat 64 (a % 2 ^ 48) := by
  have hb : rd (bump s FLT_ACCESS_ERRS 1) FLT_ACCESS = rd s FLT_ACCESS :=
    (onlyCounts_bump s FLT_ACCESS_ERRS 1).2 FLT_ACCESS (by decide) (by decide)
  have hv : rf (rise (bump s FLT_ACCESS_ERRS 1) FLT_ACCESS Fd.FLT_ACCESS_VALID 1) FLT_ACCESS Fd.FLT_ACCESS_VALID ≠ 1 := by
    unfold rf at h ⊢
    rw [rd_rise, hb, h]; decide
  unfold accessError
  rw [if_neg hv, rd_wr_same]

/-- A REGISTER_WRITE of a wrong size or alignment is a CSR access error (R11), whatever the address, unless it is firmware's in a steward window. -/
theorem exec_registerWrite_misfit (req : Requester) (a : BitVec 49) (v : W64) (f : Found) (s : State)
    (hw : ¬ (firmwareOf req = true ∧ inStewardWindow a.toNat = true)) :
    exec (.registerWrite req a 3 v f) s = .next (csrError s req true a.toNat) := by
  show execRegisterWrite req a 3 v f s = _
  unfold execRegisterWrite
  rw [if_neg hw, if_pos rfl]
  rfl

/-- Refutes O32: the record of an access error has 48 address bits (R500), but the second clause asks for the whole address also of a write beyond
them, where the function pages are (log entry 42). At reset the steward writes address 2^48 with a wrong alignment: FLT_ACCESS_ADDR reads 0. -/
theorem not_hostAccessEffects : ¬ Obligations.HostAccessEffects := by
  unfold Obligations.HostAccessEffects
  rintro ⟨-, hRefused, -⟩
  have hWindow : ¬ (firmwareOf .steward = true ∧ inStewardWindow (0x1_0000_0000_0000#49).toNat = true) := by decide
  have hEmpty : rf State.reset FLT_ACCESS Fd.FLT_ACCESS_VALID = 0 := by decide
  obtain ⟨t, ht, -, -, -, hRecord⟩ := hRefused .steward 0x1_0000_0000_0000#49 3 0#64 ⟨⟨false, []⟩, [], false⟩ State.reset (.inl rfl) hWindow
  have hReset : t = csrError State.reset .steward true (0x1_0000_0000_0000#49).toNat :=
    Host.Outcome.next.inj (ht.symm.trans (exec_registerWrite_misfit _ _ _ _ _ hWindow))
  obtain ⟨-, -, -, hAddr⟩ := hRecord hEmpty
  rw [hReset, csrError, accessError_addr _ _ _ _ _ _ hEmpty] at hAddr
  exact absurd hAddr (by decide)

end Sys2Proof.Machine

namespace Sys2Proof.Machine

/-! Accesses of hosts (R528 to R530): what a register access, an HBM access and a basin access through a page or an aperture leave. -/

/-- `t` differs from `r` in registers, counters and the panel's internals alone. -/
def onlyRegs (r t : State) : Prop := t = { r with csr := t.csr, risen := t.risen, live := t.live, pnl := t.pnl }

theorem onlyRegs.refl (r : State) : onlyRegs r r := rfl

theorem onlyRegs.trans {r s t : State} (h : onlyRegs r s) (k : onlyRegs s t) : onlyRegs r t := by
  unfold onlyRegs at *
  rw [h] at k
  exact k

theorem onlyCounts.onlyRegs {r t : State} (h : onlyCounts r t) : onlyRegs r t := h.1

theorem onlyRegs_ite {c : Prop} [Decidable c] {r s t : State} (hs : onlyRegs r s) (ht : onlyRegs r t) : onlyRegs r (if c then s else t) := by
  split
  · exact hs
  · exact ht

theorem onlyRegs_wr (s : State) (a : Nat) (v : W64) : onlyRegs s (wr s a v) := rfl
theorem onlyRegs_rise (s : State) (a : Nat) (f : Fld) (v : Nat) : onlyRegs s (rise s a f v) := rfl
theorem onlyRegs_modPnl (s : State) (f : PanelX → PanelX) : onlyRegs s (modPnl s f) := rfl
theorem onlyRegs_bump (s : State) (a n : Nat) : onlyRegs s (bump s a n) := (onlyCounts_bump s a n).onlyRegs

theorem onlyRegs_foldl {α : Type} (f : State → α → State) (l : List α) (h : ∀ s x, onlyRegs s (f s x)) (s : State) : onlyRegs s (l.foldl f s) := by
  induction l generalizing s with
  | nil => exact .refl s
  | cons x xs ih => exact (h s x).trans (ih _)

theorem onlyRegs.mem {r t : State} (h : onlyRegs r t) : t.mem = r.mem := by rw [h]

theorem onlyRegs.memReads {r t : State} (h : onlyRegs r t) (a n : Nat) : memReads t a n = memReads r a n := by
  unfold Machine.memReads memRead
  rw [h.mem]

/-- An access error changes its record and counters alone. -/
theorem onlyRegs_accessError (s : State) (kind : Nat) (w : Bool) (rc sn a : Nat) : onlyRegs s (accessError s kind w rc sn a) := by
  have h : onlyRegs s (rise (bump s FLT_ACCESS_ERRS 1) FLT_ACCESS Fd.FLT_ACCESS_VALID 1) := (onlyRegs_bump _ _ _).trans (onlyRegs_rise _ _ _ _)
  unfold accessError
  dsimp only
  split
  · exact h
  · exact h.trans ((onlyRegs_wr _ _ _).trans (onlyRegs_wr _ _ _))

/-! Registers. -/

/-- Whether R27 and R513 let an access through is what `guardCsr` asks, outside the steward windows. -/
theorem guardCsr_of_mayAccess {s : State} {req : Requester} {a : Nat} {w : Bool} (f : State → State) (h : mayAccess s req a w = true)
    (hw : inStewardWindow a = false) : guardCsr s req a w f = f s := by
  unfold mayAccess at h
  unfold guardCsr
  simp only [Bool.and_eq_true, Bool.not_eq_true'] at h
  rw [h.1, hw]
  cases hl : locate a with
  | none => simp [hl] at h
  | some x => simpa [hl] using fun hp => absurd (by simpa [hl] using h.2) (by simpa using hp)

theorem csrRead_of_mayAccess {s : State} {req : Requester} {a : Nat} (half : Nat) (h : mayAccess s req a false = true) :
    csrRead s req a half = loadReg s req a half := if_pos h

/-- A read of a register changes no byte of HBM or a basin. -/
theorem readReg_mem (s : State) (req : Requester) (b : Blk) (u o a : Nat) (r : RegRow) : (readReg s req b u o a r).1.mem = s.mem := by
  unfold readReg
  dsimp only
  split
  · split
    · exact (onlyRegs_accessError s _ _ _ _ _).mem
    · split <;> rfl
  · split <;> rfl
  · split
    · rfl
    · split <;> rfl
  · rfl

theorem loadReg_mem (s : State) (req : Requester) (a half : Nat) : (loadReg s req a half).1.mem = s.mem := by
  have hErr : (csrError s req false a).mem = s.mem := (onlyRegs_accessError s _ _ _ _ _).mem
  unfold loadReg
  split
  · exact hErr
  · split
    · exact hErr
    · split
      · exact readReg_mem s req _ _ _ a _
      · split
        · split
          · rfl
          · exact hErr
        · split
          · rfl
          · exact hErr
        · exact hErr

/-- The state after a write that stores a register's word under the access codes of R10. -/
theorem plainWrite_frame (s : State) (a : Nat) (r : RegRow) (v : W64) :
    let t := plainWrite s a r v
    sameStores s t ∧ sameUnits s t ∧ t.pnl = s.pnl ∧ otherRegs s t [a]
      ∧ rd t a = applyWrite r (rf s BOOT_LOCK Fd.BOOT_LOCK_LOCK == 1) (rd s a) (lateClear s a v) := by
  refine ⟨⟨rfl, rfl, rfl, rfl, rfl, rfl, rfl, rfl⟩, ⟨rfl, rfl, rfl, rfl, rfl, rfl, rfl⟩, rfl, fun b hb => ?_, rd_wr_same _ _ _⟩
  exact rd_wr_other s (fun e => hb (by simp [e])) _

/-- A write to a function's page, but for the two ring controls, is a plain one. -/
theorem storeReg_page {s : State} {req : Requester} {f : Found} {a u o : Nat} (half : Nat) (v : W64) {r : RegRow} (hl : locate a = some (.fn, u, o))
    (ho : o % 8 = 0) (h1 : o ≠ 0x48) (h2 : o ≠ 0x68) (hr : findRow .fn o = some r) :
    storeReg s req f a half v = plainWrite s a r (fullWord r (rd s a) half v) := by
  unfold storeReg
  simp [hl, ho, rowAt, hr, isStaged, oldWord, writeReg, h1, h2]

/-! HBM. -/

theorem onlyRegs_countHbm (s : State) (a n : Nat) (w : Bool) : onlyRegs s (countHbm s a n w) := by
  unfold countHbm
  refine onlyRegs_foldl _ _ (fun s g => ?_) s
  split
  · exact onlyRegs_bump _ _ _
  · exact .refl s

theorem onlyRegs_hbmLog (s : State) (a source sym : Nat) (ue : Bool) : onlyRegs s (hbmLog s a source sym ue) := by
  unfold hbmLog
  split
  · exact .refl s
  · refine onlyRegs_ite ?_ ?_
    · exact (onlyRegs_bump _ _ _).trans (onlyRegs_rise _ _ _ _)
    · exact (onlyRegs_bump _ _ _).trans ((onlyRegs_rise _ _ _ _).trans ((onlyRegs_wr _ _ _).trans ((onlyRegs_wr _ _ _).trans (onlyRegs_wr _ _ _))))

/-- A line without an error is met by a read only where it is marked (R306). -/
theorem meetError_unmarked {s : State} {a n : Nat} (source : Nat) (sym : Fin 64) (h : markedLine s a n = Option.none) :
    meetError s a n source 0 sym = (s, Option.none) := by
  unfold meetError meetErrors
  by_cases hb : Nat.blt (a / 64 * 64 + 64 * 0) (a + n) = true <;>
    simp only [List.filter_cons, List.filter_nil, hb, if_true, if_false, Bool.false_eq_true] <;> simp [lineError, h]

theorem meetError_marked {s : State} {a n l : Nat} (source : Nat) (sym : Fin 64) (h : markedLine s a n = some l) :
    meetError s a n source 0 sym = (hbmLog s l source 0 true, some l) := by
  unfold meetError meetErrors
  by_cases hb : Nat.blt (a / 64 * 64 + 64 * 0) (a + n) = true <;>
    simp only [List.filter_cons, List.filter_nil, hb, if_true, if_false, Bool.false_eq_true] <;> simp [lineError, h]

/-- A byte's plaintext is the same where registers, counters and panel internals alone differ. -/
theorem onlyRegs.hbmByte {s t : State} (h : onlyRegs s t) (slot a : Nat) : hbmByte t slot a = hbmByte s slot a := by
  rw [h]; rfl

theorem onlyRegs.hbmReads {s t : State} (h : onlyRegs s t) (slot a n : Nat) : (hbmReads t slot a n).2 = (hbmReads s slot a n).2 := by
  induction n generalizing s t a with
  | zero => rfl
  | succ n ih =>
    have hf : (takeFree 8 t).1 = (takeFree 8 s).1 := by rw [h]; rfl
    have hs : onlyRegs (takeFree 8 s).2 (takeFree 8 t).2 := by
      have hfresh : t.fresh = s.fresh := by rw [h]
      unfold takeFree
      rw [hfresh]
      show State.setFresh t _ = _
      rw [h]; rfl
    unfold Machine.hbmReads
    rw [h.hbmByte]
    split
    · exact congrArg (List.cons _) (ih h (a + 1))
    · simp only [hf, ih hs (a + 1)]

theorem hbmReads_mem (s : State) (slot a n : Nat) : (hbmReads s slot a n).1.mem = s.mem := by
  induction n generalizing s a with
  | zero => rfl
  | succ n ih =>
    unfold hbmReads
    split
    · exact ih s (a + 1)
    · exact ih _ (a + 1)

/-- Bytes written read back. -/
theorem memReads_memWrites (s : State) (a : Nat) (bs : List Byte) : memReads (memWrites s a bs) a bs.length = bs := by
  refine List.ext_getElem (by simp [memReads]) (fun i h1 h2 => ?_)
  have hi : i < bs.length := h2
  simp only [memReads, List.getElem_map, List.getElem_range, memRead_memWrites]
  rw [if_pos (by omega), Nat.add_sub_cancel_left, List.getD_eq_getElem?_getD, List.getElem?_eq_getElem hi, Option.getD_some]

theorem memReads_hbmWrites (s : State) (slot a : Nat) (bs : List Byte) : memReads (hbmWrites s slot a bs) a bs.length = bs := by
  unfold hbmWrites
  split
  · next h => simp [List.isEmpty_iff.mp h, memReads]
  · exact memReads_memWrites _ a bs

/-- A host's write to lines that are not marked, or to a whole line, stores its bytes and is answered. -/
theorem hostHbm_write (s : State) (req : Requester) (slot a : Nat) (bs : List Byte) (sym : Fin 64)
    (h : markedLine s a bs.length = Option.none ∨ bs.length = 64) :
    memReads (hostHbm s req slot a bs.length true bs 0 sym) a bs.length = bs
      ∧ (hostHbm s req slot a bs.length true bs 0 sym).pnl.reply = some ⟨true, []⟩ := by
  have hm : (if (true && bs.length == 64) = true then (s, (Option.none : Option Nat)) else meetError s a bs.length 3 0 sym) = (s, Option.none) := by
    split
    · rfl
    · next hw =>
      exact meetError_unmarked 3 sym (h.resolve_right (fun e => hw (by simp [e])))
  unfold hostHbm
  simp only [hm, if_true]
  exact ⟨memReads_hbmWrites _ slot a bs, rfl⟩

/-- A host's read changes no byte. -/
theorem hostHbm_read_mem (s : State) (req : Requester) (slot a len : Nat) (bs : List Byte) (sym : Fin 64) :
    (hostHbm s req slot a len false bs 0 sym).mem = s.mem := by
  unfold hostHbm
  simp only [Bool.false_and, Bool.false_eq_true, if_false]
  cases h : markedLine s a len with
  | none =>
    simp only [meetError_unmarked 3 sym h]
    exact (hbmReads_mem _ _ _ _).trans (onlyRegs_countHbm _ _ _ _).mem
  | some l =>
    simp only [meetError_marked 3 sym h]
    exact ((onlyRegs_hbmLog _ _ _ _ _).trans (onlyRegs_accessError _ _ _ _ _ _)).mem

/-- A host's read of lines that are not marked answers the bytes under the slot's key. -/
theorem hostHbm_read_reply (s : State) (req : Requester) (slot a len : Nat) (bs : List Byte) (sym : Fin 64) (h : markedLine s a len = Option.none) :
    (hostHbm s req slot a len false bs 0 sym).pnl.reply = some ⟨true, (hbmReads s slot a len).2⟩ := by
  unfold hostHbm
  simp only [Bool.false_and, Bool.false_eq_true, if_false, meetError_unmarked 3 sym h]
  exact congrArg (fun x => some (Reply.mk true x)) ((onlyRegs_countHbm s a len false).hbmReads slot a len)

end Sys2Proof.Machine

namespace Sys2Proof.Machine

@[simp] theorem reply_mem (s : State) (b : Bool) (bs : List Byte) : (reply s b bs).mem = s.mem := rfl
@[simp] theorem reply_answer (s : State) (b : Bool) (bs : List Byte) : (reply s b bs).pnl.reply = some ⟨b, bs⟩ := rfl

/-! The maintenance port (R192, R194) as an aperture meets it. -/

/-- A maintenance write that DYN_WR or an idle site lets through stores its bytes and no others. -/
theorem maintAccess_write (s : State) (k : Nat) (m : MaintReq) (errs : List BankErr) (hw : m.wr = true)
    (h : (regionDynWr s k (regionOf m.word) || !siteBusy s k) = true) :
    let t := maintAccess s k m errs
    (∀ b, memRead t b = if wordAddr k m.word ≤ b ∧ b < wordAddr k m.word + m.data.length then m.data.getD (b - wordAddr k m.word) 0#8 else memRead s b)
      ∧ memReads t (wordAddr k m.word) m.data.length = m.data ∧ t.pnl.reply = some ⟨true, []⟩ := by
  have hc : ¬ ((!regionDynWr s k (regionOf m.word) && siteBusy s k) = true) := by
    cases h1 : regionDynWr s k (regionOf m.word) <;> cases h2 : siteBusy s k <;> simp_all
  have hu : onlyRegs (usePort s k m) (bump (usePort s k m) (BSN_MAINT_ACC k) 1) := onlyRegs_bump _ _ _
  intro t
  have ht : t = reply (memWrites (bump (usePort s k m) (BSN_MAINT_ACC k) 1) (wordAddr k m.word) m.data) true [] := by
    show maintAccess s k m errs = _
    unfold maintAccess
    rw [if_pos hw, if_neg hc]
  rw [ht]
  refine ⟨fun b => ?_, memReads_memWrites _ _ _, rfl⟩
  have hb : memRead (bump (usePort s k m) (BSN_MAINT_ACC k) 1) b = memRead s b := congrArg (fun x => sget memUnlisted x b) hu.mem
  rw [← hb]
  exact memRead_memWrites _ _ _ _

/-- A maintenance read outside a zero-fill that meets no error answers the bytes. -/
theorem maintAccess_read (s : State) (k : Nat) (m : MaintReq) (hw : m.wr = false) (hz : zeroFilling s k (regionOf m.word) = false) :
    let t := maintAccess s k m []
    t.mem = s.mem ∧ t.pnl.reply = some ⟨true, memReads s (wordAddr k m.word) m.data.length⟩ := by
  have hm : maintErrs s k m [] = [] := by simp [maintErrs, errsMet]
  have hu : onlyRegs (usePort s k m) (bump (usePort s k m) (BSN_MAINT_ACC k) 1) := onlyRegs_bump _ _ _
  intro t
  have ht : t = reply (bump (usePort s k m) (BSN_MAINT_ACC k) 1) true
      (memReads (bump (usePort s k m) (BSN_MAINT_ACC k) 1) (wordAddr k m.word) m.data.length) := by
    show maintAccess s k m [] = _
    unfold maintAccess
    rw [if_neg (by rw [hw]; decide), if_neg (by rw [hz]; decide), hm]
    generalize bump (usePort s k m) (BSN_MAINT_ACC k) 1 = b
    dsimp only
    rw [List.foldl_nil]
    exact if_neg (by decide)
  have hr : memReads (usePort s k m) (wordAddr k m.word) m.data.length = memReads s (wordAddr k m.word) m.data.length := by
    simp [memReads, usePort]
  rw [ht, hu.memReads, hr]
  exact ⟨(reply_mem _ _ _).trans (hu.mem.trans (modSite_mem s k _)), reply_answer _ _ _⟩

/-- The word that a basin address names stands at that address (R23). -/
theorem wordAddr_of_basin {a : Nat} (h : basinBase 0 ≤ a) (h4 : a % 4 = 0) :
    wordAddr ((a - basinBase 0) / 0x1000_0000) ((a - basinBase ((a - basinBase 0) / 0x1000_0000)) / 4) = a := by
  unfold wordAddr basinBase at *
  omega

/-! Apertures (R530). -/

/-- The shape and owner that an aperture's data access needs. -/
structure OwnData (s : State) (req : Requester) (p a len : Nat) : Prop where
  cls : clsOf s req = .tenant p
  some_ : len ≠ 0
  words : len % 4 = 0
  aligned_ : a % 4 = 0
  line : a % 64 + len ≤ 64
  answers : rejected s a = false
  mine : partOfData s a = p

/-- A host's access to its own HBM bytes under a key of its own. -/
theorem apertureData_hbm {s : State} {req : Requester} {p slot a len : Nat} (w : Bool) (bs : List Byte) (err : HbmErr) (sym : Fin 64)
    (h : OwnData s req p a len) (hb : a < basinBase 0) (hk : partOfKey s slot = some p) (hp : panelData s a len = false) (hh : homeEnabled s a = true) :
    apertureData s req slot a len w bs err sym = hostHbm s req slot a len w bs err sym := by
  obtain ⟨hcls, h0, h4, ha, hline, hrej, hmine⟩ := h
  unfold apertureData
  simp [h0, h4, ha, hrej, hcls, hmine, hb, hk, hp, hh, Nat.not_lt.mpr hline]

/-- A host's access to its own basin bytes goes to the maintenance port, or waits for it. -/
theorem apertureData_basin {s : State} {req : Requester} {p a len : Nat} (slot : Nat) (w : Bool) (bs : List Byte) (sym : Fin 64)
    (h : OwnData s req p a len) (hb : basinBase 0 ≤ a) :
    let k := (a - basinBase 0) / 0x1000_0000
    let m : MaintReq := ⟨req, w, (a - basinBase k) / 4, bs⟩
    apertureData s req slot a len w bs 0 sym
      = if maintReady s k m = true then maintAccess s k m [] else modSite s k (fun x => { x with maint := x.maint ++ [m] }) := by
  obtain ⟨hcls, h0, h4, ha, hline, hrej, hmine⟩ := h
  unfold apertureData
  simp [h0, h4, ha, hrej, hcls, hmine, Nat.not_lt.mpr hline, Nat.not_lt.mpr hb, apertureErrs]

/-- An enabled aperture that names data makes a data access at the address it maps. -/
theorem exec_aperture_data {s : State} (pt : Fin 2) (fn : Fin 5) (n : Fin 4) (o : BitVec 30) (w : Bool) (data : List Byte) (err : Fin 4) (sym : Fin 64)
    (f : Found) :
    let ap := rd s (MGT_FN_APn (fnUnit pt.val fn.val) n.val)
    let a := fget Fd.MGT_FN_APn_BASE ap * 2 ^ 30 + o.toNat
    fget Fd.MGT_FN_APn_EN ap = 1 → isData a = true →
      exec (.apertureAccess pt fn n o w data err sym f) s
        = .next (apertureData s (.host pt fn) (fget Fd.MGT_FN_APn_KEY ap) a data.length w data err sym) := by
  intro ap a hen hd
  show execApertureAccess pt fn n o w data err sym f s = _
  unfold execApertureAccess
  dsimp only
  rw [if_neg (by rw [hen]; decide), if_pos hd]
  rfl

/-- One that names a register makes an access of 8 bytes to it. -/
theorem exec_aperture_register {s : State} (pt : Fin 2) (fn : Fin 5) (n : Fin 4) (o : BitVec 30) (w : Bool) (data : List Byte) (err : Fin 4) (sym : Fin 64)
    (f : Found) :
    let ap := rd s (MGT_FN_APn (fnUnit pt.val fn.val) n.val)
    let a := fget Fd.MGT_FN_APn_BASE ap * 2 ^ 30 + o.toNat
    fget Fd.MGT_FN_APn_EN ap = 1 → isData a = false → data.length = 8 → a % 8 = 0 →
      exec (.apertureAccess pt fn n o w data err sym f) s
        = .next (accessReg s (.host pt fn) f a 0 (if w then .write (BitVec.ofNat 64 (natOf data)) else .read)) := by
  intro ap a hen hd hl h8
  show execApertureAccess pt fn n o w data err sym f s = _
  unfold execApertureAccess
  dsimp only
  rw [if_neg (by rw [hen]; decide), if_neg (by rw [hd]; decide), if_pos ⟨hl, h8⟩]
  rfl

/-! Deliveries (R532). -/

theorem fset_bit_getLsbD (i : Nat) (acc : Acc) (w : W64) (h : i < 64) : (fset ⟨i, 1, acc⟩ 1 w).getLsbD i = true := by
  have hf : fget ⟨i, 1, acc⟩ (fset ⟨i, 1, acc⟩ 1 w) = 1 := fget_fset ⟨i, 1, acc⟩ 1 w (by simp; omega)
  unfold fget at hf
  rw [BitVec.getLsbD, Nat.testBit_eq_decide_div_mod_eq]
  simpa using hf

/-- A cause that is set reads as set. -/
theorem hostCause_set (s : State) (u i : Nat) (h : i < 64) : (rd (hostCause s u i) (MGT_FN_IRQ u)).getLsbD i = true := by
  unfold hostCause
  rw [rd_wf, if_pos rfl]
  exact fset_bit_getLsbD i _ _ h

theorem rd_hostCause_other (s : State) (u i : Nat) {a : Nat} (h : MGT_FN_IRQ u ≠ a) : rd (hostCause s u i) a = rd s a := by
  unfold hostCause
  rw [rd_wf, if_neg h]

/-- A delivery changes registers and the panel's internals alone; nothing but the answer of the latter. -/
theorem onlyRegs.sameStores {r t : State} (h : onlyRegs r t) : sameStores r t := by
  rw [h]; exact ⟨rfl, rfl, rfl, rfl, rfl, rfl, rfl, rfl⟩

theorem onlyRegs.sameUnits {r t : State} (h : onlyRegs r t) : sameUnits r t := by
  rw [h]; exact ⟨rfl, rfl, rfl, rfl, rfl, rfl, rfl⟩

/-- What an entry of a ring leaves: the pointer, the cause and the bytes written. -/
theorem ringEntry_spec (s : State) (u i addr a v : Nat) (f : Fld) (bs : List Byte) (hi : i < 64) (ha : MGT_FN_IRQ u ≠ a) (hf : f.lo + f.len ≤ 64) :
    let t := hostCause (wf (hostWrite s addr bs) a f v) u i
    onlyRegs s t ∧ t.pnl.hostQ = s.pnl.hostQ ∧ (rd t (MGT_FN_IRQ u)).getLsbD i = true ∧ rf t a f = v % 2 ^ f.len
      ∧ t.pnl.reply = some ⟨true, bytesOf 8 addr ++ bs⟩ := by
  refine ⟨rfl, rfl, hostCause_set _ u i hi, ?_, rfl⟩
  unfold rf
  rw [rd_hostCause_other _ _ _ ha]
  exact rf_wf_same _ _ _ _ hf

/-- An entry of the fault ring: HEAD, the cause and the bytes written, or the cause of a full ring. -/
theorem deliverFault_spec (s : State) (u : Nat) (bs : List Byte) :
    let t := deliverFault s u bs
    let c := rd s (MGT_FN_FR_CTL u)
    let n := 2 ^ fget Fd.MGT_FN_FR_CTL_LOG2 c
    let head := fget Fd.MGT_FN_FR_CTL_HEAD c
    onlyRegs s t ∧ t.pnl.hostQ = s.pnl.hostQ
      ∧ (if n ≤ (head + 65536 - fget Fd.MGT_FN_FR_CTL_TAIL c) % 65536 then (rd t (MGT_FN_IRQ u)).getLsbD 6 = true
        else (rd t (MGT_FN_IRQ u)).getLsbD 0 = true ∧ rf t (MGT_FN_FR_CTL u) Fd.MGT_FN_FR_CTL_HEAD = (head + 1) % 65536
          ∧ t.pnl.reply = some ⟨true, bytesOf 8 (hostAddr s (MGT_FN_FR_BASE u) + 64 * (head % n)) ++ bs⟩) := by
  intro t c n head
  by_cases hfull : n ≤ (head + 65536 - fget Fd.MGT_FN_FR_CTL_TAIL c) % 65536
  · have ht : t = hostCause s u 6 := if_pos hfull
    rw [if_pos hfull, ht]
    exact ⟨rfl, rfl, hostCause_set s u 6 (by decide)⟩
  · have ht : t = hostCause (wf (hostWrite s (hostAddr s (MGT_FN_FR_BASE u) + 64 * (head % n)) bs) (MGT_FN_FR_CTL u) Fd.MGT_FN_FR_CTL_HEAD (head + 1)) u 0 :=
      if_neg hfull
    rw [if_neg hfull, ht]
    exact ringEntry_spec s u 0 _ _ _ _ _ (by decide) (by unfold MGT_FN_IRQ MGT_FN_FR_CTL; omega) (by decide)

/-- A record of the snapshot ring: HEAD, the cause and the bytes written, or the cause of a full ring. -/
theorem deliverSnap_spec (s : State) (u : Nat) :
    let t := deliverSnap s u
    let n := 2 ^ rf s (MGT_FN_PS_CTL u) Fd.MGT_FN_PS_CTL_LOG2
    let head := rf s (MGT_FN_PS_HEAD u) Fd.MGT_FN_PS_HEAD_HEAD
    let tail := rf s (MGT_FN_PS_TAIL u) Fd.MGT_FN_PS_TAIL_TAIL
    let bs := snapFor s u
    onlyRegs s t ∧ t.pnl.hostQ = s.pnl.hostQ
      ∧ (if n ≤ (head % n + n - tail % n) % n + bs.length then (rd t (MGT_FN_IRQ u)).getLsbD 7 = true
        else (rd t (MGT_FN_IRQ u)).getLsbD 3 = true
          ∧ rf t (MGT_FN_PS_HEAD u) Fd.MGT_FN_PS_HEAD_HEAD = (head + bs.length) % n % 2 ^ Fd.MGT_FN_PS_HEAD_HEAD.len
          ∧ t.pnl.reply = some ⟨true, bytesOf 8 (hostAddr s (MGT_FN_PS_BASE u) + head % n) ++ bs⟩) := by
  intro t n head tail bs
  by_cases hfull : n ≤ (head % n + n - tail % n) % n + bs.length
  · have ht : t = hostCause s u 7 := if_pos hfull
    rw [if_pos hfull, ht]
    exact ⟨rfl, rfl, hostCause_set s u 7 (by decide)⟩
  · have ht : t = hostCause (wf (hostWrite s (hostAddr s (MGT_FN_PS_BASE u) + head % n) bs) (MGT_FN_PS_HEAD u) Fd.MGT_FN_PS_HEAD_HEAD
        ((head + bs.length) % n)) u 3 := if_neg hfull
    rw [if_neg hfull, ht]
    exact ringEntry_spec s u 3 _ _ _ _ _ (by decide) (by unfold MGT_FN_IRQ MGT_FN_PS_HEAD; omega) (by decide)

/-- Dropped registers read their reset values. -/
theorem rd_dropCsr (s : State) (b n a : Nat) : rd (dropCsr s [(b, n)]) a = if b ≤ a ∧ a < b + n then csrReset a else rd s a := by
  have h : rd (dropCsr s [(b, n)]) a = if inRanges [(b, n)] a then csrReset a else rd s a := sget_sdrop csrReset _ a s.csr
  rw [h]
  simp [inRanges]

end Sys2Proof.Machine

namespace Sys2Proof.Machine

/-! The clauses of O33. -/

/-- R11, R27, R513: a REGISTER_WRITE that they let through is the write of that register. -/
theorem exec_registerWrite_allowed (req : Requester) (a : BitVec 49) (half : Fin 4) (v : W64) (f : Found) (s : State) (hh : half.val ≠ 3)
    (hw : inStewardWindow a.toNat = false) (h : (if a.toNat < 2 ^ 48 then mayAccess s req a.toNat true else ownPage s req a.toNat) = true) :
    exec (.registerWrite req a half v f) s = .next (storeReg s req f a.toNat half.val v) := by
  have hwin : ¬ (firmwareOf req = true ∧ inStewardWindow a.toNat = true) := fun e => by simp [hw] at e
  show execRegisterWrite req a half v f s = _
  unfold execRegisterWrite
  rw [if_neg hwin, if_neg (fun e => hh (congrArg Fin.val e))]
  by_cases ha : a.toNat < 2 ^ 48
  · rw [if_pos ha] at h
    rw [if_neg (Nat.not_le.mpr ha), csrWrite, guardCsr_of_mayAccess _ h hw]
    rfl
  · rw [if_neg ha] at h
    rw [if_pos (Nat.not_lt.mp ha), if_pos h]
    rfl

theorem accessReg_write {s : State} {req : Requester} {a : Nat} (f : Found) (half : Nat) (v : W64) (h : mayAccess s req a true = true)
    (hw : inStewardWindow a = false) : accessReg s req f a half (.write v) = storeReg s req f a half v := by
  show guardCsr s req a true (fun s => storeReg s req f a half v) = _
  exact guardCsr_of_mayAccess _ h hw

theorem accessReg_read {s : State} {req : Requester} {a : Nat} (f : Found) (half : Nat) (h : mayAccess s req a false = true) :
    accessReg s req f a half .read
      = reply (loadReg s req a half).1 true (bytesOf (if half = 0 then 8 else 4) (loadReg s req a half).2.toNat) := by
  unfold accessReg
  dsimp only
  rw [csrRead_of_mayAccess half h]

theorem exec_bar0Access (pt : Fin 2) (fn : Fin 5) (ofs : BitVec 24) (half : Fin 4) (x : Access) (f : Found) (s : State) (hh : half.val ≠ 3) :
    exec (.bar0Access pt fn ofs half x f) s = .next (accessReg s (.host pt fn) f (panelCsr + ofs.toNat) half.val x) := by
  show execBar0Access pt fn ofs half x f s = _
  unfold execBar0Access
  rw [if_neg (fun e => hh (congrArg Fin.val e))]
  rfl

/-- The state once HOST_DELIVERY has taken item `q` from its queue. -/
def takeItem (s : State) (q : Nat × Nat × Nat × List Byte) : State :=
  modPnl s (fun p => { p with hostQ := p.hostQ.erase q })

theorem onlyRegs_takeItem (s : State) (q : Nat × Nat × Nat × List Byte) : onlyRegs s (takeItem s q) := onlyRegs_modPnl s _

/-- What HOST_DELIVERY does with an item that its function takes. -/
def delivered (s : State) (u kind : Nat) (bs : List Byte) : State :=
  match kind with
  | 0 => deliverFault s u bs
  | 1 => hostCause (hostWrite s (hostAddr s (MGT_FN_FPR_ADDR u)) bs) u 1
  | _ => deliverSnap s u

theorem exec_hostDelivery (pt : Fin 2) (fn : Fin 5) (s : State) (kind : Nat) (bs : List Byte)
    (hq : s.pnl.hostQ.find? (fun q => q.1 == pt.val && q.2.1 == fn.val) = some (pt.val, fn.val, kind, bs))
    (ht : fnTakes s (fnUnit pt.val fn.val) kind = true) :
    exec (.hostDelivery pt fn) s = .next (delivered (takeItem s (pt.val, fn.val, kind, bs)) (fnUnit pt.val fn.val) kind bs) := by
  have ht' : fnTakes (modPnl s (fun p => { p with hostQ := p.hostQ.erase (pt.val, fn.val, kind, bs) })) (fnUnit pt.val fn.val) kind = true := ht
  show execHostDelivery pt fn s = _
  unfold execHostDelivery
  simp only [hq, ht', Bool.not_true, Bool.false_eq_true, if_false]
  match kind with
  | 0 => rfl
  | 1 => rfl
  | _ + 2 => rfl

/-- A delivery takes its item from the queue, and changes registers and the panel's internals alone. -/
theorem delivered_frame (s : State) (u kind : Nat) (bs : List Byte) :
    onlyRegs s (delivered s u kind bs) ∧ (delivered s u kind bs).pnl.hostQ = s.pnl.hostQ := by
  unfold delivered
  split
  · exact ⟨(deliverFault_spec s u bs).1, (deliverFault_spec s u bs).2.1⟩
  · exact ⟨rfl, rfl⟩
  · exact ⟨(deliverSnap_spec s u).1, (deliverSnap_spec s u).2.1⟩

/-- Settles O33, clause by clause: each access is the named operation of its kind, and each delivery one of the three. -/
theorem hostCommandsComplete : Obligations.HostCommandsComplete := by
  unfold Obligations.HostCommandsComplete
  refine ⟨exec_registerWrite_allowed, ?_, ?_, ?_, ?_, ?_⟩
  · intro pt fn a half v f s u o r hh ha hw hown hl ho h1 h2 hr
    have hx := exec_registerWrite_allowed (.host pt fn) a half v f s hh hw (by rw [if_neg (Nat.not_lt.mpr ha)]; exact hown)
    rw [storeReg_page half.val v hl ho h1 h2 hr] at hx
    exact ⟨_, hx, plainWrite_frame s a.toNat r _⟩
  · intro pt fn ofs half v f s hh a req
    refine ⟨fun hm hw => ?_, fun hm => ⟨_, exec_bar0Access pt fn ofs half .read f s hh, ?_⟩⟩
    · rw [exec_bar0Access pt fn ofs half _ f s hh, accessReg_write f half.val v hm hw]
    · rw [accessReg_read f half.val hm]
      exact ⟨rfl, loadReg_mem s req a half.val, rfl⟩
  · intro pt fn n o w data sym f s p req ap a key len k word m run hen hcls
    refine ⟨fun hd h0 h4 ha4 hline hrej hmine => ?_, fun hd hl h8 hw hm => ?_, fun hd hl h8 hw hm hwin => ?_⟩
    · have hrun : run = .next (apertureData s req key a len w data 0 sym) := exec_aperture_data pt fn n o w data 0 sym f hen hd
      have own : OwnData s req p a len := ⟨hcls, h0, h4, ha4, hline, hrej, hmine⟩
      refine ⟨fun hhbm hkey hpanel hhome => ?_, fun hbsn hready => ?_, fun hbsn hbusy => ?_⟩
      · rw [apertureData_hbm w data 0 sym own hhbm hkey hpanel hhome] at hrun
        refine ⟨?_, ?_⟩
        · rintro rfl
          exact ⟨_, hrun, fun hc => hostHbm_write s req key a data sym hc⟩
        · rintro rfl
          exact ⟨_, hrun, hostHbm_read_mem s req key a len data sym, fun hc => hostHbm_read_reply s req key a len data sym hc⟩
      · have haddr : wordAddr k m.word = a := wordAddr_of_basin hbsn ha4
        rw [apertureData_basin key w data sym own hbsn, if_pos hready] at hrun
        refine ⟨fun hw hdyn => ?_, fun hw hz => ?_⟩
        · obtain ⟨hbytes, hreads, hreply⟩ := maintAccess_write s k m [] hw hdyn
          rw [haddr] at hbytes hreads
          refine ⟨_, hrun, hreads, fun b hb => ?_, hreply⟩
          rw [hbytes, if_neg (by show ¬ (a ≤ b ∧ b < a + len); omega)]
        · obtain ⟨hmem, hreply⟩ := maintAccess_read s k m hw hz
          rw [haddr] at hreply
          exact ⟨_, hrun, hmem, hreply⟩
      · rw [apertureData_basin key w data sym own hbsn, if_neg (by rw [hbusy]; decide)] at hrun
        refine ⟨_, hrun, ⟨rfl, rfl, rfl, rfl, rfl, rfl, rfl, rfl⟩, rfl, ?_⟩
        rw [site_modSite, if_pos rfl]
    · subst hw
      have hrun : run = .next (accessReg s req f a 0 .read) := exec_aperture_register pt fn n o false data 0 sym f hen hd hl h8
      rw [accessReg_read f 0 hm] at hrun
      exact ⟨_, hrun, rfl⟩
    · subst hw
      have hrun : run = .next (accessReg s req f a 0 (.write (BitVec.ofNat 64 (natOf data)))) :=
        exec_aperture_register pt fn n o true data 0 sym f hen hd hl h8
      rw [accessReg_write f 0 _ hm hwin] at hrun
      exact hrun
  · intro pt fn s kind bs u c n head ring at_ tail cause hq htakes
    have hx := exec_hostDelivery pt fn s kind bs hq htakes
    obtain ⟨hregs, hqueue⟩ := delivered_frame (takeItem s (pt.val, fn.val, kind, bs)) u kind bs
    have hall := (onlyRegs_takeItem s (pt.val, fn.val, kind, bs)).trans hregs
    refine ⟨_, hx, hall.sameStores, hall.sameUnits, hqueue, ?_, ?_, ?_⟩
    · rintro rfl
      exact (deliverFault_spec (takeItem s (pt.val, fn.val, 0, bs)) u bs).2.2
    · rintro rfl
      exact ⟨hostCause_set _ u 1 (by decide), rfl⟩
    · rintro rfl
      exact (deliverSnap_spec (takeItem s (pt.val, fn.val, 2, bs)) u).2.2
  · intro pt fn s b
    exact ⟨_, rfl, rfl, fun a => rd_dropCsr s b 0x1000 a⟩

end Sys2Proof.Machine

namespace Sys2Proof.Machine

/-! The unload that a load of a STOPPED partition begins with (R472): it changes no byte of memory and no fuse. -/

/-- `t` has the bytes of every memory and the word of FUSE_INFO that `s` has. -/
def keepsBytes (s t : State) : Prop := t.mem = s.mem ∧ t.cmem = s.cmem ∧ rd t FUSE_INFO = rd s FUSE_INFO

namespace keepsBytes

theorem refl (s : State) : keepsBytes s s := ⟨rfl, rfl, rfl⟩

theorem trans {r s t : State} (h : keepsBytes r s) (k : keepsBytes s t) : keepsBytes r t :=
  ⟨k.1.trans h.1, k.2.1.trans h.2.1, k.2.2.trans h.2.2⟩

theorem ite {c : Prop} [Decidable c] {r s t : State} (hs : keepsBytes r s) (ht : keepsBytes r t) : keepsBytes r (if c then s else t) := by
  split
  · exact hs
  · exact ht

theorem foldl {α : Type} (f : State → α → State) (l : List α) (h : ∀ s x, x ∈ l → keepsBytes s (f s x)) (s : State) : keepsBytes s (l.foldl f s) := by
  induction l generalizing s with
  | nil => exact .refl s
  | cons x xs ih => exact (h s x (by simp)).trans (ih (fun s y hy => h s y (by simp [hy])) _)

theorem fusedMax {s t : State} (h : keepsBytes s t) : fusedMax t = fusedMax s := congrArg (fget Fd.FUSE_INFO_MAX_OPPT) h.2.2

end keepsBytes

theorem keepsBytes_wr (s : State) {a : Nat} (v : W64) (h : a ≠ FUSE_INFO) : keepsBytes s (wr s a v) := ⟨rfl, rfl, rd_wr_other s h v⟩
theorem keepsBytes_wf (s : State) {a : Nat} (f : Fld) (n : Nat) (h : a ≠ FUSE_INFO) : keepsBytes s (wf s a f n) := keepsBytes_wr s _ h
theorem keepsBytes_modPnl (s : State) (f : PanelX → PanelX) : keepsBytes s (modPnl s f) := ⟨rfl, rfl, rfl⟩
theorem keepsBytes_modDom (s : State) (d : Nat) (f : DomX → DomX) : keepsBytes s (modDom s d f) := ⟨rfl, rfl, rfl⟩
theorem keepsBytes_modSite (s : State) (k : Nat) (f : SiteX → SiteX) : keepsBytes s (modSite s k f) := ⟨rfl, rfl, rfl⟩
theorem keepsBytes_modEdge (s : State) (e : Nat) (f : EdgeX → EdgeX) : keepsBytes s (modEdge s e f) := ⟨rfl, rfl, rfl⟩
theorem keepsBytes_modPort (s : State) (p : Nat) (f : PortX → PortX) : keepsBytes s (modPort s p f) := ⟨rfl, rfl, rfl⟩
theorem keepsBytes_modPart (s : State) (p : Nat) (f : PartX → PartX) : keepsBytes s (modPart s p f) := ⟨rfl, rfl, rfl⟩
theorem keepsBytes_dropTab (s : State) (rs : List (Nat × Nat)) : keepsBytes s (dropTab s rs) := ⟨rfl, rfl, rfl⟩

/-! Addresses. -/

theorem fuse_info_eq : FUSE_INFO = 0x0622_0020_3000 := rfl

/-- The registers of a site lie below the panel's. -/
theorem siteCsr_ne_fuse {k o : Nat} (hk : k < 144) (ho : o < 0x10_0000) : siteCsr k + o ≠ FUSE_INFO := by
  rw [fuse_info_eq]
  unfold siteCsr
  omega

theorem edgeCsr_ne_fuse {e o : Nat} (he : e < 16) (ho : o < 0x100_0000) : edgeCsr e + o ≠ FUSE_INFO := by
  rw [fuse_info_eq]
  unfold edgeCsr
  omega

theorem core_ne_fuse {g o : Nat} (hg : g < 9216) (ho : o < 0x2000) : baseCore g + o ≠ FUSE_INFO := by
  rw [fuse_info_eq]
  unfold baseCore siteCsr
  omega

theorem clk_ne_fuse {d o : Nat} (hd : d < 160) (ho : o < 0x4000) : baseClk d + o ≠ FUSE_INFO := by
  unfold baseClk
  cases h : Nat.blt d 144 with
  | true => exact Nat.add_assoc _ _ _ ▸ siteCsr_ne_fuse (Nat.blt_eq.mp h) (by omega)
  | false => exact Nat.add_assoc _ _ _ ▸ edgeCsr_ne_fuse (by omega) (by omega)

theorem boot_ne_fuse {o : Nat} (ho : o < 0x3000) : basePBoot + o ≠ FUSE_INFO := by
  unfold FUSE_INFO
  omega

theorem loadStatus_ne_fuse {p : Nat} (hp : p < 4) : BOOT_LOAD_STATUSp p ≠ FUSE_INFO := by
  unfold BOOT_LOAD_STATUSp
  exact Nat.add_assoc _ _ _ ▸ boot_ne_fuse (by omega)

/-! Cores and sites. -/

theorem keepsBytes_setCoreState (s : State) {g : Nat} (v : Nat) (hg : g < 9216) : keepsBytes s (setCoreState s g v) :=
  keepsBytes_wf s _ _ (core_ne_fuse hg (by decide))

theorem keepsBytes_unloadCore (s : State) {g : Nat} (hg : g < 9216) : keepsBytes s (unloadCore s g) :=
  .ite (.refl s) ((keepsBytes_setCoreState s 1 hg).trans (keepsBytes_wf _ _ _ (core_ne_fuse hg (by decide))))

theorem mem_enabledCores_lt {s : State} {k g : Nat} (hk : k < 144) (h : g ∈ enabledCores s k) : g < 9216 := by
  unfold enabledCores at h
  obtain ⟨h, -⟩ := List.mem_filter.mp h
  obtain ⟨c, hc, rfl⟩ := List.mem_map.mp h
  have := List.mem_range.mp hc
  omega

theorem keepsBytes_showSleep (s : State) {k : Nat} (hk : k < 144) : keepsBytes s (showSleep s k) := by
  unfold showSleep
  refine .trans (.foldl _ _ (fun t g hg => ?_) s) (keepsBytes_wf _ _ _ (clk_ne_fuse (by omega) (by decide)))
  exact .ite (.refl t) (keepsBytes_wf t _ _ (core_ne_fuse (mem_enabledCores_lt hk hg) (by decide)))

theorem keepsBytes_requestWake (s : State) (k : Nat) : keepsBytes s (requestWake s k) :=
  .ite ((keepsBytes_modSite _ _ _).trans (keepsBytes_modPnl _ _)) (.refl s)

theorem keepsBytes_leaveSleep (s : State) {k : Nat} (hk : k < 144) : keepsBytes s (leaveSleep s k) :=
  (keepsBytes_showSleep s hk).trans (.ite (keepsBytes_requestWake _ k) (.refl _))

theorem keepsBytes_clearCause (s : State) {d : Nat} (c : Nat) (hd : d < 160) : keepsBytes s (clearCause s d c) :=
  (keepsBytes_modDom _ _ _).trans ((keepsBytes_wf _ _ _ (clk_ne_fuse hd (by decide))).trans (keepsBytes_wf _ _ _ (by decide)))

theorem keepsBytes_settleCauses (s : State) {k : Nat} (hk : k < 160) : keepsBytes s (settleCauses s k) :=
  .foldl _ _ (fun t c _ => .ite (keepsBytes_clearCause t c hk) (.refl t)) s

theorem keepsBytes_placePhase (s : State) {d : Nat} (row start : Nat) (hd : d < 160) : keepsBytes s (placePhase s d row start) :=
  (keepsBytes_modDom _ _ _).trans ((keepsBytes_wr _ _ (clk_ne_fuse hd (by decide))).trans (keepsBytes_wr _ _ (clk_ne_fuse hd (by decide))))

theorem keepsBytes_emptyBoundary (s : State) {d : Nat} (hd : d < 160) : keepsBytes s (emptyBoundary s d) :=
  (keepsBytes_dropTab s _).trans (.ite (keepsBytes_placePhase _ _ _ hd) (.refl _))

theorem ril_ne_fuse {k : Nat} (hk : k < 144) : RIL_STATUS k ≠ FUSE_INFO := by
  unfold RIL_STATUS baseRil
  exact Nat.add_assoc _ _ _ ▸ siteCsr_ne_fuse hk (by decide)

theorem keepsBytes_emptySite (s : State) {k : Nat} (hk : k < 144) : keepsBytes s (emptySite s k) :=
  ((keepsBytes_dropTab s _).trans (keepsBytes_wf _ _ _ (ril_ne_fuse hk))).trans
    ((keepsBytes_dropTab _ _).trans ((keepsBytes_emptyBoundary _ (by omega)).trans (keepsBytes_modSite _ _ _)))

theorem mem_sitesOf_lt {s : State} {p k : Nat} (h : k ∈ sitesOf s p) : k < 144 := by
  unfold sitesOf at h
  exact List.mem_range.mp (List.mem_filter.mp h).1

theorem mem_edgesOf_lt {s : State} {p e : Nat} (h : e ∈ edgesOf s p) : e < 16 := by
  unfold edgesOf at h
  exact List.mem_range.mp (List.mem_filter.mp h).1

theorem keepsBytes_unloadSite (s : State) {k : Nat} (hk : k < 144) :
    keepsBytes s (modSite (settleCauses (emptySite (leaveSleep ((List.range 64).foldl (fun s i => unloadCore s (64 * k + i)) s) k) k) k) k
      (fun x => { x with retired := false, out := false })) := by
  have hcores : keepsBytes s ((List.range 64).foldl (fun s i => unloadCore s (64 * k + i)) s) :=
    .foldl _ _ (fun t i hi => keepsBytes_unloadCore t (by have := List.mem_range.mp hi; omega)) s
  exact hcores.trans ((keepsBytes_leaveSleep _ hk).trans ((keepsBytes_emptySite _ hk).trans ((keepsBytes_settleCauses _ (by omega)).trans (keepsBytes_modSite _ _ _))))

/-! Edge dies and ports. -/

theorem keepsBytes_emptyEdge (s : State) (e : Nat) : keepsBytes s (emptyEdge s e) := (keepsBytes_dropTab s _).trans (keepsBytes_modEdge _ _ _)

theorem keepsBytes_showReady (s : State) : keepsBytes s (showReady s) := by
  have h : BOOT_READY ≠ FUSE_INFO := by decide
  unfold showReady
  exact (keepsBytes_wf _ _ _ h).trans ((keepsBytes_wf _ _ _ h).trans ((keepsBytes_wf _ _ _ h).trans ((keepsBytes_wf _ _ _ h).trans (keepsBytes_wf _ _ _ h))))

theorem keepsBytes_hostCauseAll (s : State) (bit : Nat) : keepsBytes s (hostCauseAll s bit) := by
  refine .foldl _ _ (fun t u _ => keepsBytes_wf t _ _ ?_) s
  rw [fuse_info_eq]
  unfold MGT_FN_IRQ baseFn fnKey
  omega

theorem keepsBytes_setReady (s : State) {a : Nat} (i : Nat) (b : Bool) (h : a ≠ FUSE_INFO) : keepsBytes s (setReady s a i b) :=
  .ite (.refl s) ((keepsBytes_wf _ _ _ h).trans ((keepsBytes_showReady _).trans ((keepsBytes_modPnl _ _).trans (keepsBytes_hostCauseAll _ _))))

theorem keepsBytes_enterPort (s : State) {p : Nat} (v : Nat) (hp : p < 128) : keepsBytes s (enterPort s p v) := by
  have hstatus : SUO_PORTp_STATUS (p / 8) (p % 8) ≠ FUSE_INFO := by
    rw [fuse_info_eq]
    unfold SUO_PORTp_STATUS baseSuo edgeCsr
    omega
  have hready : BOOT_READY_PORTn (p / 64) ≠ FUSE_INFO := by
    unfold BOOT_READY_PORTn
    exact Nat.add_assoc _ _ _ ▸ boot_ne_fuse (by omega)
  exact .ite (.refl s) ((keepsBytes_wf _ _ _ hstatus).trans ((keepsBytes_modDom _ _ _).trans (keepsBytes_setReady _ _ _ hready)))

theorem keepsBytes_unmapPort (s : State) {p : Nat} (hp : p < 128) : keepsBytes s (unmapPort s p) :=
  .ite ((keepsBytes_modPort _ _ _).trans (keepsBytes_enterPort _ 4 hp)) (.refl s)

theorem keepsBytes_unloadEdge (s : State) {e : Nat} (he : e < 16) :
    keepsBytes s ((List.range 8).foldl (fun s i => unmapPort s (8 * e + i)) (emptyBoundary (emptyEdge s e) (144 + e))) := by
  refine ((keepsBytes_emptyEdge s e).trans (keepsBytes_emptyBoundary _ (by omega))).trans (.foldl _ _ (fun u i hi => keepsBytes_unmapPort u ?_) _)
  have := List.mem_range.mp hi
  omega

theorem keepsBytes_unlockProgram (s : State) {e : Nat} (he : e < 16) : keepsBytes s (wf s (SUO_PROG_ERR e) Fd.SUO_PROG_ERR_LOCK 0) := by
  refine keepsBytes_wf s _ _ ?_
  rw [fuse_info_eq]
  unfold SUO_PROG_ERR baseSuo edgeCsr
  omega

/-- An unload writes no memory and no fuse. -/
theorem keepsBytes_unloadPart (s : State) {p : Nat} (hp : p < 4) : keepsBytes s (unloadPart s p) := by
  have hsites := keepsBytes.foldl _ (sitesOf s p) (fun t k hk => keepsBytes_unloadSite t (mem_sitesOf_lt hk)) s
  unfold unloadPart
  dsimp only
  refine hsites.trans ?_
  generalize List.foldl _ s (sitesOf s p) = t
  have hedges := keepsBytes.foldl _ (edgesOf t p) (fun u e he => keepsBytes_unloadEdge u (mem_edgesOf_lt he)) t
  refine hedges.trans ?_
  generalize List.foldl _ t (edgesOf t p) = u
  refine ((keepsBytes_modPart u p _).trans (keepsBytes_wr _ 0#64 (loadStatus_ne_fuse hp))).trans (.foldl _ _ (fun v e he => ?_) _)
  exact .ite (.refl v) (keepsBytes_unlockProgram v (List.mem_range.mp he))

end Sys2Proof.Machine

namespace Sys2Proof.Machine

/-! A load that its checks refuse (R470). -/

/-- A check passes, or fails with one of the codes 1 to 15. -/
def codeInRange (c : Option (Nat × Nat)) : Prop := ∀ x, c = some x → 0 < x.1 ∧ x.1 < 16

theorem codeInRange_failIf {code : Nat} (detail : Nat) (bad : Bool) (h : 0 < code ∧ code < 16) : codeInRange (failIf code detail bad) := by
  intro x hx
  unfold failIf at hx
  split at hx
  · exact Option.some.inj hx ▸ h
  · cases hx

theorem codeInRange_failAt {α : Type} {code : Nat} (good : α → Bool) (detail : α → Nat) (xs : List α) (h : 0 < code ∧ code < 16) :
    codeInRange (failAt code good detail xs) := by
  intro x hx
  unfold failAt at hx
  obtain ⟨y, -, rfl⟩ := Option.map_eq_some_iff.mp hx
  exact h

theorem codeInRange_none : codeInRange Option.none := fun _ hx => by cases hx

theorem codeInRange_firstFail_nil : codeInRange (firstFail []) := codeInRange_none

theorem codeInRange_firstFail_cons {c : Option (Nat × Nat)} {xs : List (Option (Nat × Nat))} (hc : codeInRange c) (h : codeInRange (firstFail xs)) :
    codeInRange (firstFail (c :: xs)) := by
  cases c with
  | none => exact h
  | some y => exact hc

theorem firstFail_ne_none {xs : List (Option (Nat × Nat))} {c : Option (Nat × Nat)} (hc : c ∈ xs) (h : c ≠ Option.none) : firstFail xs ≠ Option.none := by
  induction xs with
  | nil => cases hc
  | cons y xs ih =>
    cases y with
    | none => exact ih ((List.mem_cons.mp hc).resolve_left h)
    | some y => exact fun e => by cases e

/-! Each check of R470 has a code of its own between 1 and 14. -/

theorem codeInRange_ckFormat (s : State) (p : Nat) (im : SchedImage) : codeInRange (ckFormat s p im) :=
  codeInRange_firstFail_cons (codeInRange_failIf _ _ (by decide)) <| codeInRange_firstFail_cons (codeInRange_failAt _ _ _ (by decide)) <|
  codeInRange_firstFail_cons (codeInRange_failAt _ _ _ (by decide)) <| codeInRange_firstFail_cons (codeInRange_failAt _ _ _ (by decide))
    codeInRange_firstFail_nil

theorem codeInRange_ckBoundary (s : State) (p : Nat) (im : SchedImage) : codeInRange (ckBoundary s p im) :=
  codeInRange_firstFail_cons (codeInRange_failIf _ _ (by decide)) <| codeInRange_firstFail_cons (codeInRange_failAt _ _ _ (by decide)) <|
  codeInRange_firstFail_cons (codeInRange_failAt _ _ _ (by decide)) codeInRange_firstFail_nil

theorem codeInRange_ckCanonical (s : State) (im : SchedImage) : codeInRange (ckCanonical s im) := by
  unfold ckCanonical
  dsimp only
  split
  · exact codeInRange_firstFail_cons (codeInRange_failAt _ _ _ (by decide)) (codeInRange_firstFail_cons (codeInRange_failAt _ _ _ (by decide)) codeInRange_firstFail_nil)
  · exact codeInRange_none

theorem codeInRange_ckStreams (s : State) (p : Nat) (im : SchedImage) : codeInRange (ckStreams s p im) :=
  codeInRange_firstFail_cons (codeInRange_failAt _ _ _ (by decide)) (codeInRange_firstFail_cons (codeInRange_failAt _ _ _ (by decide)) codeInRange_firstFail_nil)

theorem codeInRange_ckPrograms (im : SchedImage) : codeInRange (ckPrograms im) :=
  codeInRange_firstFail_cons (codeInRange_failAt _ _ _ (by decide)) (codeInRange_firstFail_cons (codeInRange_failIf _ _ (by decide)) codeInRange_firstFail_nil)

theorem codeInRange_ckTables (s : State) (im : SchedImage) : codeInRange (ckTables s im) := by
  have at14 : ∀ {α : Type} (good : α → Bool) (detail : α → Nat) (xs : List α), codeInRange (failAt 14 good detail xs) :=
    fun good detail xs => codeInRange_failAt good detail xs (by decide)
  have if14 : ∀ bad, codeInRange (failIf 14 0 bad) := fun bad => codeInRange_failIf 0 bad (by decide)
  unfold ckTables
  exact codeInRange_firstFail_cons (at14 _ _ _) <| codeInRange_firstFail_cons (at14 _ _ _) <| codeInRange_firstFail_cons (at14 _ _ _) <|
    codeInRange_firstFail_cons (at14 _ _ _) <| codeInRange_firstFail_cons (at14 _ _ _) <| codeInRange_firstFail_cons (at14 _ _ _) <|
    codeInRange_firstFail_cons (if14 _) <| codeInRange_firstFail_cons (at14 _ _ _) <| codeInRange_firstFail_cons (at14 _ _ _) <|
    codeInRange_firstFail_cons (at14 _ _ _) <| codeInRange_firstFail_cons (if14 _) codeInRange_firstFail_nil

theorem codeInRange_loadTest (s : State) (p : Nat) (im : SchedImage) : codeInRange (loadTest s p im) := by
  unfold loadTest ckFpr ckOppt ckPhases ckOpen ckWakes ckLinks ckCorridor ckResidency
  exact codeInRange_firstFail_cons (codeInRange_ckFormat s p im) <| codeInRange_firstFail_cons (codeInRange_failIf _ _ (by decide)) <|
    codeInRange_firstFail_cons (codeInRange_failIf _ _ (by decide)) <| codeInRange_firstFail_cons (codeInRange_failAt _ _ _ (by decide)) <|
    codeInRange_firstFail_cons (codeInRange_failAt _ _ _ (by decide)) <| codeInRange_firstFail_cons (codeInRange_failAt _ _ _ (by decide)) <|
    codeInRange_firstFail_cons (codeInRange_failAt _ _ _ (by decide)) <| codeInRange_firstFail_cons (codeInRange_ckBoundary s p im) <|
    codeInRange_firstFail_cons (codeInRange_failAt _ _ _ (by decide)) <| codeInRange_firstFail_cons (codeInRange_ckCanonical s im) <|
    codeInRange_firstFail_cons (codeInRange_ckStreams s p im) <| codeInRange_firstFail_cons (codeInRange_failIf _ _ (by decide)) <|
    codeInRange_firstFail_cons (codeInRange_failIf _ _ (by decide)) <| codeInRange_firstFail_cons (codeInRange_ckPrograms im) <|
    codeInRange_firstFail_cons (codeInRange_ckTables s im) codeInRange_firstFail_nil

/-! The operating points of an image (R5, R261). -/

/-- A power record above the fused maximum fails the check of code 0x04. -/
theorem ckOppt_fails {s : State} {im : SchedImage} {x : PwrRow} (hx : x ∈ im.power) (hp : x.present = true) (ho : x.oppt.val < fusedMax s) :
    ∃ detail, ckOppt s im = some (4, detail) := by
  have hbad : (!(!x.present || Nat.ble (fusedMax s) x.oppt.val)) = true := by
    have : Nat.ble (fusedMax s) x.oppt.val = false := by
      rw [← Bool.not_eq_true, Nat.ble_eq]
      exact Nat.not_le.mpr ho
    rw [hp, this]
    rfl
  unfold ckOppt failAt
  cases hf : im.power.find? (fun x => !(!x.present || Nat.ble (fusedMax s) x.oppt.val)) with
  | none => exact absurd hbad (List.find?_eq_none.mp hf x hx)
  | some y => exact ⟨y.row, rfl⟩

theorem loadTest_of_ckOppt {s : State} {im : SchedImage} {d : Nat} (p : Nat) (h : ckOppt s im = some (4, d)) : loadTest s p im ≠ Option.none := by
  unfold loadTest
  refine firstFail_ne_none (c := ckOppt s im) ?_ (h ▸ fun e => by cases e)
  exact .tail _ (.tail _ (.tail _ (.head _)))

/-- Code 0x04 is the answer where the checks before it pass. -/
theorem loadTest_eq_ckOppt {s : State} {p : Nat} {im : SchedImage} {d : Nat} (h : ckOppt s im = some (4, d)) (h1 : ckFormat s p im = Option.none)
    (h2 : im.signaturesOk = true) (h3 : rf s SEC_LIFECYCLE Fd.SEC_LIFECYCLE_STATE ≠ 3) (h4 : fprMatches s im.fprGen im.fprDigest = true) :
    loadTest s p im = some (4, d) := by
  have hsig : failIf 2 0 (!im.signaturesOk || rf s SEC_LIFECYCLE Fd.SEC_LIFECYCLE_STATE == 3) = Option.none := by
    rw [h2, beq_eq_false_iff_ne.mpr h3]
    rfl
  have hfpr : ckFpr s im = Option.none := by
    unfold ckFpr
    rw [h4]
    rfl
  unfold loadTest
  rw [h1, hsig, hfpr, h]
  rfl

/-! The answer of a refused load. -/

theorem keepsBytes_loadCode (s : State) {p : Nat} (code detail : Nat) (hp : p < 4) : keepsBytes s (loadCode s p code detail) :=
  (keepsBytes_wf s _ _ (loadStatus_ne_fuse hp)).trans (keepsBytes_wf _ _ _ (loadStatus_ne_fuse hp))

theorem code_loadCode (s : State) (p code detail : Nat) :
    rf (loadCode s p code detail) (BOOT_LOAD_STATUSp p) Fd.BOOT_LOAD_STATUSp_CODE = code % 2 ^ 8 := by
  unfold loadCode rf
  rw [rd_wf, if_pos rfl, fget_fset_other _ _ _ _ (by decide) (by decide), rd_wf, if_pos rfl, fget_fset _ _ _ (by decide)]
  rfl

theorem loadState_loadCode (s : State) (p code detail : Nat) : loadState (loadCode s p code detail) p = loadState s p := by
  unfold loadCode loadState rf
  rw [rd_wf, if_pos rfl, fget_fset_other _ _ _ _ (by decide) (by decide), rd_wf, if_pos rfl, fget_fset_other _ _ _ _ (by decide) (by decide)]

theorem loadState_setLoadState (s : State) (p v : Nat) : loadState (setLoadState s p v) p = v % 2 ^ 3 := by
  unfold loadState setLoadState
  exact rf_wf_same _ _ _ _

/-- The state in which LOAD runs its checks: a STOPPED image is unloaded first (R469). -/
def atLoad (s : State) (p : Nat) : State := if loadState s p = 6 then unloadPart s p else s

theorem keepsBytes_atLoad (s : State) {p : Nat} (hp : p < 4) : keepsBytes s (atLoad s p) := .ite (keepsBytes_unloadPart s hp) (.refl s)

theorem loadImage_of_fail {s : State} {p : Nat} {im : SchedImage} {c d : Nat} (hb : loadBusy s p im = false) (h : loadTest (atLoad s p) p im = some (c, d)) :
    loadImage s p im = loadCode (setLoadState (atLoad s p) p 5) p c d := by
  unfold atLoad at *
  unfold loadImage
  rw [hb]
  simp only [Bool.false_eq_true, if_false, h]

/-- The fields of the command word that BOOT_LOAD writes: OP 1 and the partition (R477). -/
theorem loadCmd_fields (p : Part) : fget Fd.BOOT_LOAD_CMD_OP (BitVec.ofNat 64 (1 + 16 * p.val)) = 1
    ∧ fget Fd.BOOT_LOAD_CMD_PART (BitVec.ofNat 64 (1 + 16 * p.val)) = p.val := by
  revert p
  decide

/-- BOOT_LOAD of a requester that may load into the partition is the load (R477, R513). -/
theorem exec_bootLoad {req : Requester} {p : Part} {im : SchedImage} {s : State} (hm : mayAccess s req BOOT_LOAD_CMD true = true)
    (ha : loadCmdAllowed s req (BitVec.ofNat 64 (1 + 16 * p.val)) = true) (hi : inPartition s p.val (staged s req BOOT_LOAD_SRC) 256 = true) :
    exec (.bootLoad req p im) s = .next (loadImage s p.val im) := by
  obtain ⟨hop, hpart⟩ := loadCmd_fields p
  show execBootLoad req p im s = _
  unfold execBootLoad
  rw [guardCsr_of_mayAccess _ hm (by decide)]
  unfold writeLoadCmd
  simp only [ha, hop, hpart, hi, Bool.not_true, Bool.false_eq_true, if_false, if_true]
  rfl

/-- Settles O55: the check of code 0x04 fails, so that the load ends in its refusal, with that code where no check before it fails. -/
theorem fusedMaximumRefused : Obligations.FusedMaximumRefused := by
  unfold Obligations.FusedMaximumRefused
  intro req p im s x hm ha hi hb hx hpresent ho
  have hkeep := keepsBytes_atLoad s p.isLt
  obtain ⟨d4, hd4⟩ := ckOppt_fails hx hpresent (hkeep.fusedMax.symm ▸ ho)
  obtain ⟨⟨c, d⟩, hcd⟩ := Option.ne_none_iff_exists'.mp (loadTest_of_ckOppt p.val hd4)
  obtain ⟨hpos, hlt⟩ := codeInRange_loadTest _ _ _ _ hcd
  refine ⟨_, exec_bootLoad hm ha hi, ?_⟩
  rw [loadImage_of_fail hb hcd]
  obtain ⟨hmem, hcmem, -⟩ := hkeep.trans ((keepsBytes_wf _ Fd.BOOT_LOAD_STATUSp_STATE 5 (loadStatus_ne_fuse p.isLt)).trans (keepsBytes_loadCode _ c d p.isLt))
  refine ⟨hmem, hcmem, ?_, ?_, fun hstate h1 h2 h3 h4 => ?_⟩
  · exact (loadState_loadCode _ _ _ _).trans (loadState_setLoadState _ _ _)
  · rw [code_loadCode, Nat.mod_eq_of_lt (by omega)]
    omega
  · have hsame : atLoad s p.val = s := if_neg hstate
    rw [hsame] at hcd hd4
    rw [loadTest_eq_ckOppt hd4 h1 h2 h3 h4] at hcd
    obtain rfl : 4 = c := congrArg Prod.fst (Option.some.inj hcd)
    exact code_loadCode _ _ _ _

end Sys2Proof.Machine

namespace Sys2Proof.Machine

/-! A cycle of the clock (R62): what counting, holds, debts and programs leave unchanged. -/

/-- `t` has the stores, the ports, the waiting commands and the panel's clock of `s`, and every domain held in `s` is held in it. -/
structure clockFrame (s t : State) : Prop where
  mem : t.mem = s.mem
  cmem : t.cmem = s.cmem
  vregs : t.vregs = s.vregs
  ports : t.ports = s.ports
  pending : t.pending = s.pending
  wall : t.pnl.wall = s.pnl.wall
  held : ∀ e, held s e = true → held t e = true

/-- And no domain's SC differs. -/
structure stays (s t : State) : Prop extends clockFrame s t where
  sc : ∀ e, scOf t e = scOf s e

theorem clockFrame.trans {r s t : State} (h : clockFrame r s) (k : clockFrame s t) : clockFrame r t :=
  ⟨k.mem.trans h.mem, k.cmem.trans h.cmem, k.vregs.trans h.vregs, k.ports.trans h.ports, k.pending.trans h.pending, k.wall.trans h.wall,
    fun e he => k.held e (h.held e he)⟩

namespace stays

theorem refl (s : State) : stays s s := ⟨⟨rfl, rfl, rfl, rfl, rfl, rfl, fun _ h => h⟩, fun _ => rfl⟩

theorem trans {r s t : State} (h : stays r s) (k : stays s t) : stays r t :=
  ⟨h.toclockFrame.trans k.toclockFrame, fun e => (k.sc e).trans (h.sc e)⟩

theorem ite {c : Prop} [Decidable c] {r s t : State} (hs : stays r s) (ht : stays r t) : stays r (if c then s else t) := by
  split
  · exact hs
  · exact ht

theorem foldl {α : Type} (f : State → α → State) (l : List α) (h : ∀ s x, stays s (f s x)) (s : State) : stays s (l.foldl f s) := by
  induction l generalizing s with
  | nil => exact .refl s
  | cons x xs ih => exact (h s x).trans (ih _)

end stays

theorem stays_wr (s : State) (a : Nat) (v : W64) : stays s (wr s a v) := ⟨⟨rfl, rfl, rfl, rfl, rfl, rfl, fun _ h => h⟩, fun _ => rfl⟩
theorem stays_rise (s : State) (a : Nat) (f : Fld) (v : Nat) : stays s (rise s a f v) := ⟨⟨rfl, rfl, rfl, rfl, rfl, rfl, fun _ h => h⟩, fun _ => rfl⟩
theorem stays_wf (s : State) (a : Nat) (f : Fld) (v : Nat) : stays s (wf s a f v) := (stays_wr s a _).trans (stays_rise _ a f v)
theorem stays_setLive (s : State) (v : Sparse W64) : stays s (s.setLive v) := ⟨⟨rfl, rfl, rfl, rfl, rfl, rfl, fun _ h => h⟩, fun _ => rfl⟩
theorem stays_setTab (s : State) (k v : Nat) : stays s (setTab s k v) := ⟨⟨rfl, rfl, rfl, rfl, rfl, rfl, fun _ h => h⟩, fun _ => rfl⟩
theorem stays_setSites (s : State) (v : Sparse SiteX) : stays s (s.setSites v) := ⟨⟨rfl, rfl, rfl, rfl, rfl, rfl, fun _ h => h⟩, fun _ => rfl⟩
theorem stays_modSite (s : State) (k : Nat) (f : SiteX → SiteX) : stays s (modSite s k f) := ⟨⟨rfl, rfl, rfl, rfl, rfl, rfl, fun _ h => h⟩, fun _ => rfl⟩
theorem stays_modCore (s : State) (g : Nat) (f : CoreX → CoreX) : stays s (modCore s g f) := ⟨⟨rfl, rfl, rfl, rfl, rfl, rfl, fun _ h => h⟩, fun _ => rfl⟩
theorem stays_modEdge (s : State) (e : Nat) (f : EdgeX → EdgeX) : stays s (modEdge s e f) := ⟨⟨rfl, rfl, rfl, rfl, rfl, rfl, fun _ h => h⟩, fun _ => rfl⟩

theorem stays_modPnl (s : State) (f : PanelX → PanelX) (h : (f s.pnl).wall = s.pnl.wall) : stays s (modPnl s f) :=
  ⟨⟨rfl, rfl, rfl, rfl, rfl, h, fun _ h => h⟩, fun _ => rfl⟩

theorem scOf_modDom (s : State) (d e : Nat) (f : DomX → DomX) : scOf (modDom s d f) e = if d = e then (f (dom s d)).sc else scOf s e := by
  unfold scOf
  rw [dom_modDom]
  split <;> rfl

theorem held_modDom (s : State) (d e : Nat) (f : DomX → DomX) : held (modDom s d f) e = if d = e then (f (dom s d)).stopped else held s e := by
  unfold held
  rw [dom_modDom]
  split <;> rfl

/-- A change of a domain's internals that lets no hold go. -/
theorem clockFrame_modDom (s : State) (d : Nat) (f : DomX → DomX) (hh : held s d = true → (f (dom s d)).stopped = true) : clockFrame s (modDom s d f) := by
  refine ⟨rfl, rfl, rfl, rfl, rfl, rfl, fun e he => ?_⟩
  rw [held_modDom]
  split
  · next hde => exact hh (hde ▸ he)
  · exact he

theorem stays_modDom (s : State) (d : Nat) (f : DomX → DomX) (hs : (f (dom s d)).sc = scOf s d) (hh : held s d = true → (f (dom s d)).stopped = true) :
    stays s (modDom s d f) := by
  refine ⟨clockFrame_modDom s d f hh, fun e => ?_⟩
  rw [scOf_modDom]
  split
  · next hde => exact hde ▸ hs
  · rfl

/-! Counters. -/

/-- `t` differs from `s` in counters, and in what an overflow sets or leaves to be delivered (R550), alone. -/
def counting (s t : State) : Prop := onlyCounts s t ∧ ∃ q, t.pnl = { s.pnl with ovfPend := q }

namespace counting

theorem refl (s : State) : counting s s := ⟨.refl s, _, rfl⟩

theorem trans {r s t : State} (h : counting r s) (k : counting s t) : counting r t := by
  obtain ⟨p, hp⟩ := h.2
  obtain ⟨q, hq⟩ := k.2
  refine ⟨h.1.trans k.1, q, ?_⟩
  rw [hq, hp]

theorem ite {c : Prop} [Decidable c] {r s t : State} (hs : counting r s) (ht : counting r t) : counting r (if c then s else t) := by
  split
  · exact hs
  · exact ht

theorem foldl {α : Type} (f : State → α → State) (l : List α) (h : ∀ s x, counting s (f s x)) (s : State) : counting s (l.foldl f s) := by
  induction l generalizing s with
  | nil => exact .refl s
  | cons x xs ih => exact (h s x).trans (ih _)

theorem doms {s t : State} (h : counting s t) : t.doms = s.doms := by rw [h.1.1]
theorem tables {s t : State} (h : counting s t) : t.tables = s.tables := by rw [h.1.1]
theorem dom {s t : State} (h : counting s t) (d : Nat) : dom t d = dom s d := congrArg (sget _ · d) h.doms
theorem release {s t : State} (h : counting s t) : t.pnl.release = s.pnl.release := by
  obtain ⟨q, hq⟩ := h.2
  rw [hq]

theorem stays {s t : State} (h : counting s t) : stays s t := by
  have hall := h.1.1
  obtain ⟨q, hq⟩ := h.2
  refine ⟨⟨?_, ?_, ?_, ?_, ?_, ?_, fun e he => ?_⟩, fun e => congrArg DomX.sc (h.dom e)⟩
  · rw [hall]
  · rw [hall]
  · rw [hall]
  · rw [hall]
  · rw [hall]
  · rw [hq]
  · exact (congrArg DomX.stopped (h.dom e)).trans he

end counting

theorem hostCauseAll_pnl (s : State) (bit : Nat) : (hostCauseAll s bit).pnl = s.pnl := by
  unfold hostCauseAll
  generalize List.range 10 = l
  induction l generalizing s with
  | nil => rfl
  | cons u us ih => exact ih _

theorem ovfEvent_pnl (s : State) (a : Nat) : ∃ q, (ovfEvent s a).pnl = { s.pnl with ovfPend := q } := by
  unfold ovfEvent
  split
  · exact ⟨_, rfl⟩
  · exact ⟨s.pnl.ovfPend, hostCauseAll_pnl _ 4⟩

/-- An advance of a counter stores its word, and may make an overflow event. -/
theorem bump_cases {P : State → Prop} (s : State) (a n : Nat) (hlive : ∀ v, P (s.setLive v)) (hovf : ∀ v, P (ovfEvent (s.setLive v) a)) :
    P (bump s a n) := by
  unfold bump
  dsimp only
  split
  · exact hlive _
  · exact hovf _

theorem bump_pnl (s : State) (a n : Nat) : ∃ q, (bump s a n).pnl = { s.pnl with ovfPend := q } :=
  bump_cases (P := fun t => ∃ q, t.pnl = { s.pnl with ovfPend := q }) s a n (fun _ => ⟨_, rfl⟩) (fun v => ovfEvent_pnl (s.setLive v) a)

theorem counting_bump (s : State) (a n : Nat) : counting s (bump s a n) := ⟨onlyCounts_bump s a n, bump_pnl s a n⟩

theorem stays_bump (s : State) (a n : Nat) : stays s (bump s a n) := (counting_bump s a n).stays

theorem counting_accountCores (s : State) (k : Nat) : counting s (accountCores s k) := by
  unfold accountCores
  refine .foldl _ _ (fun t g => ?_) s
  refine .ite (.ite ?_ (.ite (.refl t) ?_)) (.refl t)
  · exact .foldl _ _ (fun u i => counting_bump u _ _) t
  · exact .foldl _ _ (fun u i => counting_bump u _ _) t

theorem counting_countQueues (s : State) (k : Nat) : counting s (countQueues s k) := by
  unfold countQueues
  refine .ite (.refl s) (.foldl _ _ (fun t i => ?_) s)
  dsimp only
  have hdepth := counting.ite (c := queued (site t k) i 0 + queued (site t k) i 1 = 0) (.refl t)
    (counting_bump t (RIL_DPORTp_DEPTH_SUM k i) (queued (site t k) i 0 + queued (site t k) i 1))
  exact .ite (hdepth.trans (counting_bump _ _ _)) hdepth

theorem counting_countDomain (s : State) (d : Nat) : counting s (countDomain s d) := by
  unfold countDomain
  exact .ite ((counting_accountCores s d).trans (counting_countQueues _ d)) (.ite (.refl s) (counting_bump s _ _))

theorem counting_countWaits (s : State) (k : Nat) : counting s (countWaits s k) := by
  unfold countWaits
  exact .ite (.refl s) (counting_bump s _ _)

/-! Holds. -/

theorem stays_attention (s : State) (d : Nat) : stays s (attention s d) := by
  refine stays_modDom s d _ ?_ (fun h => ?_)
  · split <;> rfl
  · split <;> exact h

theorem stays_report (s : State) (ev : FaultEv) : stays s (report s ev) := stays_modPnl s _ rfl

theorem stays_recordHold (s : State) (d cause sc : Nat) : stays s (recordHold s d cause sc) := by
  have hfirst := stays.ite (c := rf s CLK_HOLD_STATUS Fd.CLK_HOLD_STATUS_IN_FORCE = 1) (.refl s)
    ((stays_rise s CLK_HOLD_LAST Fd.CLK_HOLD_LAST_VALID 1).trans ((stays_wr _ CLK_HOLD_LAST
      (fset Fd.CLK_HOLD_LAST_VALID 1 (fset Fd.CLK_HOLD_LAST_DOMAIN d (fset Fd.CLK_HOLD_LAST_CAUSE cause 0#64)))).trans
        (stays_wr _ CLK_HOLD_LAST_SC (BitVec.ofNat 64 sc))))
  exact hfirst.trans ((stays_modPnl _ _ rfl).trans (stays_wr _ _ _))

theorem stays_showSleep (s : State) (k : Nat) : stays s (showSleep s k) :=
  (stays.foldl _ _ (fun t _ => .ite (.refl t) (stays_wf t _ _ _)) s).trans (stays_wf _ _ _ _)

theorem stays_unissueCore (s : State) (g sc : Nat) (u : CoreUndo) : stays s (unissueCore s g sc u) := by
  have hregs := stays.foldl (fun s a => wr s a (sget csrReset u.csr a)) (issueRegs g) (fun t a => stays_wr t a _) s
  have hcounts := hregs.trans (stays.foldl (fun s a => s.setLive (sput (fun _ => 0#64) a (sget (fun _ => 0#64) u.live a) s.live)) (issueCounters g)
    (fun t a => stays_setLive t _) _)
  have hstate := hcounts.trans (stays.ite (c := (coreState s g == 6) = true) (stays_wf _ (CORE_STATUS g) Fd.CORE_STATUS_STATE 6) (.refl _))
  exact hstate.trans ((stays_modCore _ _ _).trans (stays_modSite _ _ _))

theorem stays_unissue (s : State) (k sc : Nat) : stays s (unissue s k sc) := by
  unfold unissue
  exact .ite (.refl s) ((stays.foldl _ _ (fun t e => stays_unissueCore t _ _ _) s).trans (stays_showSleep _ k))

theorem stays_stopDomain (s : State) (d : Nat) : stays s (stopDomain s d) := by
  have hissue := stays.ite (c := d < 144) (stays_unissue s d (scOf s d)) (.refl s)
  unfold stopDomain
  refine .ite (.refl s) (hissue.trans ?_)
  exact (stays_modDom _ d _ rfl (fun _ => rfl)).trans ((stays_wr _ _ _).trans ((stays_wf _ _ _ _).trans (stays_wf _ _ _ _)))

theorem stays_raiseHold (s : State) (d cause weir : Nat) : stays s (raiseHold s d cause weir) := by
  have hrise : stays s (rise (modDom s d (fun x => { x with causes := if x.causes.contains cause then x.causes else x.causes ++ [cause] }))
      (CLK_HOLD d) Fd.CLK_HOLD_VALID 1) := (stays_modDom s d _ rfl (fun h => h)).trans (stays_rise _ _ _ _)
  unfold raiseHold
  dsimp only
  refine .trans ?_ (stays_attention _ d)
  refine .trans ?_ (stays_recordHold _ _ _ _)
  refine .trans ?_ (stays_wf _ _ _ _)
  refine .trans ?_ (stays_stopDomain _ d)
  refine .trans ?_ (stays_wr _ _ _)
  exact .ite hrise (hrise.trans (stays_wr _ _ _))

theorem stays_siteScheduleFault (s : State) (k : Nat) (fresh : Bool) (ev : FaultEv) : stays s (siteScheduleFault s k fresh ev) := by
  unfold siteScheduleFault
  exact .ite (.ite (stays_attention s k) (.refl s)) ((stays_raiseHold s k _ _).trans (stays_report _ ev))

/-! Cascade faults of a boundary. -/

theorem stays_cascadeFault (s : State) (k cause pipe input tag chan sc : Nat) : stays s (cascadeFault s k cause pipe input tag chan sc) := by
  have hput : ∀ (t : State) (w : W64), stays t (wr (wr (wr t (CSC_SFAULT k) w) (CSC_SFAULT_SC k) (BitVec.ofNat 64 sc)) (CSC_SFAULT_TAG k) (BitVec.ofNat 64 tag)) :=
    fun t w => (stays_wr t _ w).trans ((stays_wr _ _ _).trans (stays_wr _ _ _))
  have hrise : stays s (rise (modSite s k (fun x => { x with cscSc := some sc, faultCount := if x.retired then x.faultCount + 1 else x.faultCount }))
      (CSC_SFAULT k) Fd.CSC_SFAULT_VALID 1) := (stays_modSite s k _).trans (stays_rise _ _ _ _)
  unfold cascadeFault
  dsimp only
  refine .trans ?_ (.ite (.refl _) (stays_siteScheduleFault _ _ _ _))
  exact .ite (hrise.trans (hput _ _)) (.ite (.ite (hrise.trans (hput _ _)) (hrise.trans (stays_wf _ _ _ _))) hrise)

theorem stays_clearPipe (s : State) (k j : Nat) : stays s (clearPipe s k j) :=
  (stays_modSite s k _).trans ((stays_modSite _ k _).trans ((stays_wf _ _ _ _).trans (stays_wf _ _ _ _)))

theorem stays_unfinished (s : State) (k b : Nat) : stays s (unfinished s k b) := by
  unfold unfinished
  refine (stays_modSite s k _).trans (.foldl _ _ (fun t j => ?_) _)
  split
  · exact (stays_clearPipe t k j).trans (stays_cascadeFault _ _ _ _ _ _ _ _)
  · split
    · exact (stays_clearPipe t k j).trans (stays_cascadeFault _ _ _ _ _ _ _ _)
    · exact .refl t

/-! Debts. -/

theorem stays_noteGauge (s : State) (d w : Nat) : stays s (noteGauge s d w) := by
  unfold noteGauge
  exact .ite (.refl s) (.ite ((stays_setLive s _).trans (stays_wf _ _ _ _)) (stays_setLive s _))

theorem stays_showDebt (s : State) (d : Nat) : stays s (showDebt s d) :=
  (stays_wf s _ _ _).trans ((stays.foldl _ _ (fun t w => stays_noteGauge t d w) _).trans (.foldl _ _ (fun t (p : Nat × Nat) => stays_noteGauge t p.1 p.2) _))

theorem stays_weirHold (s : State) (d w : Nat) : stays s (weirHold s d w) := by
  unfold weirHold
  dsimp only
  refine .trans ?_ (.ite (stays_report _ _) (.refl _))
  refine .trans ?_ (stays_raiseHold _ d _ _)
  exact (stays_bump s _ _).trans (stays_modDom _ d _ rfl (fun h => h))

theorem stays_weirLimits (s : State) (d w : Nat) : stays s (weirLimits s d w) := by
  unfold weirLimits
  dsimp only
  refine .trans ?_ (.foldl _ _ (fun t (p : Nat × Nat) => .ite (stays_weirHold t p.1 p.2) (.refl t)) _)
  refine .trans ?_ (.foldl _ _ (fun t v => .ite (stays_weirHold t d v) (.refl t)) _)
  exact .ite (stays_weirHold s d w) (.refl s)

theorem stays_addDebt (s : State) (d n w : Nat) : stays s (addDebt s d n w) :=
  (stays_modDom s d _ rfl (fun h => h)).trans ((stays_showDebt _ d).trans (stays_weirLimits _ d w))

theorem stays_weirWait (s : State) (d n w : Nat) : stays s (weirWait s d n w) := by
  unfold weirWait
  dsimp only
  refine .trans ?_ (stays_addDebt _ d n w)
  refine .trans ?_ (stays_modDom _ d _ rfl (fun h => h))
  exact .ite (.refl s) (stays_bump s _ _)

/-! Programs. -/

theorem stays_startEntry (s : State) (k entry sc : Nat) : stays s (startEntry s k entry sc) :=
  .ite (stays_wf s _ _ _) ((stays_modSite s k _).trans (stays_wf _ _ _ _))

theorem stays_advanceOnce (s : State) (k sc : Nat) : stays s (advanceOnce s k sc) := by
  unfold advanceOnce
  exact .ite (.refl s) (.ite ((stays_wf s _ _ _).trans (stays_startEntry _ _ _ _)) (stays_startEntry s _ _ _))

theorem stays_advanceTo (s : State) (k sc n : Nat) : stays s (advanceTo s k sc n) := by
  induction n generalizing s with
  | zero => exact .refl s
  | succ n ih =>
    unfold advanceTo
    exact .ite (.refl s) ((stays_advanceOnce s k sc).trans (ih _))

theorem stays_startProgram (s : State) (k phaseId variant sc : Nat) : stays s (startProgram s k phaseId variant sc) := by
  unfold startProgram
  dsimp only
  split
  · exact stays_wr s _ _
  · exact (stays_wr s _ _).trans ((stays_wf _ _ _ _).trans ((stays_modSite _ k _).trans (stays_startEntry _ _ _ _)))

theorem stays_edgeStart (s : State) (e entry sc : Nat) : stays s (edgeStart s e entry sc) :=
  .ite (stays_modEdge s e _) (stays_modEdge s e _)

theorem stays_edgeAdvance (s : State) (e sc n : Nat) : stays s (edgeAdvance s e sc n) := by
  induction n generalizing s with
  | zero => exact .refl s
  | succ n ih =>
    unfold edgeAdvance
    exact .ite (.refl s) (.ite ((stays_modEdge s e _).trans ((stays_edgeStart _ e _ _).trans (ih _))) ((stays_edgeStart s e _ _).trans (ih _)))

theorem stays_startEdge (s : State) (e phaseId variant sc : Nat) : stays s (startEdge s e phaseId variant sc) := by
  unfold startEdge
  split
  · exact stays_modEdge s e _
  · exact (stays_modEdge s e _).trans (stays_edgeStart _ e _ _)

theorem stays_selectVariant (s : State) (g variant : Nat) : stays s (selectVariant s g variant) := by
  unfold selectVariant
  split
  · exact (stays_modCore s g _).trans (stays_wf _ _ _ _)
  · exact .refl s

theorem stays_placePhase (s : State) (d row start : Nat) : stays s (placePhase s d row start) :=
  (stays_modDom s d _ rfl (fun h => h)).trans ((stays_wr _ _ _).trans (stays_wr _ _ _))

theorem stays_crossBoundary (s : State) (d b variant : Nat) : stays s (crossBoundary s d b variant) := by
  have hplace : stays s (modDom (placePhase s d (nextRow s d) (b + 1)) d (fun x => { x with variant := variant })) :=
    (stays_placePhase s d _ _).trans (stays_modDom _ d _ rfl (fun h => h))
  unfold crossBoundary
  dsimp only
  refine .ite (hplace.trans (stays_startEdge _ _ _ _ _)) ?_
  refine .trans (hplace.trans (stays_startProgram _ d _ _ _)) (.foldl _ _ (fun t g => ?_) _)
  refine .trans (.trans ?_ (stays_selectVariant _ g variant)) (.ite (stays_wf _ _ _ _) (.refl _))
  exact .ite (stays_wf t _ _ _) (.refl t)

/-! The end of an SC and of a cycle. -/

theorem stays_edgeOutput (s : State) (e sc j : Nat) (pick : Nat → Bool) : stays s (edgeOutput s e sc j pick) :=
  .ite (.refl s) (stays_modDom s _ _ rfl (fun h => h))

theorem stays_dropRing (s : State) (d sc : Nat) : stays s (modDom s d (fun x => { x with ring := x.ring.filter (fun r => Nat.ble sc r.sc) })) :=
  stays_modDom s d _ rfl (fun h => h)

theorem stays_edgeForward (s : State) (e sc : Nat) : stays s (edgeForward s e sc) := by
  have hstart := (stays_edgeAdvance s e sc (sc + 1)).trans
    (stays_modEdge _ e (fun x => { x with fwd := some sc, latch := x.latch.filter (fun l => l.2.1 == sc) }))
  have hout := hstart.trans (stays.foldl (fun s j => edgeOutput s e sc j (fun c => Nat.ble 0x10 c && Nat.blt c 0x28)) (List.range 3)
    (fun t j => stays_edgeOutput t e sc j _) _)
  exact .ite (.refl s) (hout.trans (stays_dropRing _ _ sc))

theorem stays_endSc (s : State) (d sc : Nat) : stays s (endSc s d sc) := .ite (.refl s) (stays_edgeForward s _ sc)

theorem stays_endCycle (s : State) (d : Nat) : stays s (endCycle s d) := by
  unfold endCycle
  dsimp only
  refine (stays_modDom s d (fun y => { y with
    spent := (dom s d).spent - cycleLen (dom s d), extra := 0, droop := false, waited := false,
    debt := if catchesUp (dom s d) then (dom s d).debt - min 12 (dom s d).debt else (dom s d).debt }) rfl (fun h => h)).trans ?_
  refine .ite ?_ (stays_wf _ _ _ _)
  exact (stays_bump _ _ _).trans ((stays_wf _ _ _ _).trans (stays_showDebt _ d))

theorem stays_settleDebt (s : State) (d : Nat) :
    stays s (showDebt (modDom s d (fun x => { x with debt := 0, spent := 0, extra := 0, waited := false })) d) :=
  (stays_modDom s d (fun x => { x with debt := 0, spent := 0, extra := 0, waited := false }) rfl (fun h => h)).trans (stays_showDebt _ d)

theorem stays_releaseEdge (s : State) : stays s (releaseEdge s) := by
  unfold releaseEdge
  split
  · exact .refl s
  · dsimp only
    refine .ite ?_ (.refl s)
    refine .trans ?_ (stays_bump _ _ _)
    refine .trans ?_ (stays_wr _ _ _)
    refine .trans (.trans ?_ (stays_wf _ _ _ _)) (stays_wf _ _ _ _)
    refine .trans ?_ (.foldl _ _ (fun t d => stays_settleDebt t d) _)
    exact stays_modPnl s _ rfl

end Sys2Proof.Machine

namespace Sys2Proof.Machine

/-! What a domain does when its cycle ends (R62, R266 to R268, R282). -/

/-- The SC after a domain's own. -/
def nextOf (s : State) (d : Nat) : Nat := (scOf s d + 1) % 2 ^ 64

/-- Domain `d` takes its next SC, and no other domain does. -/
structure moves (d : Nat) (s t : State) : Prop extends clockFrame s t where
  sc : ∀ e, scOf t e = if e = d then nextOf s d else scOf s e

theorem stays.moves {d : Nat} {r s t : State} (h : stays r s) (k : moves d s t) : moves d r t := by
  refine ⟨h.toclockFrame.trans k.toclockFrame, fun e => ?_⟩
  rw [k.sc, h.sc]
  unfold nextOf
  rw [h.sc]

theorem moves.stays {d : Nat} {r s t : State} (h : moves d r s) (k : stays s t) : moves d r t :=
  ⟨h.toclockFrame.trans k.toclockFrame, fun e => (k.sc e).trans (h.sc e)⟩

theorem moves_modDom (s : State) (d : Nat) (f : DomX → DomX) (hs : (f (dom s d)).sc = nextOf s d) (hh : held s d = true → (f (dom s d)).stopped = true) :
    moves d s (modDom s d f) := by
  refine ⟨clockFrame_modDom s d f hh, fun e => ?_⟩
  rw [scOf_modDom]
  by_cases hde : d = e
  · rw [if_pos hde, if_pos hde.symm, hs]
  · rw [if_neg hde, if_neg (fun h => hde h.symm)]

theorem moves_boundaryStop (s : State) (d : Nat) (h : scOf s d + 1 < 2 ^ 64) : moves d s (boundaryStop s d (scOf s d)) := by
  have hend := stays_endSc s d (scOf s d)
  have hnext : scOf s d + 1 = nextOf (endSc s d (scOf s d)) d := by
    unfold nextOf
    rw [hend.sc, Nat.mod_eq_of_lt h]
  unfold boundaryStop
  dsimp only
  refine hend.moves ?_
  refine .stays ?_ (.ite (stays_unfinished _ d _) (.refl _))
  refine .stays ?_ (stays_raiseHold _ d _ _)
  exact moves_modDom _ d _ hnext (fun h => h)

theorem moves_nextSc (s : State) (d : Nat) : moves d s (nextSc s d) := by
  have hsc : moves d s (modDom s d (fun x => { x with sc := (scOf s d + 1) % 2 ^ 64 })) := moves_modDom s d _ rfl (fun h => h)
  unfold nextSc
  dsimp only
  refine .stays ?_ (.ite (stays_crossBoundary _ d _ _) (.refl _))
  refine .stays hsc (.ite ?_ (.refl _))
  exact (stays_advanceTo _ d _ _).trans (stays_modSite _ d _)

theorem moves_advance (s : State) (d : Nat) : moves d s (advance s d) := by
  have hcount := (counting_countDomain s d).stays
  have hwait : stays (countDomain s d) (if d < 144 then countWaits (countDomain s d) d else countDomain s d) :=
    .ite (counting_countWaits _ d).stays (.refl _)
  have hend := hcount.trans (hwait.trans ((stays_endSc _ d (scOf s d)).trans (stays_endCycle _ d)))
  unfold advance
  dsimp only
  generalize endCycle _ d = t at *
  rw [← hend.sc d]
  split
  · next h => exact hend.moves (moves_boundaryStop t d h.2.2)
  · exact hend.moves (moves_nextSc t d)

/-- The end of a nominal cycle moves a domain on by one SC or leaves every SC. -/
theorem stays_or_moves_tickDomain (s : State) (d : Nat) : stays s (tickDomain s d) ∨ moves d s (tickDomain s d) := by
  unfold tickDomain
  split
  · exact .inl ((counting_countDomain s d).stays.trans (stays_bump _ _ _))
  · split
    · exact .inr (moves_advance s d)
    · exact .inl (.ite (stays_weirWait s d _ _) (.refl s))

theorem tickDomain_of_held {s : State} {d : Nat} (h : held s d = true) : counting s (tickDomain s d) := by
  unfold tickDomain
  rw [if_pos h]
  exact (counting_countDomain s d).trans (counting_bump _ _ _)

/-- A domain that is not held goes on exactly if its cycle has run its length and no entry is missing. -/
theorem scOf_tickDomain (s : State) (d : Nat) : scOf (tickDomain s d) d = if advances s d then nextOf s d else scOf s d := by
  unfold tickDomain
  split
  · next h =>
    have hno : advances s d = false := by simp [advances, runs, h]
    rw [hno]
    exact ((counting_countDomain s d).stays.trans (stays_bump _ _ _)).sc d
  · split
    · next h => rw [(moves_advance s d).sc, if_pos rfl]
    · exact (stays.ite (stays_weirWait s d _ _) (.refl s)).sc d

/-! One domain after the other. -/

/-- Each domain of a list takes one step at most: the others keep their SCs. -/
theorem foldl_clock (f : State → Nat → State) (hf : ∀ s d, stays s (f s d) ∨ moves d s (f s d)) (l : List Nat) (hl : l.Nodup) (s : State) :
    clockFrame s (l.foldl f s) ∧ (∀ e, e ∉ l → scOf (l.foldl f s) e = scOf s e)
      ∧ ∀ e, scOf (l.foldl f s) e = scOf s e ∨ scOf (l.foldl f s) e = nextOf s e := by
  induction l generalizing s with
  | nil => exact ⟨(stays.refl s).toclockFrame, fun _ _ => rfl, fun _ => .inl rfl⟩
  | cons d ds ih =>
    obtain ⟨hd, hds⟩ := List.nodup_cons.mp hl
    obtain ⟨hframe, hout, hin⟩ := ih hds (f s d)
    have hother : ∀ e, e ≠ d → scOf (f s d) e = scOf s e := fun e he => by
      rcases hf s d with h | h
      · exact h.sc e
      · rw [h.sc, if_neg he]
    have hown : scOf (f s d) d = scOf s d ∨ scOf (f s d) d = nextOf s d := by
      rcases hf s d with h | h
      · exact .inl (h.sc d)
      · exact .inr (by rw [h.sc, if_pos rfl])
    have hfirst : clockFrame s (f s d) := (hf s d).elim (fun h => h.toclockFrame) (fun h => h.toclockFrame)
    refine ⟨hfirst.trans hframe, fun e he => ?_, fun e => ?_⟩
    · obtain ⟨hne, hnot⟩ := not_or.mp (fun h => he (List.mem_cons.mpr h))
      exact (hout e hnot).trans (hother e hne)
    · by_cases hed : e = d
      · subst hed
        rw [List.foldl_cons, hout e hd]
        exact hown
      · have hnext : nextOf (f s d) e = nextOf s e := by
          unfold nextOf
          rw [hother e hed]
        rw [List.foldl_cons, ← hother e hed, ← hnext]
        exact hin e

/-- Each domain of a list that takes its next SC has it one more. -/
theorem foldl_advance (l : List Nat) (hl : l.Nodup) (s : State) :
    clockFrame s (l.foldl advance s) ∧ ∀ e, scOf (l.foldl advance s) e = if e ∈ l then nextOf s e else scOf s e := by
  induction l generalizing s with
  | nil => exact ⟨(stays.refl s).toclockFrame, fun _ => rfl⟩
  | cons d ds ih =>
    obtain ⟨hd, hds⟩ := List.nodup_cons.mp hl
    obtain ⟨hframe, hsc⟩ := ih hds (advance s d)
    have hmove := moves_advance s d
    refine ⟨hmove.toclockFrame.trans hframe, fun e => ?_⟩
    rw [List.foldl_cons, hsc]
    by_cases hed : e = d
    · subst hed
      rw [if_neg hd, if_pos List.mem_cons_self, hmove.sc, if_pos rfl]
    · have hsame : scOf (advance s d) e = scOf s e := by rw [hmove.sc, if_neg hed]
      simp only [List.mem_cons, hed, false_or, nextOf, hsame]

/-! The domains in lockstep, in order. -/

theorem lockstep_pairwise (s : State) : (lockstep s).Pairwise (· < ·) := (List.pairwise_lt_range.filter _).filter _

theorem lockstep_nodup (s : State) : (lockstep s).Nodup := (lockstep_pairwise s).imp Nat.ne_of_lt

theorem early_nodup (s : State) : (early s).Nodup := (lockstep_nodup s).filter _

end Sys2Proof.Machine

namespace Sys2Proof.Machine

/-! What decides whether a domain goes on (R62, R263, R268): the units in service, the alignment, the domain and the other domains' SCs. -/

/-- The registers and tables that tell which units are in service and which domains are aligned read the same. -/
structure sameTopology (u v : State) : Prop where
  rd : ∀ a, a < basePPmu → rd u a = rd v a
  tab : ∀ key, key < holdNsKey → tab u key = tab v key

theorem sameTopology.trans {u v w : State} (h : sameTopology u v) (k : sameTopology v w) : sameTopology u w :=
  ⟨fun a ha => (h.rd a ha).trans (k.rd a ha), fun key hk => (h.tab key hk).trans (k.tab key hk)⟩

theorem counting.topology {s t : State} (h : counting s t) : sameTopology t s := by
  refine ⟨fun a ha => h.1.2 a ?_ (fun u _ => ?_), fun key _ => congrArg (sget _ · key) h.tables⟩
  · unfold PMU_EVENTS
    omega
  · unfold MGT_FN_IRQ baseFn fnKey
    have : basePPmu = 0x0622_0070_0000 := rfl
    omega

section
variable {u v : State} (h : sameTopology u v)
include h

theorem unitCause_congr {kind i : Nat} (hk : kind ≤ 10) (hi : i < 2 ^ 40) : unitCause u kind i = unitCause v kind i := by
  refine h.tab _ ?_
  unfold unitKey holdNsKey tk
  omega

theorem siteState_congr {k : Nat} (hk : k < 1000) : siteState u k = siteState v k := by
  have hfuse : fuseSite u k = fuseSite v k := by
    unfold fuseSite
    rw [h.rd]
    unfold FUSE_SITE_STATEn basePBoot basePPmu
    omega
  unfold siteState
  rw [hfuse, unitCause_congr h (by decide) (by omega), unitCause_congr h (by decide) (by omega)]

theorem aligned_congr {f : Nat} (hf : f < 1000) : aligned u f = aligned v f := by
  have haddr : CLK_STATUS f < basePPmu := by
    have hpanel : basePPmu = 0x0622_0070_0000 := rfl
    unfold CLK_STATUS baseClk siteCsr edgeCsr
    cases Nat.blt f 144 <;> dsimp only [cond] <;> omega
  unfold aligned rf
  rw [h.rd _ haddr]

end

/-! Where units lie. -/

theorem siteAt_lt {k dir n m : Nat} (hk : k < 144) (hn : n ≤ 3) (h : siteAt k dir n = some m) : m < 1000 := by
  unfold siteAt at h
  dsimp only at h
  split at h <;> split at h <;> simp at h <;> omega

theorem linkFar_lt {k l f : Nat} (hk : k < 144) (h : linkFar k l = some f) : f < 1000 := by
  unfold linkFar at h
  split at h
  · exact siteAt_lt hk (by omega) h
  · exact siteAt_lt hk (by omega) h

theorem frontSite_lt {e j : Nat} (hj : j < 3) : frontSite e j < 144 := by
  unfold frontSite
  dsimp only
  split <;> omega

theorem mem_edgePorts_lt {k : Nat} {p : Nat × Nat} (h : p ∈ edgePorts k) : p.1 < 16 := by
  unfold edgePorts at h
  obtain ⟨e, he, h⟩ := List.mem_flatMap.mp h
  obtain ⟨j, -, h⟩ := List.mem_flatMap.mp h
  split at h
  · rw [List.mem_singleton.mp h]
    exact List.mem_range.mp he
  · cases h

theorem edgePorts_length : ∀ k < 144, (edgePorts k).length ≤ 2 := by decide +kernel

section
variable {u v : State} (h : sameTopology u v)
include h

theorem edgeInService_congr {e : Nat} (he : e < 16) : edgeInService u e = edgeInService v e := by
  have hfenced : unitCause u 5 e = unitCause v 5 e := unitCause_congr h (by decide) (by omega)
  unfold edgeInService
  rw [hfenced]
  congr 1
  rw [Bool.eq_iff_iff, List.any_eq_true, List.any_eq_true]
  refine exists_congr fun j => and_congr_right fun hj => ?_
  have hk := frontSite_lt (e := e) (List.mem_range.mp hj)
  dsimp only
  rw [siteState_congr h (by omega), Bool.and_eq_true, Bool.and_eq_true, List.any_eq_true, List.any_eq_true]
  refine and_congr_right fun _ => exists_congr fun p => and_congr_right fun hp => ?_
  have hlen := edgePorts_length _ hk
  have hindex := List.snd_lt_of_mem_zipIdx hp
  rw [unitCause_congr h (by decide) (by omega)]

theorem edgePortUsable_congr {k b : Nat} (hk : k < 144) (hb : b < 2) : edgePortUsable u k b = edgePortUsable v k b := by
  unfold edgePortUsable
  cases hp : (edgePorts k)[b]? with
  | none => rfl
  | some p =>
    have he := mem_edgePorts_lt (List.mem_of_getElem? hp)
    simp only [siteState_congr h (show k < 1000 by omega), unitCause_congr h (show 4 ≤ 10 by decide) (show 1152 + 2 * k + b < 2 ^ 40 by omega),
      edgeInService_congr h he]

theorem linkUsable_congr {k l : Nat} (hk : k < 144) (hl : l < 8) : linkUsable u k l = linkUsable v k l := by
  have hsite : ∀ m, m < 1000 → siteState u m = siteState v m := fun m hm => siteState_congr h hm
  unfold linkUsable
  cases hf : linkFar k l with
  | none => rfl
  | some f =>
    have hfar := linkFar_lt hk hf
    have hback : linkBack l < 8 := by
      unfold linkBack
      split <;> omega
    have hcause : ∀ i, i < 2 ^ 40 → unitCause u 4 i = unitCause v 4 i := fun i hi => unitCause_congr h (by decide) hi
    simp only [hsite k (by omega), hsite f hfar, hcause (k * 8 + l) (by omega), hcause (f * 8 + linkBack l) (by omega), List.all_cons, List.all_nil]
    cases h1 : siteAt k (l - 4) 1 with
    | none => rfl
    | some m1 =>
      simp only [hsite m1 (siteAt_lt hk (by decide) h1)]
      cases h2 : siteAt k (l - 4) 2 with
      | none => rfl
      | some m2 => simp only [hsite m2 (siteAt_lt hk (by decide) h2)]

theorem weirOn_congr {d w : Nat} (hw : w ∈ weirsOf d) : weirOn u d w = weirOn v d w := by
  unfold weirsOf at hw
  have hw := List.mem_range.mp hw
  unfold weirOn
  split
  · next hsite =>
    rw [if_pos hsite] at hw
    unfold weirEnabled
    split
    · next hl => exact linkUsable_congr h hsite hl
    · exact edgePortUsable_congr h hsite (by omega)
  · next hsite =>
    rw [if_neg hsite] at hw
    have hside : edgeSide (d - 144) w < 2 := by
      unfold edgeSide
      split <;> decide
    rw [edgePortUsable_congr h (frontSite_lt hw) hside]

theorem isDomain_congr {d : Nat} (hd : d < 160) : isDomain u d = isDomain v d := by
  unfold isDomain
  split
  · rw [siteState_congr h (by omega)]
  · exact edgeInService_congr h (by omega)

theorem lockstep_congr : lockstep u = lockstep v := by
  have hdom : domains u = domains v := List.filter_congr fun d hd => isDomain_congr h (List.mem_range.mp hd)
  unfold lockstep
  rw [hdom]
  refine List.filter_congr fun d hd => aligned_congr h ?_
  have := List.mem_range.mp (List.mem_filter.mp hd).1
  omega

end

theorem weirSender_lt {d w f : Nat} (h : weirSender d w = some f) : f < 1000 := by
  unfold weirSender at h
  split at h
  · next hsite =>
    split at h
    · exact linkFar_lt hsite h
    · obtain ⟨p, hp, rfl⟩ := Option.map_eq_some_iff.mp h
      have := mem_edgePorts_lt (List.mem_of_getElem? hp)
      omega
  · split at h
    · next hw =>
      have := frontSite_lt (e := d - 144) hw
      obtain rfl := Option.some.inj h
      omega
    · cases h

end Sys2Proof.Machine

namespace Sys2Proof.Machine

/-- What decides whether domain `d` goes on reads the same. -/
structure sameView (d : Nat) (u v : State) : Prop where
  topology : sameTopology u v
  dom : dom u d = dom v d
  sc : ∀ f, scOf u f = scOf v f
  release : u.pnl.release = v.pnl.release

theorem sameView.trans {d : Nat} {u v w : State} (h : sameView d u v) (k : sameView d v w) : sameView d u w :=
  ⟨h.topology.trans k.topology, h.dom.trans k.dom, fun f => (h.sc f).trans (k.sc f), h.release.trans k.release⟩

theorem counting.view {s t : State} (h : counting s t) (d : Nat) : sameView d t s := ⟨h.topology, h.dom d, h.stays.sc, h.release⟩

theorem missingEntry_congr {d : Nat} {u v : State} (h : sameView d u v) {sc w : Nat} (hw : w ∈ weirsOf d) : missingEntry u d sc w = missingEntry v d sc w := by
  unfold missingEntry
  rw [weirOn_congr h.topology hw, h.dom]
  cases hf : weirSender d w with
  | none => rfl
  | some f => simp only [aligned_congr h.topology (weirSender_lt hf), h.sc f]

theorem awaited_congr {d : Nat} {u v : State} (h : sameView d u v) (sc : Nat) : awaited u d sc = awaited v d sc := by
  unfold awaited
  rw [Bool.eq_iff_iff, List.any_eq_true, List.any_eq_true]
  refine exists_congr fun w => and_congr_right fun hw => ?_
  rw [missingEntry_congr h hw]

theorem runs_congr {d : Nat} {u v : State} (hd : dom u d = dom v d) (hr : u.pnl.release = v.pnl.release) : runs u d = runs v d := by
  unfold runs held scOf
  rw [hd, hr]

theorem advances_congr {d : Nat} {u v : State} (h : sameView d u v) : advances u d = advances v d := by
  unfold advances lapsed
  rw [runs_congr h.dom h.release, h.dom, h.sc, awaited_congr h]

/-! A nominal cycle passes at the domains in lockstep. -/

theorem dom_spend_other (s : State) {d e : Nat} (h : d ≠ e) : dom (spend s d) e = dom s e := by
  unfold spend
  split
  · rw [dom_modDom, if_neg h]
  · rfl

theorem dom_spend_congr {u v : State} {d : Nat} (hd : dom u d = dom v d) (hr : u.pnl.release = v.pnl.release) : dom (spend u d) d = dom (spend v d) d := by
  unfold spend
  rw [runs_congr hd hr]
  split
  · rw [dom_modDom, dom_modDom, if_pos rfl, if_pos rfl, hd]
  · exact hd

theorem stays_spend (s : State) (d : Nat) : stays s (spend s d) := .ite (stays_modDom s d _ rfl (fun h => h)) (.refl s)

theorem release_spend (s : State) (d : Nat) : (spend s d).pnl.release = s.pnl.release := by
  unfold spend
  split <;> rfl

theorem topology_spend (s : State) (d : Nat) : sameTopology (spend s d) s := by
  unfold spend
  split
  · exact ⟨fun _ _ => rfl, fun _ _ => rfl⟩
  · exact ⟨fun _ _ => rfl, fun _ _ => rfl⟩

theorem sameView_spend_other (s : State) {d e : Nat} (h : e ≠ d) : sameView d (spend s e) s :=
  ⟨topology_spend s e, dom_spend_other s h, (stays_spend s e).sc, release_spend s e⟩

theorem sameView.spend {d : Nat} {u v : State} (h : sameView d u v) : sameView d (spend u d) (spend v d) := by
  refine ⟨(topology_spend u d).trans (h.topology.trans ⟨fun a ha => ((topology_spend v d).rd a ha).symm, fun k hk => ((topology_spend v d).tab k hk).symm⟩),
    dom_spend_congr h.dom h.release, fun f => ?_, ?_⟩
  · rw [(stays_spend u d).sc, (stays_spend v d).sc, h.sc]
  · rw [release_spend, release_spend, h.release]

theorem sameView_foldl_spend_other (l : List Nat) {d : Nat} (h : d ∉ l) (s : State) : sameView d (l.foldl spend s) s := by
  induction l generalizing s with
  | nil => exact ⟨⟨fun _ _ => rfl, fun _ _ => rfl⟩, rfl, fun _ => rfl, rfl⟩
  | cons e es ih =>
    obtain ⟨hne, hnot⟩ := not_or.mp (fun hm => h (List.mem_cons.mpr hm))
    exact (ih hnot _).trans (sameView_spend_other s (Ne.symm hne))

/-- Of a list of domains each spends its own cycle: `d` as if it were alone. -/
theorem sameView_foldl_spend {l : List Nat} (hl : l.Nodup) {d : Nat} (hd : d ∈ l) {u v : State} (h : sameView d u v) :
    sameView d (l.foldl spend u) (spend v d) := by
  obtain ⟨l1, l2, rfl⟩ := List.append_of_mem hd
  obtain ⟨-, hcons, hdisjoint⟩ := List.nodup_append.mp hl
  have h1 : d ∉ l1 := fun hm => hdisjoint d hm d List.mem_cons_self rfl
  have h2 : d ∉ l2 := (List.nodup_cons.mp hcons).1
  rw [List.foldl_append, List.foldl_cons]
  exact (sameView_foldl_spend_other l2 h2 _).trans ((sameView_foldl_spend_other l1 h1 u).trans h).spend

/-! A domain after those before it. -/

/-- Held domains only count. -/
theorem counting_foldl_held (l : List Nat) (s : State) (h : ∀ e ∈ l, held s e = true) : counting s (l.foldl tickDomain s) := by
  induction l generalizing s with
  | nil => exact .refl s
  | cons d ds ih =>
    have hfirst := tickDomain_of_held (h d List.mem_cons_self)
    exact hfirst.trans (ih _ (fun e he => hfirst.stays.held e (h e (List.mem_cons_of_mem _ he))))

/-- In a list of domains, one goes on as the state after those before it has it. -/
theorem scOf_foldl_tickDomain {l1 l2 : List Nat} {d : Nat} (hl : (l1 ++ d :: l2).Nodup) (s : State) :
    scOf ((l1 ++ d :: l2).foldl tickDomain s) d = if advances (l1.foldl tickDomain s) d then nextOf s d else scOf s d := by
  obtain ⟨hl1, hcons, hdisjoint⟩ := List.nodup_append.mp hl
  obtain ⟨h2, hl2⟩ := List.nodup_cons.mp hcons
  have h1 : d ∉ l1 := fun hm => hdisjoint d hm d List.mem_cons_self rfl
  obtain ⟨-, hbefore, -⟩ := foldl_clock tickDomain stays_or_moves_tickDomain l1 hl1 s
  obtain ⟨-, hafter, -⟩ := foldl_clock tickDomain stays_or_moves_tickDomain l2 hl2 (tickDomain (l1.foldl tickDomain s) d)
  rw [List.foldl_append, List.foldl_cons, hafter d h2, scOf_tickDomain]
  unfold nextOf
  rw [hbefore d h1]

theorem advances_of_held {s : State} {d : Nat} (h : held s d = true) : advances s d = false := by
  unfold advances runs
  rw [h]
  rfl

theorem not_mem_early_of_held {s : State} {d : Nat} (h : held s d = true) : d ∉ early s := by
  intro hd
  have := (List.mem_filter.mp hd).2
  rw [advances_of_held h] at this
  cases this

theorem scOf_foldl_tickDomain_held {l : List Nat} (hl : l.Nodup) {s : State} {d : Nat} (h : held s d = true) : scOf (l.foldl tickDomain s) d = scOf s d := by
  by_cases hd : d ∈ l
  · obtain ⟨l1, l2, rfl⟩ := List.append_of_mem hd
    have hframe := (foldl_clock tickDomain stays_or_moves_tickDomain l1 (List.nodup_append.mp hl).1 s).1
    rw [scOf_foldl_tickDomain hl, advances_of_held (hframe.held d h), if_neg Bool.false_ne_true]
  · exact (foldl_clock tickDomain stays_or_moves_tickDomain l hl s).2.1 d hd

/-! The cycle. -/

/-- The state in which a cycle in which no domain ends a second one begins: the panel's clock has counted it. -/
def wallOn (s : State) : State := modPnl (s.setRisen []) (fun p => { p with wall := p.wall + 1 })

/-- And holds have counted it, and the maintenance and BW ports are free again. -/
def cycleStart (s : State) : State := (countHoldNs (wallOn s)).setSites (smap (fun _ => SiteX.init) freshCycle (countHoldNs (wallOn s)).sites)

theorem topology_setTab (s : State) (v : Nat) : sameTopology (setTab s holdNsKey v) s :=
  ⟨fun _ _ => rfl, fun _ hk => sget_sput_other _ (Nat.ne_of_gt hk) v s.tables⟩

theorem view_countHoldNs (s : State) (d : Nat) : sameView d (countHoldNs s) s := by
  have hset : ∀ v, sameView d (setTab s holdNsKey v) s := fun v => ⟨topology_setTab s v, rfl, fun _ => rfl, rfl⟩
  unfold countHoldNs
  split
  · exact ⟨⟨fun _ _ => rfl, fun _ _ => rfl⟩, rfl, fun _ => rfl, rfl⟩
  · dsimp only
    split
    · exact hset _
    · exact ((counting_bump _ _ _).view d).trans (hset _)

theorem stays_countHoldNs (s : State) : stays s (countHoldNs s) := by
  unfold countHoldNs
  dsimp only
  exact .ite (.refl s) (.ite (stays_setTab s _ _) ((stays_setTab s _ _).trans (stays_bump _ _ _)))

theorem view_cycleStart (s : State) (d : Nat) : sameView d (cycleStart s) s := by
  have hcount := view_countHoldNs (wallOn s) d
  exact ⟨⟨fun a ha => hcount.topology.rd a ha, fun k hk => hcount.topology.tab k hk⟩, hcount.dom, hcount.sc, hcount.release⟩

theorem stays_cycleStart (s : State) : stays (wallOn s) (cycleStart s) := (stays_countHoldNs (wallOn s)).trans (stays_setSites _ _)

theorem tick_of_early {s : State} (h : early s ≠ []) : tick s = releaseEdge ((early s).foldl advance (s.setRisen [])) := by
  have hne : (!(early (s.setRisen [])).isEmpty) = true := by
    show (!(early s).isEmpty) = true
    cases he : early s with
    | nil => exact absurd he h
    | cons d ds => rfl
  unfold tick
  exact if_pos hne

theorem tick_of_no_early {s : State} (h : early s = []) :
    tick s = releaseEdge ((lockstep (cycleStart s)).foldl tickDomain ((lockstep (cycleStart s)).foldl spend (cycleStart s))) := by
  have hne : ¬ (!(early (s.setRisen [])).isEmpty) = true := by
    show ¬ (!(early s).isEmpty) = true
    rw [h]
    decide
  unfold tick
  exact if_neg hne

/-- A cycle in which domains that catch up end a second SC. -/
theorem tick_early {s : State} (h : early s ≠ []) :
    clockFrame (s.setRisen []) (tick s) ∧ ∀ d, scOf (tick s) d = if d ∈ early s then nextOf s d else scOf s d := by
  obtain ⟨hframe, hsc⟩ := foldl_advance (early s) (early_nodup s) (s.setRisen [])
  rw [tick_of_early h]
  have hrelease := stays_releaseEdge ((early s).foldl advance (s.setRisen []))
  exact ⟨hframe.trans hrelease.toclockFrame, fun d => (hrelease.sc d).trans (hsc d)⟩

/-- A nominal cycle. -/
theorem tick_nominal {s : State} (h : early s = []) :
    clockFrame (wallOn s) (tick s) ∧ (∀ d, d ∉ lockstep s ∨ held s d = true → scOf (tick s) d = scOf s d)
      ∧ (∀ d, scOf (tick s) d = scOf s d ∨ scOf (tick s) d = nextOf s d)
      ∧ ∀ d ∈ lockstep s, (∀ e ∈ lockstep s, e < d → held s e = true) → scOf (tick s) d = if advances (spend s d) d then nextOf s d else scOf s d := by
  have hlock : lockstep (cycleStart s) = lockstep s := lockstep_congr (view_cycleStart s 0).topology
  have hnodup := lockstep_nodup s
  rw [tick_of_no_early h, hlock]
  have hspend := (stays_cycleStart s).trans (stays.foldl spend (lockstep s) stays_spend (cycleStart s))
  have hview : ∀ d ∈ lockstep s, sameView d ((lockstep s).foldl spend (cycleStart s)) (spend s d) := fun d hd => sameView_foldl_spend hnodup hd (view_cycleStart s d)
  generalize (lockstep s).foldl spend (cycleStart s) = c at *
  have hsc : ∀ d, scOf c d = scOf s d := hspend.sc
  have hnext : ∀ d, nextOf c d = nextOf s d := fun d => congrArg (fun n => (n + 1) % 2 ^ 64) (hsc d)
  obtain ⟨hframe, hout, hin⟩ := foldl_clock tickDomain stays_or_moves_tickDomain (lockstep s) hnodup c
  have hrelease := stays_releaseEdge ((lockstep s).foldl tickDomain c)
  refine ⟨hspend.toclockFrame.trans (hframe.trans hrelease.toclockFrame), fun d hd => ?_, fun d => ?_, fun d hd hbefore => ?_⟩
  · rw [hrelease.sc, ← hsc]
    rcases hd with hd | hd
    · exact hout d hd
    · exact scOf_foldl_tickDomain_held hnodup (hspend.held d hd)
  · rw [hrelease.sc, ← hsc, ← hnext]
    exact hin d
  · obtain ⟨l1, l2, hl⟩ := List.append_of_mem hd
    have horder := lockstep_pairwise s
    have hd' := hview d hd
    rw [hl] at hnodup horder hbefore
    have hheld : ∀ e ∈ l1, held c e = true := fun e he =>
      hspend.held e (hbefore e (List.mem_append_left _ he) ((List.pairwise_append.mp horder).2.2 e he d List.mem_cons_self))
    have hadvances : advances (l1.foldl tickDomain c) d = advances (spend s d) d := advances_congr (((counting_foldl_held l1 c hheld).view d).trans hd')
    rw [hrelease.sc, hl, scOf_foldl_tickDomain hnodup, hadvances, hnext, hsc]

/-- Settles O8: with no command waiting a step is a cycle of the clock, of either kind. -/
theorem clockCycleEffects : Obligations.ClockCycleEffects := by
  unfold Obligations.ClockCycleEffects
  intro next s hpending
  have hstep : step s = .next (tick s) := by
    unfold step
    rw [hpending]
  refine ⟨tick s, hstep, ?_⟩
  by_cases h : early s = []
  · obtain ⟨hframe, hsame, hany, hfirst⟩ := tick_nominal h
    exact ⟨hframe.pending.trans hpending, hframe.mem, hframe.cmem, hframe.vregs, hframe.ports, hframe.held, hsame, fun hne => absurd h hne,
      fun _ => ⟨hframe.wall, hany, hfirst⟩⟩
  · obtain ⟨hframe, hsc⟩ := tick_early h
    refine ⟨hframe.pending.trans hpending, hframe.mem, hframe.cmem, hframe.vregs, hframe.ports, hframe.held, fun d hd => ?_,
      fun _ => ⟨hframe.wall, hsc⟩, fun he => absurd he h⟩
    have hnot : d ∉ early s := by
      rcases hd with hd | hd
      · exact fun hm => hd (List.mem_filter.mp hm).1
      · exact not_mem_early_of_held hd
    rw [hsc, if_neg hnot]

end Sys2Proof.Machine
